-- ==== Sys2Proof/Word.lean ====
section
/-! DEFINITION. The word types of the model and their plainest arithmetic. -/

namespace Sys2Proof

/-- A register word (R639: registers are 32 bits wide). -/
abbrev Word := BitVec 32

/-- One byte of memory or of a message. -/
abbrev Byte := BitVec 8

/-- A 64 B line; byte `i` of the line is bits `[8i+7:8i]`, so the byte at the lowest address is the least significant. -/
abbrev Line := BitVec 512

end Sys2Proof
end

