-- ==== Sys2Proof/Machine/KMap.lean ====
section
/-! DEFINITION. Sparse tables as plain data: a list of (key, value) pairs with keys strictly rising. -/

namespace Sys2Proof.Machine

/-- A sparse table: pairs sorted by key, no key twice. -/
abbrev KMap (α : Type) := List (Nat × α)

variable {α : Type}

/-- The value listed under a key, if any. -/
def KMap.find : KMap α → Nat → Option α
  | [], _ => none
  | (k, v) :: m, i => if k = i then some v else KMap.find m i

/-- The value under a key, or a default where none is listed. -/
def KMap.get (m : KMap α) (dflt : α) (i : Nat) : α := (KMap.find m i).getD dflt

/-- Write a value under a key, in order. -/
def KMap.put : KMap α → Nat → α → KMap α
  | [], i, v => [(i, v)]
  | (k, w) :: m, i, v =>
    if i = k then (i, v) :: m
    else if i < k then (i, v) :: (k, w) :: m
    else (k, w) :: KMap.put m i v

/-- Remove a key. -/
def KMap.drop (m : KMap α) (i : Nat) : KMap α := m.filter (fun p => p.1 ≠ i)

/-- The keys are strictly rising. -/
def KMap.sorted : KMap α → Bool
  | [] => true
  | [_] => true
  | (a, _) :: (b, w) :: m => decide (a < b) && KMap.sorted ((b, w) :: m)

/-- The values of the table, in key order. -/
def KMap.vals (m : KMap α) : List α := m.map Prod.snd

/-- Keep the entries whose key and value pass a test. -/
def KMap.keep (m : KMap α) (p : Nat → α → Bool) : KMap α := m.filter (fun e => p e.1 e.2)

end Sys2Proof.Machine
end

