-- ==== Sys2Proof/Machine/RegTable.lean ====
section
/-! DEFINITION. The register table: every field that the field tables of spec/ define, with its page, offset,
bits, access code, value at reset and the range of encodings that are not reserved (R10, R11, R13, R655).
A field whose value at reset the spec gives as a live value holds 0 until something writes it; the spec's
"kept" fields keep their value across a device reset and a cold start. -/

namespace Sys2Proof.Machine

/-- The page types of R655. -/
inductive Page where
  | dev
  | fc
  | evtsum
  | region
  | tier
  | baker
  | coh
  | batch
  | mcast
  | fail
  | assay
  | qos
  | integ
  | twin
  | ledger
  | mgmt
  | mint
  | fwsec
  | secalm
  | pwr
  | age
  | cal
  | hsw
  | rst
  | dma
  | host
  | peer
  | ddrch
  | bwin
  | site
  deriving DecidableEq, Repr

/-- The page types in the order of their codes. -/
def Page.all : List Page :=
  [.dev, .fc, .evtsum, .region, .tier, .baker, .coh, .batch, .mcast, .fail, .assay, .qos, .integ, .twin, .ledger, .mgmt, .mint, .fwsec, .secalm, .pwr, .age, .cal, .hsw, .rst, .dma, .host, .peer, .ddrch, .bwin, .site]

/-- The place of a page type in Page.all. -/
def Page.code : Page → Nat
  | .dev => 0
  | .fc => 1
  | .evtsum => 2
  | .region => 3
  | .tier => 4
  | .baker => 5
  | .coh => 6
  | .batch => 7
  | .mcast => 8
  | .fail => 9
  | .assay => 10
  | .qos => 11
  | .integ => 12
  | .twin => 13
  | .ledger => 14
  | .mgmt => 15
  | .mint => 16
  | .fwsec => 17
  | .secalm => 18
  | .pwr => 19
  | .age => 20
  | .cal => 21
  | .hsw => 22
  | .rst => 23
  | .dma => 24
  | .host => 25
  | .peer => 26
  | .ddrch => 27
  | .bwin => 28
  | .site => 29

/-- The access codes of R10. -/
inductive Access where
  | ro | rw | rwl | w1s | wseq | rl
  deriving DecidableEq, Repr

/-- One field of a register (R10, R11, R13): the page type, the offset of its register, its lowest bit and width,
its access code, its value at reset, whether it is kept across a reset, and the encodings that are not reserved. -/
structure Field where
  page : Page
  off : Nat
  lo : Nat
  width : Nat
  acc : Access
  reset : Nat
  kept : Bool
  minV : Nat
  maxV : Nat
  deriving DecidableEq, Repr


/-! ### Page DEV -/

/-- 18_registers R657. -/
def DEV.DEV_ID.VENDOR : Field := ⟨.dev, 0x100, 0, 16, .ro, 7950, false, 0, 65535⟩
/-- 18_registers R657. -/
def DEV.DEV_ID.DEVICE : Field := ⟨.dev, 0x100, 16, 16, .ro, 37910, false, 0, 65535⟩
/-- 18_registers R657. -/
def DEV.DEV_REV.STEPPING : Field := ⟨.dev, 0x104, 0, 8, .ro, 0, false, 0, 255⟩
/-- 18_registers R657. -/
def DEV.DEV_REV.GRADE_H : Field := ⟨.dev, 0x104, 8, 1, .ro, 0, false, 0, 1⟩
/-- 18_registers R657. -/
def DEV.UID0.UID : Field := ⟨.dev, 0x108, 0, 32, .ro, 0, false, 0, 4294967295⟩
/-- 18_registers R657. -/
def DEV.UID1.UID : Field := ⟨.dev, 0x10c, 0, 32, .ro, 0, false, 0, 4294967295⟩
/-- 18_registers R657. -/
def DEV.UID2.UID : Field := ⟨.dev, 0x110, 0, 32, .ro, 0, false, 0, 4294967295⟩
/-- 18_registers R657. -/
def DEV.UID3.UID : Field := ⟨.dev, 0x114, 0, 32, .ro, 0, false, 0, 4294967295⟩
/-- 18_registers R657. -/
def DEV.TIME_LO.TIME : Field := ⟨.dev, 0x120, 0, 32, .rl, 0, false, 0, 4294967295⟩
/-- 18_registers R657. -/
def DEV.TIME_HI.TIME : Field := ⟨.dev, 0x124, 0, 32, .ro, 0, false, 0, 4294967295⟩
/-- 18_registers R657. -/
def DEV.UPTIME_LO.US : Field := ⟨.dev, 0x128, 0, 32, .rl, 0, false, 0, 4294967295⟩
/-- 18_registers R657. -/
def DEV.UPTIME_HI.US : Field := ⟨.dev, 0x12c, 0, 32, .ro, 0, false, 0, 4294967295⟩
/-- 18_registers R657. -/
def DEV.SVC_STAT.STATE : Field := ⟨.dev, 0x130, 0, 3, .ro, 0, false, 0, 7⟩
/-- 18_registers R657. -/
def DEV.SVC_STAT.QID : Field := ⟨.dev, 0x130, 3, 2, .ro, 0, false, 0, 3⟩
/-- 18_registers R657. -/
def DEV.SVC_STAT.SIDE : Field := ⟨.dev, 0x130, 5, 1, .ro, 0, false, 0, 1⟩
/-- 18_registers R657. -/
def DEV.SVC_STAT.MEMBERS : Field := ⟨.dev, 0x130, 6, 2, .ro, 0, false, 0, 3⟩
/-- 18_registers R657. -/
def DEV.SVC_STAT.FT_PEND : Field := ⟨.dev, 0x130, 8, 1, .ro, 0, true, 0, 1⟩
/-- 18_registers R657. -/
def DEV.LOCK_ALL.ALL : Field := ⟨.dev, 0x134, 0, 1, .w1s, 0, false, 0, 1⟩
/-- 18_registers R657. -/
def DEV.LOCK_ALL.DONE : Field := ⟨.dev, 0x134, 31, 1, .ro, 0, false, 0, 1⟩

/-! ### Page FC -/

/-- 14_faults_and_ledger R541. -/
def FC.FC_SUM0.SRC_0_31 : Field := ⟨.fc, 0x100, 0, 32, .rl, 0, false, 0, 4294967295⟩
/-- 14_faults_and_ledger R541. -/
def FC.FC_SUM1.SRC_32_63 : Field := ⟨.fc, 0x104, 0, 32, .ro, 0, false, 0, 4294967295⟩
/-- 14_faults_and_ledger R541. -/
def FC.FC_SUM2.SRC_64_95 : Field := ⟨.fc, 0x108, 0, 32, .ro, 0, false, 0, 4294967295⟩
/-- 14_faults_and_ledger R541. -/
def FC.FC_SUM3.SRC_96_111 : Field := ⟨.fc, 0x10c, 0, 16, .ro, 0, false, 0, 65535⟩
/-- 14_faults_and_ledger R541. -/
def FC.FC_CTL.ESC_MS : Field := ⟨.fc, 0x110, 0, 14, .rwl, 10, false, 0, 10000⟩
/-- 14_faults_and_ledger R541. -/
def FC.FC_CTL.IRQ_CE : Field := ⟨.fc, 0x110, 16, 1, .rwl, 0, false, 0, 1⟩
/-- 14_faults_and_ledger R541. -/
def FC.FC_CTL.IRQ_UC : Field := ⟨.fc, 0x110, 17, 1, .rwl, 1, false, 0, 1⟩
/-- 14_faults_and_ledger R541. -/
def FC.ERRL_CFG.CE : Field := ⟨.fc, 0x114, 0, 1, .rwl, 0, true, 0, 1⟩
/-- 14_faults_and_ledger R541. -/
def FC.ERRL_CFG.UC : Field := ⟨.fc, 0x114, 1, 1, .rwl, 1, true, 0, 1⟩
/-- 14_faults_and_ledger R541. -/
def FC.ERRL_CFG.FT : Field := ⟨.fc, 0x114, 2, 1, .rwl, 1, true, 0, 1⟩
/-- 14_faults_and_ledger R541. -/
def FC.ERRL_CFG.FORCED : Field := ⟨.fc, 0x114, 3, 1, .ro, 0, false, 0, 1⟩
/-- 14_faults_and_ledger R541. -/
def FC.FT_STAT.PEND : Field := ⟨.fc, 0x118, 0, 1, .ro, 0, true, 0, 1⟩
/-- 14_faults_and_ledger R541. -/
def FC.FT_STAT.ACK : Field := ⟨.fc, 0x118, 1, 1, .w1s, 0, false, 0, 1⟩
/-- 14_faults_and_ledger R541. -/
def FC.FT_STAT.ESCALATED : Field := ⟨.fc, 0x118, 2, 1, .ro, 0, true, 0, 1⟩
/-- 14_faults_and_ledger R541. -/
def FC.FT_STAT.SOURCE : Field := ⟨.fc, 0x118, 8, 7, .ro, 0, true, 0, 127⟩
/-- 14_faults_and_ledger R541. -/
def FC.SRC_SEL.SOURCE : Field := ⟨.fc, 0x120, 0, 7, .rw, 0, false, 0, 127⟩
/-- 14_faults_and_ledger R541. -/
def FC.SRC_STAT.CLASS : Field := ⟨.fc, 0x124, 0, 2, .ro, 0, false, 0, 3⟩
/-- 14_faults_and_ledger R541. -/
def FC.SRC_STAT.TIMER_RUN : Field := ⟨.fc, 0x124, 2, 1, .ro, 0, false, 0, 1⟩
/-- 14_faults_and_ledger R541. -/
def FC.SRC_STAT.REMAIN_US : Field := ⟨.fc, 0x124, 8, 24, .ro, 0, false, 0, 16777215⟩
/-- 14_faults_and_ledger R541. -/
def FC.CE_COUNT.COUNT : Field := ⟨.fc, 0x130, 0, 32, .ro, 0, false, 0, 4294967295⟩
/-- 14_faults_and_ledger R541. -/
def FC.UC_COUNT.COUNT : Field := ⟨.fc, 0x134, 0, 32, .ro, 0, false, 0, 4294967295⟩
/-- 14_faults_and_ledger R541. -/
def FC.FT_COUNT.COUNT : Field := ⟨.fc, 0x138, 0, 32, .ro, 0, true, 0, 4294967295⟩
/-- 14_faults_and_ledger R541. -/
def FC.ESCALATIONS.COUNT : Field := ⟨.fc, 0x13c, 0, 32, .ro, 0, true, 0, 4294967295⟩
/-- 14_faults_and_ledger R541. -/
def FC.FC_TEST.CLASS : Field := ⟨.fc, 0x140, 0, 2, .rwl, 1, false, 1, 3⟩
/-- 14_faults_and_ledger R541. -/
def FC.FC_TEST.RAISE : Field := ⟨.fc, 0x140, 2, 1, .w1s, 0, false, 0, 1⟩

/-! ### Page EVTSUM -/

/-- 18_registers R658. -/
def EVTSUM.EVT_SUM0.SRC_0_31 : Field := ⟨.evtsum, 0x100, 0, 32, .rl, 0, false, 0, 4294967295⟩
/-- 18_registers R658. -/
def EVTSUM.EVT_SUM1.SRC_32_63 : Field := ⟨.evtsum, 0x104, 0, 32, .ro, 0, false, 0, 4294967295⟩
/-- 18_registers R658. -/
def EVTSUM.EVT_SUM2.SRC_64_95 : Field := ⟨.evtsum, 0x108, 0, 32, .ro, 0, false, 0, 4294967295⟩
/-- 18_registers R658. -/
def EVTSUM.EVT_SUM3.SRC_96_111 : Field := ⟨.evtsum, 0x10c, 0, 16, .ro, 0, false, 0, 65535⟩
/-- 18_registers R658. -/
def EVTSUM.ACC_SUM0.SRC_0_31 : Field := ⟨.evtsum, 0x110, 0, 32, .rl, 0, false, 0, 4294967295⟩
/-- 18_registers R658. -/
def EVTSUM.ACC_SUM1.SRC_32_63 : Field := ⟨.evtsum, 0x114, 0, 32, .ro, 0, false, 0, 4294967295⟩
/-- 18_registers R658. -/
def EVTSUM.ACC_SUM2.SRC_64_95 : Field := ⟨.evtsum, 0x118, 0, 32, .ro, 0, false, 0, 4294967295⟩
/-- 18_registers R658. -/
def EVTSUM.ACC_SUM3.SRC_96_111 : Field := ⟨.evtsum, 0x11c, 0, 16, .ro, 0, false, 0, 65535⟩

/-! ### Page REGION -/

/-- 02_address_regions R40. -/
def REGION.SPACE_CFG.LOGICAL_TIB : Field := ⟨.region, 0x100, 0, 5, .ro, 0, false, 0, 31⟩
/-- 02_address_regions R40. -/
def REGION.SPACE_CFG.MEMBERS : Field := ⟨.region, 0x100, 8, 2, .ro, 0, false, 0, 3⟩
/-- 02_address_regions R40. -/
def REGION.SPACE_CFG.QID : Field := ⟨.region, 0x100, 12, 2, .ro, 0, false, 0, 3⟩
/-- 02_address_regions R40. -/
def REGION.SPACE_CFG.PAIR_SIDE : Field := ⟨.region, 0x100, 14, 1, .ro, 0, false, 0, 1⟩
/-- 02_address_regions R40. -/
def REGION.SPACE_PEND.LOGICAL_TIB_NEXT : Field := ⟨.region, 0x104, 0, 5, .rwl, 16, true, 1, 16⟩
/-- 02_address_regions R40. -/
def REGION.SPACE_PEND.MEMBERS_NEXT : Field := ⟨.region, 0x104, 8, 2, .rwl, 0, true, 0, 2⟩
/-- 02_address_regions R51. -/
def REGION.RGN_BASE.BASE_GIB : Field := ⟨.region, 0x110, 0, 16, .rwl, 0, false, 0, 65535⟩
/-- 02_address_regions R51. -/
def REGION.RGN_SIZE.SIZE_GIB : Field := ⟨.region, 0x114, 0, 17, .rwl, 0, false, 0, 131071⟩
/-- 02_address_regions R48. -/
def REGION.RGN_ATTR.LEAD : Field := ⟨.region, 0x118, 0, 1, .rwl, 0, false, 0, 1⟩
/-- 02_address_regions R48. -/
def REGION.RGN_ATTR.CAP : Field := ⟨.region, 0x118, 1, 1, .rwl, 0, false, 0, 1⟩
/-- 02_address_regions R48. -/
def REGION.RGN_ATTR.TIER : Field := ⟨.region, 0x118, 2, 2, .rwl, 0, false, 0, 2⟩
/-- 02_address_regions R48. -/
def REGION.RGN_ATTR.POP : Field := ⟨.region, 0x118, 4, 1, .rwl, 0, false, 0, 1⟩
/-- 02_address_regions R48. -/
def REGION.RGN_ATTR.HOST_ACC : Field := ⟨.region, 0x118, 8, 2, .rwl, 0, false, 0, 2⟩
/-- 02_address_regions R48. -/
def REGION.RGN_ATTR.SITE_ACC : Field := ⟨.region, 0x118, 10, 2, .rwl, 0, false, 0, 2⟩
/-- 02_address_regions R51. -/
def REGION.RGN_HOSTMASK.HOST_MASK : Field := ⟨.region, 0x11c, 0, 32, .rwl, 0, false, 0, 4294967295⟩
/-- 02_address_regions R51. -/
def REGION.RGN_SGMASK_LO.SG_MASK_LO : Field := ⟨.region, 0x120, 0, 32, .rwl, 0, false, 0, 4294967295⟩
/-- 02_address_regions R51. -/
def REGION.RGN_SGMASK_HI.SG_MASK_HI : Field := ⟨.region, 0x124, 0, 32, .rwl, 0, false, 0, 4294967295⟩
/-- 02_address_regions R51. -/
def REGION.RGN_CMD.OP : Field := ⟨.region, 0x130, 0, 3, .rwl, 0, false, 0, 7⟩
/-- 02_address_regions R51. -/
def REGION.RGN_CMD.RID : Field := ⟨.region, 0x130, 16, 12, .rwl, 0, false, 0, 4095⟩
/-- 02_address_regions R51. -/
def REGION.RGN_STATUS.RESULT : Field := ⟨.region, 0x134, 0, 4, .ro, 0, false, 0, 15⟩
/-- 02_address_regions R51. -/
def REGION.RGN_STATUS.RID : Field := ⟨.region, 0x134, 16, 12, .ro, 0, false, 0, 4095⟩
/-- 02_address_regions R51. -/
def REGION.RGN_STATUS.BUSY : Field := ⟨.region, 0x134, 31, 1, .ro, 0, false, 0, 1⟩
/-- 02_address_regions R51. -/
def REGION.RGN_COUNT.COUNT : Field := ⟨.region, 0x140, 0, 13, .ro, 0, false, 0, 8191⟩

/-! ### Page TIER -/

/-- 03_tiers_loaves R115. -/
def TIER.T0_ALLOC.CLASS_ALLOC : Field := ⟨.tier, 0x100, 0, 16, .rwl, 65535, false, 0, 65535⟩
/-- 03_tiers_loaves R115. -/
def TIER.POOL_LO.POOL_LO : Field := ⟨.tier, 0x110, 0, 32, .ro, 0, false, 0, 4294967295⟩
/-- 03_tiers_loaves R115. -/
def TIER.POOL_HI.POOL_HI : Field := ⟨.tier, 0x114, 0, 32, .ro, 0, false, 0, 4294967295⟩
/-- 03_tiers_loaves R115. -/
def TIER.GRES_LO.GRES_LO : Field := ⟨.tier, 0x118, 0, 32, .ro, 0, false, 0, 4294967295⟩
/-- 03_tiers_loaves R115. -/
def TIER.GRES_HI.GRES_HI : Field := ⟨.tier, 0x11c, 0, 32, .ro, 0, false, 0, 4294967295⟩
/-- 03_tiers_loaves R115. -/
def TIER.ECHG_LO.ECHG_LO : Field := ⟨.tier, 0x120, 0, 32, .ro, 0, false, 0, 4294967295⟩
/-- 03_tiers_loaves R115. -/
def TIER.ECHG_HI.ECHG_HI : Field := ⟨.tier, 0x124, 0, 32, .ro, 0, false, 0, 4294967295⟩
/-- 03_tiers_loaves R115. -/
def TIER.ECAP_LO.ECAP_LO : Field := ⟨.tier, 0x128, 0, 32, .ro, 0, false, 0, 4294967295⟩
/-- 03_tiers_loaves R115. -/
def TIER.ECAP_HI.ECAP_HI : Field := ⟨.tier, 0x12c, 0, 32, .ro, 0, false, 0, 4294967295⟩
/-- 03_tiers_loaves R115. -/
def TIER.CAP_STAT.EL_LOW : Field := ⟨.tier, 0x130, 0, 1, .ro, 0, false, 0, 1⟩
/-- 03_tiers_loaves R115. -/
def TIER.CAP_STAT.EL_EXHAUSTED : Field := ⟨.tier, 0x130, 1, 1, .ro, 0, false, 0, 1⟩
/-- 03_tiers_loaves R115. -/
def TIER.CAP_STAT.EL_DEFICIT : Field := ⟨.tier, 0x130, 2, 1, .ro, 0, false, 0, 1⟩
/-- 03_tiers_loaves R115. -/
def TIER.CAP_STAT.BIN_FULL : Field := ⟨.tier, 0x130, 3, 1, .ro, 0, false, 0, 1⟩
/-- 03_tiers_loaves R115. -/
def TIER.CAP_STAT.ENGINES_IN_SERVICE : Field := ⟨.tier, 0x130, 16, 5, .ro, 16, false, 0, 31⟩
/-- 03_tiers_loaves R115. -/
def TIER.CAP_REFUSED.COUNT : Field := ⟨.tier, 0x134, 0, 32, .ro, 0, false, 0, 4294967295⟩
/-- 03_tiers_loaves R115. -/
def TIER.ENGINE_FENCE.FENCED : Field := ⟨.tier, 0x138, 0, 16, .ro, 0, false, 0, 65535⟩
/-- 03_tiers_loaves R115. -/
def TIER.AUDIT_CMD.START : Field := ⟨.tier, 0x140, 0, 1, .w1s, 0, false, 0, 1⟩
/-- 03_tiers_loaves R115. -/
def TIER.AUDIT_CMD.BUSY : Field := ⟨.tier, 0x140, 31, 1, .ro, 0, false, 0, 1⟩
/-- 03_tiers_loaves R115. -/
def TIER.AUDIT_FREED.COUNT : Field := ⟨.tier, 0x144, 0, 32, .ro, 0, false, 0, 4294967295⟩
/-- 03_tiers_loaves R115. -/
def TIER.USAGE_RID.RID : Field := ⟨.tier, 0x150, 0, 12, .rw, 0, false, 0, 4095⟩
/-- 03_tiers_loaves R115. -/
def TIER.USAGE_LO.USAGE_LO : Field := ⟨.tier, 0x154, 0, 32, .ro, 0, false, 0, 4294967295⟩
/-- 03_tiers_loaves R115. -/
def TIER.USAGE_HI.USAGE_HI : Field := ⟨.tier, 0x158, 0, 32, .ro, 0, false, 0, 4294967295⟩

/-! ### Page BAKER -/

/-- 03_tiers_loaves R116. -/
def BAKER.BAKER_CTL.RUN : Field := ⟨.baker, 0x100, 0, 1, .rwl, 1, false, 0, 1⟩
/-- 03_tiers_loaves R116. -/
def BAKER.BAKER_CTL.CLASS : Field := ⟨.baker, 0x100, 4, 4, .rwl, 15, false, 0, 15⟩
/-- 03_tiers_loaves R116. -/
def BAKER.BUDGET.GBPS : Field := ⟨.baker, 0x104, 0, 8, .rwl, 16, false, 1, 128⟩
/-- 03_tiers_loaves R116. -/
def BAKER.SWEEP.PERIOD_S : Field := ⟨.baker, 0x108, 0, 12, .rwl, 60, false, 1, 3600⟩
/-- 03_tiers_loaves R116. -/
def BAKER.WATERMARK.HIGH_PCT : Field := ⟨.baker, 0x10c, 0, 7, .rwl, 20, false, 2, 50⟩
/-- 03_tiers_loaves R116. -/
def BAKER.WATERMARK.LOW_PCT : Field := ⟨.baker, 0x10c, 8, 7, .rwl, 10, false, 1, 49⟩
/-- 03_tiers_loaves R116. -/
def BAKER.BAKES.COUNT : Field := ⟨.baker, 0x120, 0, 32, .ro, 0, false, 0, 4294967295⟩
/-- 03_tiers_loaves R116. -/
def BAKER.PROMOTES.COUNT : Field := ⟨.baker, 0x124, 0, 32, .ro, 0, false, 0, 4294967295⟩
/-- 03_tiers_loaves R116. -/
def BAKER.CANCELS.COUNT : Field := ⟨.baker, 0x128, 0, 32, .ro, 0, false, 0, 4294967295⟩
/-- 03_tiers_loaves R116. -/
def BAKER.VERIFY_FAILS.COUNT : Field := ⟨.baker, 0x12c, 0, 32, .ro, 0, false, 0, 4294967295⟩

/-! ### Page COH -/

/-- 04_coherence R159. -/
def COH.BI_TIMEOUT.US : Field := ⟨.coh, 0x100, 0, 14, .rwl, 500, false, 16, 16000⟩
/-- 04_coherence R159. -/
def COH.DIR_CTL.EVICT_AHEAD : Field := ⟨.coh, 0x104, 0, 1, .rwl, 1, false, 0, 1⟩
/-- 04_coherence R159. -/
def COH.DIR_CTL.SWEEP_CLASS : Field := ⟨.coh, 0x104, 4, 4, .rwl, 15, false, 0, 15⟩
/-- 04_coherence R159. -/
def COH.QUERY_LLA_LO.LLA_LO : Field := ⟨.coh, 0x110, 6, 26, .rw, 0, false, 0, 67108863⟩
/-- 04_coherence R159. -/
def COH.QUERY_LLA_HI.LLA_HI : Field := ⟨.coh, 0x114, 0, 12, .rw, 0, false, 0, 4095⟩
/-- 04_coherence R159. -/
def COH.QUERY_CMD.START : Field := ⟨.coh, 0x118, 0, 1, .w1s, 0, false, 0, 1⟩
/-- 04_coherence R159. -/
def COH.QUERY_CMD.FOUND : Field := ⟨.coh, 0x118, 8, 1, .ro, 0, false, 0, 1⟩
/-- 04_coherence R159. -/
def COH.QUERY_CMD.SET_OVF : Field := ⟨.coh, 0x118, 9, 1, .ro, 0, false, 0, 1⟩
/-- 04_coherence R159. -/
def COH.QUERY_CMD.LOGGED : Field := ⟨.coh, 0x118, 10, 1, .ro, 0, false, 0, 1⟩
/-- 04_coherence R159. -/
def COH.QUERY_ENTRY_LO.ENTRY_LO : Field := ⟨.coh, 0x11c, 0, 32, .ro, 0, false, 0, 4294967295⟩
/-- 04_coherence R159. -/
def COH.QUERY_ENTRY_HI.ENTRY_HI : Field := ⟨.coh, 0x120, 0, 32, .ro, 0, false, 0, 4294967295⟩
/-- 04_coherence R159. -/
def COH.BI_SENT.COUNT : Field := ⟨.coh, 0x130, 0, 32, .ro, 0, false, 0, 4294967295⟩
/-- 04_coherence R159. -/
def COH.BI_BROADCASTS.COUNT : Field := ⟨.coh, 0x134, 0, 32, .ro, 0, false, 0, 4294967295⟩
/-- 04_coherence R159. -/
def COH.BI_TIMEOUTS.COUNT : Field := ⟨.coh, 0x138, 0, 32, .ro, 0, false, 0, 4294967295⟩
/-- 04_coherence R159. -/
def COH.DIR_EVICTIONS.COUNT : Field := ⟨.coh, 0x13c, 0, 32, .ro, 0, false, 0, 4294967295⟩
/-- 04_coherence R159. -/
def COH.STRAY_WB.COUNT : Field := ⟨.coh, 0x140, 0, 32, .ro, 0, false, 0, 4294967295⟩
/-- 04_coherence R159. -/
def COH.UNCACHED_GRANTS.COUNT : Field := ⟨.coh, 0x144, 0, 32, .ro, 0, false, 0, 4294967295⟩
/-- 04_coherence R159. -/
def COH.ALIAS_INVALS.COUNT : Field := ⟨.coh, 0x148, 0, 32, .ro, 0, false, 0, 4294967295⟩
/-- 04_coherence R159. -/
def COH.OVF_STAT.OVF_SETS : Field := ⟨.coh, 0x14c, 0, 21, .ro, 0, false, 0, 2097151⟩
/-- 04_coherence R159. -/
def COH.OVF_LOG.USED : Field := ⟨.coh, 0x150, 0, 15, .ro, 0, false, 0, 32767⟩
/-- 04_coherence R159. -/
def COH.PTL_POISON_DROPS.COUNT : Field := ⟨.coh, 0x154, 0, 32, .ro, 0, false, 0, 4294967295⟩

/-! ### Page BATCH -/

/-- 05_batches R192. -/
def BATCH.BATCH_CTL.TIMEOUT_US : Field := ⟨.batch, 0x100, 0, 20, .rwl, 10000, false, 10, 1000000⟩
/-- 05_batches R192. -/
def BATCH.SHADOW_FREE.COUNT : Field := ⟨.batch, 0x104, 0, 18, .ro, 131072, false, 0, 262143⟩
/-- 05_batches R192. -/
def BATCH.OPEN_SLOTS.COUNT : Field := ⟨.batch, 0x108, 0, 11, .ro, 0, false, 0, 2047⟩
/-- 05_batches R192. -/
def BATCH.COMMITS.COUNT : Field := ⟨.batch, 0x110, 0, 32, .ro, 0, false, 0, 4294967295⟩
/-- 05_batches R192. -/
def BATCH.ABORTS_EXPLICIT.COUNT : Field := ⟨.batch, 0x114, 0, 32, .ro, 0, false, 0, 4294967295⟩
/-- 05_batches R192. -/
def BATCH.ABORTS_CONFLICT.COUNT : Field := ⟨.batch, 0x118, 0, 32, .ro, 0, false, 0, 4294967295⟩
/-- 05_batches R192. -/
def BATCH.ABORTS_CAPACITY.COUNT : Field := ⟨.batch, 0x11c, 0, 32, .ro, 0, false, 0, 4294967295⟩
/-- 05_batches R192. -/
def BATCH.ABORTS_TIMEOUT.COUNT : Field := ⟨.batch, 0x120, 0, 32, .ro, 0, false, 0, 4294967295⟩
/-- 05_batches R192. -/
def BATCH.ABORTS_RESET.COUNT : Field := ⟨.batch, 0x124, 0, 32, .ro, 0, false, 0, 4294967295⟩
/-- 05_batches R192. -/
def BATCH.ABORTS_TWIN_LOSS.COUNT : Field := ⟨.batch, 0x128, 0, 32, .ro, 0, false, 0, 4294967295⟩
/-- 05_batches R192. -/
def BATCH.OUTCOME_QUERY.SLOT : Field := ⟨.batch, 0x130, 0, 11, .rw, 0, false, 0, 2047⟩
/-- 05_batches R192. -/
def BATCH.OUTCOME_QUERY.ARR : Field := ⟨.batch, 0x130, 11, 3, .rw, 0, false, 0, 7⟩
/-- 05_batches R192. -/
def BATCH.OUTCOME_QUERY.START : Field := ⟨.batch, 0x130, 16, 1, .w1s, 0, false, 0, 1⟩
/-- 05_batches R192. -/
def BATCH.OUTCOME_RESULT.OUTCOME : Field := ⟨.batch, 0x134, 0, 2, .ro, 0, false, 0, 3⟩
/-- 05_batches R192. -/
def BATCH.OUTCOME_RESULT.CAUSE : Field := ⟨.batch, 0x134, 4, 3, .ro, 0, false, 0, 7⟩
/-- 05_batches R192. -/
def BATCH.OUTCOME_RESULT.BSEQ : Field := ⟨.batch, 0x134, 16, 16, .ro, 0, false, 0, 65535⟩

/-! ### Page MCAST -/

/-- 07_site_traffic R284. -/
def MCAST.GRP_SEL.GROUP : Field := ⟨.mcast, 0x100, 0, 6, .rw, 0, false, 0, 63⟩
/-- 07_site_traffic R284. -/
def MCAST.GRP_CTL.ENABLE : Field := ⟨.mcast, 0x104, 0, 1, .rwl, 0, false, 0, 1⟩
/-- 07_site_traffic R284. -/
def MCAST.GRP_CTL.CLASS : Field := ⟨.mcast, 0x104, 4, 4, .rwl, 0, false, 0, 15⟩
/-- 07_site_traffic R284. -/
def MCAST.GRP_CTL.PREFETCH : Field := ⟨.mcast, 0x104, 8, 7, .rwl, 4, false, 0, 64⟩
/-- 07_site_traffic R284. -/
def MCAST.GRP_CTL.BUSY : Field := ⟨.mcast, 0x104, 31, 1, .ro, 0, false, 0, 1⟩
/-- 07_site_traffic R284. -/
def MCAST.GRP_BASE_LO.QLA_LO : Field := ⟨.mcast, 0x108, 10, 22, .rwl, 0, false, 0, 4194303⟩
/-- 07_site_traffic R284. -/
def MCAST.GRP_BASE_HI.QLA_HI : Field := ⟨.mcast, 0x10c, 0, 14, .rwl, 0, false, 0, 16383⟩
/-- 07_site_traffic R284. -/
def MCAST.GRP_LEN.BLOCKS : Field := ⟨.mcast, 0x110, 0, 24, .rwl, 1, false, 1, 16777215⟩
/-- 07_site_traffic R284. -/
def MCAST.GRP_STAT.MEMBERS : Field := ⟨.mcast, 0x114, 0, 11, .ro, 0, false, 0, 2047⟩
/-- 07_site_traffic R284. -/
def MCAST.GRP_WIN.LOW : Field := ⟨.mcast, 0x118, 0, 24, .ro, 0, false, 0, 16777215⟩
/-- 07_site_traffic R284. -/
def MCAST.GRP_FILLS.COUNT : Field := ⟨.mcast, 0x120, 0, 32, .ro, 0, false, 0, 4294967295⟩
/-- 07_site_traffic R284. -/
def MCAST.GRP_HITS.COUNT : Field := ⟨.mcast, 0x124, 0, 32, .ro, 0, false, 0, 4294967295⟩
/-- 07_site_traffic R284. -/
def MCAST.GRP_BEHIND.COUNT : Field := ⟨.mcast, 0x128, 0, 32, .ro, 0, false, 0, 4294967295⟩
/-- 07_site_traffic R284. -/
def MCAST.GRP_DROPS.COUNT : Field := ⟨.mcast, 0x12c, 0, 32, .ro, 0, false, 0, 4294967295⟩

/-! ### Page FAIL -/

/-- 08_fail_services R325. -/
def FAIL.CMD.OP : Field := ⟨.fail, 0x100, 0, 4, .rwl, 0, false, 0, 15⟩
/-- 08_fail_services R325. -/
def FAIL.CMD.ID : Field := ⟨.fail, 0x100, 16, 10, .rwl, 0, false, 0, 1023⟩
/-- 08_fail_services R325. -/
def FAIL.CMD_STAT.RESULT : Field := ⟨.fail, 0x104, 0, 4, .ro, 0, false, 0, 15⟩
/-- 08_fail_services R325. -/
def FAIL.CMD_STAT.ID : Field := ⟨.fail, 0x104, 16, 10, .ro, 0, false, 0, 1023⟩
/-- 08_fail_services R325. -/
def FAIL.CMD_STAT.BUSY : Field := ⟨.fail, 0x104, 31, 1, .ro, 0, false, 0, 1⟩
/-- 08_fail_services R325. -/
def FAIL.FAIL_CTL.SVC_CLASS : Field := ⟨.fail, 0x108, 0, 4, .rwl, 15, false, 0, 15⟩
/-- 08_fail_services R325. -/
def FAIL.GEO_A.DIES_M1 : Field := ⟨.fail, 0x110, 0, 6, .rwl, 0, false, 0, 63⟩
/-- 08_fail_services R325. -/
def FAIL.GEO_A.BANKS_M1 : Field := ⟨.fail, 0x110, 6, 6, .rwl, 0, false, 0, 63⟩
/-- 08_fail_services R325. -/
def FAIL.GEO_A.BLOCKS_M1 : Field := ⟨.fail, 0x110, 12, 12, .rwl, 0, false, 0, 4095⟩
/-- 08_fail_services R325. -/
def FAIL.GEO_B.ROWS_M1 : Field := ⟨.fail, 0x114, 0, 16, .rwl, 0, false, 0, 65535⟩
/-- 08_fail_services R325. -/
def FAIL.GEO_B.SROWS : Field := ⟨.fail, 0x114, 16, 6, .rwl, 0, false, 0, 63⟩
/-- 08_fail_services R325. -/
def FAIL.GEO_C.COLS_M1 : Field := ⟨.fail, 0x118, 0, 16, .rwl, 0, false, 0, 65535⟩
/-- 08_fail_services R325. -/
def FAIL.GEO_C.SCOLS : Field := ⟨.fail, 0x118, 16, 6, .rwl, 0, false, 0, 63⟩
/-- 08_fail_services R325. -/
def FAIL.GEO_BMAP_KIB.KIB : Field := ⟨.fail, 0x11c, 0, 32, .ro, 0, false, 0, 4294967295⟩
/-- 08_fail_services R325. -/
def FAIL.GEO_TALLY_KIB.KIB : Field := ⟨.fail, 0x120, 0, 32, .ro, 0, false, 0, 4294967295⟩
/-- 08_fail_services R325. -/
def FAIL.DUT_GEO.GEO : Field := ⟨.fail, 0x130, 0, 8, .rwl, 0, false, 0, 255⟩
/-- 08_fail_services R325. -/
def FAIL.DUT_GEO.BOUND : Field := ⟨.fail, 0x130, 31, 1, .ro, 0, false, 0, 1⟩
/-- 08_fail_services R325. -/
def FAIL.DUT_BMAP_LO.QLA_LO : Field := ⟨.fail, 0x134, 12, 20, .rwl, 0, false, 0, 1048575⟩
/-- 08_fail_services R325. -/
def FAIL.DUT_BMAP_HI.QLA_HI : Field := ⟨.fail, 0x138, 0, 14, .rwl, 0, false, 0, 16383⟩
/-- 08_fail_services R325. -/
def FAIL.DUT_TALLY_LO.QLA_LO : Field := ⟨.fail, 0x13c, 12, 20, .rwl, 0, false, 0, 1048575⟩
/-- 08_fail_services R325. -/
def FAIL.DUT_TALLY_HI.QLA_HI : Field := ⟨.fail, 0x140, 0, 14, .rwl, 0, false, 0, 16383⟩
/-- 08_fail_services R325. -/
def FAIL.REC_NEW.COUNT : Field := ⟨.fail, 0x150, 0, 32, .ro, 0, false, 0, 4294967295⟩
/-- 08_fail_services R325. -/
def FAIL.REC_SAME.COUNT : Field := ⟨.fail, 0x154, 0, 32, .ro, 0, false, 0, 4294967295⟩
/-- 08_fail_services R325. -/
def FAIL.REC_REFUSED.COUNT : Field := ⟨.fail, 0x158, 0, 32, .ro, 0, false, 0, 4294967295⟩
/-- 08_fail_services R325. -/
def FAIL.REBUILDS.COUNT : Field := ⟨.fail, 0x15c, 0, 32, .ro, 0, false, 0, 4294967295⟩

/-! ### Page ASSAY -/

/-- 08_fail_services R326. -/
def ASSAY.Q_SEL.QUEUE : Field := ⟨.assay, 0x100, 0, 4, .rw, 0, false, 0, 15⟩
/-- 08_fail_services R326. -/
def ASSAY.Q_CTL.ENABLE : Field := ⟨.assay, 0x104, 0, 1, .rwl, 0, false, 0, 1⟩
/-- 08_fail_services R326. -/
def ASSAY.Q_CTL.ABORT : Field := ⟨.assay, 0x104, 1, 1, .w1s, 0, false, 0, 1⟩
/-- 08_fail_services R326. -/
def ASSAY.Q_CTL.LOC : Field := ⟨.assay, 0x104, 2, 1, .rwl, 0, false, 0, 1⟩
/-- 08_fail_services R326. -/
def ASSAY.Q_CTL.IRQ_EN : Field := ⟨.assay, 0x104, 3, 1, .rwl, 0, false, 0, 1⟩
/-- 08_fail_services R326. -/
def ASSAY.Q_CTL.PORT : Field := ⟨.assay, 0x104, 4, 2, .rwl, 0, false, 0, 3⟩
/-- 08_fail_services R326. -/
def ASSAY.Q_CTL.LINK : Field := ⟨.assay, 0x104, 6, 1, .rwl, 0, false, 0, 1⟩
/-- 08_fail_services R326. -/
def ASSAY.Q_CTL.BIND_VALID : Field := ⟨.assay, 0x104, 7, 1, .rwl, 0, false, 0, 1⟩
/-- 08_fail_services R326. -/
def ASSAY.Q_CTL.CLASS : Field := ⟨.assay, 0x104, 8, 4, .rwl, 15, false, 0, 15⟩
/-- 08_fail_services R326. -/
def ASSAY.Q_CTL.VECTOR : Field := ⟨.assay, 0x104, 16, 8, .rwl, 0, false, 0, 255⟩
/-- 08_fail_services R326. -/
def ASSAY.SQ_BASE_LO.BASE_LO : Field := ⟨.assay, 0x108, 12, 20, .rwl, 0, false, 0, 1048575⟩
/-- 08_fail_services R326. -/
def ASSAY.SQ_BASE_HI.BASE_HI : Field := ⟨.assay, 0x10c, 0, 32, .rwl, 0, false, 0, 4294967295⟩
/-- 08_fail_services R326. -/
def ASSAY.CQ_BASE_LO.BASE_LO : Field := ⟨.assay, 0x110, 12, 20, .rwl, 0, false, 0, 1048575⟩
/-- 08_fail_services R326. -/
def ASSAY.CQ_BASE_HI.BASE_HI : Field := ⟨.assay, 0x114, 0, 32, .rwl, 0, false, 0, 4294967295⟩
/-- 08_fail_services R326. -/
def ASSAY.Q_SIZE.SQ_LOG2 : Field := ⟨.assay, 0x118, 0, 4, .rwl, 6, false, 4, 12⟩
/-- 08_fail_services R326. -/
def ASSAY.Q_SIZE.CQ_LOG2 : Field := ⟨.assay, 0x118, 8, 4, .rwl, 6, false, 4, 12⟩
/-- 08_fail_services R326. -/
def ASSAY.Q_BOUND.NODES : Field := ⟨.assay, 0x11c, 0, 24, .rwl, 65536, false, 1, 16777215⟩
/-- 08_fail_services R326. -/
def ASSAY.Q_STAT.STATE : Field := ⟨.assay, 0x120, 0, 2, .ro, 0, false, 0, 3⟩
/-- 08_fail_services R326. -/
def ASSAY.Q_STAT.ABORTING : Field := ⟨.assay, 0x120, 2, 1, .ro, 0, false, 0, 1⟩
/-- 08_fail_services R326. -/
def ASSAY.Q_STAT.RUNNING : Field := ⟨.assay, 0x120, 4, 4, .ro, 0, false, 0, 15⟩
/-- 08_fail_services R326. -/
def ASSAY.Q_STAT.LAST_STATUS : Field := ⟨.assay, 0x120, 8, 8, .ro, 0, false, 0, 255⟩
/-- 08_fail_services R326. -/
def ASSAY.Q_STAT.SQ_HEAD : Field := ⟨.assay, 0x120, 16, 12, .ro, 0, false, 0, 4095⟩
/-- 08_fail_services R326. -/
def ASSAY.JOBS_DONE.COUNT : Field := ⟨.assay, 0x130, 0, 32, .ro, 0, false, 0, 4294967295⟩
/-- 08_fail_services R326. -/
def ASSAY.BLOCKS_DONE.COUNT : Field := ⟨.assay, 0x134, 0, 32, .ro, 0, false, 0, 4294967295⟩
/-- 08_fail_services R326. -/
def ASSAY.NODES_USED.COUNT : Field := ⟨.assay, 0x138, 0, 32, .ro, 0, false, 0, 4294967295⟩
/-- 08_fail_services R326. -/
def ASSAY.SQ_TAIL.TAIL : Field := ⟨.assay, 0x200, 0, 12, .rw, 0, false, 0, 4095⟩
/-- 08_fail_services R326. -/
def ASSAY.CQ_HEAD.HEAD : Field := ⟨.assay, 0x204, 0, 12, .rw, 0, false, 0, 4095⟩

/-! ### Page QOS -/

/-- 09_qos R355. -/
def QOS.ADMIT_CTL.FRACTION_PCT : Field := ⟨.qos, 0x100, 0, 7, .rwl, 85, false, 50, 100⟩
/-- 09_qos R355. -/
def QOS.ADMIT_CTL.COVER_TWIN : Field := ⟨.qos, 0x100, 8, 1, .rwl, 0, false, 0, 1⟩
/-- 09_qos R355. -/
def QOS.ADMIT_CTL.AUTO_RESTORE : Field := ⟨.qos, 0x100, 9, 1, .rwl, 1, false, 0, 1⟩
/-- 09_qos R355. -/
def QOS.SCHED_CTL.URGENT_NS : Field := ⟨.qos, 0x104, 0, 16, .rwl, 2000, false, 0, 65535⟩
/-- 09_qos R355. -/
def QOS.ADMIT_CMD.APPLY : Field := ⟨.qos, 0x108, 0, 1, .w1s, 0, false, 0, 1⟩
/-- 09_qos R355. -/
def QOS.ADMIT_CMD.REVERT : Field := ⟨.qos, 0x108, 1, 1, .w1s, 0, false, 0, 1⟩
/-- 09_qos R355. -/
def QOS.ADMIT_CMD.BUSY : Field := ⟨.qos, 0x108, 31, 1, .ro, 0, false, 0, 1⟩
/-- 09_qos R355. -/
def QOS.ADMIT_STAT.RESULT : Field := ⟨.qos, 0x10c, 0, 4, .ro, 0, false, 0, 15⟩
/-- 09_qos R355. -/
def QOS.ADMIT_STAT.DIRTY : Field := ⟨.qos, 0x10c, 4, 1, .ro, 0, false, 0, 1⟩
/-- 09_qos R355. -/
def QOS.ADMIT_STAT.SITE : Field := ⟨.qos, 0x10c, 16, 10, .ro, 0, false, 0, 1023⟩
/-- 09_qos R355. -/
def QOS.DELIV_DRAM.RATE : Field := ⟨.qos, 0x110, 0, 13, .ro, 0, false, 0, 8191⟩
/-- 09_qos R355. -/
def QOS.DELIV_TWIN.RATE : Field := ⟨.qos, 0x114, 0, 10, .ro, 0, false, 0, 1023⟩
/-- 09_qos R355. -/
def QOS.DELIV_T0.RATE : Field := ⟨.qos, 0x118, 0, 14, .ro, 0, false, 0, 16383⟩
/-- 09_qos R355. -/
def QOS.CHAN_INSVC.CHANNELS : Field := ⟨.qos, 0x11c, 0, 16, .ro, 0, false, 0, 65535⟩
/-- 09_qos R355. -/
def QOS.YIELD_LO.POS0_7 : Field := ⟨.qos, 0x120, 0, 32, .rwl, 2309737967, false, 0, 4294967295⟩
/-- 09_qos R355. -/
def QOS.YIELD_HI.POS8_15 : Field := ⟨.qos, 0x124, 0, 32, .rwl, 19088743, false, 0, 4294967295⟩
/-- 09_qos R355. -/
def QOS.DEMOTED.CLASSES : Field := ⟨.qos, 0x128, 0, 16, .ro, 0, false, 0, 65535⟩
/-- 09_qos R355. -/
def QOS.LEVEL_STAT.LEVELS : Field := ⟨.qos, 0x12c, 0, 32, .ro, 0, false, 0, 4294967295⟩
/-- 09_qos R356. -/
def QOS.CLS_G_DEQ.RATE : Field := ⟨.qos, 0x400, 0, 13, .rwl, 0, false, 0, 8191⟩
/-- 09_qos R356. -/
def QOS.CLS_G_TWIN.RATE : Field := ⟨.qos, 0x404, 0, 10, .rwl, 0, false, 0, 1023⟩
/-- 09_qos R356. -/
def QOS.CLS_G_T0.RATE : Field := ⟨.qos, 0x408, 0, 14, .rwl, 0, false, 0, 16383⟩
/-- 09_qos R356. -/
def QOS.CLS_G_SITE.MBPS : Field := ⟨.qos, 0x40c, 0, 11, .rwl, 0, false, 0, 2047⟩
/-- 09_qos R356. -/
def QOS.CLS_WEIGHT.WEIGHT : Field := ⟨.qos, 0x410, 0, 8, .rwl, 1, false, 1, 255⟩
/-- 09_qos R356. -/
def QOS.CLS_STAT.DEMOTED : Field := ⟨.qos, 0x414, 0, 1, .ro, 0, false, 0, 1⟩
/-- 09_qos R356. -/
def QOS.BYTES_LO.BYTES_LO : Field := ⟨.qos, 0x418, 0, 32, .ro, 0, false, 0, 4294967295⟩
/-- 09_qos R356. -/
def QOS.BYTES_HI.BYTES_HI : Field := ⟨.qos, 0x41c, 0, 32, .ro, 0, false, 0, 4294967295⟩
/-- 09_qos R356. -/
def QOS.DEQ_LO.DEQ_LO : Field := ⟨.qos, 0x420, 0, 32, .ro, 0, false, 0, 4294967295⟩
/-- 09_qos R356. -/
def QOS.DEQ_HI.DEQ_HI : Field := ⟨.qos, 0x424, 0, 32, .ro, 0, false, 0, 4294967295⟩
/-- 09_qos R356. -/
def QOS.T0B_LO.T0B_LO : Field := ⟨.qos, 0x428, 0, 32, .ro, 0, false, 0, 4294967295⟩
/-- 09_qos R356. -/
def QOS.T0B_HI.T0B_HI : Field := ⟨.qos, 0x42c, 0, 32, .ro, 0, false, 0, 4294967295⟩
/-- 09_qos R356. -/
def QOS.TWB_LO.TWB_LO : Field := ⟨.qos, 0x430, 0, 32, .ro, 0, false, 0, 4294967295⟩
/-- 09_qos R356. -/
def QOS.TWB_HI.TWB_HI : Field := ⟨.qos, 0x434, 0, 32, .ro, 0, false, 0, 4294967295⟩
/-- 09_qos R356. -/
def QOS.HELD.COUNT : Field := ⟨.qos, 0x438, 0, 32, .ro, 0, false, 0, 4294967295⟩
/-- 09_qos R356. -/
def QOS.URGENT.COUNT : Field := ⟨.qos, 0x43c, 0, 32, .ro, 0, false, 0, 4294967295⟩

/-! ### Page INTEG -/

/-- 12_memory_integrity R458. -/
def INTEG.SCRUB_CTL.EN : Field := ⟨.integ, 0x100, 0, 1, .rwl, 1, false, 0, 1⟩
/-- 12_memory_integrity R458. -/
def INTEG.SCRUB_CTL.TIB_PER_DAY : Field := ⟨.integ, 0x100, 1, 6, .rwl, 8, false, 1, 63⟩
/-- 12_memory_integrity R458. -/
def INTEG.SCRUB_CTL.CLASS : Field := ⟨.integ, 0x100, 8, 4, .rwl, 15, false, 0, 15⟩
/-- 12_memory_integrity R458. -/
def INTEG.SCRUB_POS.LPN : Field := ⟨.integ, 0x104, 0, 32, .ro, 0, false, 0, 4294967295⟩
/-- 12_memory_integrity R458. -/
def INTEG.SCRUB_PASSES.COUNT : Field := ⟨.integ, 0x108, 0, 32, .ro, 0, false, 0, 4294967295⟩
/-- 12_memory_integrity R458. -/
def INTEG.PROOF_CTL.EN : Field := ⟨.integ, 0x10c, 0, 1, .rwl, 1, false, 0, 1⟩
/-- 12_memory_integrity R458. -/
def INTEG.PROOF_CTL.HOLD_MS : Field := ⟨.integ, 0x10c, 1, 10, .rwl, 64, false, 0, 1000⟩
/-- 12_memory_integrity R458. -/
def INTEG.PROOF_CTL.REARM_S : Field := ⟨.integ, 0x10c, 11, 12, .rwl, 60, false, 1, 4095⟩
/-- 12_memory_integrity R458. -/
def INTEG.PROOF_CTL.WINDOW_D : Field := ⟨.integ, 0x10c, 23, 8, .rwl, 30, false, 1, 255⟩
/-- 12_memory_integrity R458. -/
def INTEG.PROOF_STAT.BUSY : Field := ⟨.integ, 0x110, 0, 1, .ro, 0, false, 0, 1⟩
/-- 12_memory_integrity R458. -/
def INTEG.PROOF_STAT.QUEUED : Field := ⟨.integ, 0x110, 1, 7, .ro, 0, false, 0, 127⟩
/-- 12_memory_integrity R458. -/
def INTEG.RETIRE_ADDR_A.CH : Field := ⟨.integ, 0x114, 0, 4, .rw, 0, false, 0, 15⟩
/-- 12_memory_integrity R458. -/
def INTEG.RETIRE_ADDR_A.SUB : Field := ⟨.integ, 0x114, 4, 1, .rw, 0, false, 0, 1⟩
/-- 12_memory_integrity R458. -/
def INTEG.RETIRE_ADDR_A.DIMM : Field := ⟨.integ, 0x114, 5, 1, .rw, 0, false, 0, 1⟩
/-- 12_memory_integrity R458. -/
def INTEG.RETIRE_ADDR_A.RANK : Field := ⟨.integ, 0x114, 6, 1, .rw, 0, false, 0, 1⟩
/-- 12_memory_integrity R458. -/
def INTEG.RETIRE_ADDR_A.CID : Field := ⟨.integ, 0x114, 7, 2, .rw, 0, false, 0, 3⟩
/-- 12_memory_integrity R458. -/
def INTEG.RETIRE_ADDR_A.BG : Field := ⟨.integ, 0x114, 9, 3, .rw, 0, false, 0, 7⟩
/-- 12_memory_integrity R458. -/
def INTEG.RETIRE_ADDR_A.BANK : Field := ⟨.integ, 0x114, 12, 2, .rw, 0, false, 0, 3⟩
/-- 12_memory_integrity R458. -/
def INTEG.RETIRE_ADDR_B.ROW : Field := ⟨.integ, 0x118, 0, 17, .rw, 0, false, 0, 131071⟩
/-- 12_memory_integrity R458. -/
def INTEG.RETIRE_CMD.OP : Field := ⟨.integ, 0x11c, 0, 2, .rwl, 0, false, 0, 3⟩
/-- 12_memory_integrity R458. -/
def INTEG.RETIRE_CMD.BUSY : Field := ⟨.integ, 0x11c, 31, 1, .ro, 0, false, 0, 1⟩
/-- 12_memory_integrity R458. -/
def INTEG.RETIRE_STAT.RESULT : Field := ⟨.integ, 0x120, 0, 4, .ro, 0, false, 0, 15⟩
/-- 12_memory_integrity R458. -/
def INTEG.RETIRED.ROWS : Field := ⟨.integ, 0x124, 0, 13, .ro, 0, false, 0, 8191⟩
/-- 12_memory_integrity R458. -/
def INTEG.RETIRED.BANKS : Field := ⟨.integ, 0x124, 16, 9, .ro, 0, false, 0, 511⟩
/-- 12_memory_integrity R458. -/
def INTEG.LAST_LOC_A.LOC : Field := ⟨.integ, 0x128, 0, 14, .ro, 0, false, 0, 16383⟩
/-- 12_memory_integrity R458. -/
def INTEG.LAST_LOC_B.ROW : Field := ⟨.integ, 0x12c, 0, 17, .ro, 0, false, 0, 131071⟩
/-- 12_memory_integrity R458. -/
def INTEG.LAST_LOC_B.BURST : Field := ⟨.integ, 0x12c, 20, 8, .ro, 0, false, 0, 255⟩
/-- 12_memory_integrity R458. -/
def INTEG.LAST_SYN.POS : Field := ⟨.integ, 0x130, 0, 16, .ro, 0, false, 0, 65535⟩
/-- 12_memory_integrity R458. -/
def INTEG.LAST_SYN.OUTCOME : Field := ⟨.integ, 0x130, 16, 3, .ro, 0, false, 0, 7⟩
/-- 12_memory_integrity R458. -/
def INTEG.MEM_CES.COUNT : Field := ⟨.integ, 0x140, 0, 32, .ro, 0, false, 0, 4294967295⟩
/-- 12_memory_integrity R458. -/
def INTEG.MEM_RECOVERIES.COUNT : Field := ⟨.integ, 0x144, 0, 32, .ro, 0, false, 0, 4294967295⟩
/-- 12_memory_integrity R458. -/
def INTEG.MEM_UNCORRS.COUNT : Field := ⟨.integ, 0x148, 0, 32, .ro, 0, false, 0, 4294967295⟩
/-- 12_memory_integrity R458. -/
def INTEG.T0_CES.COUNT : Field := ⟨.integ, 0x14c, 0, 32, .ro, 0, false, 0, 4294967295⟩
/-- 12_memory_integrity R458. -/
def INTEG.T0_UNCORRS.COUNT : Field := ⟨.integ, 0x150, 0, 32, .ro, 0, false, 0, 4294967295⟩
/-- 12_memory_integrity R458. -/
def INTEG.T0_FENCED.FRAMES : Field := ⟨.integ, 0x154, 0, 18, .ro, 0, false, 0, 262143⟩
/-- 12_memory_integrity R458. -/
def INTEG.PROOF_TESTS.COUNT : Field := ⟨.integ, 0x158, 0, 32, .ro, 0, false, 0, 4294967295⟩
/-- 12_memory_integrity R458. -/
def INTEG.PROOF_SKIPPED.COUNT : Field := ⟨.integ, 0x15c, 0, 32, .ro, 0, false, 0, 4294967295⟩
/-- 12_memory_integrity R458. -/
def INTEG.VERDICTS.COUNTS : Field := ⟨.integ, 0x160, 0, 32, .ro, 0, false, 0, 4294967295⟩

/-! ### Page TWIN -/

/-- 13_twin_and_quartet R504. -/
def TWIN.TWIN_CTL.WITHDRAW : Field := ⟨.twin, 0x100, 0, 1, .w1s, 0, false, 0, 1⟩
/-- 13_twin_and_quartet R504. -/
def TWIN.TWIN_CTL.RETAKE : Field := ⟨.twin, 0x100, 1, 1, .w1s, 0, false, 0, 1⟩
/-- 13_twin_and_quartet R504. -/
def TWIN.TWIN_CTL.AUTO_RETAKE : Field := ⟨.twin, 0x100, 2, 1, .rwl, 1, false, 0, 1⟩
/-- 13_twin_and_quartet R504. -/
def TWIN.TWIN_CTL.SOLO_WAIT_MS : Field := ⟨.twin, 0x100, 4, 12, .rwl, 2000, false, 100, 4000⟩
/-- 13_twin_and_quartet R504. -/
def TWIN.PAIR_STAT.STATE : Field := ⟨.twin, 0x104, 0, 3, .ro, 0, false, 0, 7⟩
/-- 13_twin_and_quartet R504. -/
def TWIN.PAIR_STAT.TWIN_STATE : Field := ⟨.twin, 0x104, 3, 3, .ro, 0, false, 0, 7⟩
/-- 13_twin_and_quartet R504. -/
def TWIN.PAIR_STAT.HB_IN : Field := ⟨.twin, 0x104, 6, 1, .ro, 0, false, 0, 1⟩
/-- 13_twin_and_quartet R504. -/
def TWIN.PAIR_STAT.P3_UP : Field := ⟨.twin, 0x104, 7, 1, .ro, 0, false, 0, 1⟩
/-- 13_twin_and_quartet R504. -/
def TWIN.PAIR_STAT.P4_UP : Field := ⟨.twin, 0x104, 8, 1, .ro, 0, false, 0, 1⟩
/-- 13_twin_and_quartet R504. -/
def TWIN.PAIR_STAT.STEWARDED : Field := ⟨.twin, 0x104, 9, 1, .ro, 0, false, 0, 1⟩
/-- 13_twin_and_quartet R504. -/
def TWIN.PAIR_STAT.STEWARD : Field := ⟨.twin, 0x104, 10, 1, .ro, 0, false, 0, 1⟩
/-- 13_twin_and_quartet R504. -/
def TWIN.PAIR_STAT.MGMT_LOST : Field := ⟨.twin, 0x104, 11, 1, .ro, 0, false, 0, 1⟩
/-- 13_twin_and_quartet R504. -/
def TWIN.PAIR_STAT.MESH_UP : Field := ⟨.twin, 0x104, 12, 3, .ro, 0, false, 0, 7⟩
/-- 13_twin_and_quartet R504. -/
def TWIN.PAIR_STAT.LEADS : Field := ⟨.twin, 0x104, 15, 1, .ro, 0, false, 0, 1⟩
/-- 13_twin_and_quartet R504. -/
def TWIN.PAIR_STAT.LAST_CAUSE : Field := ⟨.twin, 0x104, 16, 4, .ro, 0, true, 0, 15⟩
/-- 13_twin_and_quartet R504. -/
def TWIN.RESYNC_CTL.PCT : Field := ⟨.twin, 0x108, 0, 7, .rwl, 25, false, 1, 100⟩
/-- 13_twin_and_quartet R504. -/
def TWIN.RESYNC_CTL.CLASS : Field := ⟨.twin, 0x108, 8, 4, .rwl, 15, false, 0, 15⟩
/-- 13_twin_and_quartet R504. -/
def TWIN.RESYNC_STAT.RUN : Field := ⟨.twin, 0x10c, 0, 1, .ro, 0, false, 0, 1⟩
/-- 13_twin_and_quartet R504. -/
def TWIN.RESYNC_STAT.SOURCE : Field := ⟨.twin, 0x10c, 1, 1, .ro, 0, false, 0, 1⟩
/-- 13_twin_and_quartet R504. -/
def TWIN.RESYNC_POS.LPN : Field := ⟨.twin, 0x110, 0, 32, .ro, 0, false, 0, 4294967295⟩
/-- 13_twin_and_quartet R504. -/
def TWIN.RESYNC_GIB.GIB : Field := ⟨.twin, 0x114, 0, 32, .ro, 0, false, 0, 4294967295⟩
/-- 13_twin_and_quartet R504. -/
def TWIN.HANDOVER_CTL.BATCH_WAIT_US : Field := ⟨.twin, 0x118, 0, 20, .rwl, 20000, false, 100, 1000000⟩
/-- 13_twin_and_quartet R504. -/
def TWIN.HANDOVER_CTL.HOLD : Field := ⟨.twin, 0x118, 20, 1, .rwl, 0, false, 0, 1⟩
/-- 13_twin_and_quartet R504. -/
def TWIN.HB_CTL.TIMEOUT_US : Field := ⟨.twin, 0x11c, 0, 8, .rwl, 16, false, 8, 255⟩
/-- 13_twin_and_quartet R504. -/
def TWIN.TIME_LO.TIME_LO : Field := ⟨.twin, 0x120, 0, 32, .ro, 0, false, 0, 4294967295⟩
/-- 13_twin_and_quartet R504. -/
def TWIN.TIME_HI.TIME_HI : Field := ⟨.twin, 0x124, 0, 32, .ro, 0, false, 0, 4294967295⟩
/-- 13_twin_and_quartet R504. -/
def TWIN.TIME_STAT.LOCKED : Field := ⟨.twin, 0x128, 0, 1, .ro, 0, false, 0, 1⟩
/-- 13_twin_and_quartet R504. -/
def TWIN.TIME_STAT.MASTER : Field := ⟨.twin, 0x128, 1, 1, .ro, 0, false, 0, 1⟩
/-- 13_twin_and_quartet R504. -/
def TWIN.TIME_STAT.OFFSET_NS : Field := ⟨.twin, 0x128, 16, 16, .ro, 0, false, 0, 65535⟩
/-- 13_twin_and_quartet R504. -/
def TWIN.TWIN_ID_LO.ID_LO : Field := ⟨.twin, 0x12c, 0, 32, .ro, 0, false, 0, 4294967295⟩
/-- 13_twin_and_quartet R504. -/
def TWIN.TWIN_ID_HI.ID_HI : Field := ⟨.twin, 0x130, 0, 16, .ro, 0, false, 0, 65535⟩
/-- 13_twin_and_quartet R504. -/
def TWIN.WITHDRAWALS.COUNT : Field := ⟨.twin, 0x140, 0, 32, .ro, 0, false, 0, 4294967295⟩
/-- 13_twin_and_quartet R504. -/
def TWIN.RESYNCS_DONE.COUNT : Field := ⟨.twin, 0x144, 0, 32, .ro, 0, false, 0, 4294967295⟩
/-- 13_twin_and_quartet R504. -/
def TWIN.RESYNCS_RESTARTED.COUNT : Field := ⟨.twin, 0x148, 0, 32, .ro, 0, false, 0, 4294967295⟩
/-- 13_twin_and_quartet R504. -/
def TWIN.FAILOVERS.COUNT : Field := ⟨.twin, 0x14c, 0, 32, .ro, 0, false, 0, 4294967295⟩
/-- 13_twin_and_quartet R504. -/
def TWIN.REFORWARDS.COUNT : Field := ⟨.twin, 0x150, 0, 32, .ro, 0, false, 0, 4294967295⟩
/-- 13_twin_and_quartet R504. -/
def TWIN.CSIGNS.COUNT : Field := ⟨.twin, 0x154, 0, 32, .ro, 0, false, 0, 4294967295⟩

/-! ### Page LEDGER -/

/-- 14_faults_and_ledger R542. -/
def LEDGER.LDG_STAT.WORN : Field := ⟨.ledger, 0x100, 0, 1, .ro, 0, true, 0, 1⟩
/-- 14_faults_and_ledger R542. -/
def LEDGER.LDG_STAT.SEALED : Field := ⟨.ledger, 0x100, 1, 1, .ro, 0, true, 0, 1⟩
/-- 14_faults_and_ledger R542. -/
def LEDGER.LDG_STAT.SPARES_LEFT : Field := ⟨.ledger, 0x100, 4, 9, .ro, 384, true, 0, 511⟩
/-- 14_faults_and_ledger R542. -/
def LEDGER.LDG_STAT.ACTIVE : Field := ⟨.ledger, 0x100, 16, 11, .ro, 1152, true, 0, 2047⟩
/-- 14_faults_and_ledger R542. -/
def LEDGER.LDG_CTL.COALESCE_MS : Field := ⟨.ledger, 0x104, 0, 14, .rwl, 1000, true, 1, 10000⟩
/-- 14_faults_and_ledger R542. -/
def LEDGER.HEAD_LO.HEAD : Field := ⟨.ledger, 0x108, 0, 32, .ro, 0, false, 0, 4294967295⟩
/-- 14_faults_and_ledger R542. -/
def LEDGER.HEAD_HI.HEAD : Field := ⟨.ledger, 0x10c, 0, 32, .ro, 0, false, 0, 4294967295⟩
/-- 14_faults_and_ledger R542. -/
def LEDGER.OLDEST_LO.OLDEST : Field := ⟨.ledger, 0x110, 0, 32, .ro, 0, false, 0, 4294967295⟩
/-- 14_faults_and_ledger R542. -/
def LEDGER.OLDEST_HI.OLDEST : Field := ⟨.ledger, 0x114, 0, 32, .ro, 0, false, 0, 4294967295⟩
/-- 14_faults_and_ledger R542. -/
def LEDGER.RD_SEQ_LO.SEQ : Field := ⟨.ledger, 0x118, 0, 32, .rw, 0, false, 0, 4294967295⟩
/-- 14_faults_and_ledger R542. -/
def LEDGER.RD_SEQ_HI.SEQ : Field := ⟨.ledger, 0x11c, 0, 32, .rw, 0, false, 0, 4294967295⟩
/-- 14_faults_and_ledger R542. -/
def LEDGER.RD_CMD.START : Field := ⟨.ledger, 0x120, 0, 1, .w1s, 0, false, 0, 1⟩
/-- 14_faults_and_ledger R542. -/
def LEDGER.RD_CMD.LAST_WORDS : Field := ⟨.ledger, 0x120, 1, 1, .rw, 0, false, 0, 1⟩
/-- 14_faults_and_ledger R542. -/
def LEDGER.RD_CMD.INDEX : Field := ⟨.ledger, 0x120, 4, 6, .rw, 0, false, 0, 63⟩
/-- 14_faults_and_ledger R542. -/
def LEDGER.RD_CMD.RESULT : Field := ⟨.ledger, 0x120, 16, 2, .ro, 0, false, 0, 3⟩
/-- 14_faults_and_ledger R542. -/
def LEDGER.RD_CMD.BUSY : Field := ⟨.ledger, 0x120, 31, 1, .ro, 0, false, 0, 1⟩
/-- 14_faults_and_ledger R542. -/
def LEDGER.RD_DATA0.DATA : Field := ⟨.ledger, 0x140, 0, 32, .ro, 0, false, 0, 4294967295⟩
/-- 14_faults_and_ledger R542. -/
def LEDGER.RD_DATA1.DATA : Field := ⟨.ledger, 0x144, 0, 32, .ro, 0, false, 0, 4294967295⟩
/-- 14_faults_and_ledger R542. -/
def LEDGER.RD_DATA2.DATA : Field := ⟨.ledger, 0x148, 0, 32, .ro, 0, false, 0, 4294967295⟩
/-- 14_faults_and_ledger R542. -/
def LEDGER.RD_DATA3.DATA : Field := ⟨.ledger, 0x14c, 0, 32, .ro, 0, false, 0, 4294967295⟩
/-- 14_faults_and_ledger R542. -/
def LEDGER.RD_DATA4.DATA : Field := ⟨.ledger, 0x150, 0, 32, .ro, 0, false, 0, 4294967295⟩
/-- 14_faults_and_ledger R542. -/
def LEDGER.RD_DATA5.DATA : Field := ⟨.ledger, 0x154, 0, 32, .ro, 0, false, 0, 4294967295⟩
/-- 14_faults_and_ledger R542. -/
def LEDGER.RD_DATA6.DATA : Field := ⟨.ledger, 0x158, 0, 32, .ro, 0, false, 0, 4294967295⟩
/-- 14_faults_and_ledger R542. -/
def LEDGER.RD_DATA7.DATA : Field := ⟨.ledger, 0x15c, 0, 32, .ro, 0, false, 0, 4294967295⟩
/-- 14_faults_and_ledger R542. -/
def LEDGER.RD_DATA8.DATA : Field := ⟨.ledger, 0x160, 0, 32, .ro, 0, false, 0, 4294967295⟩
/-- 14_faults_and_ledger R542. -/
def LEDGER.RD_DATA9.DATA : Field := ⟨.ledger, 0x164, 0, 32, .ro, 0, false, 0, 4294967295⟩
/-- 14_faults_and_ledger R542. -/
def LEDGER.RD_DATA10.DATA : Field := ⟨.ledger, 0x168, 0, 32, .ro, 0, false, 0, 4294967295⟩
/-- 14_faults_and_ledger R542. -/
def LEDGER.RD_DATA11.DATA : Field := ⟨.ledger, 0x16c, 0, 32, .ro, 0, false, 0, 4294967295⟩
/-- 14_faults_and_ledger R542. -/
def LEDGER.RD_DATA12.DATA : Field := ⟨.ledger, 0x170, 0, 32, .ro, 0, false, 0, 4294967295⟩
/-- 14_faults_and_ledger R542. -/
def LEDGER.RD_DATA13.DATA : Field := ⟨.ledger, 0x174, 0, 32, .ro, 0, false, 0, 4294967295⟩
/-- 14_faults_and_ledger R542. -/
def LEDGER.RD_DATA14.DATA : Field := ⟨.ledger, 0x178, 0, 32, .ro, 0, false, 0, 4294967295⟩
/-- 14_faults_and_ledger R542. -/
def LEDGER.RD_DATA15.DATA : Field := ⟨.ledger, 0x17c, 0, 32, .ro, 0, false, 0, 4294967295⟩
/-- 14_faults_and_ledger R542. -/
def LEDGER.NOTE_CMD.APPEND : Field := ⟨.ledger, 0x180, 0, 1, .w1s, 0, false, 0, 1⟩
/-- 14_faults_and_ledger R542. -/
def LEDGER.NOTE_DATA0.DATA : Field := ⟨.ledger, 0x184, 0, 32, .rwl, 0, false, 0, 4294967295⟩
/-- 14_faults_and_ledger R542. -/
def LEDGER.NOTE_DATA1.DATA : Field := ⟨.ledger, 0x188, 0, 32, .rwl, 0, false, 0, 4294967295⟩
/-- 14_faults_and_ledger R542. -/
def LEDGER.NOTE_DATA2.DATA : Field := ⟨.ledger, 0x18c, 0, 32, .rwl, 0, false, 0, 4294967295⟩
/-- 14_faults_and_ledger R542. -/
def LEDGER.NOTE_DATA3.DATA : Field := ⟨.ledger, 0x190, 0, 32, .rwl, 0, false, 0, 4294967295⟩
/-- 14_faults_and_ledger R542. -/
def LEDGER.NOTE_DATA4.DATA : Field := ⟨.ledger, 0x194, 0, 32, .rwl, 0, false, 0, 4294967295⟩
/-- 14_faults_and_ledger R542. -/
def LEDGER.NOTE_DATA5.DATA : Field := ⟨.ledger, 0x198, 0, 32, .rwl, 0, false, 0, 4294967295⟩
/-- 14_faults_and_ledger R542. -/
def LEDGER.NOTE_DATA6.DATA : Field := ⟨.ledger, 0x19c, 0, 32, .rwl, 0, false, 0, 4294967295⟩
/-- 14_faults_and_ledger R542. -/
def LEDGER.NOTE_DATA7.DATA : Field := ⟨.ledger, 0x1a0, 0, 32, .rwl, 0, false, 0, 4294967295⟩
/-- 14_faults_and_ledger R542. -/
def LEDGER.NOTE_DATA8.DATA : Field := ⟨.ledger, 0x1a4, 0, 32, .rwl, 0, false, 0, 4294967295⟩
/-- 14_faults_and_ledger R542. -/
def LEDGER.NOTE_DATA9.DATA : Field := ⟨.ledger, 0x1a8, 0, 32, .rwl, 0, false, 0, 4294967295⟩
/-- 14_faults_and_ledger R542. -/
def LEDGER.RECORDS_LOST.COUNT : Field := ⟨.ledger, 0x1b0, 0, 32, .ro, 0, false, 0, 4294967295⟩
/-- 14_faults_and_ledger R542. -/
def LEDGER.NOTES_DROPPED.COUNT : Field := ⟨.ledger, 0x1b4, 0, 32, .ro, 0, false, 0, 4294967295⟩
/-- 14_faults_and_ledger R542. -/
def LEDGER.SECTORS_RETIRED.COUNT : Field := ⟨.ledger, 0x1b8, 0, 11, .ro, 0, true, 0, 2047⟩

/-! ### Page MGMT -/

/-- 14_faults_and_ledger R542. -/
def MGMT.MGMT_STAT.PAIR0_RUN : Field := ⟨.mgmt, 0x100, 0, 1, .ro, 1, false, 0, 1⟩
/-- 14_faults_and_ledger R542. -/
def MGMT.MGMT_STAT.PAIR1_RUN : Field := ⟨.mgmt, 0x100, 1, 1, .ro, 1, false, 0, 1⟩
/-- 14_faults_and_ledger R542. -/
def MGMT.MGMT_STAT.ACTIVE : Field := ⟨.mgmt, 0x100, 2, 1, .ro, 0, false, 0, 1⟩
/-- 14_faults_and_ledger R542. -/
def MGMT.WDOG.MS : Field := ⟨.mgmt, 0x104, 0, 10, .rwl, 100, false, 10, 1000⟩

/-! ### Page MINT -/

/-- 15_security R579. -/
def MINT.KEY_STAT.CUR_SLOT : Field := ⟨.mint, 0x100, 0, 1, .ro, 0, false, 0, 1⟩
/-- 15_security R579. -/
def MINT.KEY_STAT.OUT_OK : Field := ⟨.mint, 0x100, 1, 1, .ro, 0, false, 0, 1⟩
/-- 15_security R579. -/
def MINT.KEY_GEN.COUNT : Field := ⟨.mint, 0x104, 0, 32, .ro, 1, false, 0, 4294967295⟩
/-- 15_security R579. -/
def MINT.REKEY_CTL.MBPS : Field := ⟨.mint, 0x108, 0, 14, .rwl, 100, false, 10, 16000⟩
/-- 15_security R579. -/
def MINT.REKEY_CTL.CLASS : Field := ⟨.mint, 0x108, 16, 4, .rwl, 15, false, 0, 15⟩
/-- 15_security R579. -/
def MINT.REKEY_CMD.START : Field := ⟨.mint, 0x10c, 0, 1, .w1s, 0, false, 0, 1⟩
/-- 15_security R579. -/
def MINT.REKEY_CMD.BUSY : Field := ⟨.mint, 0x10c, 31, 1, .ro, 0, false, 0, 1⟩
/-- 15_security R579. -/
def MINT.REKEY_STAT.PHASE : Field := ⟨.mint, 0x110, 0, 2, .ro, 0, false, 0, 3⟩
/-- 15_security R579. -/
def MINT.REKEY_PTR_LO.PTR_LO : Field := ⟨.mint, 0x114, 0, 32, .ro, 0, false, 0, 4294967295⟩
/-- 15_security R579. -/
def MINT.REKEY_PTR_HI.PTR_HI : Field := ⟨.mint, 0x118, 0, 32, .ro, 0, false, 0, 4294967295⟩
/-- 15_security R579. -/
def MINT.REKEYS.COUNT : Field := ⟨.mint, 0x11c, 0, 32, .ro, 0, true, 0, 4294967295⟩
/-- 15_security R579. -/
def MINT.TRNG_FAILS.COUNT : Field := ⟨.mint, 0x120, 0, 32, .ro, 0, false, 0, 4294967295⟩

/-! ### Page FWSEC -/

/-- 15_security R580. -/
def FWSEC.FW_STAT.RUN_SLOT : Field := ⟨.fwsec, 0x100, 0, 1, .ro, 0, false, 0, 1⟩
/-- 15_security R580. -/
def FWSEC.FW_STAT.TRIAL : Field := ⟨.fwsec, 0x100, 1, 1, .ro, 0, false, 0, 1⟩
/-- 15_security R580. -/
def FWSEC.FW_STAT.FALLBACK : Field := ⟨.fwsec, 0x100, 2, 1, .ro, 0, false, 0, 1⟩
/-- 15_security R580. -/
def FWSEC.FW_STAT.OTHER_VALID : Field := ⟨.fwsec, 0x100, 3, 1, .ro, 0, false, 0, 1⟩
/-- 15_security R580. -/
def FWSEC.FW_STAT.NEXT_SLOT : Field := ⟨.fwsec, 0x100, 4, 1, .ro, 0, false, 0, 1⟩
/-- 15_security R580. -/
def FWSEC.FW_STAT.RUN_SEC_VER : Field := ⟨.fwsec, 0x100, 8, 8, .ro, 0, false, 0, 255⟩
/-- 15_security R580. -/
def FWSEC.FW_STAT.ARB_C : Field := ⟨.fwsec, 0x100, 16, 8, .ro, 0, false, 0, 255⟩
/-- 15_security R580. -/
def FWSEC.FW_STAT.FW_REVOKED : Field := ⟨.fwsec, 0x100, 24, 4, .ro, 0, false, 0, 15⟩
/-- 15_security R580. -/
def FWSEC.FW_STAT.DBG_REVOKED : Field := ⟨.fwsec, 0x100, 28, 4, .ro, 0, false, 0, 15⟩
/-- 15_security R580. -/
def FWSEC.FW_BUILD.BUILD : Field := ⟨.fwsec, 0x104, 0, 32, .ro, 0, false, 0, 4294967295⟩
/-- 15_security R580. -/
def FWSEC.FW_CMD.CONFIRM : Field := ⟨.fwsec, 0x108, 0, 1, .w1s, 0, false, 0, 1⟩
/-- 15_security R580. -/
def FWSEC.FW_CMD.COMMIT : Field := ⟨.fwsec, 0x108, 1, 1, .w1s, 0, false, 0, 1⟩
/-- 15_security R580. -/
def FWSEC.FW_CMD.RESULT : Field := ⟨.fwsec, 0x108, 16, 4, .ro, 0, false, 0, 15⟩
/-- 15_security R580. -/
def FWSEC.FW_CMD.BUSY : Field := ⟨.fwsec, 0x108, 31, 1, .ro, 0, false, 0, 1⟩
/-- 15_security R580. -/
def FWSEC.DBG_STAT.SCOPE : Field := ⟨.fwsec, 0x110, 0, 3, .ro, 0, false, 0, 7⟩
/-- 15_security R580. -/
def FWSEC.DBG_STAT.FAILS : Field := ⟨.fwsec, 0x110, 3, 4, .ro, 0, false, 0, 15⟩
/-- 15_security R580. -/
def FWSEC.DBG_STAT.LOCKOUT : Field := ⟨.fwsec, 0x110, 7, 1, .ro, 0, false, 0, 1⟩
/-- 15_security R580. -/
def FWSEC.DBG_STAT.NONCE_VALID : Field := ⟨.fwsec, 0x110, 8, 1, .ro, 0, false, 0, 1⟩
/-- 15_security R580. -/
def FWSEC.DBG_STAT.REASON : Field := ⟨.fwsec, 0x110, 12, 3, .ro, 0, false, 0, 7⟩
/-- 15_security R580. -/
def FWSEC.DBG_CMD.CHALLENGE : Field := ⟨.fwsec, 0x114, 0, 1, .w1s, 0, false, 0, 1⟩
/-- 15_security R580. -/
def FWSEC.DBG_CMD.SUBMIT : Field := ⟨.fwsec, 0x114, 1, 1, .w1s, 0, false, 0, 1⟩
/-- 15_security R580. -/
def FWSEC.DBG_CMD.RELOCK : Field := ⟨.fwsec, 0x114, 2, 1, .w1s, 0, false, 0, 1⟩
/-- 15_security R580. -/
def FWSEC.DBG_NONCE0.NONCE : Field := ⟨.fwsec, 0x120, 0, 32, .ro, 0, false, 0, 4294967295⟩
/-- 15_security R580. -/
def FWSEC.DBG_NONCE1.NONCE : Field := ⟨.fwsec, 0x124, 0, 32, .ro, 0, false, 0, 4294967295⟩
/-- 15_security R580. -/
def FWSEC.DBG_NONCE2.NONCE : Field := ⟨.fwsec, 0x128, 0, 32, .ro, 0, false, 0, 4294967295⟩
/-- 15_security R580. -/
def FWSEC.DBG_NONCE3.NONCE : Field := ⟨.fwsec, 0x12c, 0, 32, .ro, 0, false, 0, 4294967295⟩
/-- 15_security R580. -/
def FWSEC.TOKEN_BUF.DATA : Field := ⟨.fwsec, 0x200, 0, 32, .rw, 0, false, 0, 4294967295⟩

/-! ### Page SECALM -/

/-- 15_security R581. -/
def SECALM.ALM_MASTER.MASTER : Field := ⟨.secalm, 0x100, 0, 2, .ro, 0, false, 0, 3⟩
/-- 15_security R581. -/
def SECALM.ALM_MASTER.RANGE : Field := ⟨.secalm, 0x100, 4, 2, .ro, 0, false, 0, 3⟩
/-- 15_security R581. -/
def SECALM.ALM_ADDR_LO.ADDR_LO : Field := ⟨.secalm, 0x104, 0, 32, .ro, 0, false, 0, 4294967295⟩
/-- 15_security R581. -/
def SECALM.ALM_ADDR_HI.ADDR_HI : Field := ⟨.secalm, 0x108, 0, 32, .ro, 0, false, 0, 4294967295⟩
/-- 15_security R581. -/
def SECALM.ALM_COUNT.COUNT : Field := ⟨.secalm, 0x10c, 0, 32, .ro, 0, false, 0, 4294967295⟩

/-! ### Page PWR -/

/-- 16_power_clocks_ageing R605. -/
def PWR.THERM_STAT.TJ : Field := ⟨.pwr, 0x100, 0, 8, .ro, 0, false, 0, 255⟩
/-- 16_power_clocks_ageing R605. -/
def PWR.THERM_STAT.HOT_SENSOR : Field := ⟨.pwr, 0x100, 8, 5, .ro, 0, false, 0, 31⟩
/-- 16_power_clocks_ageing R605. -/
def PWR.THERM_STAT.THROTTLING : Field := ⟨.pwr, 0x100, 16, 1, .ro, 0, false, 0, 1⟩
/-- 16_power_clocks_ageing R605. -/
def PWR.TJ_PEAK.TJ : Field := ⟨.pwr, 0x104, 0, 8, .ro, 0, false, 0, 255⟩
/-- 16_power_clocks_ageing R605. -/
def PWR.SENSOR_SEL.SENSOR : Field := ⟨.pwr, 0x108, 0, 5, .rw, 0, false, 0, 31⟩
/-- 16_power_clocks_ageing R605. -/
def PWR.SENSOR_VAL.TEMP : Field := ⟨.pwr, 0x10c, 0, 8, .ro, 0, false, 0, 255⟩
/-- 16_power_clocks_ageing R605. -/
def PWR.SENSOR_VAL.EXCLUDED : Field := ⟨.pwr, 0x10c, 8, 1, .ro, 0, false, 0, 1⟩
/-- 16_power_clocks_ageing R605. -/
def PWR.DROOP_CTL.HOLD_MS : Field := ⟨.pwr, 0x110, 0, 10, .rwl, 1000, false, 10, 1000⟩
/-- 16_power_clocks_ageing R605. -/
def PWR.DIV_STAT.LEVELS : Field := ⟨.pwr, 0x114, 0, 30, .ro, 0, false, 0, 1073741823⟩
/-- 16_power_clocks_ageing R605. -/
def PWR.STRETCHES.COUNT : Field := ⟨.pwr, 0x118, 0, 32, .ro, 0, false, 0, 4294967295⟩
/-- 16_power_clocks_ageing R605. -/
def PWR.SAGS.COUNT : Field := ⟨.pwr, 0x11c, 0, 32, .ro, 0, false, 0, 4294967295⟩
/-- 16_power_clocks_ageing R605. -/
def PWR.REF_STAT.SIO_OK : Field := ⟨.pwr, 0x120, 0, 4, .ro, 0, false, 0, 15⟩
/-- 16_power_clocks_ageing R605. -/
def PWR.REF_STAT.HOST_OK : Field := ⟨.pwr, 0x120, 4, 1, .ro, 0, false, 0, 1⟩
/-- 16_power_clocks_ageing R605. -/
def PWR.REF_STAT.XTAL_OK : Field := ⟨.pwr, 0x120, 5, 1, .ro, 0, false, 0, 1⟩

/-! ### Page AGE -/

/-- 16_power_clocks_ageing R605. -/
def AGE.PLAN_CTL.PERIOD_D : Field := ⟨.age, 0x100, 0, 9, .rwl, 30, false, 1, 365⟩
/-- 16_power_clocks_ageing R605. -/
def AGE.PLAN_CTL.AUTO_APPLY : Field := ⟨.age, 0x100, 9, 1, .rwl, 1, false, 0, 1⟩
/-- 16_power_clocks_ageing R605. -/
def AGE.PLAN_CTL.REPLAN : Field := ⟨.age, 0x100, 10, 1, .w1s, 0, false, 0, 1⟩
/-- 16_power_clocks_ageing R605. -/
def AGE.PLAN_STAT.STATE : Field := ⟨.age, 0x104, 0, 2, .ro, 0, false, 0, 3⟩
/-- 16_power_clocks_ageing R605. -/
def AGE.PLAN_STAT.ITEMS_LEFT : Field := ⟨.age, 0x104, 4, 8, .ro, 0, false, 0, 255⟩
/-- 16_power_clocks_ageing R605. -/
def AGE.PLAN_STAT.NEEDS_HANDOVER : Field := ⟨.age, 0x104, 12, 1, .ro, 0, false, 0, 1⟩
/-- 16_power_clocks_ageing R605. -/
def AGE.LAST_PLAN_LO.TIME : Field := ⟨.age, 0x108, 0, 32, .ro, 0, true, 0, 4294967295⟩
/-- 16_power_clocks_ageing R605. -/
def AGE.LAST_PLAN_HI.TIME : Field := ⟨.age, 0x10c, 0, 32, .ro, 0, true, 0, 4294967295⟩
/-- 16_power_clocks_ageing R605. -/
def AGE.VCORE_OFS.STEPS : Field := ⟨.age, 0x110, 0, 4, .ro, 0, true, 0, 15⟩
/-- 16_power_clocks_ageing R605. -/
def AGE.RO_SEL.MONITOR : Field := ⟨.age, 0x114, 0, 6, .rw, 0, false, 0, 63⟩
/-- 16_power_clocks_ageing R605. -/
def AGE.RO_DEGR.DEGR : Field := ⟨.age, 0x118, 0, 16, .ro, 0, false, 0, 65535⟩
/-- 16_power_clocks_ageing R605. -/
def AGE.WORST.DEGR : Field := ⟨.age, 0x11c, 0, 16, .ro, 0, false, 0, 65535⟩
/-- 16_power_clocks_ageing R605. -/
def AGE.WORST.MONITOR : Field := ⟨.age, 0x11c, 16, 6, .ro, 0, false, 0, 63⟩

/-! ### Page CAL -/

/-- 16_power_clocks_ageing R605. -/
def CAL.CAL_STAT.USER : Field := ⟨.cal, 0x100, 0, 1, .ro, 0, true, 0, 1⟩
/-- 16_power_clocks_ageing R605. -/
def CAL.CAL_STAT.TORN : Field := ⟨.cal, 0x100, 8, 9, .ro, 0, false, 0, 511⟩
/-- 16_power_clocks_ageing R605. -/
def CAL.CAL_CMD.OPEN : Field := ⟨.cal, 0x104, 0, 1, .w1s, 0, false, 0, 1⟩
/-- 16_power_clocks_ageing R605. -/
def CAL.CAL_CMD.COMMIT : Field := ⟨.cal, 0x104, 1, 1, .w1s, 0, false, 0, 1⟩
/-- 16_power_clocks_ageing R605. -/
def CAL.CAL_CMD.ABORT : Field := ⟨.cal, 0x104, 2, 1, .w1s, 0, false, 0, 1⟩
/-- 16_power_clocks_ageing R605. -/
def CAL.CAL_CMD.RESULT : Field := ⟨.cal, 0x104, 16, 2, .ro, 0, false, 0, 3⟩
/-- 16_power_clocks_ageing R605. -/
def CAL.CAL_CMD.BUSY : Field := ⟨.cal, 0x104, 31, 1, .ro, 0, false, 0, 1⟩
/-- 16_power_clocks_ageing R605. -/
def CAL.CAL_OFS.OFS : Field := ⟨.cal, 0x108, 2, 18, .rw, 0, false, 0, 262143⟩
/-- 16_power_clocks_ageing R605. -/
def CAL.CAL_DATA.DATA : Field := ⟨.cal, 0x10c, 0, 32, .rw, 0, false, 0, 4294967295⟩

/-! ### Page HSW -/

/-- 17_board_power_and_reset R637. -/
def HSW.HSW_CFG.ILIM : Field := ⟨.hsw, 0x100, 0, 8, .rwl, 100, true, 20, 160⟩
/-- 17_board_power_and_reset R637. -/
def HSW.HSW_CFG.SHUNT : Field := ⟨.hsw, 0x100, 8, 8, .rwl, 10, true, 2, 80⟩
/-- 17_board_power_and_reset R637. -/
def HSW.HSW_CFG.SS_SLEW : Field := ⟨.hsw, 0x100, 16, 8, .rwl, 10, true, 1, 50⟩
/-- 17_board_power_and_reset R637. -/
def HSW.HSW_TIMER.FAULT_US : Field := ⟨.hsw, 0x104, 0, 15, .rwl, 4000, true, 500, 20000⟩
/-- 17_board_power_and_reset R637. -/
def HSW.HSW_WIN.UV_V : Field := ⟨.hsw, 0x108, 0, 8, .rwl, 38, true, 36, 50⟩
/-- 17_board_power_and_reset R637. -/
def HSW.HSW_WIN.OV_V : Field := ⟨.hsw, 0x108, 8, 8, .rwl, 62, true, 55, 65⟩
/-- 17_board_power_and_reset R637. -/
def HSW.FET_MODEL.RTH : Field := ⟨.hsw, 0x10c, 0, 8, .rwl, 25, true, 1, 255⟩
/-- 17_board_power_and_reset R637. -/
def HSW.FET_MODEL.TAU_MS : Field := ⟨.hsw, 0x10c, 8, 8, .rwl, 20, true, 1, 255⟩
/-- 17_board_power_and_reset R637. -/
def HSW.HSW_CTL.OFF : Field := ⟨.hsw, 0x110, 0, 1, .w1s, 0, false, 0, 1⟩
/-- 17_board_power_and_reset R637. -/
def HSW.HSW_CTL.ON : Field := ⟨.hsw, 0x110, 1, 1, .w1s, 0, false, 0, 1⟩
/-- 17_board_power_and_reset R637. -/
def HSW.HSW_STAT.STATE : Field := ⟨.hsw, 0x114, 0, 3, .ro, 0, false, 0, 7⟩
/-- 17_board_power_and_reset R637. -/
def HSW.HSW_STAT.PG : Field := ⟨.hsw, 0x114, 3, 1, .ro, 0, false, 0, 1⟩
/-- 17_board_power_and_reset R637. -/
def HSW.HSW_STAT.PRSNT : Field := ⟨.hsw, 0x114, 4, 1, .ro, 0, false, 0, 1⟩
/-- 17_board_power_and_reset R637. -/
def HSW.HSW_STAT.IN_LIMIT : Field := ⟨.hsw, 0x114, 5, 1, .ro, 0, false, 0, 1⟩
/-- 17_board_power_and_reset R637. -/
def HSW.HSW_STAT.TIMER_RUN : Field := ⟨.hsw, 0x114, 6, 1, .ro, 0, false, 0, 1⟩
/-- 17_board_power_and_reset R637. -/
def HSW.HSW_STAT.TRIP_COUNT : Field := ⟨.hsw, 0x114, 8, 3, .ro, 0, true, 0, 7⟩
/-- 17_board_power_and_reset R637. -/
def HSW.HSW_STAT.LAST_TRIP : Field := ⟨.hsw, 0x114, 12, 4, .ro, 0, true, 0, 15⟩
/-- 17_board_power_and_reset R637. -/
def HSW.HSW_STAT.RETRY_MS : Field := ⟨.hsw, 0x114, 16, 16, .ro, 0, false, 0, 65535⟩
/-- 17_board_power_and_reset R637. -/
def HSW.HSW_MEAS1.IOUT : Field := ⟨.hsw, 0x118, 0, 16, .ro, 0, false, 0, 65535⟩
/-- 17_board_power_and_reset R637. -/
def HSW.HSW_MEAS1.VOUT : Field := ⟨.hsw, 0x118, 16, 16, .ro, 0, false, 0, 65535⟩
/-- 17_board_power_and_reset R637. -/
def HSW.HSW_MEAS2.VIN : Field := ⟨.hsw, 0x11c, 0, 16, .ro, 0, false, 0, 65535⟩
/-- 17_board_power_and_reset R637. -/
def HSW.HSW_MEAS2.T_MEAS : Field := ⟨.hsw, 0x11c, 16, 8, .ro, 0, false, 0, 255⟩
/-- 17_board_power_and_reset R637. -/
def HSW.HSW_MEAS2.T_MODEL : Field := ⟨.hsw, 0x11c, 24, 8, .ro, 0, false, 0, 255⟩
/-- 17_board_power_and_reset R637. -/
def HSW.TRIPS.COUNT : Field := ⟨.hsw, 0x120, 0, 32, .ro, 0, true, 0, 4294967295⟩

/-! ### Page RST -/

/-- 17_board_power_and_reset R637. -/
def RST.RST_STAT.LAST_KIND : Field := ⟨.rst, 0x100, 0, 3, .ro, 0, false, 0, 7⟩
/-- 17_board_power_and_reset R637. -/
def RST.RST_STAT.LAST_CAUSE : Field := ⟨.rst, 0x100, 8, 8, .ro, 0, false, 0, 255⟩
/-- 17_board_power_and_reset R637. -/
def RST.DEV_CMD.RESET : Field := ⟨.rst, 0x104, 0, 1, .w1s, 0, false, 0, 1⟩
/-- 17_board_power_and_reset R637. -/
def RST.BLK_RESET.BLOCK : Field := ⟨.rst, 0x108, 0, 4, .rw, 0, false, 0, 15⟩
/-- 17_board_power_and_reset R637. -/
def RST.BLK_RESET.INSTANCE : Field := ⟨.rst, 0x108, 8, 6, .rw, 0, false, 0, 63⟩
/-- 17_board_power_and_reset R637. -/
def RST.BLK_RESET.GO : Field := ⟨.rst, 0x108, 31, 1, .w1s, 0, false, 0, 1⟩
/-- 17_board_power_and_reset R637. -/
def RST.BLK_STAT.RESULT : Field := ⟨.rst, 0x10c, 0, 2, .ro, 0, false, 0, 3⟩
/-- 17_board_power_and_reset R637. -/
def RST.BLK_STAT.BUSY : Field := ⟨.rst, 0x10c, 31, 1, .ro, 0, false, 0, 1⟩
/-- 17_board_power_and_reset R637. -/
def RST.COLD_STARTS.COUNT : Field := ⟨.rst, 0x110, 0, 32, .ro, 1, true, 0, 4294967295⟩
/-- 17_board_power_and_reset R637. -/
def RST.DEV_RESETS.COUNT : Field := ⟨.rst, 0x114, 0, 32, .ro, 0, true, 0, 4294967295⟩

/-! ### Page DMA -/

/-- 10_host_ports R387. -/
def DMA.Q_SEL.QUEUE : Field := ⟨.dma, 0x100, 0, 2, .rw, 0, false, 0, 3⟩
/-- 10_host_ports R387. -/
def DMA.Q_CTL.ENABLE : Field := ⟨.dma, 0x104, 0, 1, .rwl, 0, false, 0, 1⟩
/-- 10_host_ports R387. -/
def DMA.Q_CTL.ABORT : Field := ⟨.dma, 0x104, 1, 1, .w1s, 0, false, 0, 1⟩
/-- 10_host_ports R387. -/
def DMA.Q_CTL.LOC : Field := ⟨.dma, 0x104, 2, 1, .rwl, 0, false, 0, 1⟩
/-- 10_host_ports R387. -/
def DMA.Q_CTL.IRQ_EN : Field := ⟨.dma, 0x104, 3, 1, .rwl, 0, false, 0, 1⟩
/-- 10_host_ports R387. -/
def DMA.Q_CTL.PORT : Field := ⟨.dma, 0x104, 4, 2, .rwl, 0, false, 0, 3⟩
/-- 10_host_ports R387. -/
def DMA.Q_CTL.LINK : Field := ⟨.dma, 0x104, 6, 1, .rwl, 0, false, 0, 1⟩
/-- 10_host_ports R387. -/
def DMA.Q_CTL.BIND_VALID : Field := ⟨.dma, 0x104, 7, 1, .rwl, 0, false, 0, 1⟩
/-- 10_host_ports R387. -/
def DMA.Q_CTL.CLASS : Field := ⟨.dma, 0x104, 8, 4, .rwl, 15, false, 0, 15⟩
/-- 10_host_ports R387. -/
def DMA.Q_CTL.VECTOR : Field := ⟨.dma, 0x104, 16, 8, .rwl, 0, false, 0, 255⟩
/-- 10_host_ports R387. -/
def DMA.SQ_BASE_LO.BASE_LO : Field := ⟨.dma, 0x108, 12, 20, .rwl, 0, false, 0, 1048575⟩
/-- 10_host_ports R387. -/
def DMA.SQ_BASE_HI.BASE_HI : Field := ⟨.dma, 0x10c, 0, 32, .rwl, 0, false, 0, 4294967295⟩
/-- 10_host_ports R387. -/
def DMA.CQ_BASE_LO.BASE_LO : Field := ⟨.dma, 0x110, 12, 20, .rwl, 0, false, 0, 1048575⟩
/-- 10_host_ports R387. -/
def DMA.CQ_BASE_HI.BASE_HI : Field := ⟨.dma, 0x114, 0, 32, .rwl, 0, false, 0, 4294967295⟩
/-- 10_host_ports R387. -/
def DMA.Q_SIZE.SQ_LOG2 : Field := ⟨.dma, 0x118, 0, 4, .rwl, 6, false, 4, 12⟩
/-- 10_host_ports R387. -/
def DMA.Q_SIZE.CQ_LOG2 : Field := ⟨.dma, 0x118, 8, 4, .rwl, 6, false, 4, 12⟩
/-- 10_host_ports R387. -/
def DMA.Q_STAT.STATE : Field := ⟨.dma, 0x120, 0, 2, .ro, 0, false, 0, 3⟩
/-- 10_host_ports R387. -/
def DMA.Q_STAT.ABORTING : Field := ⟨.dma, 0x120, 2, 1, .ro, 0, false, 0, 1⟩
/-- 10_host_ports R387. -/
def DMA.Q_STAT.LAST_STATUS : Field := ⟨.dma, 0x120, 8, 8, .ro, 0, false, 0, 255⟩
/-- 10_host_ports R387. -/
def DMA.Q_STAT.SQ_HEAD : Field := ⟨.dma, 0x120, 16, 12, .ro, 0, false, 0, 4095⟩
/-- 10_host_ports R387. -/
def DMA.DESCS_DONE.COUNT : Field := ⟨.dma, 0x130, 0, 32, .ro, 0, false, 0, 4294967295⟩
/-- 10_host_ports R387. -/
def DMA.BYTES_LO.BYTES_LO : Field := ⟨.dma, 0x134, 0, 32, .ro, 0, false, 0, 4294967295⟩
/-- 10_host_ports R387. -/
def DMA.BYTES_HI.BYTES_HI : Field := ⟨.dma, 0x138, 0, 32, .ro, 0, false, 0, 4294967295⟩
/-- 10_host_ports R387. -/
def DMA.SQ_TAIL.TAIL : Field := ⟨.dma, 0x200, 0, 12, .rw, 0, false, 0, 4095⟩
/-- 10_host_ports R387. -/
def DMA.CQ_HEAD.HEAD : Field := ⟨.dma, 0x204, 0, 12, .rw, 0, false, 0, 4095⟩

/-! ### Page HOST -/

/-- 02_address_regions R62. -/
def HOST.HOST_ID_L0.HOST_ID : Field := ⟨.host, 0x100, 0, 5, .rwl, 0, false, 0, 31⟩
/-- 02_address_regions R62. -/
def HOST.HOST_ID_L0.VALID : Field := ⟨.host, 0x100, 31, 1, .rwl, 0, false, 0, 1⟩
/-- 02_address_regions R62. -/
def HOST.HOST_ID_L1.HOST_ID : Field := ⟨.host, 0x104, 0, 5, .rwl, 0, false, 0, 31⟩
/-- 02_address_regions R62. -/
def HOST.HOST_ID_L1.VALID : Field := ⟨.host, 0x104, 31, 1, .rwl, 0, false, 0, 1⟩
/-- 02_address_regions R62. -/
def HOST.WIN_CFG_L0.WIN_EN : Field := ⟨.host, 0x110, 0, 16, .rwl, 0, false, 0, 65535⟩
/-- 02_address_regions R62. -/
def HOST.WIN_CFG_L0.WIN_SIZE_LOG2 : Field := ⟨.host, 0x110, 16, 6, .rwl, 44, true, 36, 46⟩
/-- 02_address_regions R62. -/
def HOST.WIN_LBASE_L0.LBASE : Field := ⟨.host, 0x114, 0, 10, .rwl, 0, true, 0, 1023⟩
/-- 02_address_regions R62. -/
def HOST.WIN_CFG_L1.WIN_EN : Field := ⟨.host, 0x118, 0, 16, .rwl, 0, false, 0, 65535⟩
/-- 02_address_regions R62. -/
def HOST.WIN_CFG_L1.WIN_SIZE_LOG2 : Field := ⟨.host, 0x118, 16, 6, .rwl, 44, true, 36, 46⟩
/-- 02_address_regions R62. -/
def HOST.WIN_LBASE_L1.LBASE : Field := ⟨.host, 0x11c, 0, 10, .rwl, 0, true, 0, 1023⟩
/-- 10_host_ports R399. -/
def HOST.PORT_CFG.SPLIT : Field := ⟨.host, 0x120, 0, 1, .rwl, 0, true, 0, 1⟩
/-- 10_host_ports R399. -/
def HOST.PORT_CFG.MGMT_EN_L0 : Field := ⟨.host, 0x120, 1, 1, .rwl, 1, false, 0, 1⟩
/-- 10_host_ports R399. -/
def HOST.PORT_CFG.MGMT_EN_L1 : Field := ⟨.host, 0x120, 2, 1, .rwl, 1, false, 0, 1⟩
/-- 10_host_ports R399. -/
def HOST.PORT_CFG.MAX_RATE : Field := ⟨.host, 0x120, 4, 3, .rwl, 0, true, 0, 5⟩
/-- 10_host_ports R399. -/
def HOST.LSTAT_L0.STATE : Field := ⟨.host, 0x124, 0, 4, .ro, 0, false, 0, 15⟩
/-- 10_host_ports R399. -/
def HOST.LSTAT_L0.RATE : Field := ⟨.host, 0x124, 4, 3, .ro, 0, false, 0, 7⟩
/-- 10_host_ports R399. -/
def HOST.LSTAT_L0.WIDTH : Field := ⟨.host, 0x124, 8, 5, .ro, 0, false, 0, 31⟩
/-- 10_host_ports R399. -/
def HOST.LSTAT_L0.FLIT256 : Field := ⟨.host, 0x124, 13, 1, .ro, 0, false, 0, 1⟩
/-- 10_host_ports R399. -/
def HOST.LSTAT_L0.BME : Field := ⟨.host, 0x124, 14, 1, .ro, 0, false, 0, 1⟩
/-- 10_host_ports R399. -/
def HOST.LSTAT_L0.MEM_ACTIVE : Field := ⟨.host, 0x124, 15, 1, .ro, 0, false, 0, 1⟩
/-- 10_host_ports R399. -/
def HOST.LSTAT_L0.BI_EN : Field := ⟨.host, 0x124, 16, 1, .ro, 0, false, 0, 1⟩
/-- 10_host_ports R399. -/
def HOST.LSTAT_L0.DECODERS : Field := ⟨.host, 0x124, 24, 5, .ro, 0, false, 0, 31⟩
/-- 10_host_ports R399. -/
def HOST.LSTAT_L1.STATE : Field := ⟨.host, 0x128, 0, 4, .ro, 0, false, 0, 15⟩
/-- 10_host_ports R399. -/
def HOST.LSTAT_L1.RATE : Field := ⟨.host, 0x128, 4, 3, .ro, 0, false, 0, 7⟩
/-- 10_host_ports R399. -/
def HOST.LSTAT_L1.WIDTH : Field := ⟨.host, 0x128, 8, 5, .ro, 0, false, 0, 31⟩
/-- 10_host_ports R399. -/
def HOST.LSTAT_L1.FLIT256 : Field := ⟨.host, 0x128, 13, 1, .ro, 0, false, 0, 1⟩
/-- 10_host_ports R399. -/
def HOST.LSTAT_L1.BME : Field := ⟨.host, 0x128, 14, 1, .ro, 0, false, 0, 1⟩
/-- 10_host_ports R399. -/
def HOST.LSTAT_L1.MEM_ACTIVE : Field := ⟨.host, 0x128, 15, 1, .ro, 0, false, 0, 1⟩
/-- 10_host_ports R399. -/
def HOST.LSTAT_L1.BI_EN : Field := ⟨.host, 0x128, 16, 1, .ro, 0, false, 0, 1⟩
/-- 10_host_ports R399. -/
def HOST.LSTAT_L1.DECODERS : Field := ⟨.host, 0x128, 24, 5, .ro, 0, false, 0, 31⟩
/-- 10_host_ports R399. -/
def HOST.CONTAIN_L0.CONTAIN : Field := ⟨.host, 0x130, 0, 1, .w1s, 0, false, 0, 1⟩
/-- 10_host_ports R399. -/
def HOST.CONTAIN_L0.RELEASE : Field := ⟨.host, 0x130, 1, 1, .w1s, 0, false, 0, 1⟩
/-- 10_host_ports R399. -/
def HOST.CONTAIN_L0.CONTAINED : Field := ⟨.host, 0x130, 2, 1, .ro, 0, false, 0, 1⟩
/-- 10_host_ports R399. -/
def HOST.CONTAIN_L0.SWEEP_PEND : Field := ⟨.host, 0x130, 3, 1, .ro, 0, false, 0, 1⟩
/-- 10_host_ports R399. -/
def HOST.CONTAIN_L0.CAUSE : Field := ⟨.host, 0x130, 8, 4, .ro, 0, false, 0, 15⟩
/-- 10_host_ports R399. -/
def HOST.CONTAIN_L1.CONTAIN : Field := ⟨.host, 0x134, 0, 1, .w1s, 0, false, 0, 1⟩
/-- 10_host_ports R399. -/
def HOST.CONTAIN_L1.RELEASE : Field := ⟨.host, 0x134, 1, 1, .w1s, 0, false, 0, 1⟩
/-- 10_host_ports R399. -/
def HOST.CONTAIN_L1.CONTAINED : Field := ⟨.host, 0x134, 2, 1, .ro, 0, false, 0, 1⟩
/-- 10_host_ports R399. -/
def HOST.CONTAIN_L1.SWEEP_PEND : Field := ⟨.host, 0x134, 3, 1, .ro, 0, false, 0, 1⟩
/-- 10_host_ports R399. -/
def HOST.CONTAIN_L1.CAUSE : Field := ⟨.host, 0x134, 8, 4, .ro, 0, false, 0, 15⟩
/-- 10_host_ports R399. -/
def HOST.IRQ_CFG_L0.VECTOR : Field := ⟨.host, 0x140, 0, 8, .rwl, 0, false, 0, 255⟩
/-- 10_host_ports R399. -/
def HOST.IRQ_CFG_L0.EN : Field := ⟨.host, 0x140, 8, 1, .rwl, 0, false, 0, 1⟩
/-- 10_host_ports R399. -/
def HOST.IRQ_CFG_L1.VECTOR : Field := ⟨.host, 0x144, 0, 8, .rwl, 0, false, 0, 255⟩
/-- 10_host_ports R399. -/
def HOST.IRQ_CFG_L1.EN : Field := ⟨.host, 0x144, 8, 1, .rwl, 0, false, 0, 1⟩
/-- 10_host_ports R399. -/
def HOST.OUTB_L0.OPEN_TAGS : Field := ⟨.host, 0x150, 0, 11, .ro, 0, false, 0, 2047⟩
/-- 10_host_ports R399. -/
def HOST.OUTB_L0.TAG_GEN : Field := ⟨.host, 0x150, 16, 1, .ro, 0, false, 0, 1⟩
/-- 10_host_ports R399. -/
def HOST.OUTB_L0.DRAINING : Field := ⟨.host, 0x150, 17, 1, .ro, 0, false, 0, 1⟩
/-- 10_host_ports R399. -/
def HOST.OUTB_L1.OPEN_TAGS : Field := ⟨.host, 0x154, 0, 11, .ro, 0, false, 0, 2047⟩
/-- 10_host_ports R399. -/
def HOST.OUTB_L1.TAG_GEN : Field := ⟨.host, 0x154, 16, 1, .ro, 0, false, 0, 1⟩
/-- 10_host_ports R399. -/
def HOST.OUTB_L1.DRAINING : Field := ⟨.host, 0x154, 17, 1, .ro, 0, false, 0, 1⟩
/-- 10_host_ports R399. -/
def HOST.LATE_CPL_L0.COUNT : Field := ⟨.host, 0x160, 0, 32, .ro, 0, false, 0, 4294967295⟩
/-- 10_host_ports R399. -/
def HOST.LATE_CPL_L1.COUNT : Field := ⟨.host, 0x164, 0, 32, .ro, 0, false, 0, 4294967295⟩
/-- 10_host_ports R399. -/
def HOST.CPL_TIMEOUTS_L0.COUNT : Field := ⟨.host, 0x168, 0, 32, .ro, 0, false, 0, 4294967295⟩
/-- 10_host_ports R399. -/
def HOST.CPL_TIMEOUTS_L1.COUNT : Field := ⟨.host, 0x16c, 0, 32, .ro, 0, false, 0, 4294967295⟩
/-- 10_host_ports R399. -/
def HOST.PROTO_ERRS_L0.COUNT : Field := ⟨.host, 0x170, 0, 32, .ro, 0, false, 0, 4294967295⟩
/-- 10_host_ports R399. -/
def HOST.PROTO_ERRS_L1.COUNT : Field := ⟨.host, 0x174, 0, 32, .ro, 0, false, 0, 4294967295⟩

/-! ### Page PEER -/

/-- 06_ronlink R248. -/
def PEER.LINK_CTL.RATE : Field := ⟨.peer, 0x100, 0, 1, .ro, 0, false, 0, 1⟩
/-- 06_ronlink R247. -/
def PEER.LINK_CTL.RETRAIN : Field := ⟨.peer, 0x100, 1, 1, .w1s, 0, false, 0, 1⟩
/-- 06_ronlink R248. -/
def PEER.LINK_CTL.SLEEP_EN : Field := ⟨.peer, 0x100, 2, 1, .ro, 0, false, 0, 1⟩
/-- 06_ronlink R247. -/
def PEER.LINK_CTL.FORCE_NEW : Field := ⟨.peer, 0x100, 3, 1, .w1s, 0, false, 0, 1⟩
/-- 06_ronlink R248. -/
def PEER.LINK_CTL.TX_PRESET : Field := ⟨.peer, 0x100, 8, 4, .rwl, 7, false, 0, 15⟩
/-- 06_ronlink R247. -/
def PEER.LINK_STAT.STATE : Field := ⟨.peer, 0x104, 0, 4, .ro, 0, false, 0, 15⟩
/-- 06_ronlink R247. -/
def PEER.LINK_STAT.GRACE_RUN : Field := ⟨.peer, 0x104, 4, 1, .ro, 0, false, 0, 1⟩
/-- 06_ronlink R247. -/
def PEER.LINK_STAT.EPOCH : Field := ⟨.peer, 0x104, 8, 8, .ro, 0, false, 0, 255⟩
/-- 06_ronlink R247. -/
def PEER.LINK_STAT.LAST_ACKED : Field := ⟨.peer, 0x104, 16, 12, .ro, 4095, false, 0, 4095⟩
/-- 06_ronlink R247. -/
def PEER.LINK_STAT.DOWN_CAUSE : Field := ⟨.peer, 0x104, 28, 4, .ro, 0, false, 0, 15⟩
/-- 06_ronlink R247. -/
def PEER.SEQ_STAT.TX_NEXT : Field := ⟨.peer, 0x108, 0, 12, .ro, 0, false, 0, 4095⟩
/-- 06_ronlink R247. -/
def PEER.SEQ_STAT.RX_NEXT : Field := ⟨.peer, 0x108, 16, 12, .ro, 0, false, 0, 4095⟩
/-- 06_ronlink R247. -/
def PEER.LINK_GRACE.US : Field := ⟨.peer, 0x10c, 0, 17, .rwl, 2000, false, 100, 100000⟩
/-- 06_ronlink R248. -/
def PEER.LINK_REPLAY.TIMEOUT_NS : Field := ⟨.peer, 0x110, 0, 16, .rwl, 500, false, 200, 8000⟩
/-- 06_ronlink R247. -/
def PEER.LINK_REPLAY.LIMIT : Field := ⟨.peer, 0x110, 16, 3, .rwl, 4, false, 1, 7⟩
/-- 06_ronlink R247. -/
def PEER.LINK_TRAIN.TIMEOUT_MS : Field := ⟨.peer, 0x114, 0, 6, .rwl, 4, false, 1, 63⟩
/-- 06_ronlink R248. -/
def PEER.CREDIT_ADV.ADV : Field := ⟨.peer, 0x118, 0, 32, .ro, 0, false, 0, 4294967295⟩
/-- 06_ronlink R247. -/
def PEER.CREDIT_AVAIL.AVAIL : Field := ⟨.peer, 0x11c, 0, 32, .ro, 0, false, 0, 4294967295⟩
/-- 06_ronlink R247. -/
def PEER.CRC_ERRS.COUNT : Field := ⟨.peer, 0x120, 0, 32, .ro, 0, false, 0, 4294967295⟩
/-- 06_ronlink R247. -/
def PEER.NAKS_RCVD.COUNT : Field := ⟨.peer, 0x124, 0, 32, .ro, 0, false, 0, 4294967295⟩
/-- 06_ronlink R247. -/
def PEER.REPLAYS.COUNT : Field := ⟨.peer, 0x128, 0, 32, .ro, 0, false, 0, 4294967295⟩
/-- 06_ronlink R247. -/
def PEER.LINK_DOWNS.COUNT : Field := ⟨.peer, 0x12c, 0, 32, .ro, 0, false, 0, 4294967295⟩
/-- 06_ronlink R247. -/
def PEER.TRAIN_FAILS.COUNT : Field := ⟨.peer, 0x130, 0, 32, .ro, 0, false, 0, 4294967295⟩
/-- 06_ronlink R248. -/
def PEER.FEC_CORR.COUNT : Field := ⟨.peer, 0x134, 0, 32, .ro, 0, false, 0, 4294967295⟩
/-- 06_ronlink R248. -/
def PEER.FEC_UNCORR.COUNT : Field := ⟨.peer, 0x138, 0, 32, .ro, 0, false, 0, 4294967295⟩
/-- 06_ronlink R248. -/
def PEER.WIDTH_STAT.WIDTH : Field := ⟨.peer, 0x13c, 0, 5, .ro, 0, false, 0, 31⟩
/-- 06_ronlink R248. -/
def PEER.WIDTH_STAT.LANES : Field := ⟨.peer, 0x13c, 16, 16, .ro, 0, false, 0, 65535⟩
/-- 06_ronlink R248. -/
def PEER.SKIP_ADJ.COUNT : Field := ⟨.peer, 0x140, 0, 32, .ro, 0, false, 0, 4294967295⟩

/-! ### Page DDRCH -/

/-- 12_memory_integrity R459. -/
def DDRCH.ERR_INJ.POS : Field := ⟨.ddrch, 0x20, 0, 4, .rwl, 0, false, 0, 9⟩
/-- 12_memory_integrity R459. -/
def DDRCH.ERR_INJ.CW_MASK : Field := ⟨.ddrch, 0x20, 4, 4, .rwl, 0, false, 0, 15⟩
/-- 12_memory_integrity R459. -/
def DDRCH.ERR_INJ.VALUE : Field := ⟨.ddrch, 0x20, 8, 16, .rwl, 0, false, 0, 65535⟩
/-- 12_memory_integrity R459. -/
def DDRCH.ERR_INJ.SUB : Field := ⟨.ddrch, 0x20, 24, 1, .rwl, 0, false, 0, 1⟩
/-- 12_memory_integrity R459. -/
def DDRCH.ERR_INJ.ARM : Field := ⟨.ddrch, 0x20, 25, 1, .rwl, 0, false, 0, 1⟩
/-- 11_memory_channels R432. -/
def DDRCH.CH_CFG.MAX_RATE : Field := ⟨.ddrch, 0x100, 0, 3, .rwl, 0, true, 0, 5⟩
/-- 11_memory_channels R432. -/
def DDRCH.CH_CFG.SR_EN : Field := ⟨.ddrch, 0x100, 3, 1, .rwl, 1, false, 0, 1⟩
/-- 11_memory_channels R432. -/
def DDRCH.CH_CFG.SR_IDLE_US : Field := ⟨.ddrch, 0x100, 4, 14, .rwl, 50, false, 1, 10000⟩
/-- 11_memory_channels R432. -/
def DDRCH.CH_CFG.SR_DEFER_MS : Field := ⟨.ddrch, 0x100, 18, 10, .rwl, 100, false, 1, 1000⟩
/-- 11_memory_channels R432. -/
def DDRCH.CH_CTL.RETRAIN : Field := ⟨.ddrch, 0x104, 0, 1, .w1s, 0, false, 0, 1⟩
/-- 11_memory_channels R432. -/
def DDRCH.CH_CTL.MODE_OVR : Field := ⟨.ddrch, 0x104, 1, 1, .rwl, 0, false, 0, 1⟩
/-- 11_memory_channels R432. -/
def DDRCH.CH_STAT.STATE : Field := ⟨.ddrch, 0x108, 0, 3, .ro, 0, false, 0, 7⟩
/-- 11_memory_channels R432. -/
def DDRCH.CH_STAT.MODE : Field := ⟨.ddrch, 0x108, 3, 1, .ro, 1, false, 0, 1⟩
/-- 11_memory_channels R432. -/
def DDRCH.CH_STAT.RATE : Field := ⟨.ddrch, 0x108, 4, 3, .ro, 0, false, 0, 7⟩
/-- 11_memory_channels R432. -/
def DDRCH.CH_STAT.FAST_TRAIN : Field := ⟨.ddrch, 0x108, 7, 1, .ro, 0, false, 0, 1⟩
/-- 11_memory_channels R432. -/
def DDRCH.CH_STAT.RECPIN : Field := ⟨.ddrch, 0x108, 8, 8, .ro, 0, false, 0, 255⟩
/-- 11_memory_channels R432. -/
def DDRCH.GEOM.DIMMS : Field := ⟨.ddrch, 0x10c, 0, 1, .ro, 0, false, 0, 1⟩
/-- 11_memory_channels R432. -/
def DDRCH.GEOM.X8 : Field := ⟨.ddrch, 0x10c, 1, 1, .ro, 0, false, 0, 1⟩
/-- 11_memory_channels R432. -/
def DDRCH.GEOM.RANK_BIT : Field := ⟨.ddrch, 0x10c, 2, 1, .ro, 0, false, 0, 1⟩
/-- 11_memory_channels R432. -/
def DDRCH.GEOM.CID_BITS : Field := ⟨.ddrch, 0x10c, 4, 2, .ro, 0, false, 0, 3⟩
/-- 11_memory_channels R432. -/
def DDRCH.GEOM.ROW_BITS : Field := ⟨.ddrch, 0x10c, 8, 5, .ro, 0, false, 0, 31⟩
/-- 11_memory_channels R432. -/
def DDRCH.GEOM.TA_BITS : Field := ⟨.ddrch, 0x10c, 16, 5, .ro, 0, false, 0, 31⟩
/-- 11_memory_channels R432. -/
def DDRCH.WDRAIN.HIGH : Field := ⟨.ddrch, 0x110, 0, 7, .rwl, 48, false, 16, 64⟩
/-- 11_memory_channels R432. -/
def DDRCH.WDRAIN.LOW : Field := ⟨.ddrch, 0x110, 8, 7, .rwl, 16, false, 0, 48⟩
/-- 11_memory_channels R432. -/
def DDRCH.OPEN_IDLE.NS : Field := ⟨.ddrch, 0x114, 0, 8, .rwl, 10, false, 1, 255⟩
/-- 11_memory_channels R432. -/
def DDRCH.READS.COUNT : Field := ⟨.ddrch, 0x120, 0, 32, .ro, 0, false, 0, 4294967295⟩
/-- 11_memory_channels R432. -/
def DDRCH.WRITES.COUNT : Field := ⟨.ddrch, 0x124, 0, 32, .ro, 0, false, 0, 4294967295⟩
/-- 11_memory_channels R432. -/
def DDRCH.FWD_HITS.COUNT : Field := ⟨.ddrch, 0x128, 0, 32, .ro, 0, false, 0, 4294967295⟩
/-- 11_memory_channels R432. -/
def DDRCH.CA_PARITY_ERRS.COUNT : Field := ⟨.ddrch, 0x12c, 0, 32, .ro, 0, false, 0, 4294967295⟩
/-- 11_memory_channels R432. -/
def DDRCH.WCRC_ERRS.COUNT : Field := ⟨.ddrch, 0x130, 0, 32, .ro, 0, false, 0, 4294967295⟩
/-- 11_memory_channels R432. -/
def DDRCH.RETRAINS.COUNT : Field := ⟨.ddrch, 0x134, 0, 32, .ro, 0, false, 0, 4294967295⟩
/-- 11_memory_channels R432. -/
def DDRCH.SR_ENTRIES.COUNT : Field := ⟨.ddrch, 0x138, 0, 32, .ro, 0, false, 0, 4294967295⟩
/-- 11_memory_channels R432. -/
def DDRCH.TWIN_FETCHES.COUNT : Field := ⟨.ddrch, 0x13c, 0, 32, .ro, 0, false, 0, 4294967295⟩
/-- 11_memory_channels R432. -/
def DDRCH.RFM_CMDS.COUNT : Field := ⟨.ddrch, 0x140, 0, 32, .ro, 0, false, 0, 4294967295⟩

/-! ### Page BWIN -/

/-- 05_batches R193. -/
def BWIN.WIN_BIND.LINK : Field := ⟨.bwin, 0x100, 0, 1, .rwl, 0, false, 0, 1⟩
/-- 05_batches R193. -/
def BWIN.WIN_BIND.PORT : Field := ⟨.bwin, 0x100, 1, 2, .rwl, 0, false, 0, 3⟩
/-- 05_batches R193. -/
def BWIN.WIN_BIND.VALID : Field := ⟨.bwin, 0x100, 31, 1, .rwl, 0, false, 0, 1⟩
/-- 05_batches R193. -/
def BWIN.WIN_CLASS.CLASS : Field := ⟨.bwin, 0x104, 0, 4, .rwl, 0, false, 0, 15⟩
/-- 05_batches R193. -/
def BWIN.WIN_CLASS.IRQ_EN : Field := ⟨.bwin, 0x104, 8, 1, .rwl, 0, false, 0, 1⟩
/-- 05_batches R193. -/
def BWIN.WIN_CLASS.VECTOR : Field := ⟨.bwin, 0x104, 16, 8, .rwl, 0, false, 0, 255⟩
/-- 05_batches R193. -/
def BWIN.WIN_BASE_LO.QLA_LO : Field := ⟨.bwin, 0x108, 12, 20, .rw, 0, false, 0, 1048575⟩
/-- 05_batches R193. -/
def BWIN.WIN_BASE_HI.QLA_HI : Field := ⟨.bwin, 0x10c, 0, 14, .rw, 0, false, 0, 16383⟩
/-- 05_batches R193. -/
def BWIN.WIN_CMD.COMMIT : Field := ⟨.bwin, 0x110, 0, 1, .w1s, 0, false, 0, 1⟩
/-- 05_batches R193. -/
def BWIN.WIN_CMD.ABORT : Field := ⟨.bwin, 0x110, 1, 1, .w1s, 0, false, 0, 1⟩
/-- 05_batches R193. -/
def BWIN.WIN_STATUS.STATE : Field := ⟨.bwin, 0x114, 0, 3, .ro, 0, false, 0, 7⟩
/-- 05_batches R193. -/
def BWIN.WIN_STATUS.CAUSE : Field := ⟨.bwin, 0x114, 4, 3, .ro, 0, false, 0, 7⟩
/-- 05_batches R193. -/
def BWIN.WIN_STATUS.LINES : Field := ⟨.bwin, 0x114, 8, 7, .ro, 0, false, 0, 127⟩
/-- 05_batches R193. -/
def BWIN.WIN_STATUS.BSEQ : Field := ⟨.bwin, 0x114, 16, 16, .ro, 0, false, 0, 65535⟩
/-- 05_batches R193. -/
def BWIN.WIN_LAST.OUTCOME : Field := ⟨.bwin, 0x118, 0, 2, .ro, 0, false, 0, 3⟩
/-- 05_batches R193. -/
def BWIN.WIN_LAST.CAUSE : Field := ⟨.bwin, 0x118, 4, 3, .ro, 0, false, 0, 7⟩
/-- 05_batches R193. -/
def BWIN.WIN_LAST.BSEQ : Field := ⟨.bwin, 0x118, 16, 16, .ro, 0, false, 0, 65535⟩

/-! ### Page SITE -/

/-- 06_ronlink R247. -/
def SITE.LINK_CTL.RATE : Field := ⟨.site, 0x100, 0, 1, .rwl, 0, false, 0, 1⟩
/-- 06_ronlink R247. -/
def SITE.LINK_CTL.RETRAIN : Field := ⟨.site, 0x100, 1, 1, .w1s, 0, false, 0, 1⟩
/-- 06_ronlink R247. -/
def SITE.LINK_CTL.SLEEP_EN : Field := ⟨.site, 0x100, 2, 1, .rwl, 1, false, 0, 1⟩
/-- 06_ronlink R247. -/
def SITE.LINK_CTL.FORCE_NEW : Field := ⟨.site, 0x100, 3, 1, .w1s, 0, false, 0, 1⟩
/-- 06_ronlink R247. -/
def SITE.LINK_CTL.TX_PRESET : Field := ⟨.site, 0x100, 8, 3, .rwl, 4, false, 0, 7⟩
/-- 06_ronlink R247. -/
def SITE.LINK_STAT.STATE : Field := ⟨.site, 0x104, 0, 4, .ro, 0, false, 0, 15⟩
/-- 06_ronlink R247. -/
def SITE.LINK_STAT.GRACE_RUN : Field := ⟨.site, 0x104, 4, 1, .ro, 0, false, 0, 1⟩
/-- 06_ronlink R247. -/
def SITE.LINK_STAT.EPOCH : Field := ⟨.site, 0x104, 8, 8, .ro, 0, false, 0, 255⟩
/-- 06_ronlink R247. -/
def SITE.LINK_STAT.LAST_ACKED : Field := ⟨.site, 0x104, 16, 12, .ro, 4095, false, 0, 4095⟩
/-- 06_ronlink R247. -/
def SITE.LINK_STAT.DOWN_CAUSE : Field := ⟨.site, 0x104, 28, 4, .ro, 0, false, 0, 15⟩
/-- 06_ronlink R247. -/
def SITE.SEQ_STAT.TX_NEXT : Field := ⟨.site, 0x108, 0, 12, .ro, 0, false, 0, 4095⟩
/-- 06_ronlink R247. -/
def SITE.SEQ_STAT.RX_NEXT : Field := ⟨.site, 0x108, 16, 12, .ro, 0, false, 0, 4095⟩
/-- 06_ronlink R247. -/
def SITE.LINK_GRACE.US : Field := ⟨.site, 0x10c, 0, 17, .rwl, 2000, false, 100, 100000⟩
/-- 06_ronlink R247. -/
def SITE.LINK_REPLAY.TIMEOUT_NS : Field := ⟨.site, 0x110, 0, 16, .rwl, 2000, false, 500, 64000⟩
/-- 06_ronlink R247. -/
def SITE.LINK_REPLAY.LIMIT : Field := ⟨.site, 0x110, 16, 3, .rwl, 4, false, 1, 7⟩
/-- 06_ronlink R247. -/
def SITE.LINK_TRAIN.TIMEOUT_MS : Field := ⟨.site, 0x114, 0, 6, .rwl, 4, false, 1, 63⟩
/-- 06_ronlink R247. -/
def SITE.CREDIT_ADV.ADV : Field := ⟨.site, 0x118, 0, 32, .ro, 0, false, 0, 4294967295⟩
/-- 06_ronlink R247. -/
def SITE.CREDIT_AVAIL.AVAIL : Field := ⟨.site, 0x11c, 0, 32, .ro, 0, false, 0, 4294967295⟩
/-- 06_ronlink R247. -/
def SITE.CRC_ERRS.COUNT : Field := ⟨.site, 0x120, 0, 32, .ro, 0, false, 0, 4294967295⟩
/-- 06_ronlink R247. -/
def SITE.NAKS_RCVD.COUNT : Field := ⟨.site, 0x124, 0, 32, .ro, 0, false, 0, 4294967295⟩
/-- 06_ronlink R247. -/
def SITE.REPLAYS.COUNT : Field := ⟨.site, 0x128, 0, 32, .ro, 0, false, 0, 4294967295⟩
/-- 06_ronlink R247. -/
def SITE.LINK_DOWNS.COUNT : Field := ⟨.site, 0x12c, 0, 32, .ro, 0, false, 0, 4294967295⟩
/-- 06_ronlink R247. -/
def SITE.TRAIN_FAILS.COUNT : Field := ⟨.site, 0x130, 0, 32, .ro, 0, false, 0, 4294967295⟩
/-- 06_ronlink R247. -/
def SITE.HDR_ERRS.COUNT : Field := ⟨.site, 0x134, 0, 32, .ro, 0, false, 0, 4294967295⟩
/-- 02_address_regions R64. -/
def SITE.SITE_CLASS.CLASS : Field := ⟨.site, 0x140, 0, 4, .rwl, 0, false, 0, 15⟩
/-- 02_address_regions R64. -/
def SITE.SITE_CLASS.PENDING : Field := ⟨.site, 0x140, 31, 1, .ro, 0, false, 0, 1⟩
/-- 07_site_traffic R283. -/
def SITE.SITE_DUT.DUT : Field := ⟨.site, 0x144, 0, 10, .rwl, 0, false, 0, 1023⟩
/-- 07_site_traffic R283. -/
def SITE.SITE_DUT.VALID : Field := ⟨.site, 0x144, 31, 1, .rwl, 0, false, 0, 1⟩
/-- 07_site_traffic R283. -/
def SITE.SITE_HOMING.DUAL : Field := ⟨.site, 0x148, 0, 1, .rwl, 0, false, 0, 1⟩
/-- 07_site_traffic R283. -/
def SITE.REQ_STAT.OUTSTANDING : Field := ⟨.site, 0x14c, 0, 7, .ro, 0, false, 0, 127⟩
/-- 07_site_traffic R283. -/
def SITE.REQ_STAT.SLOT_STATE : Field := ⟨.site, 0x14c, 8, 2, .ro, 0, false, 0, 3⟩
/-- 07_site_traffic R283. -/
def SITE.REQ_STAT.SLOT_CAUSE : Field := ⟨.site, 0x14c, 10, 3, .ro, 0, false, 0, 7⟩
/-- 07_site_traffic R283. -/
def SITE.REQ_STAT.SLOT_BSEQ : Field := ⟨.site, 0x14c, 16, 16, .ro, 0, false, 0, 65535⟩
/-- 07_site_traffic R283. -/
def SITE.RSP_LATE.COUNT : Field := ⟨.site, 0x150, 0, 32, .ro, 0, false, 0, 4294967295⟩
/-- 07_site_traffic R283. -/
def SITE.RSP_ACCESS.COUNT : Field := ⟨.site, 0x154, 0, 32, .ro, 0, false, 0, 4294967295⟩
/-- 07_site_traffic R283. -/
def SITE.RSP_CAPACITY.COUNT : Field := ⟨.site, 0x158, 0, 32, .ro, 0, false, 0, 4294967295⟩
/-- 07_site_traffic R283. -/
def SITE.RSP_POISON.COUNT : Field := ⟨.site, 0x15c, 0, 32, .ro, 0, false, 0, 4294967295⟩
/-- 07_site_traffic R283. -/
def SITE.RSP_DISCARDED.COUNT : Field := ⟨.site, 0x160, 0, 32, .ro, 0, false, 0, 4294967295⟩

/-! ### Host-link registers by link (the L1 copies of R57, R399) -/

def HOST.HOST_ID.HOST_ID (l : Nat) : Field := if l = 0 then HOST.HOST_ID_L0.HOST_ID else HOST.HOST_ID_L1.HOST_ID
def HOST.HOST_ID.VALID (l : Nat) : Field := if l = 0 then HOST.HOST_ID_L0.VALID else HOST.HOST_ID_L1.VALID
def HOST.WIN_CFG.WIN_EN (l : Nat) : Field := if l = 0 then HOST.WIN_CFG_L0.WIN_EN else HOST.WIN_CFG_L1.WIN_EN
def HOST.WIN_CFG.WIN_SIZE_LOG2 (l : Nat) : Field := if l = 0 then HOST.WIN_CFG_L0.WIN_SIZE_LOG2 else HOST.WIN_CFG_L1.WIN_SIZE_LOG2
def HOST.WIN_LBASE.LBASE (l : Nat) : Field := if l = 0 then HOST.WIN_LBASE_L0.LBASE else HOST.WIN_LBASE_L1.LBASE
def HOST.LSTAT.STATE (l : Nat) : Field := if l = 0 then HOST.LSTAT_L0.STATE else HOST.LSTAT_L1.STATE
def HOST.LSTAT.RATE (l : Nat) : Field := if l = 0 then HOST.LSTAT_L0.RATE else HOST.LSTAT_L1.RATE
def HOST.LSTAT.WIDTH (l : Nat) : Field := if l = 0 then HOST.LSTAT_L0.WIDTH else HOST.LSTAT_L1.WIDTH
def HOST.LSTAT.FLIT256 (l : Nat) : Field := if l = 0 then HOST.LSTAT_L0.FLIT256 else HOST.LSTAT_L1.FLIT256
def HOST.LSTAT.BME (l : Nat) : Field := if l = 0 then HOST.LSTAT_L0.BME else HOST.LSTAT_L1.BME
def HOST.LSTAT.MEM_ACTIVE (l : Nat) : Field := if l = 0 then HOST.LSTAT_L0.MEM_ACTIVE else HOST.LSTAT_L1.MEM_ACTIVE
def HOST.LSTAT.BI_EN (l : Nat) : Field := if l = 0 then HOST.LSTAT_L0.BI_EN else HOST.LSTAT_L1.BI_EN
def HOST.LSTAT.DECODERS (l : Nat) : Field := if l = 0 then HOST.LSTAT_L0.DECODERS else HOST.LSTAT_L1.DECODERS
def HOST.CONTAIN.CONTAIN (l : Nat) : Field := if l = 0 then HOST.CONTAIN_L0.CONTAIN else HOST.CONTAIN_L1.CONTAIN
def HOST.CONTAIN.RELEASE (l : Nat) : Field := if l = 0 then HOST.CONTAIN_L0.RELEASE else HOST.CONTAIN_L1.RELEASE
def HOST.CONTAIN.CONTAINED (l : Nat) : Field := if l = 0 then HOST.CONTAIN_L0.CONTAINED else HOST.CONTAIN_L1.CONTAINED
def HOST.CONTAIN.SWEEP_PEND (l : Nat) : Field := if l = 0 then HOST.CONTAIN_L0.SWEEP_PEND else HOST.CONTAIN_L1.SWEEP_PEND
def HOST.CONTAIN.CAUSE (l : Nat) : Field := if l = 0 then HOST.CONTAIN_L0.CAUSE else HOST.CONTAIN_L1.CAUSE
def HOST.IRQ_CFG.VECTOR (l : Nat) : Field := if l = 0 then HOST.IRQ_CFG_L0.VECTOR else HOST.IRQ_CFG_L1.VECTOR
def HOST.IRQ_CFG.EN (l : Nat) : Field := if l = 0 then HOST.IRQ_CFG_L0.EN else HOST.IRQ_CFG_L1.EN
def HOST.OUTB.OPEN_TAGS (l : Nat) : Field := if l = 0 then HOST.OUTB_L0.OPEN_TAGS else HOST.OUTB_L1.OPEN_TAGS
def HOST.OUTB.TAG_GEN (l : Nat) : Field := if l = 0 then HOST.OUTB_L0.TAG_GEN else HOST.OUTB_L1.TAG_GEN
def HOST.OUTB.DRAINING (l : Nat) : Field := if l = 0 then HOST.OUTB_L0.DRAINING else HOST.OUTB_L1.DRAINING
def HOST.LATE_CPL.COUNT (l : Nat) : Field := if l = 0 then HOST.LATE_CPL_L0.COUNT else HOST.LATE_CPL_L1.COUNT
def HOST.CPL_TIMEOUTS.COUNT (l : Nat) : Field := if l = 0 then HOST.CPL_TIMEOUTS_L0.COUNT else HOST.CPL_TIMEOUTS_L1.COUNT
def HOST.PROTO_ERRS.COUNT (l : Nat) : Field := if l = 0 then HOST.PROTO_ERRS_L0.COUNT else HOST.PROTO_ERRS_L1.COUNT

/-- The fields of each page type. -/
def Page.fields : Page → List Field
  | .dev =>
    [DEV.DEV_ID.VENDOR, DEV.DEV_ID.DEVICE, DEV.DEV_REV.STEPPING, DEV.DEV_REV.GRADE_H, DEV.UID0.UID, DEV.UID1.UID, DEV.UID2.UID, DEV.UID3.UID, DEV.TIME_LO.TIME, DEV.TIME_HI.TIME, DEV.UPTIME_LO.US, DEV.UPTIME_HI.US, DEV.SVC_STAT.STATE, DEV.SVC_STAT.QID, DEV.SVC_STAT.SIDE, DEV.SVC_STAT.MEMBERS, DEV.SVC_STAT.FT_PEND, DEV.LOCK_ALL.ALL, DEV.LOCK_ALL.DONE]
  | .fc =>
    [FC.FC_SUM0.SRC_0_31, FC.FC_SUM1.SRC_32_63, FC.FC_SUM2.SRC_64_95, FC.FC_SUM3.SRC_96_111, FC.FC_CTL.ESC_MS, FC.FC_CTL.IRQ_CE, FC.FC_CTL.IRQ_UC, FC.ERRL_CFG.CE, FC.ERRL_CFG.UC, FC.ERRL_CFG.FT, FC.ERRL_CFG.FORCED, FC.FT_STAT.PEND, FC.FT_STAT.ACK, FC.FT_STAT.ESCALATED, FC.FT_STAT.SOURCE, FC.SRC_SEL.SOURCE, FC.SRC_STAT.CLASS, FC.SRC_STAT.TIMER_RUN, FC.SRC_STAT.REMAIN_US, FC.CE_COUNT.COUNT] ++
    [FC.UC_COUNT.COUNT, FC.FT_COUNT.COUNT, FC.ESCALATIONS.COUNT, FC.FC_TEST.CLASS, FC.FC_TEST.RAISE]
  | .evtsum =>
    [EVTSUM.EVT_SUM0.SRC_0_31, EVTSUM.EVT_SUM1.SRC_32_63, EVTSUM.EVT_SUM2.SRC_64_95, EVTSUM.EVT_SUM3.SRC_96_111, EVTSUM.ACC_SUM0.SRC_0_31, EVTSUM.ACC_SUM1.SRC_32_63, EVTSUM.ACC_SUM2.SRC_64_95, EVTSUM.ACC_SUM3.SRC_96_111]
  | .region =>
    [REGION.SPACE_CFG.LOGICAL_TIB, REGION.SPACE_CFG.MEMBERS, REGION.SPACE_CFG.QID, REGION.SPACE_CFG.PAIR_SIDE, REGION.SPACE_PEND.LOGICAL_TIB_NEXT, REGION.SPACE_PEND.MEMBERS_NEXT, REGION.RGN_BASE.BASE_GIB, REGION.RGN_SIZE.SIZE_GIB, REGION.RGN_ATTR.LEAD, REGION.RGN_ATTR.CAP, REGION.RGN_ATTR.TIER, REGION.RGN_ATTR.POP, REGION.RGN_ATTR.HOST_ACC, REGION.RGN_ATTR.SITE_ACC, REGION.RGN_HOSTMASK.HOST_MASK, REGION.RGN_SGMASK_LO.SG_MASK_LO, REGION.RGN_SGMASK_HI.SG_MASK_HI, REGION.RGN_CMD.OP, REGION.RGN_CMD.RID, REGION.RGN_STATUS.RESULT] ++
    [REGION.RGN_STATUS.RID, REGION.RGN_STATUS.BUSY, REGION.RGN_COUNT.COUNT]
  | .tier =>
    [TIER.T0_ALLOC.CLASS_ALLOC, TIER.POOL_LO.POOL_LO, TIER.POOL_HI.POOL_HI, TIER.GRES_LO.GRES_LO, TIER.GRES_HI.GRES_HI, TIER.ECHG_LO.ECHG_LO, TIER.ECHG_HI.ECHG_HI, TIER.ECAP_LO.ECAP_LO, TIER.ECAP_HI.ECAP_HI, TIER.CAP_STAT.EL_LOW, TIER.CAP_STAT.EL_EXHAUSTED, TIER.CAP_STAT.EL_DEFICIT, TIER.CAP_STAT.BIN_FULL, TIER.CAP_STAT.ENGINES_IN_SERVICE, TIER.CAP_REFUSED.COUNT, TIER.ENGINE_FENCE.FENCED, TIER.AUDIT_CMD.START, TIER.AUDIT_CMD.BUSY, TIER.AUDIT_FREED.COUNT, TIER.USAGE_RID.RID] ++
    [TIER.USAGE_LO.USAGE_LO, TIER.USAGE_HI.USAGE_HI]
  | .baker =>
    [BAKER.BAKER_CTL.RUN, BAKER.BAKER_CTL.CLASS, BAKER.BUDGET.GBPS, BAKER.SWEEP.PERIOD_S, BAKER.WATERMARK.HIGH_PCT, BAKER.WATERMARK.LOW_PCT, BAKER.BAKES.COUNT, BAKER.PROMOTES.COUNT, BAKER.CANCELS.COUNT, BAKER.VERIFY_FAILS.COUNT]
  | .coh =>
    [COH.BI_TIMEOUT.US, COH.DIR_CTL.EVICT_AHEAD, COH.DIR_CTL.SWEEP_CLASS, COH.QUERY_LLA_LO.LLA_LO, COH.QUERY_LLA_HI.LLA_HI, COH.QUERY_CMD.START, COH.QUERY_CMD.FOUND, COH.QUERY_CMD.SET_OVF, COH.QUERY_CMD.LOGGED, COH.QUERY_ENTRY_LO.ENTRY_LO, COH.QUERY_ENTRY_HI.ENTRY_HI, COH.BI_SENT.COUNT, COH.BI_BROADCASTS.COUNT, COH.BI_TIMEOUTS.COUNT, COH.DIR_EVICTIONS.COUNT, COH.STRAY_WB.COUNT, COH.UNCACHED_GRANTS.COUNT, COH.ALIAS_INVALS.COUNT, COH.OVF_STAT.OVF_SETS, COH.OVF_LOG.USED] ++
    [COH.PTL_POISON_DROPS.COUNT]
  | .batch =>
    [BATCH.BATCH_CTL.TIMEOUT_US, BATCH.SHADOW_FREE.COUNT, BATCH.OPEN_SLOTS.COUNT, BATCH.COMMITS.COUNT, BATCH.ABORTS_EXPLICIT.COUNT, BATCH.ABORTS_CONFLICT.COUNT, BATCH.ABORTS_CAPACITY.COUNT, BATCH.ABORTS_TIMEOUT.COUNT, BATCH.ABORTS_RESET.COUNT, BATCH.ABORTS_TWIN_LOSS.COUNT, BATCH.OUTCOME_QUERY.SLOT, BATCH.OUTCOME_QUERY.ARR, BATCH.OUTCOME_QUERY.START, BATCH.OUTCOME_RESULT.OUTCOME, BATCH.OUTCOME_RESULT.CAUSE, BATCH.OUTCOME_RESULT.BSEQ]
  | .mcast =>
    [MCAST.GRP_SEL.GROUP, MCAST.GRP_CTL.ENABLE, MCAST.GRP_CTL.CLASS, MCAST.GRP_CTL.PREFETCH, MCAST.GRP_CTL.BUSY, MCAST.GRP_BASE_LO.QLA_LO, MCAST.GRP_BASE_HI.QLA_HI, MCAST.GRP_LEN.BLOCKS, MCAST.GRP_STAT.MEMBERS, MCAST.GRP_WIN.LOW, MCAST.GRP_FILLS.COUNT, MCAST.GRP_HITS.COUNT, MCAST.GRP_BEHIND.COUNT, MCAST.GRP_DROPS.COUNT]
  | .fail =>
    [FAIL.CMD.OP, FAIL.CMD.ID, FAIL.CMD_STAT.RESULT, FAIL.CMD_STAT.ID, FAIL.CMD_STAT.BUSY, FAIL.FAIL_CTL.SVC_CLASS, FAIL.GEO_A.DIES_M1, FAIL.GEO_A.BANKS_M1, FAIL.GEO_A.BLOCKS_M1, FAIL.GEO_B.ROWS_M1, FAIL.GEO_B.SROWS, FAIL.GEO_C.COLS_M1, FAIL.GEO_C.SCOLS, FAIL.GEO_BMAP_KIB.KIB, FAIL.GEO_TALLY_KIB.KIB, FAIL.DUT_GEO.GEO, FAIL.DUT_GEO.BOUND, FAIL.DUT_BMAP_LO.QLA_LO, FAIL.DUT_BMAP_HI.QLA_HI, FAIL.DUT_TALLY_LO.QLA_LO] ++
    [FAIL.DUT_TALLY_HI.QLA_HI, FAIL.REC_NEW.COUNT, FAIL.REC_SAME.COUNT, FAIL.REC_REFUSED.COUNT, FAIL.REBUILDS.COUNT]
  | .assay =>
    [ASSAY.Q_SEL.QUEUE, ASSAY.Q_CTL.ENABLE, ASSAY.Q_CTL.ABORT, ASSAY.Q_CTL.LOC, ASSAY.Q_CTL.IRQ_EN, ASSAY.Q_CTL.PORT, ASSAY.Q_CTL.LINK, ASSAY.Q_CTL.BIND_VALID, ASSAY.Q_CTL.CLASS, ASSAY.Q_CTL.VECTOR, ASSAY.SQ_BASE_LO.BASE_LO, ASSAY.SQ_BASE_HI.BASE_HI, ASSAY.CQ_BASE_LO.BASE_LO, ASSAY.CQ_BASE_HI.BASE_HI, ASSAY.Q_SIZE.SQ_LOG2, ASSAY.Q_SIZE.CQ_LOG2, ASSAY.Q_BOUND.NODES, ASSAY.Q_STAT.STATE, ASSAY.Q_STAT.ABORTING, ASSAY.Q_STAT.RUNNING] ++
    [ASSAY.Q_STAT.LAST_STATUS, ASSAY.Q_STAT.SQ_HEAD, ASSAY.JOBS_DONE.COUNT, ASSAY.BLOCKS_DONE.COUNT, ASSAY.NODES_USED.COUNT, ASSAY.SQ_TAIL.TAIL, ASSAY.CQ_HEAD.HEAD]
  | .qos =>
    [QOS.ADMIT_CTL.FRACTION_PCT, QOS.ADMIT_CTL.COVER_TWIN, QOS.ADMIT_CTL.AUTO_RESTORE, QOS.SCHED_CTL.URGENT_NS, QOS.ADMIT_CMD.APPLY, QOS.ADMIT_CMD.REVERT, QOS.ADMIT_CMD.BUSY, QOS.ADMIT_STAT.RESULT, QOS.ADMIT_STAT.DIRTY, QOS.ADMIT_STAT.SITE, QOS.DELIV_DRAM.RATE, QOS.DELIV_TWIN.RATE, QOS.DELIV_T0.RATE, QOS.CHAN_INSVC.CHANNELS, QOS.YIELD_LO.POS0_7, QOS.YIELD_HI.POS8_15, QOS.DEMOTED.CLASSES, QOS.LEVEL_STAT.LEVELS, QOS.CLS_G_DEQ.RATE, QOS.CLS_G_TWIN.RATE] ++
    [QOS.CLS_G_T0.RATE, QOS.CLS_G_SITE.MBPS, QOS.CLS_WEIGHT.WEIGHT, QOS.CLS_STAT.DEMOTED, QOS.BYTES_LO.BYTES_LO, QOS.BYTES_HI.BYTES_HI, QOS.DEQ_LO.DEQ_LO, QOS.DEQ_HI.DEQ_HI, QOS.T0B_LO.T0B_LO, QOS.T0B_HI.T0B_HI, QOS.TWB_LO.TWB_LO, QOS.TWB_HI.TWB_HI, QOS.HELD.COUNT, QOS.URGENT.COUNT]
  | .integ =>
    [INTEG.SCRUB_CTL.EN, INTEG.SCRUB_CTL.TIB_PER_DAY, INTEG.SCRUB_CTL.CLASS, INTEG.SCRUB_POS.LPN, INTEG.SCRUB_PASSES.COUNT, INTEG.PROOF_CTL.EN, INTEG.PROOF_CTL.HOLD_MS, INTEG.PROOF_CTL.REARM_S, INTEG.PROOF_CTL.WINDOW_D, INTEG.PROOF_STAT.BUSY, INTEG.PROOF_STAT.QUEUED, INTEG.RETIRE_ADDR_A.CH, INTEG.RETIRE_ADDR_A.SUB, INTEG.RETIRE_ADDR_A.DIMM, INTEG.RETIRE_ADDR_A.RANK, INTEG.RETIRE_ADDR_A.CID, INTEG.RETIRE_ADDR_A.BG, INTEG.RETIRE_ADDR_A.BANK, INTEG.RETIRE_ADDR_B.ROW, INTEG.RETIRE_CMD.OP] ++
    [INTEG.RETIRE_CMD.BUSY, INTEG.RETIRE_STAT.RESULT, INTEG.RETIRED.ROWS, INTEG.RETIRED.BANKS, INTEG.LAST_LOC_A.LOC, INTEG.LAST_LOC_B.ROW, INTEG.LAST_LOC_B.BURST, INTEG.LAST_SYN.POS, INTEG.LAST_SYN.OUTCOME, INTEG.MEM_CES.COUNT, INTEG.MEM_RECOVERIES.COUNT, INTEG.MEM_UNCORRS.COUNT, INTEG.T0_CES.COUNT, INTEG.T0_UNCORRS.COUNT, INTEG.T0_FENCED.FRAMES, INTEG.PROOF_TESTS.COUNT, INTEG.PROOF_SKIPPED.COUNT, INTEG.VERDICTS.COUNTS]
  | .twin =>
    [TWIN.TWIN_CTL.WITHDRAW, TWIN.TWIN_CTL.RETAKE, TWIN.TWIN_CTL.AUTO_RETAKE, TWIN.TWIN_CTL.SOLO_WAIT_MS, TWIN.PAIR_STAT.STATE, TWIN.PAIR_STAT.TWIN_STATE, TWIN.PAIR_STAT.HB_IN, TWIN.PAIR_STAT.P3_UP, TWIN.PAIR_STAT.P4_UP, TWIN.PAIR_STAT.STEWARDED, TWIN.PAIR_STAT.STEWARD, TWIN.PAIR_STAT.MGMT_LOST, TWIN.PAIR_STAT.MESH_UP, TWIN.PAIR_STAT.LEADS, TWIN.PAIR_STAT.LAST_CAUSE, TWIN.RESYNC_CTL.PCT, TWIN.RESYNC_CTL.CLASS, TWIN.RESYNC_STAT.RUN, TWIN.RESYNC_STAT.SOURCE, TWIN.RESYNC_POS.LPN] ++
    [TWIN.RESYNC_GIB.GIB, TWIN.HANDOVER_CTL.BATCH_WAIT_US, TWIN.HANDOVER_CTL.HOLD, TWIN.HB_CTL.TIMEOUT_US, TWIN.TIME_LO.TIME_LO, TWIN.TIME_HI.TIME_HI, TWIN.TIME_STAT.LOCKED, TWIN.TIME_STAT.MASTER, TWIN.TIME_STAT.OFFSET_NS, TWIN.TWIN_ID_LO.ID_LO, TWIN.TWIN_ID_HI.ID_HI, TWIN.WITHDRAWALS.COUNT, TWIN.RESYNCS_DONE.COUNT, TWIN.RESYNCS_RESTARTED.COUNT, TWIN.FAILOVERS.COUNT, TWIN.REFORWARDS.COUNT, TWIN.CSIGNS.COUNT]
  | .ledger =>
    [LEDGER.LDG_STAT.WORN, LEDGER.LDG_STAT.SEALED, LEDGER.LDG_STAT.SPARES_LEFT, LEDGER.LDG_STAT.ACTIVE, LEDGER.LDG_CTL.COALESCE_MS, LEDGER.HEAD_LO.HEAD, LEDGER.HEAD_HI.HEAD, LEDGER.OLDEST_LO.OLDEST, LEDGER.OLDEST_HI.OLDEST, LEDGER.RD_SEQ_LO.SEQ, LEDGER.RD_SEQ_HI.SEQ, LEDGER.RD_CMD.START, LEDGER.RD_CMD.LAST_WORDS, LEDGER.RD_CMD.INDEX, LEDGER.RD_CMD.RESULT, LEDGER.RD_CMD.BUSY, LEDGER.RD_DATA0.DATA, LEDGER.RD_DATA1.DATA, LEDGER.RD_DATA2.DATA, LEDGER.RD_DATA3.DATA] ++
    [LEDGER.RD_DATA4.DATA, LEDGER.RD_DATA5.DATA, LEDGER.RD_DATA6.DATA, LEDGER.RD_DATA7.DATA, LEDGER.RD_DATA8.DATA, LEDGER.RD_DATA9.DATA, LEDGER.RD_DATA10.DATA, LEDGER.RD_DATA11.DATA, LEDGER.RD_DATA12.DATA, LEDGER.RD_DATA13.DATA, LEDGER.RD_DATA14.DATA, LEDGER.RD_DATA15.DATA, LEDGER.NOTE_CMD.APPEND, LEDGER.NOTE_DATA0.DATA, LEDGER.NOTE_DATA1.DATA, LEDGER.NOTE_DATA2.DATA, LEDGER.NOTE_DATA3.DATA, LEDGER.NOTE_DATA4.DATA, LEDGER.NOTE_DATA5.DATA, LEDGER.NOTE_DATA6.DATA] ++
    [LEDGER.NOTE_DATA7.DATA, LEDGER.NOTE_DATA8.DATA, LEDGER.NOTE_DATA9.DATA, LEDGER.RECORDS_LOST.COUNT, LEDGER.NOTES_DROPPED.COUNT, LEDGER.SECTORS_RETIRED.COUNT]
  | .mgmt =>
    [MGMT.MGMT_STAT.PAIR0_RUN, MGMT.MGMT_STAT.PAIR1_RUN, MGMT.MGMT_STAT.ACTIVE, MGMT.WDOG.MS]
  | .mint =>
    [MINT.KEY_STAT.CUR_SLOT, MINT.KEY_STAT.OUT_OK, MINT.KEY_GEN.COUNT, MINT.REKEY_CTL.MBPS, MINT.REKEY_CTL.CLASS, MINT.REKEY_CMD.START, MINT.REKEY_CMD.BUSY, MINT.REKEY_STAT.PHASE, MINT.REKEY_PTR_LO.PTR_LO, MINT.REKEY_PTR_HI.PTR_HI, MINT.REKEYS.COUNT, MINT.TRNG_FAILS.COUNT]
  | .fwsec =>
    [FWSEC.FW_STAT.RUN_SLOT, FWSEC.FW_STAT.TRIAL, FWSEC.FW_STAT.FALLBACK, FWSEC.FW_STAT.OTHER_VALID, FWSEC.FW_STAT.NEXT_SLOT, FWSEC.FW_STAT.RUN_SEC_VER, FWSEC.FW_STAT.ARB_C, FWSEC.FW_STAT.FW_REVOKED, FWSEC.FW_STAT.DBG_REVOKED, FWSEC.FW_BUILD.BUILD, FWSEC.FW_CMD.CONFIRM, FWSEC.FW_CMD.COMMIT, FWSEC.FW_CMD.RESULT, FWSEC.FW_CMD.BUSY, FWSEC.DBG_STAT.SCOPE, FWSEC.DBG_STAT.FAILS, FWSEC.DBG_STAT.LOCKOUT, FWSEC.DBG_STAT.NONCE_VALID, FWSEC.DBG_STAT.REASON, FWSEC.DBG_CMD.CHALLENGE] ++
    [FWSEC.DBG_CMD.SUBMIT, FWSEC.DBG_CMD.RELOCK, FWSEC.DBG_NONCE0.NONCE, FWSEC.DBG_NONCE1.NONCE, FWSEC.DBG_NONCE2.NONCE, FWSEC.DBG_NONCE3.NONCE, FWSEC.TOKEN_BUF.DATA]
  | .secalm =>
    [SECALM.ALM_MASTER.MASTER, SECALM.ALM_MASTER.RANGE, SECALM.ALM_ADDR_LO.ADDR_LO, SECALM.ALM_ADDR_HI.ADDR_HI, SECALM.ALM_COUNT.COUNT]
  | .pwr =>
    [PWR.THERM_STAT.TJ, PWR.THERM_STAT.HOT_SENSOR, PWR.THERM_STAT.THROTTLING, PWR.TJ_PEAK.TJ, PWR.SENSOR_SEL.SENSOR, PWR.SENSOR_VAL.TEMP, PWR.SENSOR_VAL.EXCLUDED, PWR.DROOP_CTL.HOLD_MS, PWR.DIV_STAT.LEVELS, PWR.STRETCHES.COUNT, PWR.SAGS.COUNT, PWR.REF_STAT.SIO_OK, PWR.REF_STAT.HOST_OK, PWR.REF_STAT.XTAL_OK]
  | .age =>
    [AGE.PLAN_CTL.PERIOD_D, AGE.PLAN_CTL.AUTO_APPLY, AGE.PLAN_CTL.REPLAN, AGE.PLAN_STAT.STATE, AGE.PLAN_STAT.ITEMS_LEFT, AGE.PLAN_STAT.NEEDS_HANDOVER, AGE.LAST_PLAN_LO.TIME, AGE.LAST_PLAN_HI.TIME, AGE.VCORE_OFS.STEPS, AGE.RO_SEL.MONITOR, AGE.RO_DEGR.DEGR, AGE.WORST.DEGR, AGE.WORST.MONITOR]
  | .cal =>
    [CAL.CAL_STAT.USER, CAL.CAL_STAT.TORN, CAL.CAL_CMD.OPEN, CAL.CAL_CMD.COMMIT, CAL.CAL_CMD.ABORT, CAL.CAL_CMD.RESULT, CAL.CAL_CMD.BUSY, CAL.CAL_OFS.OFS, CAL.CAL_DATA.DATA]
  | .hsw =>
    [HSW.HSW_CFG.ILIM, HSW.HSW_CFG.SHUNT, HSW.HSW_CFG.SS_SLEW, HSW.HSW_TIMER.FAULT_US, HSW.HSW_WIN.UV_V, HSW.HSW_WIN.OV_V, HSW.FET_MODEL.RTH, HSW.FET_MODEL.TAU_MS, HSW.HSW_CTL.OFF, HSW.HSW_CTL.ON, HSW.HSW_STAT.STATE, HSW.HSW_STAT.PG, HSW.HSW_STAT.PRSNT, HSW.HSW_STAT.IN_LIMIT, HSW.HSW_STAT.TIMER_RUN, HSW.HSW_STAT.TRIP_COUNT, HSW.HSW_STAT.LAST_TRIP, HSW.HSW_STAT.RETRY_MS, HSW.HSW_MEAS1.IOUT, HSW.HSW_MEAS1.VOUT] ++
    [HSW.HSW_MEAS2.VIN, HSW.HSW_MEAS2.T_MEAS, HSW.HSW_MEAS2.T_MODEL, HSW.TRIPS.COUNT]
  | .rst =>
    [RST.RST_STAT.LAST_KIND, RST.RST_STAT.LAST_CAUSE, RST.DEV_CMD.RESET, RST.BLK_RESET.BLOCK, RST.BLK_RESET.INSTANCE, RST.BLK_RESET.GO, RST.BLK_STAT.RESULT, RST.BLK_STAT.BUSY, RST.COLD_STARTS.COUNT, RST.DEV_RESETS.COUNT]
  | .dma =>
    [DMA.Q_SEL.QUEUE, DMA.Q_CTL.ENABLE, DMA.Q_CTL.ABORT, DMA.Q_CTL.LOC, DMA.Q_CTL.IRQ_EN, DMA.Q_CTL.PORT, DMA.Q_CTL.LINK, DMA.Q_CTL.BIND_VALID, DMA.Q_CTL.CLASS, DMA.Q_CTL.VECTOR, DMA.SQ_BASE_LO.BASE_LO, DMA.SQ_BASE_HI.BASE_HI, DMA.CQ_BASE_LO.BASE_LO, DMA.CQ_BASE_HI.BASE_HI, DMA.Q_SIZE.SQ_LOG2, DMA.Q_SIZE.CQ_LOG2, DMA.Q_STAT.STATE, DMA.Q_STAT.ABORTING, DMA.Q_STAT.LAST_STATUS, DMA.Q_STAT.SQ_HEAD] ++
    [DMA.DESCS_DONE.COUNT, DMA.BYTES_LO.BYTES_LO, DMA.BYTES_HI.BYTES_HI, DMA.SQ_TAIL.TAIL, DMA.CQ_HEAD.HEAD]
  | .host =>
    [HOST.HOST_ID_L0.HOST_ID, HOST.HOST_ID_L0.VALID, HOST.HOST_ID_L1.HOST_ID, HOST.HOST_ID_L1.VALID, HOST.WIN_CFG_L0.WIN_EN, HOST.WIN_CFG_L0.WIN_SIZE_LOG2, HOST.WIN_LBASE_L0.LBASE, HOST.WIN_CFG_L1.WIN_EN, HOST.WIN_CFG_L1.WIN_SIZE_LOG2, HOST.WIN_LBASE_L1.LBASE, HOST.PORT_CFG.SPLIT, HOST.PORT_CFG.MGMT_EN_L0, HOST.PORT_CFG.MGMT_EN_L1, HOST.PORT_CFG.MAX_RATE, HOST.LSTAT_L0.STATE, HOST.LSTAT_L0.RATE, HOST.LSTAT_L0.WIDTH, HOST.LSTAT_L0.FLIT256, HOST.LSTAT_L0.BME, HOST.LSTAT_L0.MEM_ACTIVE] ++
    [HOST.LSTAT_L0.BI_EN, HOST.LSTAT_L0.DECODERS, HOST.LSTAT_L1.STATE, HOST.LSTAT_L1.RATE, HOST.LSTAT_L1.WIDTH, HOST.LSTAT_L1.FLIT256, HOST.LSTAT_L1.BME, HOST.LSTAT_L1.MEM_ACTIVE, HOST.LSTAT_L1.BI_EN, HOST.LSTAT_L1.DECODERS, HOST.CONTAIN_L0.CONTAIN, HOST.CONTAIN_L0.RELEASE, HOST.CONTAIN_L0.CONTAINED, HOST.CONTAIN_L0.SWEEP_PEND, HOST.CONTAIN_L0.CAUSE, HOST.CONTAIN_L1.CONTAIN, HOST.CONTAIN_L1.RELEASE, HOST.CONTAIN_L1.CONTAINED, HOST.CONTAIN_L1.SWEEP_PEND, HOST.CONTAIN_L1.CAUSE] ++
    [HOST.IRQ_CFG_L0.VECTOR, HOST.IRQ_CFG_L0.EN, HOST.IRQ_CFG_L1.VECTOR, HOST.IRQ_CFG_L1.EN, HOST.OUTB_L0.OPEN_TAGS, HOST.OUTB_L0.TAG_GEN, HOST.OUTB_L0.DRAINING, HOST.OUTB_L1.OPEN_TAGS, HOST.OUTB_L1.TAG_GEN, HOST.OUTB_L1.DRAINING, HOST.LATE_CPL_L0.COUNT, HOST.LATE_CPL_L1.COUNT, HOST.CPL_TIMEOUTS_L0.COUNT, HOST.CPL_TIMEOUTS_L1.COUNT, HOST.PROTO_ERRS_L0.COUNT, HOST.PROTO_ERRS_L1.COUNT]
  | .peer =>
    [PEER.LINK_CTL.RATE, PEER.LINK_CTL.RETRAIN, PEER.LINK_CTL.SLEEP_EN, PEER.LINK_CTL.FORCE_NEW, PEER.LINK_CTL.TX_PRESET, PEER.LINK_STAT.STATE, PEER.LINK_STAT.GRACE_RUN, PEER.LINK_STAT.EPOCH, PEER.LINK_STAT.LAST_ACKED, PEER.LINK_STAT.DOWN_CAUSE, PEER.SEQ_STAT.TX_NEXT, PEER.SEQ_STAT.RX_NEXT, PEER.LINK_GRACE.US, PEER.LINK_REPLAY.TIMEOUT_NS, PEER.LINK_REPLAY.LIMIT, PEER.LINK_TRAIN.TIMEOUT_MS, PEER.CREDIT_ADV.ADV, PEER.CREDIT_AVAIL.AVAIL, PEER.CRC_ERRS.COUNT, PEER.NAKS_RCVD.COUNT] ++
    [PEER.REPLAYS.COUNT, PEER.LINK_DOWNS.COUNT, PEER.TRAIN_FAILS.COUNT, PEER.FEC_CORR.COUNT, PEER.FEC_UNCORR.COUNT, PEER.WIDTH_STAT.WIDTH, PEER.WIDTH_STAT.LANES, PEER.SKIP_ADJ.COUNT]
  | .ddrch =>
    [DDRCH.ERR_INJ.POS, DDRCH.ERR_INJ.CW_MASK, DDRCH.ERR_INJ.VALUE, DDRCH.ERR_INJ.SUB, DDRCH.ERR_INJ.ARM, DDRCH.CH_CFG.MAX_RATE, DDRCH.CH_CFG.SR_EN, DDRCH.CH_CFG.SR_IDLE_US, DDRCH.CH_CFG.SR_DEFER_MS, DDRCH.CH_CTL.RETRAIN, DDRCH.CH_CTL.MODE_OVR, DDRCH.CH_STAT.STATE, DDRCH.CH_STAT.MODE, DDRCH.CH_STAT.RATE, DDRCH.CH_STAT.FAST_TRAIN, DDRCH.CH_STAT.RECPIN, DDRCH.GEOM.DIMMS, DDRCH.GEOM.X8, DDRCH.GEOM.RANK_BIT, DDRCH.GEOM.CID_BITS] ++
    [DDRCH.GEOM.ROW_BITS, DDRCH.GEOM.TA_BITS, DDRCH.WDRAIN.HIGH, DDRCH.WDRAIN.LOW, DDRCH.OPEN_IDLE.NS, DDRCH.READS.COUNT, DDRCH.WRITES.COUNT, DDRCH.FWD_HITS.COUNT, DDRCH.CA_PARITY_ERRS.COUNT, DDRCH.WCRC_ERRS.COUNT, DDRCH.RETRAINS.COUNT, DDRCH.SR_ENTRIES.COUNT, DDRCH.TWIN_FETCHES.COUNT, DDRCH.RFM_CMDS.COUNT]
  | .bwin =>
    [BWIN.WIN_BIND.LINK, BWIN.WIN_BIND.PORT, BWIN.WIN_BIND.VALID, BWIN.WIN_CLASS.CLASS, BWIN.WIN_CLASS.IRQ_EN, BWIN.WIN_CLASS.VECTOR, BWIN.WIN_BASE_LO.QLA_LO, BWIN.WIN_BASE_HI.QLA_HI, BWIN.WIN_CMD.COMMIT, BWIN.WIN_CMD.ABORT, BWIN.WIN_STATUS.STATE, BWIN.WIN_STATUS.CAUSE, BWIN.WIN_STATUS.LINES, BWIN.WIN_STATUS.BSEQ, BWIN.WIN_LAST.OUTCOME, BWIN.WIN_LAST.CAUSE, BWIN.WIN_LAST.BSEQ]
  | .site =>
    [SITE.LINK_CTL.RATE, SITE.LINK_CTL.RETRAIN, SITE.LINK_CTL.SLEEP_EN, SITE.LINK_CTL.FORCE_NEW, SITE.LINK_CTL.TX_PRESET, SITE.LINK_STAT.STATE, SITE.LINK_STAT.GRACE_RUN, SITE.LINK_STAT.EPOCH, SITE.LINK_STAT.LAST_ACKED, SITE.LINK_STAT.DOWN_CAUSE, SITE.SEQ_STAT.TX_NEXT, SITE.SEQ_STAT.RX_NEXT, SITE.LINK_GRACE.US, SITE.LINK_REPLAY.TIMEOUT_NS, SITE.LINK_REPLAY.LIMIT, SITE.LINK_TRAIN.TIMEOUT_MS, SITE.CREDIT_ADV.ADV, SITE.CREDIT_AVAIL.AVAIL, SITE.CRC_ERRS.COUNT, SITE.NAKS_RCVD.COUNT] ++
    [SITE.REPLAYS.COUNT, SITE.LINK_DOWNS.COUNT, SITE.TRAIN_FAILS.COUNT, SITE.HDR_ERRS.COUNT, SITE.SITE_CLASS.CLASS, SITE.SITE_CLASS.PENDING, SITE.SITE_DUT.DUT, SITE.SITE_DUT.VALID, SITE.SITE_HOMING.DUAL, SITE.REQ_STAT.OUTSTANDING, SITE.REQ_STAT.SLOT_STATE, SITE.REQ_STAT.SLOT_CAUSE, SITE.REQ_STAT.SLOT_BSEQ, SITE.RSP_LATE.COUNT, SITE.RSP_ACCESS.COUNT, SITE.RSP_CAPACITY.COUNT, SITE.RSP_POISON.COUNT, SITE.RSP_DISCARDED.COUNT]

end Sys2Proof.Machine
end

