-- ==== Sys2Proof/Syntax.lean ====
section
/-! DEFINITION. The commands the block takes from outside, one constructor for each row of spec/opcode_table.json, and
the types of their operands. -/

namespace Sys2Proof

/-! ### Who acts -/

/-- The agents that reach the register space (R652). -/
inductive Agent where
  | host (port link : Nat)
  | endpoint
  | steward
  | firmware
  | dma (queue : Nat)
  | debug
  deriving DecidableEq, Repr

/-- One Ronlink link: of a site or of a peer port. -/
inductive LinkId where
  | site (s : Nat)
  | peer (p : Nat)
  deriving DecidableEq, Repr

/-! ### CXL.mem (R118) -/

/-- MetaValue of a host request. -/
inductive MetaValue where
  | i | s | a
  deriving DecidableEq, Repr

/-- The MetaField and MetaValue of a host request (R371): Meta0-State with a value, No-Op, or any other encoding. -/
inductive HostMeta where
  | state (m : MetaValue)
  | noOp
  | other
  deriving DecidableEq, Repr

/-- The back-invalidate snoops the device sends. -/
inductive SnoopKind where
  | cur | data | inv
  deriving DecidableEq, Repr

/-- A host's answer to a snoop; `blk` is an answer in block form (R119). -/
inductive SnoopAnswer where
  | rspI | rspS | rspE | blk
  deriving DecidableEq, Repr

/-- The states a completion grants: Cmp, Cmp-S, Cmp-E. -/
inductive Grant where
  | none | shared | exclusive
  deriving DecidableEq, Repr

/-- A directory pointer (R120): host ID, window, arrival device (side × 4 + QID). -/
structure Ptr where
  host : Nat
  win : Nat
  arr : Nat
  deriving DecidableEq, Repr

/-! ### Regions (R46, R51) -/

/-- A region's attributes. -/
structure Region where
  base : Nat
  size : Nat
  lead : Nat := 0
  cap : Nat := 0
  tier : Nat := 0
  pop : Nat := 0
  hostAcc : Nat := 0
  siteAcc : Nat := 0
  hostMask : Nat := 0
  sgMask : Nat := 0
  deriving DecidableEq, Repr

/-! ### Requests as the home slice sees them -/

/-- The near-memory atomics (R253, R265). -/
inductive AtomicOp where
  | fetchAdd | swap | cas
  deriving DecidableEq, Repr

/-- What a request does at its home slice (R135, R140). Data of several lines is in ascending address order. `poisonWrite` is the DMA
engine's write of a poisoned line (R385); `outcome` asks a new home for a slot's outcome entry (R191). -/
inductive HomeOp where
  | hostRead (m : MetaValue)
  | hostInv
  | hostWrite (data : Line) (mask : BitVec 64) (full : Bool) (m : MetaValue)
  | cleanEvict
  | siteRead (lines : Nat) (batch : Bool)
  | siteWrite (data : List Line) (batch : Bool)
  | siteWriteMasked (data : Line) (mask : BitVec 64) (batch : Bool)
  | poisonWrite
  | atomic (op : AtomicOp) (wide : Bool) (op1 op2 : Nat) (atag : Nat)
  | failOr (dut : Nat) (line : Nat) (mask : Line)
  | failRec (dut : Nat) (idx : Nat) (record : Nat)
  | batchCommit (slot : Nat)
  | batchAbort (slot cause : Nat)
  | biConflict
  | outcome (slot : Nat)
  deriving DecidableEq, Repr

/-- Where a request came from. `host` names a host link of this device and the request's tag; `site` a site of this
device and the number of its request; `forward` a request that another device forwarded, with its number there;
`window` an access to a batch window's aperture (tag 0: a posted
write; otherwise the read's tag plus 1, and its length); `engine` a device engine by kind and number;
`dropped` a request whose response is dropped (R390). -/
inductive Origin where
  | host (port link tag : Nat)
  | site (s id : Nat)
  | forward (link fid : Nat) (isHost : Bool)
  | window (n tag len : Nat)
  | engine (kind q : Nat)
  | dropped
  deriving DecidableEq, Repr

/-- A request: its origin, its host ID or site, window, arrival device, class, absolute deadline (0: none), address
(QLA) and operation. A request of a batch window has `who` 1024 + n and the host ID in `win`;
one of a device engine has `who` 4096, with 1 in `win` for
a read of the Assayer's analysis. `bseq` is the sequence of
the batch it belongs to, `port` the host link it came by (2 × port + link). `cur` lists the lines whose BISnpCur has been
answered; `seen` is the number of snoops sent before the request entered the line queue; `ahead` tells that it goes ahead of the
answers of its own host's snoops, for a BIConflict (R138); `order` is its place in the order of arrival at the home.
`attr` are the attributes of its region at its place in the slice's order (R58), `victim` the line last evicted for it (R130). -/
structure Request where
  origin : Origin
  who : Nat
  win : Nat
  arr : Nat
  cls : Nat
  deadline : Nat
  qla : Nat
  op : HomeOp
  bseq : Nat := 0
  port : Nat := 0
  cur : List Nat := []
  seen : Nat := 0
  held : Bool := false
  ahead : Bool := false
  order : Nat := 0
  attr : Option Region := none
  victim : Option Nat := none
  deriving DecidableEq, Repr

/-- The answer to a request: grant, data lines with their poison marks, status code of R260, abort cause, BSEQ and
the RESULT bytes 8 up of R259; `lines` is the number of lines in the batch. -/
structure Answer where
  grant : Grant := .none
  data : List (Line × Bool) := []
  status : Nat := 0
  cause : Nat := 0
  bseq : Nat := 0
  result : List Nat := []
  lines : Nat := 0
  deriving DecidableEq, Repr

/-! ### Peer messages (R467)

A message with an operand `to` names the arrival code of the device it is for; a device on the way passes it on (R482). -/

/-- A fail geometry (R286). -/
structure Geometry where
  dies : Nat
  banks : Nat
  blocks : Nat
  rows : Nat
  srows : Nat
  cols : Nat
  scols : Nat
  deriving DecidableEq, Repr

/-- A DUT binding (R294). -/
structure Dut where
  geo : Nat
  bmap : Nat
  tally : Nat
  deriving DecidableEq, Repr

/-- Region, geometry and DUT commands that the coordinator sends (R52, R293). `ask` brings a command of device `frm` to the coordinator, with
the least el_free of the devices and whether one of them holds the region or DUT in use as `frm` found them; `result` brings its result back (`fail`: of a
FAIL.CMD), `done` tells
the coordinator that device `frm` has finished one, and `drop` follows the last change of a destroyed region's pages on a twin stream (log entry 113). -/
inductive TableCmd where
  | ask (frm : Nat) (free : Int) (busy : Bool) (c : TableCmd)
  | result (fail : Bool) (code id : Nat) (r : Option Region)
  | done (frm : Nat)
  | drop (rid stream : Nat)
  | read (rid : Nat)
  | create (rid : Nat) (r : Region)
  | destroy (rid : Nat)
  | modify (rid tier hostAcc siteAcc hostMask sgMask : Nat)
  | geoSet (id : Nat) (g : Geometry)
  | geoClear (id : Nat)
  | dutBind (id : Nat) (b : Dut)
  | dutUnbind (id : Nat)
  | dutClear (id : Nat)
  | dutRebuild (id : Nat)
  deriving DecidableEq, Repr

/-- The layout of a loaf as a record change carries it (R77, R101): state, slices held, quarter ends. -/
structure Layout where
  state : Nat
  nslice : Nat
  qend1 : Nat := 0
  qend2 : Nat := 0
  qend3 : Nat := 0
  deriving DecidableEq, Repr

/-- An atomic outcome entry (R266). -/
structure AtomicEntry where
  site : Nat
  qid : Nat
  atag : Nat
  lla : Nat
  old : Nat
  deriving DecidableEq, Repr

/-- A line of a commit record: line number and content, poison marked. -/
structure CommitLine where
  line : Nat
  data : Line
  poison : Bool
  deriving DecidableEq, Repr

/-- A commit record (R186). `after` is the next TSEQ of the other stream when it is sent: the follow first applies what the
other stream carries up to there (R469); `passed` is the page up to which a resync's sweep had come (R183). -/
structure CommitRec where
  bseq : Nat
  slot : Nat
  arr : Nat
  cls : Nat
  lines : List CommitLine
  after : Nat := 0
  passed : Nat := 2 ^ 32
  deriving DecidableEq, Repr

/-- A directory change (R153, R477): the line's entry as it now is (none: free), or its place in the overflow log. -/
inductive DirChange where
  | entry (line : Nat) (state : Nat) (ptrs : List Ptr) (lovf : Bool)
  | free (line : Nat)
  | log (line : Nat)
  | unlog (line : Nat)
  deriving DecidableEq, Repr

/-- What a device says of itself in HELLO and STATE (R462, R463, R339); `lost` are the host IDs of its links that went
down since its last report (R156, log entry 13), `empty` tells an empty region table (R466), `mgmtLost` that its management is lost
(R499). -/
structure PeerInfo where
  side : Nat
  qid : Nat
  logicalTib : Nat
  members : Nat
  uid : Nat := 0
  versions : Nat × Nat := (1, 1)
  svc : Nat := 0
  lost : List Nat := []
  gdeq : List Nat := []
  gt0 : List Nat := []
  empty : Bool := true
  mgmtLost : Bool := false
  deriving DecidableEq, Repr

/-- What a forwarded snoop asks of its arrival device: one snoop to a named pointer; the local part of a broadcast, for a HOST_MASK and HOST_ACC and
without the requester (R58, R128, R135); or that the link of the host be contained because the stale list is full (R139, log entry 81). -/
inductive SnoopMode where
  | named
  | broadcast (mask acc : Nat) (skip : Option Ptr)
  | stale
  deriving DecidableEq, Repr

/-- The snoop a SNOOP_FWD or SNOOP_ANS belongs to: the device of the home slice that asked, and the number the home gave the snoop. -/
structure SnoopRef where
  dev : Nat
  sid : Nat
  deriving DecidableEq, Repr

/-- How a SNOOP_ANS ends: the host and window that answered or timed out, and whether it ends the snoop. -/
structure SnoopEnd where
  timedOut : Bool := false
  host : Nat
  win : Nat
  last : Bool := true
  deriving DecidableEq, Repr

/-- The peer messages of R467. A SNOOP_ANS names the host and window that answered or timed out, and whether it ends the snoop. -/
inductive PeerMsg where
  | fwdReq (fid : Nat) (r : Request)
  | fwdRsp (fid : Nat) (a : Answer)
  | snoopFwd (dest frm sid : Nat) (kind : SnoopKind) (host win qla : Nat) (mode : SnoopMode)
  | snoopAns (dest sid : Nat) (ans : SnoopAnswer) (timedOut : Bool) (host win : Nat) (last : Bool)
  | mirrorLine (line : Nat) (data : Line) (poison : Bool) (cls : Nat) (entry : Option AtomicEntry)
  | mirrorFail (dut : Nat) (rec : Nat) (cls : Nat)
  | mirrorOr (dut line : Nat) (mask : Line) (cls : Nat)
  | mirrorRec (lpn : Nat) (l : Layout)
  | commitRec (r : CommitRec)
  | csign (stream tseq : Nat) (elFree : Int) (l : Option Layout)
  | dirUpd (c : DirChange)
  | grantNotice (dest line host win arr : Nat) (g : Grant)
  | noticeFlush (dest arr : Nat)
  | twinFetch (id line cls : Nat)
  | fetchData (id : Nat) (data : Line) (poison : Bool)
  | hello (i : PeerInfo)
  | state (i : PeerInfo)
  | withdraw
  | handover (dest frm step arg : Nat)
  | tableCmd (dest : Nat) (c : TableCmd)
  | rsTable (regions : List (Nat × Region)) (geos : List (Nat × Geometry)) (duts : List (Nat × Dut)) (outcomes : List (Nat × Nat × Nat × Nat))
      (atomics : List (Nat × AtomicEntry)) (gdeq gt0 : List Nat) (poisonKey : Nat)
  | rsLoaf (lpn : Nat) (l : Layout) (stream : List Nat) (poison : Nat)
  | rsLine (line : Nat) (data : Line) (poison : Bool) (cls : Nat)
  | rsDir (c : DirChange)
  | rsDone
  | timeSync (t1 t2 t3 : Nat) (reply : Bool)
  | stewReq (id addr : Nat) (write : Option Nat)
  | stewRsp (id : Nat) (ok : Bool) (value : Nat)
  deriving DecidableEq, Repr

/-- How a peer message arrives: the peer link, and on a twin link its stream and TSEQ (none: outside the streams, R468). `bad` is the compression
engine whose stream fails its check where the message has this device bake a loaf (R102). -/
structure Via where
  p : Nat
  k : Nat := 0
  tseq : Option Nat := none
  bad : Option Nat := none
  deriving DecidableEq, Repr

/-! ### Ronlink flits (R208, R212) -/

/-- The header and EPOCH of a flit (R208). -/
structure FlitHdr where
  seq : Nat := 0
  ack : Nat := 0
  ackType : Nat := 0
  creditClass : Nat := 0
  creditCount : Nat := 0
  ftype : Nat := 1
  pool : Nat := 0
  epoch : Nat := 0
  deriving DecidableEq, Repr

/-- The fields of a training flit (R212). -/
structure TrainFields where
  role : Nat
  rate : Nat := 0
  lanes : Nat := 1
  resume : Bool := false
  epoch : Nat := 0
  rxNext : Nat := 0
  credits : List Nat := [0, 0, 0, 0]
  linkId : Nat := 0
  port : Nat := 0
  lane : Nat := 0
  endCount : Nat := 0
  deriving DecidableEq, Repr

/-- A received LCTL flit: its header and how many of its ten block headers were invalid (R201, R209). -/
structure LctlFlit where
  hdr : FlitHdr := {}
  hdrErrs : Nat := 0
  deriving DecidableEq, Repr

/-- A received TS1 flit: its link and its fields (R212). -/
structure Ts1Flit where
  link : LinkId
  fields : TrainFields
  deriving DecidableEq, Repr

/-- An M2S request that asks for no answer: a MemSpecRd at a DPA, or a message that neither R118 nor R371 names. -/
inductive SpecMsg where
  | memSpecRd (dpa : Nat)
  | unlisted
  deriving DecidableEq, Repr

/-- A function's Device Control and Device Control 2 as the host left them: Max_Read_Request_Size in bytes, the Completion Timeout Value, and the
IDO enables for requests and completions (R363, R378). -/
structure PcieCtl where
  mrrs : Nat := 512
  cto : Nat := 0
  idoReq : Bool := false
  idoCpl : Bool := false
  deriving DecidableEq, Repr

/-! ### The margin plan (R597) -/

/-- An item of a margin plan. A port is a site, peer or host link: kind 0, 1 or 2, and its number. -/
inductive PlanItem where
  | vcoreUp (monitor : Nat)
  | portReeq (kind n : Nat)
  | chRetrain (c : Nat)
  | rateDown
  deriving DecidableEq, Repr

/-! ### SPDM (R575) -/

/-- The SPDM requests that the responder knows; any other is `other`. -/
inductive SpdmReq where
  | getVersion
  | getCapabilities (version : Nat)
  | negotiateAlgorithms
  | getDigests
  | getCertificate (slot off len : Nat)
  | challenge (slot : Nat)
  | getMeasurements (index : Nat) (signed : Bool)
  | keyExchange (slot : Nat)
  | finish (sid : Nat)
  | heartbeat (sid : Nat)
  | keyUpdate (sid : Nat)
  | endSession (sid : Nat)
  | chunk
  | other
  deriving DecidableEq, Repr

/-! ### The commands -/

/-- The commands of the block: one constructor for each row of the table of operations and events. -/
inductive Instr where
  /-- COLD_START (R628). Main power turns on, or an AUX start begins, and the device starts from nothing along the start-up timeline. -/
  | coldStart
  /-- CHANNEL_TRAINING_DONE (R425). Start-up training of a channel completes or fails; after three failures the channel is FAILED. -/
  | channelTrainingDone (c : Nat) (ok : Bool)
  /-- START_END (R465). Channels are trained and the loaf-record table is initialised, so the device leaves START for JOIN. -/
  | startEnd
  /-- DEVICE_RESET (R629). A device reset withdraws an in-service device, resets every die except the Strongbox and reruns start-up. `cause` is that of R630. -/
  | deviceReset (cause : Nat)
  /-- DEV_RST_L_ASSERT (R629). DEV_RST_L is held low for at least 1 µs and requests a device reset. -/
  | devRstLAssert
  /-- DEV_RST_L_RELEASE (R629). DEV_RST_L rises and the Hub leaves reset. -/
  | devRstLRelease
  /-- D2D_FLIT_RECEIVE (R22). A die-to-die link receives a flit, checks its CRC and replays a bad one, counting a CE. `n` is the link in the order of R508. -/
  | d2dFlitReceive (n : Nat) (good : Bool)
  /-- D2D_REPLAY_LIMIT (R22). A die-to-die link fails to deliver a flit within 16 replays and raises a fatal fault. -/
  | d2dReplayLimit (n : Nat)
  /-- SB_FRAME_RECEIVE (R638). The Strongbox sideband receives a frame and replays one that fails its CRC, setting SB_RETRY. -/
  | sbFrameReceive (good : Bool)
  /-- SB_FAIL (R638). One sideband frame reaches 16 replays and raises a fatal fault. -/
  | sbFail
  /-- SPACE_PEND_WRITE (R41). A write to REGION.SPACE_PEND stores LOGICAL_TIB and MEMBERS in persistent configuration for the next start. The values of both fields. -/
  | spacePendWrite (tib members : Nat)
  /-- CREATE (R55). RGN_CMD CREATE assigns the lowest free region ID and reserves capacity on every in-service device, or fails with a result code. `others` is the least el_free of the other devices in service (R108). -/
  | create (others : Int)
  /-- DESTROY (R58). RGN_CMD DESTROY back-invalidates host copies, unmaps every loaf of the region and releases its reservation, or fails. `busy` tells that another device holds the region in use (R57). -/
  | destroy (rid : Nat) (busy : Bool)
  /-- MODIFY (R56). RGN_CMD MODIFY changes TIER, access rights and masks of a region at one point in each slice's order. -/
  | modify (rid : Nat)
  /-- RGN_READ (R56). RGN_CMD READ loads the staging registers from region RID. -/
  | rgnRead (rid : Nat)
  /-- REGION_CMD_DONE (R53). A region command ends on every in-service device, RGN_STATUS is written and CMD_DONE is set. -/
  | regionCmdDone
  /-- TABLE_CMD (R53). A TABLE_CMD peer message applies a region, geometry or DUT command from the coordinator. -/
  | tableCmd (v : Via) (dest : Nat) (c : TableCmd)
  /-- WIN_CFG_WRITE (R63). A write of WIN_CFG updates WIN_EN at once and stores WIN_SIZE_LOG2 after the LBASE check. -/
  | winCfgWrite (p l en log2 : Nat)
  /-- WIN_LBASE_WRITE (R63). A write of WIN_LBASE is checked against the stored window size and stored for the next PERST. -/
  | winLbaseWrite (p l v : Nat)
  /-- SITE_CLASS_WRITE (R65). A write of SITE_CLASS starts admission of the new class, or waits behind a running admission. -/
  | siteClassWrite (site c : Nat)
  /-- SITE_CLASS_ADMIT_END (R337). Admission of a SITE_CLASS write ends, applying or refusing the class and starting any waiting write. -/
  | siteClassAdmitEnd (site : Nat)
  /-- MEMRD (R135). A host MemRd is decoded, ordered at its home slice and answered by directory state, with snoops where needed. -/
  | memrd (p l tag dpa : Nat) (m : HostMeta)
  /-- MEMRDDATA (R118). A host MemRdData is handled as MemRd with MetaValue A. -/
  | memrddata (p l tag dpa : Nat)
  /-- MEMSPECRD (R371). A host MemSpecRd is accepted and ignored. The message may also be one that neither R118 nor R371 names. -/
  | memspecrd (p l : Nat) (m : SpecMsg)
  /-- MEMINV (R135). A host MemInv or MemInvNT gains ownership without data after invalidating other holders. -/
  | meminv (p l tag dpa : Nat)
  /-- MEMCLNEVCT (R135). A host MemClnEvct removes the host's pointer and is answered with Cmp. -/
  | memclnevct (p l tag dpa : Nat)
  /-- BICONFLICT (R138). A host BIConflict is answered with BIConflictAck in line-queue order. -/
  | biconflict (p l tag dpa : Nat)
  /-- MEMWR (R135). A host MemWr or MemWrPtl is written into Tier 0 and completed after the countersign, or discarded as a stray writeback. `full` tells MemWr from MemWrPtl. -/
  | memwr (p l tag dpa : Nat) (data : Line) (mask : BitVec 64) (full : Bool) (m : HostMeta)
  /-- BIRSP (R135). A host BIRspI, BIRspS or BIRspE answers a snoop, stops its timer and lets waiting requests proceed. `sid` is the number of the snoop it answers. -/
  | birsp (p l sid : Nat) (ans : SnoopAnswer)
  /-- BI_TIMEOUT (R147). A snoop timer expires; the line is poisoned, the host removed and a UC fault raised. -/
  | biTimeout (sid : Nat)
  /-- BROADCAST_SWEEP (R133). A set with SET_OVF broadcasts each logged line it homes and clears SET_OVF when the log holds none. -/
  | broadcastSweep (set : Nat)
  /-- SWEEP_DONE (R156). A directory sweep ends, SWEEP_PEND clears and SWEEP_DONE is set. -/
  | sweepDone
  /-- QUERY_CMD_START (R159). A write of QUERY_CMD.START reads the directory entry of a line into QUERY_ENTRY. -/
  | queryCmdStart
  /-- NOTICE_LATE (R155). A notice-flush marker has not arrived within 100 µs and its device is treated as withdrawn. -/
  | noticeLate (arr : Nat)
  /-- GRANT_NOTICE (R154). A grant notice from an arrival device is recorded by the follow, or logged when it cannot be tracked. -/
  | grantNotice (v : Via) (dest line host win arr : Nat) (g : Grant)
  /-- NOTICE_FLUSH (R155). A notice-flush marker arrives at a device taking over as home. -/
  | noticeFlush (v : Via) (dest arr : Nat)
  /-- DIR_UPD (R153). The follow applies a directory or overflow-log change sent by the lead. -/
  | dirUpd (v : Via) (c : DirChange)
  /-- FRAME_EVICT (R91). The hot-data cache evicts a frame with dirty lines and starts its writeback by state and tier policy. -/
  | frameEvict (lpn : Nat)
  /-- WRITEBACK_DONE (R91). A writeback's new slices are written, the record changes in one update and the old slices are freed. `bad` is the compression engine whose stream failed its check (R102). -/
  | writebackDone (lpn : Nat) (bad : Option Nat)
  /-- BAKER_SWEEP_START (R95). A Baker sweep starts when its period has passed since the previous start, decrementing HEAT as it visits records. -/
  | bakerSweepStart
  /-- BAKER_SWEEP_END (R95). A Baker sweep reaches the end of the record table and sets SWEEP_DONE. -/
  | bakerSweepEnd
  /-- MIGRATION_START (R100). The Baker rechecks a candidate, sets it MIGRATING and starts encoding or decoding it. `bad` as for WRITEBACK_DONE. -/
  | migrationStart (lpn : Nat) (bad : Option Nat)
  /-- MIGRATION_FINISH (R100). After the new slices and the countersign, the record changes to the new layout and the old slices are freed. -/
  | migrationFinish (lpn : Nat)
  /-- AUDIT_CMD_START (R113). A write of AUDIT_CMD.START starts a pool audit. -/
  | auditCmdStart
  /-- AUDIT_DONE (R113). A pool audit ends, frees every unmarked slice and sets AUDIT_DONE. -/
  | auditDone
  /-- APERTURE_WRITE (R181). An aperture write to a batch window opens or adds to its batch, or is discarded by size, access or state. Each byte comes with its byte enable. -/
  | apertureWrite (n p l off : Nat) (bytes : List (Nat × Bool))
  /-- APERTURE_READ (R179). An aperture read returns the batch's view or the home copy, or zeros with EP for a bad or refused read. -/
  | apertureRead (n p l tag off len : Nat)
  /-- WIN_CMD_COMMIT (R181). WIN_CMD.COMMIT starts a commit of an OPEN window, closes an ABORTED one, or sets CMD_STATE. -/
  | winCmdCommit (n p l : Nat)
  /-- WIN_CMD_ABORT (R181). WIN_CMD.ABORT aborts an OPEN window's batch or closes an ABORTED one. -/
  | winCmdAbort (n p l : Nat)
  /-- WIN_BASE_WRITE (R181). A write of WIN_BASE_LO or HI applies in FREE and sets BASE_BUSY otherwise. -/
  | winBaseWrite (n p l : Nat) (hi : Bool) (v : Nat)
  /-- BATCH_TIMEOUT (R174). An open batch's timeout expires before its commit and the batch aborts with cause TIMEOUT. -/
  | batchTimeout (slot : Nat)
  /-- COMMIT_SEND (R182). All pinned lines are owned, so the home sends the commit record to the follow. -/
  | commitSend (slot arr : Nat)
  /-- OUTCOME_QUERY_START (R192). A write of OUTCOME_QUERY.START reads a slot's outcome entry into OUTCOME_RESULT. -/
  | outcomeQueryStart
  /-- OUTCOME_ASK (R191). A surviving arrival device asks the new home for a withdrawn home's batch outcome entry. It names the slot and its batch, the home that withdrew, the new home and the device that asks. -/
  | outcomeAsk (slot bseq home heir arr : Nat)
  /-- READ (R263). A site READ reads SIZE/64 lines at their home slices and returns data flits and a later RSUM status. `dl` is DEADLINE. -/
  | read (site tag dl : Nat) (sync batch : Bool) (size addr : Nat)
  /-- WRITE (R263). A site WRITE writes each line as its own step and answers after the countersign. -/
  | write (site tag dl : Nat) (batch : Bool) (size addr : Nat) (data : List Line)
  /-- WRITE_MASKED (R263). A site WRITE_MASKED merges enabled bytes into one line and answers after the countersign. -/
  | writeMasked (site tag dl : Nat) (batch : Bool) (addr : Nat) (mask : BitVec 64) (data : Line)
  /-- ATOMIC (R265). A site ATOMIC performs FETCH_ADD, SWAP or CAS in one step, or returns the stored result for a repeated ATAG. -/
  | atomic (site tag dl addr : Nat) (op : AtomicOp) (wide : Bool) (op1 op2 atag : Nat)
  /-- FAIL_OR (R268). A site FAIL_OR ORs a mask into a bitmap line of the site's DUT and updates its counters. -/
  | failOr (site tag dl line : Nat) (mask : Line)
  /-- FAIL_REC (R268). A site FAIL_REC applies 1–6 fail records, each setting a bitmap bit and its six counters in one update. -/
  | failRec (site tag dl : Nat) (recs : List Nat)
  /-- MCAST_JOIN (R275). A site joins an enabled multicast group if its site group may read the source region. -/
  | mcastJoin (site tag dl g : Nat)
  /-- MCAST_LEAVE (R275). A site leaves a multicast group and is answered OK. -/
  | mcastLeave (site tag dl g : Nat)
  /-- MCAST_PULL (R273). A site pull of a block is served from the group buffer, joins a pending fill, starts a fill or reads behind the window. -/
  | mcastPull (site tag dl : Nat) (sync : Bool) (g b : Nat)
  /-- BATCH_OPEN (R176). A site BATCH_OPEN opens a batch in a FREE slot with a new BSEQ. -/
  | batchOpen (site tag dl : Nat)
  /-- BATCH_COMMIT (R176). A site BATCH_COMMIT commits an OPEN batch or closes an ABORTED slot. -/
  | batchCommit (site tag dl : Nat)
  /-- BATCH_ABORT (R176). A site BATCH_ABORT aborts an OPEN batch or closes an ABORTED slot. -/
  | batchAbort (site tag dl : Nat)
  /-- STATUS_SITE (R270). A site STATUS with SUBOP SITE reports the site's class, DUT, capacity flags and slot state. -/
  | statusSite (site tag dl : Nat)
  /-- STATUS_BATCH_OUTCOME (R270). A site STATUS with SUBOP BATCH_OUTCOME reads its slot's outcome entry for a named arrival device. -/
  | statusBatchOutcome (site tag dl side q : Nat)
  /-- TIME (R270). A site TIME returns the device time base at arrival and at formation. -/
  | time (site tag dl : Nat)
  /-- RESERVED_OPCODE (R254). A request with a reserved opcode or other malformation receives ACCESS and has no effect. `pl` is the pool of its flit, `n` its data flits. -/
  | reservedOpcode (site opcode tag dl : Nat) (sync : Bool) (size pl n : Nat)
  /-- MCAST_FILL_DONE (R274). A block fill completes, delivers to joined pulls and starts prefetch fills after a demand fill. -/
  | mcastFillDone (g b : Nat)
  /-- GRP_ENABLE (R272). A write of GRP_CTL.ENABLE = 1 enables a group if its range lies in one POP = 1 region. -/
  | grpEnable (g : Nat)
  /-- GRP_DISABLE (R277). A write of GRP_CTL.ENABLE = 0 removes members and starts disabling the group. -/
  | grpDisable (g : Nat)
  /-- GRP_CFG_WRITE (R272). A write to GRP_BASE, GRP_LEN or GRP_CTL.CLASS while enabled is ignored and sets CFG_BUSY if it would change them. `k`: 0 GRP_BASE_LO, 1 GRP_BASE_HI, 2 GRP_LEN, 3 GRP_CTL.CLASS. -/
  | grpCfgWrite (g k v : Nat)
  /-- GEO_SET (R288). FAIL.CMD GEO_SET stores a valid geometry descriptor or fails with BAD_GEO. -/
  | geoSet (id : Nat)
  /-- GEO_CLEAR (R298). FAIL.CMD GEO_CLEAR clears a descriptor unless a bound DUT uses it. -/
  | geoClear (id : Nat)
  /-- GEO_READ (R325). FAIL.CMD GEO_READ loads the staging registers from a descriptor. -/
  | geoRead (id : Nat)
  /-- DUT_BIND (R294). FAIL.CMD DUT_BIND binds a DUT to a geometry, bitmap base and tally base after its checks. -/
  | dutBind (id : Nat)
  /-- DUT_UNBIND (R296). FAIL.CMD DUT_UNBIND removes a binding without changing memory. `busy` tells that a job of another device names the DUT (R298). -/
  | dutUnbind (id : Nat) (busy : Bool)
  /-- DUT_CLEAR (R296). FAIL.CMD DUT_CLEAR sets every loaf of the DUT's ranges to ZERO and frees their slices. `busy` as for DUT_UNBIND. -/
  | dutClear (id : Nat) (busy : Bool)
  /-- DUT_REBUILD (R296). FAIL.CMD DUT_REBUILD recomputes the DUT's counters and lost map from its bitmap. `busy` as for DUT_UNBIND. -/
  | dutRebuild (id : Nat) (busy : Bool)
  /-- DUT_READ (R325). FAIL.CMD DUT_READ loads the staging registers from a DUT binding. -/
  | dutRead (id : Nat)
  /-- FAIL_CMD_DONE (R293). A FAIL.CMD command ends on every in-service device and CMD_DONE is set. -/
  | failCmdDone
  /-- ASSAY_SQ_TAIL (R318). A write of SQ_TAIL_q rings an Assayer queue doorbell and starts descriptor fetches. -/
  | assaySqTail (q v : Nat)
  /-- ASSAY_CQ_HEAD (R319). A write of CQ_HEAD_q frees completion ring room and lets a waiting completion be written. -/
  | assayCqHead (q v : Nat)
  /-- ASSAY_ENABLE (R320). A write of Q_CTL.ENABLE = 1 to a DISABLED queue makes it ACTIVE with reset heads and tails. -/
  | assayEnable (q : Nat)
  /-- ASSAY_DISABLE (R320). A write of Q_CTL.ENABLE = 0 aborts the queue's jobs and disables it when none remain. -/
  | assayDisable (q : Nat)
  /-- ASSAY_ABORT (R320). A write of Q_CTL.ABORT stops dispatch and ends the queue's jobs ABORTED. -/
  | assayAbort (q : Nat)
  /-- ASSAY_CFG_WRITE (R326). A write to a queue's configuration while it is enabled or disabling is ignored and sets CFG_BUSY. `k`: 0 LOC, 1 PORT, 2 LINK, 3 BIND_VALID, 4 CLASS, 5 and 6 SQ_BASE, 7 and 8 CQ_BASE, 9 SQ_LOG2, 10 CQ_LOG2. -/
  | assayCfgWrite (q k v : Nat)
  /-- ASSAY_DESC_FETCHED (R318). A job descriptor fetch completes and the job is checked and dispatched, or ends DESC_UNREADABLE. -/
  | assayDescFetched (q : Nat)
  /-- ANALYSE (R317). An ANALYSE job starts on an Assayer unit for a DUT and a range of blocks. -/
  | analyse
  /-- ASSAY_BLOCK_DONE (R310). The Assayer finishes analysing one block and writes its result entry. `job` numbers the job. -/
  | assayBlockDone (job : Nat)
  /-- APPLY (R335). ADMIT_CMD.APPLY starts admission of the staged class table. -/
  | apply
  /-- REVERT (R336). ADMIT_CMD.REVERT loads the staging registers from the table in force and clears DIRTY. -/
  | revert
  /-- ADMIT_DONE (R336). Admission ends, the table comes into force or is refused, and ADMIT_DONE is set. -/
  | admitDone
  /-- RECOMPUTE (R348). After a resource event the device recomputes deliverable bandwidth and demotes or restores classes. -/
  | recompute
  /-- QUEUE_ENTRY_FREED (R343). A channel queue entry frees and a waiting writeback, urgent request or weighted request enters. -/
  | queueEntryFreed (c : Nat)
  /-- SCHEDULER_PICK (R346). The channel controller can accept a request and the scheduler takes the next one from the queue. -/
  | schedulerPick (c : Nat)
  /-- PERST (R396). PERST_L of a port resets both its links, commits received writes and applies pending configuration. -/
  | perst (p : Nat)
  /-- HOT_RESET (R396). A PCIe hot reset or link disable resets one link without containing it. `kind`: 0 hot reset, 1 link disable, 2 the host enables the link again. -/
  | hotReset (p l kind : Nat)
  /-- CXL_RESET (R397). A CXL Reset invalidates lines held through the link, waits for answers and uncommits its decoders. -/
  | cxlReset (p l : Nat)
  /-- FLR (R394). An FLR stops outbound requests, resets CXL.io state and closes the link's batch windows. -/
  | flr (p l : Nat)
  /-- FLR_FORCE_RELEASE (R394). Tags still open 90 ms after an FLR are force-released and the FLR completes. -/
  | flrForceRelease (p l : Nat)
  /-- BME_CLEAR (R393). Clearing Bus Master Enable stops outbound requests and revokes jobs and descriptors using the link. -/
  | bmeClear (p l : Nat)
  /-- BME_SET (R393). Setting Bus Master Enable again lets new requests use free tags. `c` is Device Control and Device Control 2 of the function, as the host left them. -/
  | bmeSet (p l : Nat) (c : PcieCtl)
  /-- OUTBOUND_COMPLETION (R395). A completion for an outbound request arrives and is matched or discarded as LATE_CPL. `tag` has the generation in bit 13; `status`: 0 good, 1 poisoned, 2 an error status. -/
  | outboundCompletion (p l tag status : Nat) (data : List Nat)
  /-- COMPLETION_TIMEOUT (R378). An outbound request's completion timer expires, freeing its tag and ending its source's access. -/
  | completionTimeout (p l tag : Nat)
  /-- MSIX_PENDING_SEND (R379). A pending MSI-X message is sent when masking and enable conditions clear. MSI-X Enable, Function Mask and the unmasked vectors, as the host has left them. -/
  | msixPendingSend (p l : Nat) (en fmask : Bool) (vectors : List Nat)
  /-- HDM_DECODER_COMMIT (R369). A host commits an HDM decoder, which succeeds or fails with Error Not Committed. Decoder `n` with its range, DPA skip, interleave ways and BI bit. -/
  | hdmDecoderCommit (p l n hpa size skip iw : Nat) (bi lock : Bool)
  /-- BI_ENABLE_WRITE (R370). A write of BI Enable lets or stops back-invalidate snoops on the link. -/
  | biEnableWrite (p l : Nat) (v : Bool)
  /-- HOST_LINK_UP (R360). A host link trains and reaches UP_IO or UP_MEM. `rate` and `width` are the best that both ends could take. -/
  | hostLinkUp (p l rate width : Nat) (flit256 : Bool)
  /-- SURPRISE_DOWN (R389). A host link goes down without PERST, hot reset or disable and is contained. -/
  | surpriseDown (p l : Nat)
  /-- LINK_UNCORR (R389). A fatal uncorrectable link error contains the host link. -/
  | linkUncorr (p l : Nat)
  /-- CONTAIN (R390). Containment commits received writes, discards the rest, takes the link to Detect and starts its sweep. `cause` as R389 numbers it. -/
  | contain (p l cause : Nat)
  /-- CONTAIN_WRITE (R389). A write of 1 to CONTAIN_Lx.CONTAIN contains the link with cause SOFTWARE. -/
  | containWrite (p l : Nat)
  /-- RELEASE (R391). A write of CONTAIN_Lx.RELEASE releases a contained link after its sweep, or sets RELEASE_EARLY. -/
  | release (ag : Agent) (p l : Nat)
  /-- IDENTIFY_MEMORY_DEVICE (R373). Mailbox command Identify Memory Device reports capacity 16 × W. -/
  | identifyMemoryDevice (p l : Nat)
  /-- GET_PARTITION_INFO (R373). Mailbox command Get Partition Info reports volatile capacity. -/
  | getPartitionInfo (p l : Nat)
  /-- GET_SUPPORTED_LOGS (R373). Mailbox command Get Supported Logs lists the Command Effects Log. -/
  | getSupportedLogs (p l : Nat)
  /-- GET_LOG (R373). Mailbox command Get Log returns the Command Effects Log. `cel` tells that the Command Effects Log is asked for. -/
  | getLog (p l : Nat) (cel : Bool)
  /-- GET_EVENT_RECORDS (R374). Mailbox command Get Event Records returns vendor event records that carry ledger records. `k`: 0 Information, 1 Warning, 2 Failure, 3 Fatal. -/
  | getEventRecords (p l k : Nat)
  /-- CLEAR_EVENT_RECORDS (R374). Mailbox command Clear Event Records clears event log records. The records are named by their SEQ. -/
  | clearEventRecords (p l k : Nat) (all : Bool) (seqs : List Nat)
  /-- GET_EVENT_INTERRUPT_POLICY (R373). Mailbox command Get Event Interrupt Policy returns the policy. -/
  | getEventInterruptPolicy (p l : Nat)
  /-- SET_EVENT_INTERRUPT_POLICY (R373). Mailbox command Set Event Interrupt Policy sets the MSI-X vectors of the event logs. For Warning, Failure and Fatal: MSI-X or none, and the vector. -/
  | setEventInterruptPolicy (p l : Nat) (pol : List (Bool × Nat))
  /-- GET_TIMESTAMP (R373). Mailbox command Get Timestamp returns the device time base in CXL format. -/
  | getTimestamp (p l : Nat)
  /-- SET_TIMESTAMP (R373). Mailbox command Set Timestamp is accepted and ignored. -/
  | setTimestamp (p l ns : Nat)
  /-- GET_HEALTH_INFO (R373). Mailbox command Get Health Info reports health, temperature and error counts. -/
  | getHealthInfo (p l : Nat)
  /-- GET_FW_INFO (R373). Mailbox command Get FW Info reports the firmware slots on management links. -/
  | getFwInfo (p l : Nat)
  /-- TRANSFER_FW (R564). Mailbox command Transfer FW writes image data into the slot that is not running. Slot 1 is slot A, slot 2 is slot B. -/
  | transferFw (p l slot off : Nat) (data : List Nat)
  /-- ACTIVATE_FW (R564). Mailbox command Activate FW validates the target slot and sets it as the next trial. -/
  | activateFw (p l slot : Nat) (online : Bool)
  /-- UNSUPPORTED_MAILBOX_CMD (R373). Any other mailbox command returns Unsupported. -/
  | unsupportedMailboxCmd (p l op : Nat)
  /-- DOE_DISCOVERY (R375). A DOE Discovery request reports the protocols of the DOE instance. -/
  | doeDiscovery (p l inst index : Nat)
  /-- CXL_TABLE_ACCESS (R375). A CXL Table Access request on DOE instance 1 returns the CDAT. -/
  | cxlTableAccess (p l : Nat)
  /-- SPDM_REQUEST (R575). An SPDM 1.3 request on DOE or MCTP is answered as a responder with the Alias key. `c`: 2 × port + link for DOE, 8 for I3C, 9 for SMBus; `nonce` is what the request adds to the transcript. -/
  | spdmRequest (c : Nat) (q : SpdmReq) (nonce : List Nat)
  /-- GET_PQ_CERT (R577). A vendor-defined GET_PQ_CERT returns a chunk of the ML-DSA-65 chain. -/
  | getPqCert (c off len : Nat)
  /-- GET_PQ_SIG (R577). A vendor-defined GET_PQ_SIG returns the ML-DSA-65 signature over the last signed transcript hash. -/
  | getPqSig (c : Nat)
  /-- DMA_SQ_TAIL (R382). A write of a DMA SQ_TAIL_q rings the doorbell and starts descriptor fetches. SQ_TAIL_q of the DMA engine is written (R382). -/
  | dmaSqTail (q value : Nat)
  /-- DMA_CQ_HEAD (R382). A write of a DMA CQ_HEAD_q frees completion ring room. CQ_HEAD_q of the DMA engine is written (R382). -/
  | dmaCqHead (q value : Nat)
  /-- DMA_ENABLE (R382). A write of DMA Q_CTL.ENABLE = 1 makes a disabled DMA queue ACTIVE. Q_CTL.ENABLE of DMA queue q is written 1 (R382). -/
  | dmaEnable (q : Nat)
  /-- DMA_DISABLE (R382). A write of DMA Q_CTL.ENABLE = 0 aborts the queue's descriptors and disables it. Q_CTL.ENABLE of DMA queue q is written 0 (R382). -/
  | dmaDisable (q : Nat)
  /-- DMA_ABORT (R382). A write of DMA Q_CTL.ABORT stops the queue and ends its descriptors ABORTED. Q_CTL.ABORT of DMA queue q is written 1 (R382). -/
  | dmaAbort (q : Nat)
  /-- DMA_CFG_WRITE (R387). A write to a DMA queue's configuration while enabled or disabling is ignored and sets CFG_BUSY. A configuration field of DMA queue q is written; the fields are numbered as for ASSAY_CFG_WRITE (R387). -/
  | dmaCfgWrite (q field value : Nat)
  /-- DMA_DESC_FETCHED (R384). A DMA descriptor fetch completes and the descriptor is checked, or ends DESC_UNREADABLE. A descriptor fetch of DMA queue q has ended (R384). -/
  | dmaDescFetched (q : Nat)
  /-- COPY (R383). A DMA COPY descriptor moves data between address spaces in ascending order. The engine takes steps of the COPY descriptor that queue q serves: each reads a chunk, writes it, or takes an answer (R383). -/
  | copy (q steps : Nat)
  /-- FILL (R383). A DMA FILL descriptor writes an 8 B pattern repeated from DST. The engine takes steps of the FILL descriptor that queue q serves (R383). -/
  | fill (q steps : Nat)
  /-- DESC_DONE (R384). A DMA descriptor ends and its completion entry is written or held. The descriptor that queue q serves ends (R384). -/
  | descDone (q : Nat)
  /-- CHANNEL_READ (R409). A channel read request is served from the write queue or queued for DRAM. `n` bursts of one slice from `ra`. -/
  | channelRead (ra n : Nat)
  /-- CHANNEL_WRITE (R410). A channel write enters or replaces an entry of the write queue and completes for the home slice. Bursts of one slice from `ra`, each with its poison mark. -/
  | channelWrite (ra : Nat) (bursts : List (Line × Bool))
  /-- DRAM_READ_RETURN (R436). Burst data returns from DRAM and is decoded as CLEAN, CORRECTED, POISONED or CODE_FAILURE. `err` lists the 40 symbol errors of the burst as DRAM returns it, `cls` the class of the read. -/
  | dramReadReturn (ra : Nat) (err : List Nat) (cls : Nat)
  /-- WRITE_DRAIN_START (R411). A subchannel starts a write drain on level, idle reads or a 10 µs aged entry. `aged`: an entry has waited 10 µs. -/
  | writeDrainStart (c sub : Nat) (aged : Bool)
  /-- WRITE_DRAIN_STOP (R411). A drain stops when the queue is at LOW with a read queued. -/
  | writeDrainStop (c sub : Nat)
  /-- OPEN_IDLE_EXPIRY (R415). A bank's open-page idle timer expires and its row closes. -/
  | openIdleExpiry (c bank : Nat)
  /-- REFRESH_DUE (R418). A rank's tREFI interval expires and refresh is issued or postponed. `busy`: the banks of the rank are busy. -/
  | refreshDue (c rank : Nat) (busy : Bool)
  /-- MR4_POLL (R418). Every 128 µs the controller reads mode register 4 of each rank to set the refresh rate. `hot`: a DRAM of the rank calls for double rate. -/
  | mr4Poll (c rank : Nat) (hot : Bool)
  /-- ALERT_N (R420). A CA parity or write CRC error on ALERT_n retries the commands and may send the channel to retrain. `wcrc`: a write CRC error, else a parity error; `ok`: a retry succeeded. -/
  | alertN (c : Nat) (wcrc ok : Bool)
  /-- SELF_REFRESH_ENTRY (R421). A channel idle for SR_IDLE_US enters self-refresh and stops its controller clock. -/
  | selfRefreshEntry (c : Nat)
  /-- SR_DEFER_EXPIRY (R423). Held scrubber reads reach 1,024 or the oldest waits SR_DEFER_MS and the channel wakes. -/
  | srDeferExpiry (c : Nat)
  /-- CH_CTL_RETRAIN (R429). A write of CH_CTL.RETRAIN requests a planned retrain, started or refused. -/
  | chCtlRetrain (c : Nat)
  /-- RETRAIN_DONE (R428). A channel retrain ends; success returns it to ACTIVE and rewrites private copies, three failures make it FAILED. -/
  | retrainDone (c : Nat) (ok : Bool)
  /-- TWIN_FETCH (R426). A TWIN_FETCH message asks the follow for a line by LLA, which it reads from its own copy. -/
  | twinFetch (v : Via) (id line cls : Nat)
  /-- FETCH_DATA (R426). FETCH_DATA returns a twin-fetched line, which the home serves as its own. -/
  | fetchData (v : Via) (id : Nat) (data : Line) (poison : Bool)
  /-- ERR_INJ_ARM (R459). A write of DDRCHn.ERR_INJ arms an injection into the next write burst on a subchannel. The values that the write leaves in the fields. -/
  | errInjArm (c pos mask value sub : Nat)
  /-- SCRUB_STEP (R447). The scrubber, at its paced rate, reads the next burst of the record table, a valid slice or the private area. `priv`: the step takes a burst of the device-private area; `err` are the symbol errors that the burst shows. -/
  | scrubStep (priv : Bool) (err : List Nat)
  /-- PROOF_START (R451). The Proofer takes the next queued row, copies it into two frames and starts the redirect. -/
  | proofStart
  /-- PROOF_HOLD_EXPIRY (R451). The hold time after a pattern expires and the row is read back. `lanes`: the mask of lanes that failed under this pattern. -/
  | proofHoldExpiry (lanes : Nat)
  /-- PROOF_DONE (R452). The row is restored, the redirect ends and the verdict is recorded. -/
  | proofDone
  /-- T0_PATROL (R446). The Tier-0 patrol reads, corrects and rewrites a word in one array operation. `area`: 0 hot data, 1 record cache, 2 shadow, 3 multicast buffer, 4 directory; `bad`: 0 good, 1 corrected, 2 uncorrectable. -/
  | t0Patrol (area item bad : Nat)
  /-- RETIRE_ROW (R453). RETIRE_CMD ROW retires one DRAM row, relocating its slices. -/
  | retireRow
  /-- RETIRE_BANK (R453). RETIRE_CMD BANK retires one bank, relocating its slices and recomputing d_dram. -/
  | retireBank
  /-- RETIRE_DONE (R453). A retirement ends, stores its range and writes RETIRE_STAT.RESULT. -/
  | retireDone
  /-- FWD_REQ (R45). A forwarded request arrives at the home with its host ID, window, arrival device, class and deadline. -/
  | fwdReq (v : Via) (fid : Nat) (r : Request)
  /-- FWD_RSP (R483). A response to a forward reaches the arrival device, which passes it on. -/
  | fwdRsp (v : Via) (fid : Nat) (a : Answer)
  /-- SNOOP_FWD (R127). A snoop forwarded to the arrival device is sent on the host's link at its DPA. -/
  | snoopFwd (v : Via) (dest : Nat) (ref : SnoopRef) (kind : SnoopKind) (host win qla : Nat) (mode : SnoopMode)
  /-- SNOOP_ANS (R152). A snoop answer returns from the arrival device to the home slice. -/
  | snoopAns (v : Via) (ref : SnoopRef) (ans : SnoopAnswer) (fin : SnoopEnd)
  /-- MIRROR_LINE (R471). The follow writes a mirrored line and atomic outcome entry into Tier 0 and countersigns. -/
  | mirrorLine (v : Via) (line : Nat) (data : Line) (poison : Bool) (cls : Nat) (entry : Option AtomicEntry)
  /-- MIRROR_FAIL (R471). The follow applies a mirrored fail record's bit and counter changes and countersigns. -/
  | mirrorFail (v : Via) (dut record cls : Nat)
  /-- MIRROR_OR (R471). The follow applies a mirrored FAIL_OR and countersigns. -/
  | mirrorOr (v : Via) (dut line : Nat) (mask : Line) (cls : Nat)
  /-- MIRROR_REC (R101). The follow applies a loaf-record change, forming its own layout, and countersigns with NSLICE and QEND. -/
  | mirrorRec (v : Via) (lpn : Nat) (l : Layout)
  /-- COMMIT_REC (R469). The follow applies all lines of a commit record in one step, writes the outcome entry and countersigns. -/
  | commitRec (v : Via) (r : CommitRec)
  /-- CSIGN (R33). A countersign reaches the lead, completing the waiting write, commit or migration. -/
  | csign (v : Via) (stream tseq : Nat) (elFree : Int) (l : Option Layout)
  /-- HELLO (R463). A HELLO on a peer link is checked for sides, QIDs, configuration and protocol versions. -/
  | hello (v : Via) (info : PeerInfo)
  /-- STATE (R339). A STATE message reports the twin's service state and class guarantees. -/
  | state (v : Via) (info : PeerInfo)
  /-- WITHDRAW (R479). A WITHDRAW message on a twin link makes the twin lost at once. -/
  | withdraw (v : Via)
  /-- HANDOVER (R494). A HANDOVER message after a slice cut makes the twin home for the slice's pages. -/
  | handover (v : Via) (dest frm stage arg : Nat)
  /-- RS_TABLE (R484). An RS_TABLE message delivers region, geometry, DUT, outcome and atomic tables to the receiver. -/
  | rsTable (v : Via) (regions : List (Nat × Region)) (geos : List (Nat × Geometry)) (duts : List (Nat × Dut)) (outcomes : List (Nat × Nat × Nat × Nat)) (atomics : List (Nat × AtomicEntry)) (gdeq gt0 : List Nat) (poisonKey : Nat)
  /-- RS_LOAF (R486). The receiver stores a resynchronised loaf in its own pool. -/
  | rsLoaf (v : Via) (lpn : Nat) (l : Layout) (stream : List Nat) (poison : Nat)
  /-- RS_LINE (R486). The receiver lands a dirty resynchronised line in its hot-data cache. -/
  | rsLine (v : Via) (line : Nat) (data : Line) (poison : Bool) (cls : Nat)
  /-- RS_DIR (R485). The receiver applies a resynchronised directory entry or log line. -/
  | rsDir (v : Via) (c : DirChange)
  /-- RS_DONE (R489). RS_DONE ends the resync and both devices enter PAIRED. -/
  | rsDone (v : Via)
  /-- RESYNC_START (R484). A device in JOIN finds its twin SOLO, a new poison key is made and tables are sent. -/
  | resyncStart
  /-- RESYNC_STEP (R485). The source copies the next loaf, its dirty lines and directory entries in one step at its home slice. -/
  | resyncStep
  /-- RESYNC_INTERRUPT (R490). An interrupted resync frees the receiver's slices and returns it to JOIN. -/
  | resyncInterrupt
  /-- TIME_SYNC (R496). A TIME_SYNC exchange measures offset and delay and adjusts the time base toward the master. -/
  | timeSync (v : Via) (t1 t2 t3 : Nat) (reply : Bool)
  /-- TIME_SYNC_TIMER (R496). Every 1 ms the device sends TIME_SYNC on every ACTIVE peer link. -/
  | timeSyncTimer
  /-- STEW_REQ (R499). A steward's STEW_REQ accesses a register page of the stewarded device. `write` is none for a read (R499). -/
  | stewReq (v : Via) (id addr : Nat) (write : Option Nat)
  /-- STEW_RSP (R499). A STEW_RSP returns the result of a stewarded register access. -/
  | stewRsp (v : Via) (id : Nat) (ok : Bool) (value : Nat)
  /-- HEARTBEAT_TIMEOUT (R478). TWIN_HB_IN shows no edge for TIMEOUT_US and the heartbeat is seen stopped. -/
  | heartbeatTimeout
  /-- HB_CONFIRM_MISSING (R478). The Hub misses its 8 µs service confirmation and TWIN_HB_OUT is held low. -/
  | hbConfirmMissing
  /-- TWIN_LINKS_WAIT_EXPIRY (R479). Side A, 1 ms after both twin links went down with the heartbeat running, declares the twin lost and sets HB_FAULT. -/
  | twinLinksWaitExpiry
  /-- SOLO_WAIT_EXPIRY (R465). SOLO_WAIT_MS passes in JOIN and the device enters SOLO. -/
  | soloWaitExpiry
  /-- WITHDRAW_CMD (R492). TWIN_CTL.WITHDRAW starts a planned handover when both twins are PAIRED, else sets HANDOVER_REFUSED. -/
  | withdrawCmd
  /-- RETAKE (R491). TWIN_CTL.RETAKE takes back the lead of this side's regions by handover. -/
  | retake
  /-- BATCH_WAIT_EXPIRY (R494). BATCH_WAIT_US passes during a slice handover and open batches abort with TWIN_LOSS. -/
  | batchWaitExpiry
  /-- SITE_DRAIN_DONE (R493). Every accepted site request has its response formed, ending handover step 4 and starting withdrawal. -/
  | siteDrainDone
  /-- HANDOVER_RESET_TIMER (R493). 1 ms after a handover withdrawal with HOLD = 0 the device takes a device reset. -/
  | handoverResetTimer
  /-- REFORWARD (R483). A route or home fails and the arrival device forwards its held request again. -/
  | reforward
  /-- LOCKSTEP_MISMATCH (R522). A management pair stops on a lockstep mismatch and the standby pair takes over. -/
  | lockstepMismatch (pair : Nat)
  /-- MGMT_WATCHDOG_EXPIRY (R522). A management pair misses its watchdog and stops. -/
  | mgmtWatchdogExpiry (pair : Nat)
  /-- ESCALATION_EXPIRY (R511). A source's escalation timer expires with a UC fault present and the fault becomes FT. -/
  | escalationExpiry (source : Nat)
  /-- FATAL_REACTION (R514). An FT fault contains all links, withdraws, writes the FT record and resets the device. -/
  | fatalReaction
  /-- FC_PARITY (R509). An FC_SUMMARY parity mismatch raises a UC fault and rebuilds the summary. -/
  | fcParity
  /-- ERROR_LINE_CHANGE (R507). A block's error line changes class and the collector latches it, starting or stopping the escalation timer. Flag `bit` of page `i` of its type, and the INFO of its record. -/
  | errorLineChange (p : Machine.Page) (inst bit : Nat) (info : List Nat)
  /-- COALESCE_EXPIRY (R530). A coalescing entry's window ends and a REPEAT record is appended if it counted repeats. Entry `n`, the oldest is 0. -/
  | coalesceExpiry (n : Nat)
  /-- LEDGER_PROGRAM_DONE (R525). The writer finishes programming and verifying a record and takes the next from its queue. `ok`: the verify passed. -/
  | ledgerProgramDone (ok : Bool)
  /-- RD_CMD_START (R538). A write of RD_CMD.START reads a ledger or last-words record into RD_DATA. The LAST_WORDS and INDEX fields written with START. -/
  | rdCmdStart (last : Bool) (index : Nat)
  /-- NOTE_CMD_APPEND (R538). A write of NOTE_CMD.APPEND appends a NOTE record, or counts NOTES_DROPPED. -/
  | noteCmdAppend
  /-- FT_STAT_ACK (R518). A write of FT_STAT.ACK clears PEND. -/
  | ftStatAck
  /-- FC_TEST_RAISE (R541). A write of FC_TEST.RAISE sets the TEST flag with the configured class. The CLASS written with RAISE. -/
  | fcTestRaise (cls : Nat)
  /-- LDG_INFO (R539). Endpoint command LDG_INFO returns ledger head, oldest, status, FT status and lost count. -/
  | ldgInfo
  /-- LDG_READ (R539). Endpoint command LDG_READ returns ledger records from a SEQ. -/
  | ldgRead (smbus : Bool) (seq n : Nat)
  /-- LDG_LAST_WORDS (R539). Endpoint command LDG_LAST_WORDS returns one last-words record. -/
  | ldgLastWords (index : Nat)
  /-- FC_SNAPSHOT (R539). Endpoint command FC_SNAPSHOT returns the Strongbox copy of FC_SUMMARY and its age. -/
  | fcSnapshot
  /-- SECTOR_MAP (R539). Endpoint command SECTOR_MAP returns program counts and states of 32 sectors. -/
  | sectorMap (first : Nat)
  /-- TRNG_HEALTH (R545). A Mint health test fails, output stops and a UC fault is raised. -/
  | trngHealth
  /-- TRNG_RECOVER (R545). 1,024 consecutive samples pass both tests and Mint output resumes. -/
  | trngRecover
  /-- REKEY_START (R548). REKEY_CMD.START loads a fresh key in the other slot and starts the sweep, or sets REKEY_REFUSED. -/
  | rekeyStart
  /-- REKEY_STEP (R550). The sweep rewrites one unit under the new key at its paced rate and advances PTR. -/
  | rekeyStep
  /-- REKEY_DRAIN_END (R552). No write-queue entry holds the old slot; it is zeroised and the rekey returns to IDLE. -/
  | rekeyDrainEnd
  /-- CONFIRM (R562). FW_CMD.CONFIRM makes the running trial slot the boot slot. -/
  | confirm
  /-- COMMIT (R565). FW_CMD.COMMIT blows anti-rollback steps to the running SEC_VER and revokes named signers. `ok`: the blow verify succeeds. -/
  | commit (ok : Bool)
  /-- FW_WRITE (R564). Endpoint command FW_WRITE writes up to 64 bytes into the slot that is not running. -/
  | fwWrite (slot off : Nat) (data : List Nat)
  /-- FW_ACTIVATE (R564). Endpoint command FW_ACTIVATE validates a slot and sets it as the next trial. -/
  | fwActivate (slot : Nat)
  /-- CHALLENGE (R570). DBG_CMD.CHALLENGE or DBG_CHALLENGE draws a 16-byte nonce from the Mint. The agent that writes DBG_CMD; none for the endpoint command DBG_CHALLENGE. -/
  | challenge (ag : Option Agent)
  /-- SUBMIT (R572). DBG_CMD.SUBMIT or the final DBG_TOKEN chunk checks a debug token and opens its scope or rejects it. The agent that writes DBG_CMD.SUBMIT. -/
  | submit (ag : Agent)
  /-- DBG_TOKEN_CHUNK (R564). Endpoint command DBG_TOKEN stores a chunk of token bytes. -/
  | dbgTokenChunk (off : Nat) (data : List Nat)
  /-- RELOCK (R573). DBG_CMD.RELOCK closes every debug scope. The agent that writes DBG_CMD.RELOCK. -/
  | relock (ag : Agent)
  /-- NONCE_EXPIRY (R570). A debug nonce expires 600 s after it was drawn. -/
  | nonceExpiry
  /-- DBG_GO (R574). DBG_CTL.GO moves 4 B between DBG_DATA and a RAW or REG address. The contents of DBG_ADDR and DBG_DATA and the WRITE bit of the GO (R574). -/
  | dbgGo (addr data : Nat) (write : Bool)
  /-- JTAG_LOCKED (R568). A debug instruction shifted while the JTAG scope is locked acts as BYPASS and raises an alarm. The debug instruction shifted in: 1 DBG_ADDR, 2 DBG_DATA, 3 DBG_CTL. -/
  | jtagLocked (instr : Nat)
  /-- TRST (R674). TRST_L resets the TAP only. -/
  | trst
  /-- DROOP_TRIP (R590). A droop detector trips and the domain's clocks stretch by 25 %. Domain and detector. -/
  | droopTrip (dom det : Nat)
  /-- STRETCH_END (R590). 1 µs after the last detector clears, the stretch ends. -/
  | stretchEnd (dom : Nat)
  /-- DROOP_SAG (R591). A trip lasting over 10 µs steps the domain's divider down one level. -/
  | droopSag (dom det : Nat)
  /-- DIV_RESTORE (R591). HOLD_MS passes with no trip and the divider returns one level up. -/
  | divRestore (dom : Nat)
  /-- THROTTLE_ON (R594). Tj reaches 105 °C, a throttle step is taken and the background engines pause. New sensor readings in °C. -/
  | throttleOn (readings : List (Nat × Int))
  /-- THROTTLE_STEP_TIMER (R594). Every 1 ms at 105 °C or more another throttle step is taken, and every 10 ms below 100 °C one is removed. -/
  | throttleStepTimer (readings : List (Nat × Int))
  /-- THERM_TRIP (R594). Tj at 115 °C for 10 µs runs the fatal reaction and turns main power off. -/
  | thermTrip (readings : List (Nat × Int))
  /-- SENSOR_FAULT (R593). A junction sensor reads out of range or disagrees and is excluded. -/
  | sensorFault (n : Nat) (t : Int)
  /-- REF_LOSS (R588). An SIO or host/peer reference is lost and its links and channels react. 0 to 3 SIO, 4 host/peer. -/
  | refLoss (r : Nat)
  /-- XTAL_LOSS (R588). The crystal is lost, the always-on clock switches to the RC oscillator and an FT is raised. -/
  | xtalLoss
  /-- REF_RETURN (R588). A returning reference has been within limits for 1 ms and is used again. -/
  | refReturn (r : Nat)
  /-- SIO_REF_TIMEOUT (R588). An SIO reference stays absent for 100 ms and its channels become FAILED. -/
  | sioRefTimeout (q : Nat)
  /-- AGEING_MEASURE (R595). Every hour the ageing monitors are counted and degradation computed. Monitor, and the counts of its stressed and its reference oscillator over 1 ms. -/
  | ageingMeasure (counts : List (Nat × Nat × Nat))
  /-- PLAN_DUE (R597). PERIOD_D days have passed, or start-up finds a plan overdue, and a margin plan is made. The items that the measurements call for. -/
  | planDue (items : List PlanItem)
  /-- REPLAN (R597). A write of PLAN_CTL.REPLAN makes a margin plan now. -/
  | replan (items : List PlanItem)
  /-- PLAN_ITEM_START (R599). The next plan item starts when its conditions hold, or waits and retries every 60 s. -/
  | planItemStart
  /-- PLAN_ITEM_END (R599). A plan item ends, successfully or with ITEM_FAILED. -/
  | planItemEnd (ok : Bool)
  /-- VR_ALERT (R668). VR_ALERT_L low for 10 µs acts as a rail leaving its window. The output at the trip, in 10 mA and 10 mV. -/
  | vrAlert (iout vout : Nat)
  /-- CAL_OPEN (R602). CAL_CMD.OPEN copies the calibration set into staging. -/
  | calOpen (ag : Agent)
  /-- CAL_COMMIT (R602). CAL_CMD.COMMIT recomputes CRCs and programs the changed sections. -/
  | calCommit (ag : Agent)
  /-- CAL_ABORT (R603). CAL_CMD.ABORT discards the staging. -/
  | calAbort (ag : Agent)
  /-- CAL_DATA_ACCESS (R605). An access to CAL_DATA reads or writes the word at CAL_OFS and adds 4 to CAL_OFS. A read, or a write of a value, of CAL_DATA (R605). -/
  | calDataAccess (ag : Agent) (write : Option Nat)
  /-- CAL_OPERATION_DONE (R602). An OPEN copy or a COMMIT completes and BUSY clears. -/
  | calOperationDone
  /-- BLOCK_POWER_GATE (R583). A block idle for 100 µs under AUTO gates its power. -/
  | blockPowerGate (p : Machine.Page) (inst : Nat)
  /-- BLOCK_WAKE (R586). The first request to a stopped block wakes it within its wake latency. -/
  | blockWake (p : Machine.Page) (inst : Nat)
  /-- PRSNT_L_FALL (R622). PRSNT_L goes low and the insertion debounce starts. -/
  | prsntLFall
  /-- INSERTION_RECOGNISED (R622). PRSNT_L has been low for 100 ms and insertion is recognised. -/
  | insertionRecognised
  /-- EXTRACTION (R623). PRSNT_L goes high while in service and withdrawal starts at once with cause BLADE. -/
  | extraction
  /-- GATE_OFF_TIMER (R623). 100 µs after extraction or an OFF the Strongbox turns HSW_GATE off. -/
  | gateOffTimer
  /-- RAMP_COMPLETE (R608). VIN − VOUT falls to 1.0 V or less and the ramp is complete. The measured output in 10 mA and 10 mV. -/
  | rampComplete (iout vout : Nat)
  /-- PG_QUALIFIED (R616). 64 consecutive good always-on cycles pass and BLADE_PG rises. The measured output in 10 mA and 10 mV. -/
  | pgQualified (iout vout : Nat)
  /-- PG_WINDOW_LOSS (R617). The output leaves its window with no trip and BLADE_PG falls. The measured output in 10 mV. -/
  | pgWindowLoss (vout : Nat)
  /-- FAULT_TIMER (R610). The fault timer reaches FAULT_US while in limit and the supply trips. The measured output in 10 mA and 10 mV. -/
  | faultTimer (iout vout : Nat)
  /-- FAST (R611). Current at twice ILIM for 1 µs trips the supply at once. The measured output in 10 mA and 10 mV. -/
  | fast (iout vout : Nat)
  /-- FET_MEAS (R612). The measured FET temperature reaches 150 °C and the supply trips. The measured temperature in °C. -/
  | fetMeas (t : Int)
  /-- FET_MODEL (R612). The modelled FET temperature reaches 150 °C and the supply trips. One always-on cycle of the model, with the input voltage measured in it. -/
  | fetModel (vin : Nat)
  /-- OV (R613). The output above OV_V for 1 µs trips the supply. The measured output in 10 mA and 10 mV. -/
  | ov (iout vout : Nat)
  /-- UV (R613). The output below UV_V for 100 µs after the ramp trips the supply. The measured output in 10 mA and 10 mV. -/
  | uv (iout vout : Nat)
  /-- RAILS (R614). Main rails not good 50 ms after BLADE_PG, or a rail out for 10 µs, trips the supply. The measured output in 10 mA and 10 mV. -/
  | rails (iout vout : Nat)
  /-- RETRY_DELAY_EXPIRY (R618). The retry delay after a trip ends and the FET is turned on again. -/
  | retryDelayExpiry
  /-- TRIP_COUNT_CLEAR (R621). BLADE_PG stays asserted for 60 s without a trip and TRIP_COUNT returns to 0. -/
  | tripCountClear
  /-- AUX_LOST (R625). AUX falls below 3.00 V for 1 µs; the gate, BLADE_PG and the heartbeat fall. -/
  | auxLost
  /-- AUX_GOOD (R625). AUX reaches 3.10 V and an AUX start begins. -/
  | auxGood
  /-- AUX_LOW (R638). AUX below 3.135 V for 10 µs sets a CE fault. -/
  | auxLow
  /-- HSW_CTL_OFF (R624). HSW_CTL.OFF sets the off hold and starts withdrawal. -/
  | hswCtlOff
  /-- HSW_CTL_ON (R624). HSW_CTL.ON clears the off hold. -/
  | hswCtlOn
  /-- HSW_STATUS (R635). Endpoint command HSW_STATUS returns HSW status, measurements and RST_STAT. -/
  | hswStatus
  /-- HSW_CLEAR (R620). Endpoint command HSW_CLEAR ends LOCKOUT, zeroes TRIP_COUNT and lets the FET turn on. -/
  | hswClear
  /-- HSW_OFF (R624). Endpoint command HSW_OFF sets the off hold and starts withdrawal. -/
  | hswOff
  /-- HSW_ON (R624). Endpoint command HSW_ON clears the off hold. -/
  | hswOn
  /-- DEV_RESET (R635). Endpoint command DEV_RESET requests a device reset, refused while main power is off. -/
  | devReset
  /-- DEV_CMD_RESET (R637). A write of RST.DEV_CMD.RESET requests a device reset unless the page is locked. -/
  | devCmdReset
  /-- BLK_RESET_GO (R631). A write of BLK_RESET.GO resets one block instance, or is refused, absent or busy. The block code and number of R631. -/
  | blkResetGo (code inst : Nat)
  /-- BLK_RESET_DONE (R631). A block reset ends and BLK_DONE is set. The block and instance of R631. -/
  | blkResetDone (code inst : Nat)
  /-- REG_READ (R653). Endpoint command REG_READ returns a register word. REG_READ of the management endpoint (R653). -/
  | regRead (addr : Nat)
  /-- REG_WRITE (R653). Endpoint command REG_WRITE writes a register word. REG_WRITE of the management endpoint (R653). -/
  | regWrite (addr value : Nat)
  /-- EVT_CLR_WRITE (R645). A write to EVT_CLR clears the event flags only if its sequence equals EVT_SEQ. A write of EVT_CLR of the page with this number: its address over 4096 (R645). -/
  | evtClrWrite (ag : Agent) (page value : Nat)
  /-- ERR_CLR_WRITE (R645). A write to ERR_CLR clears error flags, ACC_ERR and ACC_REFUSED only if its sequence equals ERR_SEQ. A write of ERR_CLR of a page (R645). -/
  | errClrWrite (ag : Agent) (page value : Nat)
  /-- ERR_INJ_WRITE (R647). A write of 1 to an ERR_INJ bit raises the flag as if its condition had occurred. A write of ERR_INJ of a page (R647). -/
  | errInjWrite (ag : Agent) (page value : Nat)
  /-- PAGE_CTL_WRITE (R643). A PAGE_CTL write sets LOCK, ENABLE and POWER_POLICY under the lock rules. A write of PAGE_CTL of a page (R643). -/
  | pageCtlWrite (ag : Agent) (page value : Nat)
  /-- LOCK_ALL (R657). A write of DEV.LOCK_ALL sets LOCK in every present page. A write of 1 to DEV.LOCK_ALL (R657). -/
  | lockAll (ag : Agent)
  /-- RL_READ (R650). A read of an RL word latches the agent's shadow of the words it names. A read of `size` bytes of the register space by an agent (R366, R650). -/
  | rlRead (ag : Agent) (addr size : Nat)
  /-- REGISTER_WRITE (R13). A write to a register with no behaviour of its own stores RW and RWL fields under the reserved-encoding and lock rules. A write of `size` bytes to the register space by an agent (R13, R366). -/
  | registerWrite (ag : Agent) (addr size value : Nat)
  /-- TXN_FLIT (R223). A TXN flit with a good CRC is accepted, discarded as duplicate or triggers a NAK, and its ACK and credits are applied. `hdrErrs`: its blocks with an invalid 64b/66b header. -/
  | txnFlit (k : LinkId) (h : FlitHdr) (hdrErrs : Nat)
  /-- IDLE_FLIT (R223). An IDLE flit updates ACK and credits and may trigger a NAK. -/
  | idleFlit (k : LinkId) (h : FlitHdr) (hdrErrs : Nat)
  /-- BAD_CRC_FLIT (R211). A flit with a bad CRC, or a discarded frame, is discarded and a NAK is sent. -/
  | badCrcFlit (k : LinkId) (hdrErrs : Nat)
  /-- RETRAIN (R209). An LCTL RETRAIN takes the link down. -/
  | retrain (k : LinkId) (h : LctlFlit)
  /-- SLEEP_REQ (R243). An LCTL SLEEP_REQ is answered with SLEEP_ACK or SLEEP_NAK. -/
  | sleepReq (k : LinkId) (h : LctlFlit)
  /-- SLEEP_ACK (R243). An LCTL SLEEP_ACK completes the handshake and the link enters SLEEP. -/
  | sleepAck (k : LinkId) (h : LctlFlit)
  /-- SLEEP_NAK (R243). An LCTL SLEEP_NAK refuses sleep and TXN traffic resumes. -/
  | sleepNak (k : LinkId) (h : LctlFlit)
  /-- DISABLE (R209). An LCTL DISABLE takes the link down to wait in DETECT. -/
  | disable (k : LinkId) (h : LctlFlit)
  /-- TS1 (R213). A TS1 flit is counted toward leaving TS1, or takes an ACTIVE link down. -/
  | ts1 (t : Ts1Flit)
  /-- TS2 (R215). A TS2 flit is checked for role and credits and counted toward END, or takes an ACTIVE link down. -/
  | ts2 (k : LinkId) (f : TrainFields)
  /-- TS_END (R214). A TS_END completes END for the receiver, leading to ACTIVE with resume or flush. -/
  | tsEnd (k : LinkId)
  /-- LOCK_ACQUIRED (R213). In DETECT the receiver gains lock and flit alignment and moves to TS1. -/
  | lockAcquired (k : LinkId) (lanes : Nat)
  /-- SKIP_FRAME (R206). A Ronlink-P SKIP frame is recognised and may be dropped or inserted. -/
  | skipFrame (p : Nat) (adjusted : Bool)
  /-- DATA_FRAME (R207). A Ronlink-P data frame is FEC-decoded and its three flits delivered or discarded. -/
  | dataFrame (p : Nat) (bytes : List Nat)
  /-- FRAMING_LOSS (R207). Eight uncorrectable frames in a row, 2,048 frames without SKIP, or a phase slip take the link down. -/
  | framingLoss (k : LinkId)
  /-- REPLAY_TIMER_EXPIRY (R226). The replay timer expires with flits unacknowledged and a replay starts from oldest. -/
  | replayTimerExpiry (k : LinkId)
  /-- TRAIN_TIMEOUT (R214). A link not ACTIVE within TIMEOUT_MS of DETECT enters QUIET and counts TRAIN_FAILS. -/
  | trainTimeout (k : LinkId)
  /-- QUIET_EXPIRY (R213). 1 ms of QUIET passes and the link enters DETECT. -/
  | quietExpiry (k : LinkId)
  /-- GRACE_EXPIRY (R242). The grace timer expires before ACTIVE and the device flushes. -/
  | graceExpiry (k : LinkId)
  /-- LOSS_OF_SIGNAL (R245). Loss of signal for more than 1 µs while ACTIVE takes the link down. -/
  | lossOfSignal (k : LinkId)
  /-- LINK_ENABLE (R213). A DISABLED link is enabled and enters DETECT. -/
  | linkEnable (k : LinkId)
  /-- WAKE_PATTERN (R244). The site's wake pattern makes the device enter DETECT within 10 µs. -/
  | wakePattern (k : LinkId)
  /-- LINK_CTL_RETRAIN (R247). A write of LINK_CTL.RETRAIN takes the link down. -/
  | linkCtlRetrain (k : LinkId)
  /-- FORCE_NEW (R247). A write of LINK_CTL.FORCE_NEW makes the next training offer NEW. -/
  | forceNew (k : LinkId)
  /-- MAIN_RAILS_GOOD (R614). Every main-rail monitor reports its rail in limits and the Hub leaves reset. -/
  | mainRailsGood
  /-- VIN_IN_RANGE (R608). VIN comes within 40–60 V, so the FET may turn on if the other conditions of R608 hold. The measured VIN in 10 mV. -/
  | vinInRange (vin : Nat)
  /-- TSNS_FAULT (R612). HSW_TSNS reads outside −40–200 °C; the Strongbox uses 125 °C for t_meas and sets the CE flag TSNS_FAULT. -/
  | tsnsFault
  /-- T0_DIE_FAIL (R543). A Tier-0 die stops responding and the FT flag T0_DIE_FAIL_t is raised. -/
  | t0DieFail (die : Nat)
  /-- RECEIVER_MARGINING (R596). Once a day each Ronlink and host-port receiver measures its eye height and width for the margin plan. kind 0 site, 1 peer, 2 host link. -/
  | receiverMargining (kind n height width : Nat)
  /-- TS_END_SENT (R213). The fourth TS_END flit has been sent, the END state ends and the link enters ACTIVE. -/
  | tsEndSent (k : LinkId)
  /-- PERST_L_RISE (R627). PERST_L[n] rises and the port's links start to train, with configuration requests retried until firmware runs. -/
  | perstLRise (p : Nat)
  deriving DecidableEq, Repr

end Sys2Proof
end

