-- ==== Sys2Proof/Config.lean ====
section
/-! DEFINITION. What the spec leaves open: constants without a body, so that nothing can be proved of their values. -/

namespace Sys2Proof

/-- The token bytes that the encoder chooses for the 1,024 bytes of a quarter in mode LZ, end token included. R85
says that they are a fixed function of the bytes and does not give the function (log entry 5). -/
opaque Config.lzTokens : List Nat → List Nat

/-- A value that the spec does not state, numbered by the counter `fresh` of the state (log entry 6). -/
opaque Config.freeLine : Nat → Line

/-- A number that the spec does not state, numbered by the counter `fresh` of the state (log entry 6). -/
opaque Config.freeNat : Nat → Nat

/-- The items of a margin plan that a write of PLAN_CTL.REPLAN makes: they follow from measurements inside the device
(log entry 6). -/
opaque Config.freeItems : Nat → List PlanItem

/-- The hash of a local page number that picks the Tier-0 die and the set of its frame (R20, R74): the spec names it and does
not give it (log entry 106). -/
opaque Config.t0Hash : Nat → Nat

/-- The way that the replacement rule picks among candidates: R74 and R130 name pseudo-LRU and do not
define it (log entry 7). -/
opaque Config.victim : Nat → Nat

/-- The 15 bits that a witness item gives for a count of uncovered cells that needs more bits: R315 states none (log
entry 9). -/
opaque Config.wideCount : Nat → Nat

/-- What PCI Express and CXL define for a configuration register of a host link, and the spec does not state (log entry 125). -/
opaque Config.cfgWord : Nat → Nat → Nat

/-- What CXL defines for a word of BAR0 in the CXL structures, the mailbox and the MSI-X table, by link and offset, and the spec does not state
(log entry 125). -/
opaque Config.barWord : Nat → Nat → Nat

/-- The word of the calibration set that holds the baseline ratio of an ageing monitor: R601 says that the set holds it, not where (log entry 137). -/
opaque Config.baselineWord : Nat → Nat

/-- The ratio that a baseline word stands for, as numerator and denominator (log entry 137). -/
opaque Config.baselineRatio : Nat → Nat × Nat

/-- The section of the calibration set that holds the training seed of a channel (R601; log entry 137). -/
opaque Config.seedSection : Nat → Nat

/-! ### Standard functions that the spec names and does not define (log entry 14) -/

/-- SHA-384 of bytes. -/
opaque Config.sha384 : List Nat → List Nat

/-- Does an Ed25519 signature over a message verify under a public key: key, message, signature? -/
opaque Config.edVerifies : List Nat → List Nat → List Nat → Bool

/-- Does an ML-DSA-65 signature verify: key, context string, message, signature? -/
opaque Config.mldsaVerifies : List Nat → List Nat → List Nat → List Nat → Bool

/-- AES-256 of one 16-byte block: key, block. -/
opaque Config.aes256 : Nat → BitVec 128 → BitVec 128

/-- The two 256-bit halves of the memory key with a number, as the Mint gives them (R544, R546; log entry 6). -/
opaque Config.memKey : Nat → Nat × Nat

/-- The Ed25519 signature of the Alias key of the running firmware: salt of R557, message. -/
opaque Config.edSign : List Nat → List Nat → List Nat

/-- The ML-DSA-65 signature of the Alias key of the running firmware: salt, context string, message. -/
opaque Config.mldsaSign : List Nat → List Nat → List Nat → List Nat

/-- The content of flit `i` of a peer message, where the spec leaves its fields to the device (R467). -/
opaque Config.msgField : PeerMsg → Option Nat → Nat → Line

end Sys2Proof
end

