-- ==== Sys2Proof/Machine/FlagTable.lean ====
section
/-! DEFINITION. The flag tables of spec/: every EVT_STAT and ERR_STAT flag with its page, bit and fault class (R506, R646).
FC.TEST takes its class from FC_TEST.CLASS (R543); the class written here is never used for it. -/

namespace Sys2Proof.Machine

/-- The fault classes of R506, lowest first. -/
inductive FaultClass where
  | none | ce | uc | ft
  deriving DecidableEq, Repr

/-- The code of a class in SRC_STAT.CLASS and PAGE_STAT.ERR_CLASS (R541, R640). -/
def FaultClass.code : FaultClass → Nat
  | .none => 0 | .ce => 1 | .uc => 2 | .ft => 3

/-- One flag: its page type, whether it is in ERR_STAT (else EVT_STAT), its bit and its fault class. -/
structure Flag where
  page : Page
  err : Bool
  bit : Nat
  cls : FaultClass
  deriving DecidableEq, Repr

/-- 03_tiers_loaves R117. -/
def TIER.flag.EL_LOW : Flag := ⟨.tier, false, 0, .none⟩
/-- 03_tiers_loaves R117. -/
def TIER.flag.EL_EXHAUSTED : Flag := ⟨.tier, false, 1, .none⟩
/-- 03_tiers_loaves R117. -/
def TIER.flag.EL_DEFICIT : Flag := ⟨.tier, false, 2, .none⟩
/-- 03_tiers_loaves R117. -/
def TIER.flag.BIN_FULL : Flag := ⟨.tier, false, 3, .none⟩
/-- 03_tiers_loaves R117. -/
def TIER.flag.ENGINE_FENCED : Flag := ⟨.tier, false, 4, .none⟩
/-- 03_tiers_loaves R117. -/
def TIER.flag.AUDIT_DONE : Flag := ⟨.tier, false, 5, .none⟩
/-- 03_tiers_loaves R117. -/
def TIER.flag.CAP_HOST_DISCARD : Flag := ⟨.tier, false, 6, .none⟩
/-- 03_tiers_loaves R117. -/
def BAKER.flag.SWEEP_DONE : Flag := ⟨.baker, false, 0, .none⟩
/-- 03_tiers_loaves R117. -/
def BAKER.flag.BUDGET_LIMITED : Flag := ⟨.baker, false, 1, .none⟩
/-- 03_tiers_loaves R117. -/
def TIER.flag.RECORD_CORRUPT : Flag := ⟨.tier, true, 0, .uc⟩
/-- 03_tiers_loaves R117. -/
def TIER.flag.QUARTER_CORRUPT : Flag := ⟨.tier, true, 1, .uc⟩
/-- 03_tiers_loaves R117. -/
def TIER.flag.QUARTER_RECOVERED : Flag := ⟨.tier, true, 2, .ce⟩
/-- 03_tiers_loaves R117. -/
def TIER.flag.VERIFY_FAIL : Flag := ⟨.tier, true, 3, .ce⟩
/-- 03_tiers_loaves R117. -/
def TIER.flag.ENGINES_LOST : Flag := ⟨.tier, true, 4, .ft⟩
/-- 04_coherence R159. -/
def COH.flag.SET_OVF_RAISED : Flag := ⟨.coh, false, 0, .none⟩
/-- 04_coherence R159. -/
def COH.flag.LOG_FULL : Flag := ⟨.coh, false, 1, .none⟩
/-- 04_coherence R159. -/
def COH.flag.SWEEP_DONE : Flag := ⟨.coh, false, 2, .none⟩
/-- 04_coherence R159. -/
def COH.flag.NOTICE_LATE : Flag := ⟨.coh, false, 3, .none⟩
/-- 04_coherence R159. -/
def COH.flag.BI_TIMEOUT : Flag := ⟨.coh, true, 0, .uc⟩
/-- 04_coherence R159. -/
def COH.flag.LINK_LOSS : Flag := ⟨.coh, true, 1, .uc⟩
/-- 04_coherence R159. -/
def COH.flag.HOST_DUP : Flag := ⟨.coh, true, 2, .none⟩
/-- 05_batches R194. -/
def BATCH.flag.SHADOW_EMPTY : Flag := ⟨.batch, false, 0, .none⟩
/-- 05_batches R194. -/
def BATCH.flag.TIMEOUT_ABORT : Flag := ⟨.batch, false, 1, .none⟩
/-- 05_batches R194. -/
def BATCH.flag.TWIN_LOSS_ABORT : Flag := ⟨.batch, false, 2, .none⟩
/-- 05_batches R194. -/
def BWIN.flag.OUTCOME : Flag := ⟨.bwin, false, 0, .none⟩
/-- 05_batches R194. -/
def BWIN.flag.ACCESS_REFUSED : Flag := ⟨.bwin, true, 0, .none⟩
/-- 05_batches R194. -/
def BWIN.flag.BAD_SIZE : Flag := ⟨.bwin, true, 1, .none⟩
/-- 05_batches R194. -/
def BWIN.flag.CMD_STATE : Flag := ⟨.bwin, true, 2, .none⟩
/-- 05_batches R194. -/
def BWIN.flag.BASE_BUSY : Flag := ⟨.bwin, true, 3, .none⟩
/-- 06_ronlink R249. -/
def SITE.flag.LINK_UP : Flag := ⟨.site, false, 0, .none⟩
/-- 06_ronlink R249. -/
def PEER.flag.LINK_UP : Flag := ⟨.peer, false, 0, .none⟩
/-- 06_ronlink R249. -/
def SITE.flag.LINK_DOWN : Flag := ⟨.site, false, 1, .none⟩
/-- 06_ronlink R249. -/
def PEER.flag.LINK_DOWN : Flag := ⟨.peer, false, 1, .none⟩
/-- 06_ronlink R249. -/
def SITE.flag.GRACE_EXPIRED : Flag := ⟨.site, false, 2, .none⟩
/-- 06_ronlink R249. -/
def PEER.flag.GRACE_EXPIRED : Flag := ⟨.peer, false, 2, .none⟩
/-- 06_ronlink R249. -/
def SITE.flag.FLUSHED : Flag := ⟨.site, false, 3, .none⟩
/-- 06_ronlink R249. -/
def PEER.flag.FLUSHED : Flag := ⟨.peer, false, 3, .none⟩
/-- 06_ronlink R249. -/
def SITE.flag.SLEEP_ENTERED : Flag := ⟨.site, false, 4, .none⟩
/-- 06_ronlink R249. -/
def PEER.flag.SLEEP_ENTERED : Flag := ⟨.peer, false, 4, .none⟩
/-- 06_ronlink R249. -/
def SITE.flag.WIDTH_DEGRADED : Flag := ⟨.site, false, 5, .none⟩
/-- 06_ronlink R249. -/
def PEER.flag.WIDTH_DEGRADED : Flag := ⟨.peer, false, 5, .none⟩
/-- 06_ronlink R249. -/
def SITE.flag.FRAMING_LOSS : Flag := ⟨.site, true, 0, .ce⟩
/-- 06_ronlink R249. -/
def PEER.flag.FRAMING_LOSS : Flag := ⟨.peer, true, 0, .ce⟩
/-- 06_ronlink R249. -/
def SITE.flag.REPLAY_LIMIT : Flag := ⟨.site, true, 1, .ce⟩
/-- 06_ronlink R249. -/
def PEER.flag.REPLAY_LIMIT : Flag := ⟨.peer, true, 1, .ce⟩
/-- 06_ronlink R249. -/
def SITE.flag.PROTO_ERR : Flag := ⟨.site, true, 2, .ce⟩
/-- 06_ronlink R249. -/
def PEER.flag.PROTO_ERR : Flag := ⟨.peer, true, 2, .ce⟩
/-- 06_ronlink R249. -/
def SITE.flag.TRAIN_FAIL : Flag := ⟨.site, true, 3, .none⟩
/-- 06_ronlink R249. -/
def PEER.flag.TRAIN_FAIL : Flag := ⟨.peer, true, 3, .none⟩
/-- 06_ronlink R249. -/
def SITE.flag.ROLE_MISMATCH : Flag := ⟨.site, true, 4, .none⟩
/-- 06_ronlink R249. -/
def PEER.flag.ROLE_MISMATCH : Flag := ⟨.peer, true, 4, .none⟩
/-- 06_ronlink R249. -/
def SITE.flag.CREDIT_REJECT : Flag := ⟨.site, true, 5, .none⟩
/-- 06_ronlink R249. -/
def PEER.flag.CREDIT_REJECT : Flag := ⟨.peer, true, 5, .none⟩
/-- 07_site_traffic R285. -/
def MCAST.flag.DISABLED : Flag := ⟨.mcast, false, 0, .none⟩
/-- 07_site_traffic R285. -/
def MCAST.flag.BAD_SOURCE : Flag := ⟨.mcast, true, 0, .none⟩
/-- 07_site_traffic R285. -/
def MCAST.flag.CFG_BUSY : Flag := ⟨.mcast, true, 1, .none⟩
/-- 08_fail_services R328. -/
def FAIL.flag.CMD_DONE : Flag := ⟨.fail, false, 0, .none⟩
/-- 08_fail_services R328. -/
def FAIL.flag.TREE_REBUILT : Flag := ⟨.fail, false, 1, .none⟩
/-- 08_fail_services R328. -/
def FAIL.flag.DUT_LOST : Flag := ⟨.fail, false, 2, .none⟩
/-- 08_fail_services R328. -/
def FAIL.flag.CMD_BUSY : Flag := ⟨.fail, true, 0, .none⟩
/-- 08_fail_services R328. -/
def ASSAY.flag.JOB_DONE : Flag := ⟨.assay, false, 0, .none⟩
/-- 08_fail_services R328. -/
def ASSAY.flag.QUEUE_STOPPED : Flag := ⟨.assay, false, 1, .none⟩
/-- 08_fail_services R328. -/
def ASSAY.flag.BAD_DOORBELL : Flag := ⟨.assay, true, 0, .none⟩
/-- 08_fail_services R328. -/
def ASSAY.flag.CFG_BUSY : Flag := ⟨.assay, true, 1, .none⟩
/-- 09_qos R357. -/
def QOS.flag.ADMIT_DONE : Flag := ⟨.qos, false, 0, .none⟩
/-- 09_qos R357. -/
def QOS.flag.DEMOTED : Flag := ⟨.qos, false, 1, .none⟩
/-- 09_qos R357. -/
def QOS.flag.RESTORED : Flag := ⟨.qos, false, 2, .none⟩
/-- 09_qos R357. -/
def QOS.flag.RED_ENTER : Flag := ⟨.qos, false, 3, .none⟩
/-- 09_qos R357. -/
def QOS.flag.SITE_SHORT : Flag := ⟨.qos, false, 4, .none⟩
/-- 10_host_ports R388. -/
def DMA.flag.DESC_DONE : Flag := ⟨.dma, false, 0, .none⟩
/-- 10_host_ports R388. -/
def DMA.flag.QUEUE_STOPPED : Flag := ⟨.dma, false, 1, .none⟩
/-- 10_host_ports R388. -/
def DMA.flag.BAD_DOORBELL : Flag := ⟨.dma, true, 0, .none⟩
/-- 10_host_ports R388. -/
def DMA.flag.CFG_BUSY : Flag := ⟨.dma, true, 1, .none⟩
/-- 10_host_ports R400. -/
def HOST.flag.LINK_UP_L0 : Flag := ⟨.host, false, 0, .none⟩
/-- 10_host_ports R400. -/
def HOST.flag.LINK_UP_L1 : Flag := ⟨.host, false, 8, .none⟩
/-- 10_host_ports R400. -/
def HOST.flag.LINK_DOWN_L0 : Flag := ⟨.host, false, 1, .none⟩
/-- 10_host_ports R400. -/
def HOST.flag.LINK_DOWN_L1 : Flag := ⟨.host, false, 9, .none⟩
/-- 10_host_ports R400. -/
def HOST.flag.CONTAINED_L0 : Flag := ⟨.host, false, 2, .none⟩
/-- 10_host_ports R400. -/
def HOST.flag.CONTAINED_L1 : Flag := ⟨.host, false, 10, .none⟩
/-- 10_host_ports R400. -/
def HOST.flag.RELEASED_L0 : Flag := ⟨.host, false, 3, .none⟩
/-- 10_host_ports R400. -/
def HOST.flag.RELEASED_L1 : Flag := ⟨.host, false, 11, .none⟩
/-- 10_host_ports R400. -/
def HOST.flag.FLR_DONE_L0 : Flag := ⟨.host, false, 4, .none⟩
/-- 10_host_ports R400. -/
def HOST.flag.FLR_DONE_L1 : Flag := ⟨.host, false, 12, .none⟩
/-- 10_host_ports R400. -/
def HOST.flag.PROTO_ERR_L0 : Flag := ⟨.host, true, 0, .none⟩
/-- 10_host_ports R400. -/
def HOST.flag.PROTO_ERR_L1 : Flag := ⟨.host, true, 8, .none⟩
/-- 10_host_ports R400. -/
def HOST.flag.RELEASE_EARLY_L0 : Flag := ⟨.host, true, 1, .none⟩
/-- 10_host_ports R400. -/
def HOST.flag.RELEASE_EARLY_L1 : Flag := ⟨.host, true, 9, .none⟩
/-- 11_memory_channels R433. -/
def DDRCH.flag.OUT_OF_SERVICE : Flag := ⟨.ddrch, false, 0, .none⟩
/-- 11_memory_channels R433. -/
def DDRCH.flag.IN_SERVICE : Flag := ⟨.ddrch, false, 1, .none⟩
/-- 11_memory_channels R433. -/
def DDRCH.flag.RECPIN_FULL : Flag := ⟨.ddrch, false, 2, .none⟩
/-- 11_memory_channels R433. -/
def DDRCH.flag.FULL_TRAIN : Flag := ⟨.ddrch, false, 3, .none⟩
/-- 11_memory_channels R433. -/
def DDRCH.flag.BUS_RETRAIN : Flag := ⟨.ddrch, true, 0, .ce⟩
/-- 11_memory_channels R433. -/
def DDRCH.flag.CH_FAILED : Flag := ⟨.ddrch, true, 1, .uc⟩
/-- 11_memory_channels R433. -/
def DDRCH.flag.RETRAIN_REFUSED : Flag := ⟨.ddrch, true, 2, .none⟩
/-- 11_memory_channels R433. -/
def DDRCH.flag.POP_FAULT : Flag := ⟨.ddrch, true, 3, .none⟩
/-- 12_memory_integrity R460. -/
def INTEG.flag.PASS_DONE : Flag := ⟨.integ, false, 0, .none⟩
/-- 12_memory_integrity R460. -/
def INTEG.flag.VERDICT : Flag := ⟨.integ, false, 1, .none⟩
/-- 12_memory_integrity R460. -/
def INTEG.flag.PERMANENT : Flag := ⟨.integ, false, 2, .none⟩
/-- 12_memory_integrity R460. -/
def INTEG.flag.RETIRE_DONE : Flag := ⟨.integ, false, 3, .none⟩
/-- 12_memory_integrity R460. -/
def INTEG.flag.FENCED : Flag := ⟨.integ, false, 4, .none⟩
/-- 12_memory_integrity R460. -/
def INTEG.flag.MEM_CE : Flag := ⟨.integ, true, 0, .ce⟩
/-- 12_memory_integrity R460. -/
def INTEG.flag.MEM_RECOVERED : Flag := ⟨.integ, true, 1, .ce⟩
/-- 12_memory_integrity R460. -/
def INTEG.flag.MEM_UNCORR : Flag := ⟨.integ, true, 2, .uc⟩
/-- 12_memory_integrity R460. -/
def INTEG.flag.T0_CE : Flag := ⟨.integ, true, 3, .ce⟩
/-- 12_memory_integrity R460. -/
def INTEG.flag.T0_REFETCH : Flag := ⟨.integ, true, 4, .ce⟩
/-- 12_memory_integrity R460. -/
def INTEG.flag.T0_UNCORR : Flag := ⟨.integ, true, 5, .uc⟩
/-- 12_memory_integrity R460. -/
def INTEG.flag.T0_DIR : Flag := ⟨.integ, true, 6, .ft⟩
/-- 12_memory_integrity R460. -/
def INTEG.flag.CODEC_FAIL : Flag := ⟨.integ, true, 7, .none⟩
/-- 13_twin_and_quartet R505. -/
def TWIN.flag.TWIN_LOST : Flag := ⟨.twin, false, 0, .none⟩
/-- 13_twin_and_quartet R505. -/
def TWIN.flag.PAIRED : Flag := ⟨.twin, false, 1, .none⟩
/-- 13_twin_and_quartet R505. -/
def TWIN.flag.RESYNC_DONE : Flag := ⟨.twin, false, 2, .none⟩
/-- 13_twin_and_quartet R505. -/
def TWIN.flag.RESYNC_RESTART : Flag := ⟨.twin, false, 3, .none⟩
/-- 13_twin_and_quartet R505. -/
def TWIN.flag.HANDOVER_DONE : Flag := ⟨.twin, false, 4, .none⟩
/-- 13_twin_and_quartet R505. -/
def TWIN.flag.STEWARD_START : Flag := ⟨.twin, false, 5, .none⟩
/-- 13_twin_and_quartet R505. -/
def TWIN.flag.FAILOVER : Flag := ⟨.twin, false, 6, .none⟩
/-- 13_twin_and_quartet R505. -/
def TWIN.flag.TIME_UNLOCK : Flag := ⟨.twin, false, 7, .none⟩
/-- 13_twin_and_quartet R505. -/
def TWIN.flag.SPLIT : Flag := ⟨.twin, false, 8, .none⟩
/-- 13_twin_and_quartet R505. -/
def TWIN.flag.CFG_MISMATCH : Flag := ⟨.twin, true, 0, .none⟩
/-- 13_twin_and_quartet R505. -/
def TWIN.flag.WIRING : Flag := ⟨.twin, true, 1, .none⟩
/-- 13_twin_and_quartet R505. -/
def TWIN.flag.MGMT_LOST : Flag := ⟨.twin, true, 2, .none⟩
/-- 13_twin_and_quartet R505. -/
def TWIN.flag.HB_FAULT : Flag := ⟨.twin, true, 3, .ce⟩
/-- 13_twin_and_quartet R505. -/
def TWIN.flag.MIRROR_DIVERGE : Flag := ⟨.twin, true, 4, .uc⟩
/-- 13_twin_and_quartet R505. -/
def TWIN.flag.HANDOVER_REFUSED : Flag := ⟨.twin, true, 5, .none⟩
/-- 14_faults_and_ledger R543. -/
def FC.flag.D2D_REPLAY_0 : Flag := ⟨.fc, true, 0, .ce⟩
/-- 14_faults_and_ledger R543. -/
def FC.flag.D2D_REPLAY_1 : Flag := ⟨.fc, true, 1, .ce⟩
/-- 14_faults_and_ledger R543. -/
def FC.flag.D2D_REPLAY_2 : Flag := ⟨.fc, true, 2, .ce⟩
/-- 14_faults_and_ledger R543. -/
def FC.flag.D2D_REPLAY_3 : Flag := ⟨.fc, true, 3, .ce⟩
/-- 14_faults_and_ledger R543. -/
def FC.flag.D2D_REPLAY_4 : Flag := ⟨.fc, true, 4, .ce⟩
/-- 14_faults_and_ledger R543. -/
def FC.flag.D2D_REPLAY_5 : Flag := ⟨.fc, true, 5, .ce⟩
/-- 14_faults_and_ledger R543. -/
def FC.flag.D2D_FAIL_0 : Flag := ⟨.fc, true, 8, .ft⟩
/-- 14_faults_and_ledger R543. -/
def FC.flag.D2D_FAIL_1 : Flag := ⟨.fc, true, 9, .ft⟩
/-- 14_faults_and_ledger R543. -/
def FC.flag.D2D_FAIL_2 : Flag := ⟨.fc, true, 10, .ft⟩
/-- 14_faults_and_ledger R543. -/
def FC.flag.D2D_FAIL_3 : Flag := ⟨.fc, true, 11, .ft⟩
/-- 14_faults_and_ledger R543. -/
def FC.flag.D2D_FAIL_4 : Flag := ⟨.fc, true, 12, .ft⟩
/-- 14_faults_and_ledger R543. -/
def FC.flag.D2D_FAIL_5 : Flag := ⟨.fc, true, 13, .ft⟩
/-- 14_faults_and_ledger R543. -/
def FC.flag.T0_DIE_FAIL_0 : Flag := ⟨.fc, true, 16, .ft⟩
/-- 14_faults_and_ledger R543. -/
def FC.flag.T0_DIE_FAIL_1 : Flag := ⟨.fc, true, 17, .ft⟩
/-- 14_faults_and_ledger R543. -/
def FC.flag.T0_DIE_FAIL_2 : Flag := ⟨.fc, true, 18, .ft⟩
/-- 14_faults_and_ledger R543. -/
def FC.flag.T0_DIE_FAIL_3 : Flag := ⟨.fc, true, 19, .ft⟩
/-- 14_faults_and_ledger R543. -/
def FC.flag.FC_PARITY : Flag := ⟨.fc, true, 24, .uc⟩
/-- 14_faults_and_ledger R543. -/
def FC.flag.TEST : Flag := ⟨.fc, true, 25, .uc⟩
/-- 14_faults_and_ledger R543. -/
def LEDGER.flag.SECTOR_RETIRED : Flag := ⟨.ledger, false, 0, .none⟩
/-- 14_faults_and_ledger R543. -/
def LEDGER.flag.SPARES_EXHAUSTED : Flag := ⟨.ledger, false, 1, .none⟩
/-- 14_faults_and_ledger R543. -/
def LEDGER.flag.WORN : Flag := ⟨.ledger, false, 2, .none⟩
/-- 14_faults_and_ledger R543. -/
def LEDGER.flag.SEALED : Flag := ⟨.ledger, false, 3, .none⟩
/-- 14_faults_and_ledger R543. -/
def LEDGER.flag.RECORD_LOST : Flag := ⟨.ledger, false, 4, .none⟩
/-- 14_faults_and_ledger R543. -/
def MGMT.flag.PAIR0_STOP : Flag := ⟨.mgmt, true, 0, .ce⟩
/-- 14_faults_and_ledger R543. -/
def MGMT.flag.PAIR1_STOP : Flag := ⟨.mgmt, true, 1, .ce⟩
/-- 15_security R582. -/
def MINT.flag.REKEY_DONE : Flag := ⟨.mint, false, 0, .none⟩
/-- 15_security R582. -/
def MINT.flag.KEY_ZEROISED : Flag := ⟨.mint, false, 1, .none⟩
/-- 15_security R582. -/
def MINT.flag.TRNG_HEALTH : Flag := ⟨.mint, true, 0, .uc⟩
/-- 15_security R582. -/
def MINT.flag.OTP_FAULT : Flag := ⟨.mint, true, 1, .uc⟩
/-- 15_security R582. -/
def MINT.flag.KEY_FAULT : Flag := ⟨.mint, true, 2, .ft⟩
/-- 15_security R582. -/
def MINT.flag.REKEY_REFUSED : Flag := ⟨.mint, true, 3, .none⟩
/-- 15_security R582. -/
def FWSEC.flag.TRIAL_BOOT : Flag := ⟨.fwsec, false, 0, .none⟩
/-- 15_security R582. -/
def FWSEC.flag.FALLBACK : Flag := ⟨.fwsec, false, 1, .none⟩
/-- 15_security R582. -/
def FWSEC.flag.COMMITTED : Flag := ⟨.fwsec, false, 2, .none⟩
/-- 15_security R582. -/
def FWSEC.flag.DEBUG_UNLOCKED : Flag := ⟨.fwsec, false, 3, .none⟩
/-- 15_security R582. -/
def FWSEC.flag.DEBUG_RELOCKED : Flag := ⟨.fwsec, false, 4, .none⟩
/-- 15_security R582. -/
def SECALM.flag.BLOCKED_ACCESS : Flag := ⟨.secalm, true, 0, .ce⟩
/-- 15_security R582. -/
def SECALM.flag.JTAG_LOCKED : Flag := ⟨.secalm, true, 1, .ce⟩
/-- 15_security R582. -/
def SECALM.flag.TOKEN_REJECT : Flag := ⟨.secalm, true, 2, .ce⟩
/-- 15_security R582. -/
def SECALM.flag.IMAGE_REJECT : Flag := ⟨.secalm, true, 3, .ce⟩
/-- 16_power_clocks_ageing R606. -/
def PWR.flag.THROTTLE_ON : Flag := ⟨.pwr, false, 0, .none⟩
/-- 16_power_clocks_ageing R606. -/
def PWR.flag.THROTTLE_OFF : Flag := ⟨.pwr, false, 1, .none⟩
/-- 16_power_clocks_ageing R606. -/
def PWR.flag.DIV_RESTORE : Flag := ⟨.pwr, false, 2, .none⟩
/-- 16_power_clocks_ageing R606. -/
def PWR.flag.DROOP_SAG : Flag := ⟨.pwr, true, 0, .ce⟩
/-- 16_power_clocks_ageing R606. -/
def PWR.flag.SENSOR_FAULT : Flag := ⟨.pwr, true, 1, .ce⟩
/-- 16_power_clocks_ageing R606. -/
def PWR.flag.REF_LOSS : Flag := ⟨.pwr, true, 2, .ce⟩
/-- 16_power_clocks_ageing R606. -/
def PWR.flag.XTAL_LOSS : Flag := ⟨.pwr, true, 3, .ft⟩
/-- 16_power_clocks_ageing R606. -/
def PWR.flag.THERM_TRIP : Flag := ⟨.pwr, true, 4, .ft⟩
/-- 16_power_clocks_ageing R606. -/
def AGE.flag.PLAN_DONE : Flag := ⟨.age, false, 0, .none⟩
/-- 16_power_clocks_ageing R606. -/
def AGE.flag.ITEM_APPLIED : Flag := ⟨.age, false, 1, .none⟩
/-- 16_power_clocks_ageing R606. -/
def AGE.flag.NEEDS_HANDOVER : Flag := ⟨.age, false, 2, .none⟩
/-- 16_power_clocks_ageing R606. -/
def AGE.flag.AGE_LIMIT : Flag := ⟨.age, false, 3, .none⟩
/-- 16_power_clocks_ageing R606. -/
def AGE.flag.ITEM_FAILED : Flag := ⟨.age, true, 0, .ce⟩
/-- 16_power_clocks_ageing R606. -/
def CAL.flag.COMMITTED : Flag := ⟨.cal, false, 0, .none⟩
/-- 16_power_clocks_ageing R606. -/
def CAL.flag.CAL_TORN : Flag := ⟨.cal, true, 0, .ce⟩
/-- 17_board_power_and_reset R638. -/
def HSW.flag.PG_ON : Flag := ⟨.hsw, false, 0, .none⟩
/-- 17_board_power_and_reset R638. -/
def HSW.flag.PG_OFF : Flag := ⟨.hsw, false, 1, .none⟩
/-- 17_board_power_and_reset R638. -/
def HSW.flag.TRIPPED : Flag := ⟨.hsw, false, 2, .none⟩
/-- 17_board_power_and_reset R638. -/
def HSW.flag.RETRY : Flag := ⟨.hsw, false, 3, .none⟩
/-- 17_board_power_and_reset R638. -/
def HSW.flag.LOCKOUT : Flag := ⟨.hsw, false, 4, .none⟩
/-- 17_board_power_and_reset R638. -/
def HSW.flag.CLEARED : Flag := ⟨.hsw, false, 5, .none⟩
/-- 17_board_power_and_reset R638. -/
def HSW.flag.INSERTED : Flag := ⟨.hsw, false, 6, .none⟩
/-- 17_board_power_and_reset R638. -/
def HSW.flag.EXTRACTED : Flag := ⟨.hsw, false, 7, .none⟩
/-- 17_board_power_and_reset R638. -/
def HSW.flag.TSNS_FAULT : Flag := ⟨.hsw, true, 0, .ce⟩
/-- 17_board_power_and_reset R638. -/
def HSW.flag.AUX_LOW : Flag := ⟨.hsw, true, 1, .ce⟩
/-- 17_board_power_and_reset R638. -/
def RST.flag.BLK_DONE : Flag := ⟨.rst, false, 0, .none⟩
/-- 17_board_power_and_reset R638. -/
def RST.flag.SB_RETRY : Flag := ⟨.rst, true, 0, .ce⟩
/-- 17_board_power_and_reset R638. -/
def RST.flag.SB_FAIL : Flag := ⟨.rst, true, 1, .ft⟩
/-- 18_registers R656. -/
def REGION.flag.CMD_DONE : Flag := ⟨.region, false, 0, .none⟩
/-- 18_registers R656. -/
def REGION.flag.CMD_BUSY : Flag := ⟨.region, true, 0, .none⟩

/-- The ERR_STAT flags of each page type. -/
def Page.errFlags : Page → List Flag
  | .tier => [TIER.flag.RECORD_CORRUPT, TIER.flag.QUARTER_CORRUPT, TIER.flag.QUARTER_RECOVERED, TIER.flag.VERIFY_FAIL, TIER.flag.ENGINES_LOST]
  | .coh => [COH.flag.BI_TIMEOUT, COH.flag.LINK_LOSS, COH.flag.HOST_DUP]
  | .bwin => [BWIN.flag.ACCESS_REFUSED, BWIN.flag.BAD_SIZE, BWIN.flag.CMD_STATE, BWIN.flag.BASE_BUSY]
  | .site => [SITE.flag.FRAMING_LOSS, SITE.flag.REPLAY_LIMIT, SITE.flag.PROTO_ERR, SITE.flag.TRAIN_FAIL, SITE.flag.ROLE_MISMATCH, SITE.flag.CREDIT_REJECT]
  | .peer => [PEER.flag.FRAMING_LOSS, PEER.flag.REPLAY_LIMIT, PEER.flag.PROTO_ERR, PEER.flag.TRAIN_FAIL, PEER.flag.ROLE_MISMATCH, PEER.flag.CREDIT_REJECT]
  | .mcast => [MCAST.flag.BAD_SOURCE, MCAST.flag.CFG_BUSY]
  | .fail => [FAIL.flag.CMD_BUSY]
  | .assay => [ASSAY.flag.BAD_DOORBELL, ASSAY.flag.CFG_BUSY]
  | .dma => [DMA.flag.BAD_DOORBELL, DMA.flag.CFG_BUSY]
  | .host => [HOST.flag.PROTO_ERR_L0, HOST.flag.PROTO_ERR_L1, HOST.flag.RELEASE_EARLY_L0, HOST.flag.RELEASE_EARLY_L1]
  | .ddrch => [DDRCH.flag.BUS_RETRAIN, DDRCH.flag.CH_FAILED, DDRCH.flag.RETRAIN_REFUSED, DDRCH.flag.POP_FAULT]
  | .integ => [INTEG.flag.MEM_CE, INTEG.flag.MEM_RECOVERED, INTEG.flag.MEM_UNCORR, INTEG.flag.T0_CE, INTEG.flag.T0_REFETCH, INTEG.flag.T0_UNCORR, INTEG.flag.T0_DIR, INTEG.flag.CODEC_FAIL]
  | .twin => [TWIN.flag.CFG_MISMATCH, TWIN.flag.WIRING, TWIN.flag.MGMT_LOST, TWIN.flag.HB_FAULT, TWIN.flag.MIRROR_DIVERGE, TWIN.flag.HANDOVER_REFUSED]
  | .fc => [FC.flag.D2D_REPLAY_0, FC.flag.D2D_REPLAY_1, FC.flag.D2D_REPLAY_2, FC.flag.D2D_REPLAY_3, FC.flag.D2D_REPLAY_4, FC.flag.D2D_REPLAY_5, FC.flag.D2D_FAIL_0, FC.flag.D2D_FAIL_1, FC.flag.D2D_FAIL_2, FC.flag.D2D_FAIL_3, FC.flag.D2D_FAIL_4, FC.flag.D2D_FAIL_5, FC.flag.T0_DIE_FAIL_0, FC.flag.T0_DIE_FAIL_1, FC.flag.T0_DIE_FAIL_2, FC.flag.T0_DIE_FAIL_3, FC.flag.FC_PARITY, FC.flag.TEST]
  | .mgmt => [MGMT.flag.PAIR0_STOP, MGMT.flag.PAIR1_STOP]
  | .mint => [MINT.flag.TRNG_HEALTH, MINT.flag.OTP_FAULT, MINT.flag.KEY_FAULT, MINT.flag.REKEY_REFUSED]
  | .secalm => [SECALM.flag.BLOCKED_ACCESS, SECALM.flag.JTAG_LOCKED, SECALM.flag.TOKEN_REJECT, SECALM.flag.IMAGE_REJECT]
  | .pwr => [PWR.flag.DROOP_SAG, PWR.flag.SENSOR_FAULT, PWR.flag.REF_LOSS, PWR.flag.XTAL_LOSS, PWR.flag.THERM_TRIP]
  | .age => [AGE.flag.ITEM_FAILED]
  | .cal => [CAL.flag.CAL_TORN]
  | .hsw => [HSW.flag.TSNS_FAULT, HSW.flag.AUX_LOW]
  | .rst => [RST.flag.SB_RETRY, RST.flag.SB_FAIL]
  | .region => [REGION.flag.CMD_BUSY]
  | .dev | .evtsum | .baker | .batch | .qos | .ledger | .fwsec => []

/-- The EVT_STAT flags of each page type. -/
def Page.evtFlags : Page → List Flag
  | .tier => [TIER.flag.EL_LOW, TIER.flag.EL_EXHAUSTED, TIER.flag.EL_DEFICIT, TIER.flag.BIN_FULL, TIER.flag.ENGINE_FENCED, TIER.flag.AUDIT_DONE, TIER.flag.CAP_HOST_DISCARD]
  | .baker => [BAKER.flag.SWEEP_DONE, BAKER.flag.BUDGET_LIMITED]
  | .coh => [COH.flag.SET_OVF_RAISED, COH.flag.LOG_FULL, COH.flag.SWEEP_DONE, COH.flag.NOTICE_LATE]
  | .batch => [BATCH.flag.SHADOW_EMPTY, BATCH.flag.TIMEOUT_ABORT, BATCH.flag.TWIN_LOSS_ABORT]
  | .bwin => [BWIN.flag.OUTCOME]
  | .site => [SITE.flag.LINK_UP, SITE.flag.LINK_DOWN, SITE.flag.GRACE_EXPIRED, SITE.flag.FLUSHED, SITE.flag.SLEEP_ENTERED, SITE.flag.WIDTH_DEGRADED]
  | .peer => [PEER.flag.LINK_UP, PEER.flag.LINK_DOWN, PEER.flag.GRACE_EXPIRED, PEER.flag.FLUSHED, PEER.flag.SLEEP_ENTERED, PEER.flag.WIDTH_DEGRADED]
  | .mcast => [MCAST.flag.DISABLED]
  | .fail => [FAIL.flag.CMD_DONE, FAIL.flag.TREE_REBUILT, FAIL.flag.DUT_LOST]
  | .assay => [ASSAY.flag.JOB_DONE, ASSAY.flag.QUEUE_STOPPED]
  | .qos => [QOS.flag.ADMIT_DONE, QOS.flag.DEMOTED, QOS.flag.RESTORED, QOS.flag.RED_ENTER, QOS.flag.SITE_SHORT]
  | .dma => [DMA.flag.DESC_DONE, DMA.flag.QUEUE_STOPPED]
  | .host => [HOST.flag.LINK_UP_L0, HOST.flag.LINK_UP_L1, HOST.flag.LINK_DOWN_L0, HOST.flag.LINK_DOWN_L1, HOST.flag.CONTAINED_L0, HOST.flag.CONTAINED_L1, HOST.flag.RELEASED_L0, HOST.flag.RELEASED_L1, HOST.flag.FLR_DONE_L0, HOST.flag.FLR_DONE_L1]
  | .ddrch => [DDRCH.flag.OUT_OF_SERVICE, DDRCH.flag.IN_SERVICE, DDRCH.flag.RECPIN_FULL, DDRCH.flag.FULL_TRAIN]
  | .integ => [INTEG.flag.PASS_DONE, INTEG.flag.VERDICT, INTEG.flag.PERMANENT, INTEG.flag.RETIRE_DONE, INTEG.flag.FENCED]
  | .twin => [TWIN.flag.TWIN_LOST, TWIN.flag.PAIRED, TWIN.flag.RESYNC_DONE, TWIN.flag.RESYNC_RESTART, TWIN.flag.HANDOVER_DONE, TWIN.flag.STEWARD_START, TWIN.flag.FAILOVER, TWIN.flag.TIME_UNLOCK, TWIN.flag.SPLIT]
  | .ledger => [LEDGER.flag.SECTOR_RETIRED, LEDGER.flag.SPARES_EXHAUSTED, LEDGER.flag.WORN, LEDGER.flag.SEALED, LEDGER.flag.RECORD_LOST]
  | .mint => [MINT.flag.REKEY_DONE, MINT.flag.KEY_ZEROISED]
  | .fwsec => [FWSEC.flag.TRIAL_BOOT, FWSEC.flag.FALLBACK, FWSEC.flag.COMMITTED, FWSEC.flag.DEBUG_UNLOCKED, FWSEC.flag.DEBUG_RELOCKED]
  | .pwr => [PWR.flag.THROTTLE_ON, PWR.flag.THROTTLE_OFF, PWR.flag.DIV_RESTORE]
  | .age => [AGE.flag.PLAN_DONE, AGE.flag.ITEM_APPLIED, AGE.flag.NEEDS_HANDOVER, AGE.flag.AGE_LIMIT]
  | .cal => [CAL.flag.COMMITTED]
  | .hsw => [HSW.flag.PG_ON, HSW.flag.PG_OFF, HSW.flag.TRIPPED, HSW.flag.RETRY, HSW.flag.LOCKOUT, HSW.flag.CLEARED, HSW.flag.INSERTED, HSW.flag.EXTRACTED]
  | .rst => [RST.flag.BLK_DONE]
  | .region => [REGION.flag.CMD_DONE]
  | .dev | .fc | .evtsum | .mgmt | .secalm => []

/-- HOST flags by link (R400: bits 8 up are bits 0 up for L1). -/
def HOST.flag.LINK_UP (l : Nat) : Flag := if l = 0 then HOST.flag.LINK_UP_L0 else HOST.flag.LINK_UP_L1
def HOST.flag.LINK_DOWN (l : Nat) : Flag := if l = 0 then HOST.flag.LINK_DOWN_L0 else HOST.flag.LINK_DOWN_L1
def HOST.flag.CONTAINED (l : Nat) : Flag := if l = 0 then HOST.flag.CONTAINED_L0 else HOST.flag.CONTAINED_L1
def HOST.flag.RELEASED (l : Nat) : Flag := if l = 0 then HOST.flag.RELEASED_L0 else HOST.flag.RELEASED_L1
def HOST.flag.FLR_DONE (l : Nat) : Flag := if l = 0 then HOST.flag.FLR_DONE_L0 else HOST.flag.FLR_DONE_L1
def HOST.flag.PROTO_ERR (l : Nat) : Flag := if l = 0 then HOST.flag.PROTO_ERR_L0 else HOST.flag.PROTO_ERR_L1
def HOST.flag.RELEASE_EARLY (l : Nat) : Flag := if l = 0 then HOST.flag.RELEASE_EARLY_L0 else HOST.flag.RELEASE_EARLY_L1

end Sys2Proof.Machine
end

