-- ==== Sys2Proof/Machine/State.lean ====
section
/-! DEFINITION. The state of the device as plain data: everything spec/ gives the machine, and the queue of waiting
commands. Registers of the field tables lie in one sparse table (a field not listed holds its value at reset); what
the chapters give beyond the field tables is in one structure for each chapter. -/

namespace Sys2Proof.Machine

/-! ### Why a command could stop -/

/-- The faults of the model. No meaning of this model ends in one: the spec gives every command an effect. -/
inductive Fault where
  /-- Raised by nothing. It stands for an access to an address that the spec says does not exist; R14 and R654
  give every such register access an effect, so no meaning raises it. Safe. -/
  | noSuchAddress
  deriving DecidableEq, Repr

/-- The refusals of the model. -/
inductive Refusal where
  /-- A command whose meaning is not written. Raised by an arm of exec that has no meaning yet. Safe. -/
  | notModelled (mnemonic : String)
  deriving DecidableEq, Repr

/-! ### Pages, flags, faults and the ledger (Register Map; Faults and the Ledger) -/

/-- The common header of one page (R640); `policyNext` is a POWER_POLICY written while the block was gated (R604); `setAt` is when each flag was set (R528, UC_CLEARED); `stopped` the ns for which its clock
has stood since the reset, and `stoppedAt` the always-on time at which it stopped last (R585). -/
structure PageHdr where
  enable : Bool := true
  policy : Nat := 0
  policyNext : Option Nat := none
  lock : Bool := false
  clkOn : Bool := true
  pwrOn : Bool := true
  accErr : Bool := false
  accRefused : Bool := false
  lockedWrites : Nat := 0
  evt : BitVec 16 := 0
  evtSeq : BitVec 16 := 0
  evtEn : BitVec 16 := 0xFFFF
  err : BitVec 32 := 0
  errSeq : BitVec 16 := 0
  setAt : KMap Nat := []
  stopped : Nat := 0
  stoppedAt : Nat := 0
  deriving DecidableEq, Repr

/-- A ledger record (R526). DETAIL is held as its bytes 24 up, trailing zeros left out. `torn` is a bad CRC (R529). -/
structure Record where
  seq : Nat
  time : Nat
  type : Nat
  source : Nat
  cls : Nat
  escalated : Bool := false
  unlocked : Bool := false
  volatileRec : Bool := false
  lost : Bool := false
  pageId : Nat := 0
  detail : List Nat := []
  torn : Bool := false
  deriving DecidableEq, Repr

/-- An open coalescing entry (R530). -/
structure Coalesce where
  key : List Nat
  seqRef : Nat
  source : Nat
  pageId : Nat
  cls : Nat
  count : Nat := 0
  tLast : Nat
  opened : Nat := 0
  deriving DecidableEq, Repr

/-- The ledger writer and its stores (R523 to R536). -/
structure Ledger where
  nextSeq : Nat := 1
  queue : List Record := []
  lostMark : Bool := false
  coal : List Coalesce := []
  recs : KMap Record := []
  pos : Nat := 0
  slot : Nat := 0
  ring : KMap Nat := []
  gone : List Nat := []
  sparesUsed : Nat := 0
  counts : KMap Nat := []
  retired : List Nat := []
  lastWords : List Record := []
  volatileSeq : Nat := 0
  noteSecond : Nat := 0
  notes : Nat := 0
  deriving DecidableEq, Repr

/-- The escalation timer of one source (R510, R512). -/
inductive EscTimer where
  | running (since : Nat) (flag : Nat)
  | expired
  deriving DecidableEq, Repr

/-- The fault collector (R508 to R516). `escalated` lists the sources whose UC fault became FT. -/
structure Collector where
  summary : BitVec 128 := 0
  ucSources : BitVec 128 := 0
  evtSummary : BitVec 128 := 0
  accSummary : BitVec 128 := 0
  timers : KMap EscTimer := []
  escalated : List Nat := []
  testCls : FaultClass := .ce
  ftPending : List (Nat × Bool) := []
  reacting : Bool := false
  errL : Bool := false
  snapshot : BitVec 128 := 0
  snapshotAt : Nat := 0
  deriving DecidableEq, Repr

/-- Management pairs (R522). -/
structure MgmtPairs where
  run0 : Bool := true
  run1 : Bool := true
  active : Nat := 0
  deriving DecidableEq, Repr

/-! ### Memory -/

/-- Raw memory: (raw address, byte) pairs with addresses strictly rising and no byte equal to 0, which is what an
unlisted address reads as (log entry 3). -/
abbrev Memory := List Host.Cell

/-! ### Regions (Addresses, Regions and Class Windows) -/

/-- A region, geometry or DUT command that waits at the coordinator (R52, R293): the device that issued it, the least el_free of the devices and
whether one of them holds the region or DUT in use, as that device found it, and the command. -/
structure RegionAsk where
  frm : Nat
  free : Int
  busy : Bool
  cmd : TableCmd
  deriving DecidableEq, Repr

/-- A region command of this device that runs (R52 to R54): its result, the region it acts on, and, while the coordinator's result is
awaited, the command asked of it. -/
structure RegionCmd where
  result : Nat
  rid : Nat
  ask : Option RegionAsk := none
  deriving DecidableEq, Repr

/-- A destroyed region whose pages this device still holds (R58): its attributes as they stood, whether the host copies are being taken back, whether
the pages homed here are empty, and the twin streams on which the twin has not yet ended its changes of the pages it leads. -/
structure Leaving where
  region : Region
  taking : Bool := false
  emptied : Bool := false
  streams : List Nat := []
  deriving DecidableEq, Repr

/-- The region table and the command engine (R47, R52). `asks` are the commands in their order of arrival at this coordinator, `exec` the one
carried out (its device, whether it is a FAIL.CMD, its ID), and `await` the devices that have not finished it (R53); `owing` tells that this device has not
finished the latest command that it applied; `leaving` are destroyed regions, `drops` the stream
ends that came before their DESTROY. -/
structure Regions where
  table : KMap Region := []
  cmd : Option RegionCmd := none
  asks : List RegionAsk := []
  exec : Option (Nat × Bool × Nat) := none
  await : List Nat := []
  owing : Bool := false
  leaving : KMap Leaving := []
  drops : List (Nat × Nat) := []
  deriving DecidableEq, Repr

/-! ### Tiers -/

/-- One line of the hot-data cache: content, poison, dirty. -/
structure T0Line where
  data : Line
  poison : Bool := false
  dirty : Bool := false
  deriving DecidableEq, Repr

/-- One frame of the hot-data cache (R74): its valid lines by number, the class of the most recent write that dirtied
one, the lines of a running writeback's snapshot with their content, and the lines written since that snapshot (R92). -/
structure Frame where
  lines : KMap T0Line := []
  cls : Nat := 0
  snap : Option (KMap T0Line) := none
  again : List Nat := []
  deriving DecidableEq, Repr

/-- What a running migration does (R96, R97, R110). -/
inductive MigKind where
  | bake | promote | relocate
  deriving DecidableEq, Repr

/-- A migration in progress (R100): the loaf, its record before, the new record and stream, and its progress. -/
structure Migration where
  lpn : Nat
  kind : MigKind
  oldRec : Nat
  newRec : Nat
  newBytes : List Nat
  engine : Nat := 0
  waiting : Option (Nat × Nat) := none
  deriving DecidableEq, Repr

/-- The tiers of the device (Tiers, Loaves and Slices). `used` lists the slices in use, by slice number in the pool;
`scratch` and `fenced` are the sets of the frames that the Proofer holds as scratch (R75) and of those fenced (R446), `fetched` the lines that
came back from the twin for a request, writeback or Baker visit that waits, `bakeAsk` the loaves of those visits. `followFree` is the
follow's el_free as its latest CSIGN told it: none before the first, when it counts for nothing (R107, log entry 108). -/
structure Tiers where
  frames : KMap Frame := []
  scratch : List Nat := []
  fenced : List Nat := []
  fetched : KMap T0Line := []
  bakeAsk : List Nat := []
  recCache : List Nat := []
  used : List Nat := []
  orphan : List Nat := []
  heat : KMap Nat := []
  elCharge : Nat := 0
  followFree : Option Int := none
  promotions : List Nat := []
  migrations : List Migration := []
  sweeping : Bool := false
  sweepDue : Bool := false
  sweepSkip : List Nat := []
  auditUsed : List Nat := []
  poisoned : List Nat := []
  retiredSlices : Nat := 0
  retiredRows : List Nat := []
  retiredBanks : List Nat := []
  diesOut : List Nat := []
  deriving DecidableEq, Repr

/-! ### Coherence -/

/-- A directory entry (R120); STATE 0 I, 1 S, 2 E. -/
structure DirEntry where
  state : Nat := 0
  ptrs : List Ptr := []
  lovf : Bool := false
  pin : Bool := false
  deriving DecidableEq, Repr

/-- Why a snoop was sent, which decides what its answer does to the entry. -/
inductive SnoopUse where
  | request | aliasing | evict | sweep | destroy | commit | handover | copy
  deriving DecidableEq, Repr

/-- A snoop in flight (R146): the line, the kind, the target pointer, whether it belongs to a broadcast. -/
structure Snoop where
  sid : Nat
  line : Nat
  kind : SnoopKind
  target : Ptr
  broadcast : Bool
  use : SnoopUse
  start : Nat
  deriving DecidableEq, Repr

/-- A snoop that another device asked this device to send on its link, and whose answer goes back (R127): `home` is the home's number
for it and `frm` the home's arrival code. `part` tells one of a broadcast, whose timer runs here (log entry 114), `expired` that the timer has
expired. -/
structure RemoteSnoop where
  sid : Nat
  home : Nat
  frm : Nat
  kind : SnoopKind
  host : Nat
  win : Nat
  qla : Nat
  part : Bool := false
  start : Nat := 0
  expired : Bool := false
  deriving DecidableEq, Repr

/-- An expired snoop whose late answer has not come (R139, R151): its number, the host, window and arrival device, and the line. -/
structure LateSnoop where
  sid : Nat
  host : Nat
  win : Nat
  arr : Nat
  line : Nat
  deriving DecidableEq, Repr

/-- A response that waits for countersigns (R33). -/
inductive Waiter where
  | request (r : Request) (a : Answer)
  | migration (lpn : Nat)
  | writeback (lpn : Nat)
  | commit (slot arr bseq : Nat)
  | engine
  deriving DecidableEq, Repr

/-- A countersign awaited: the stream and TSEQ of the mirror, and who waits. -/
structure CsWait where
  stream : Nat
  tseq : Nat
  waiter : Waiter
  deriving DecidableEq, Repr

/-- The home agent (Coherence and the Directory). `queue` is the line queue of every slice, in order of entry, `withheld` what waits for a place in
a full one (R137), `arrivals` the number of requests that have arrived; `stale` names a host and a line, with the arrival device of the snoop that expired (R139), `late` those snoops; `conflicts` pairs a
request with a BIConflict that waits for it (R138); `recalling` are lines whose copies held through links of an arrival device a handover or CXL Reset
takes back (line, device, host or 32 for all), `recallFor` who asked for it, `recallWait` the homes asked, `noGrant` the
devices whose hosts get no more copies (R157, R397, R493); `ownLog` are the lines logged under R683; `rot` and `wrot` are by slice (R144). -/
structure Coherence where
  dir : KMap DirEntry := []
  log : List Nat := []
  untracked : List Nat := []
  stale : List (Nat × Nat × Nat) := []
  late : List LateSnoop := []
  ownLog : List Nat := []
  snoops : List Snoop := []
  bcast : List Nat := []
  evicting : List Nat := []
  remote : List RemoteSnoop := []
  nextSid : Nat := 0
  queue : List Request := []
  withheld : List Request := []
  arrivals : Nat := 0
  csWait : List CsWait := []
  rot : KMap Nat := []
  wrot : KMap Nat := []
  lostPtrs : List Ptr := []
  lossSweep : Bool := false
  lossRaised : Bool := false
  flushWait : List Nat := []
  notices : List Nat := []
  conflicts : List (Request × Request) := []
  recalling : List (Nat × Nat × Nat) := []
  recallFor : List (Nat × Nat) := []
  recallWait : List (Nat × Nat) := []
  noGrant : List Nat := []
  deriving DecidableEq, Repr

/-! ### Batches -/

/-- The states of a batch slot (R176, R181). -/
inductive SlotState where
  | free | opened | committing | aborted
  deriving DecidableEq, Repr

/-- A slot on its arrival device (R164 to R166). `home` is the arrival code of the batch's home once a line is
written, and `addr` the address of that line. -/
structure BatchSlot where
  state : SlotState := .free
  bseq : Nat := 0
  opened : Bool := false
  cause : Nat := 0
  lines : Nat := 0
  home : Option Nat := none
  addr : Nat := 0
  openedAt : Nat := 0
  deriving DecidableEq, Repr

/-- A batch at its home: shadow lines by line number (R167), the commit's progress (R182) and its place `since` in the order of arrival, its class,
and the request that the commit answers. -/
structure HomeBatch where
  slot : Nat
  arr : Nat
  bseq : Nat
  cls : Nat := 0
  shadow : KMap T0Line := []
  committing : Bool := false
  since : Nat := 0
  owned : List Nat := []
  sent : Bool := false
  reply : Option Request := none
  deriving DecidableEq, Repr

/-- An outcome entry (R189): BSEQ, 0 none 1 committed 2 aborted, cause. -/
structure OutcomeEntry where
  bseq : Nat := 0
  outcome : Nat := 0
  cause : Nat := 0
  deriving DecidableEq, Repr

/-- The batch engine. Slots by slot number; outcome entries and batches that ended at this home (BSEQ, cause) by arrival
code × 2048 + slot. -/
structure Batches where
  slots : KMap BatchSlot := []
  home : List HomeBatch := []
  outcomes : KMap OutcomeEntry := []
  ended : KMap (Nat × Nat) := []
  asked : List (Nat × Nat) := []
  deriving DecidableEq, Repr

/-! ### Ronlink -/

/-- The states of a link (R213), in the order of LINK_STAT.STATE. -/
inductive LinkState where
  | disabled | detect | ts1 | ts2 | ending | active | quiet | sleep
  deriving DecidableEq, Repr

/-- What a TXN flit carries: a response record (R259), a line of data (`last` ends its response), the first flit of a peer message with its
TSEQ, or flit `i` of one; an LCTL flit carries its operation. -/
inductive Body where
  | rrec (opcode status : Nat) (missed : Bool) (tag cause bseq : Nat) (result : List Nat)
  | data (v : Line) (last : Bool)
  | msg (tseq : Option Nat) (m : PeerMsg)
  | part (m : PeerMsg) (i : Nat)
  | lctl (op : Nat)
  deriving DecidableEq, Repr

/-- A TXN flit of the replay buffer (R222). -/
structure TxFlit where
  seq : Nat
  pool : Nat
  body : Body
  deriving DecidableEq, Repr

/-- One link end. Credits are lists by pool: CMD, WDATA, RSP, SVC. `resend` are the flits a replay still sends;
`avail`, `seen` and `adv` are of this end as sender; `released`, `owed` and `rxUsed` of its receiver; `unpaid`
are the flits that a resume sends again under new credits (R241); `notice` is what a flush leaves to be told: last SEQ accepted, last SEQ
acknowledged, old epoch (R282). `rate` and `preset` are those of the last DETECT (R217), `partner` the LINK_ID of the last session and `heard` the one
of this training (R238), `offerResume` and `forced` what its latest TS2 offered; `group` are the lanes in use. `txScr` and `rxScr` are the scramblers;
`txFrame` are the flits of the frame in hand, `txPos` the place of its first byte in the stream modulo 16, and `sinceSkip` the data frames since a SKIP
frame (R203 to R206). -/
structure Link where
  state : LinkState := .disabled
  epoch : Nat := 0
  next : Nat := 0
  unacked : List TxFlit := []
  resend : List TxFlit := []
  txq : List (Nat × Body) := []
  expect : Nat := 0
  nakSent : Bool := false
  nakDue : Bool := false
  gotTxn : Bool := false
  replays : Nat := 0
  adv : List Nat := [0, 0, 0, 0]
  avail : List Nat := [0, 0, 0, 0]
  seen : List Nat := [0, 0, 0, 0]
  released : List Nat := [0, 0, 0, 0]
  owed : List Nat := [0, 0, 0, 0]
  rxUsed : List Nat := [0, 0, 0, 0]
  report : Nat := 0
  graceRun : Bool := false
  kept : Bool := false
  partner : Option (Nat × Nat) := none
  heard : Option (Nat × Nat) := none
  rate : Nat := 0
  preset : Nat := 0
  forced : Bool := false
  trainCount : Nat := 0
  ts2Sent : Nat := 0
  lastTs2 : Option TrainFields := none
  offerResume : Bool := false
  endSent : Bool := false
  endSeen : Bool := false
  sleepSent : Bool := false
  sleepSeen : Bool := false
  holdTxn : Bool := false
  awaitData : Nat := 0
  lanes : Nat := 0
  width : Nat := 0
  group : Nat := 0
  txScr : Nat := 2 ^ 58 - 1
  txFrame : List Nat := []
  txPos : Nat := 0
  sinceSkip : Nat := 0
  rxScr : Nat := 2 ^ 58 - 1
  badFrames : Nat := 0
  frames : Nat := 0
  unpaid : List Nat := []
  notice : Option (Nat × Nat × Nat) := none
  deriving DecidableEq, Repr

/-! ### Site transactions -/

/-- A request of a site that is outstanding (R255): its answer once complete; a FAIL_REC has
one part for each record, whose answers are joined in `sofar`. -/
structure SiteReq where
  id : Nat
  opcode : Nat
  tag : Nat
  arrived : Nat
  deadline : Nat
  sync : Bool
  lines : Nat
  answer : Option Answer := none
  parts : Nat := 1
  sofar : Answer := {}
  discard : Bool := false
  deriving DecidableEq, Repr

/-- The transaction side of one site port: outstanding requests in order, and the data responses since the last RSUM
(tag, status byte, PMASK). -/
structure SitePort where
  reqs : List SiteReq := []
  nextId : Nat := 0
  rsum : List (Nat × Nat × Nat) := []
  deriving DecidableEq, Repr

/-- A pending fill of a multicast block (R273): a demand fill or a prefetch, the pulls that joined it (site, request, class at its decode; R65), its
deadline, whether LOW passed it or a write dropped it. -/
structure Fill where
  block : Nat
  demand : Bool
  pulls : List (Nat × Nat × Nat) := []
  deadline : Nat := 0
  dropped : Bool := false
  started : Bool := false
  deriving DecidableEq, Repr

/-- A multicast group: members, window low edge, blocks in the buffer, fills. -/
structure Group where
  members : List Nat := []
  low : Nat := 0
  blocks : KMap (List (Line × Bool)) := []
  fills : List Fill := []
  disabling : Bool := false
  deriving DecidableEq, Repr

/-- The site ports, the multicast groups and the atomic outcome entries (by site, QID and ATAG[3:0]). -/
structure Sites where
  ports : KMap SitePort := []
  groups : KMap Group := []
  atomics : KMap AtomicEntry := []
  deriving DecidableEq, Repr

/-! ### Fail services -/

/-- A fail command that runs (R291 to R297): code, ID, result, and, while the coordinator's result is awaited, the command asked of it. -/
structure FailRun where
  op : Nat
  id : Nat
  result : Nat
  ask : Option RegionAsk := none
  deriving DecidableEq, Repr

/-- A job of the Assayer (R317 to R321): its ring, its descriptor, whether a unit runs it, blocks analysed, the lines it
has read so far for the block in hand (by QLA), tries of R314, and the outcomes counted for its completion. -/
structure Job where
  id : Nat
  queue : Nat
  desc : List Nat
  running : Bool := false
  next : Nat := 0
  lines : KMap (Line × Bool) := []
  asked : List Nat := []
  tries : Nat := 0
  count : Option Nat := none
  entry : Option (List Nat) := none
  sent : Nat := 0
  unrep : Nat := 0
  incon : Nat := 0
  lost : Nat := 0
  stop : Option Nat := none
  deriving DecidableEq, Repr

/-- Geometries and DUTs, and the fail command that runs. -/
structure FailSvc where
  geos : KMap Geometry := []
  duts : KMap Dut := []
  run : Option FailRun := none
  deriving DecidableEq, Repr

/-! ### Device engines: rings, Assayer jobs, DMA descriptors -/

/-- A completion that waits for room in its ring (R319, R384). -/
structure HeldCpl where
  ring : Nat
  bytes : List Nat
  deriving DecidableEq, Repr

/-- One queue pair: ring 0 to 15 of the Assayer, 100 to 103 of the DMA engine (R316 to R320, R382). STATE is 0 DISABLED,
1 ACTIVE, 2 STOPPED. -/
structure RingQueue where
  state : Nat := 0
  aborting : Bool := false
  disabling : Bool := false
  stopping : Bool := false
  head : Nat := 0
  tail : Nat := 0
  cqTail : Nat := 0
  cqHead : Nat := 0
  phase : Bool := true
  fetching : Bool := false
  last : Nat := 0
  deriving DecidableEq, Repr

/-- A piece of a host source that a completion brought: its offset from the source's start, its bytes, and 0 good, 1 poisoned, 7 in error. -/
structure HostPart where
  off : Nat
  bytes : List Nat
  status : Nat
  deriving DecidableEq, Repr

/-- A DMA descriptor that runs or waits (R383): its number, the bytes moved, whether it has started, what it waits for (0 nothing, 1 a
read, 2 a write), the data in hand and whether that is poisoned, whether a poisoned source was met, the status with which it is to
end, and of a host source the bytes asked for and the pieces that arrived. -/
structure DmaRun where
  id : Nat
  ring : Nat
  desc : List Nat
  moved : Nat := 0
  busy : Bool := false
  phase : Nat := 0
  got : List Nat := []
  bad : Bool := false
  poison : Bool := false
  stop : Option Nat := none
  asked : Nat := 0
  parts : List HostPart := []
  deriving DecidableEq, Repr

/-- What an engine's access came back with: the kind of engine and its number, the address, status, lines, host bytes. -/
structure EngineAnswer where
  kind : Nat
  q : Nat
  qla : Nat
  status : Nat
  data : List (Line × Bool) := []
  bytes : List Nat := []
  deriving DecidableEq, Repr

/-- The device engines (R316 to R321, R380 to R386). -/
structure Engines where
  rings : KMap RingQueue := []
  jobs : List Job := []
  nextJob : Nat := 0
  dma : List DmaRun := []
  held : List HeldCpl := []
  inbox : List EngineAnswer := []
  turn : Nat := 0
  dmaTurn : Nat := 0
  deriving DecidableEq, Repr

/-! ### Bandwidth and admission -/

/-- The class table in force (R335): guarantees, weights, yield order. Rates in units of 0.25 GB/s, G_SITE in MB/s. -/
structure ClassTable where
  gDeq : List Nat := List.replicate 16 0
  gTwin : List Nat := List.replicate 16 0
  gT0 : List Nat := List.replicate 16 0
  gSite : List Nat := List.replicate 16 0
  weight : List Nat := List.replicate 16 1
  yields : List Nat := [15, 14, 13, 12, 11, 10, 9, 8, 7, 6, 5, 4, 3, 2, 1, 0]
  deriving DecidableEq, Repr

/-- An entry of a channel queue (R340, R346): class, deadline, charge, order of entry, burst, kind, its request's source and its arrival at the home
slice. -/
structure ChanEntry where
  cls : Nat
  deadline : Nat
  deq : Nat
  order : Nat
  ra : Nat
  write : Bool
  frm : Origin := .dropped
  arrival : Nat := 0
  deriving DecidableEq, Repr

/-- Admission, guarantee buckets (in quarters of a byte) and channel queues. `figs` are the deliverable figures last formed,
`applyFigs` those of a running APPLY; `amberToken` is the class, plus 1, that may enter an amber queue. -/
structure Qos where
  table : ClassTable := {}
  demoted : List Nat := []
  fraction : Nat := 85
  applying : Bool := false
  figs : List Nat := []
  applyFigs : List Nat := []
  recompDue : Bool := false
  siteWait : List (Nat × Nat) := []
  sitePend : List (Nat × Nat) := []
  siteNext : List (Nat × Nat) := []
  siteShort : List Nat := []
  buckets : KMap Int := []
  queues : KMap (List ChanEntry) := []
  deficit : KMap Nat := []
  turn : KMap Nat := []
  order : Nat := 0
  amberToken : KMap Nat := []
  deriving DecidableEq, Repr

/-! ### Host ports -/

/-- A CXL event log of a link (R374); `policy` 1 sends MSI-X vector `vector`. -/
structure EventLog where
  recs : List Record := []
  overflow : Nat := 0
  policy : Nat := 0
  vector : Nat := 0
  deriving DecidableEq, Repr

/-- A CXL HDM decoder of a link (R369). -/
structure Decoder where
  hpa : Nat
  size : Nat
  dpaSkip : Nat := 0
  dpa : Nat := 0
  locked : Bool := false
  deriving DecidableEq, Repr

/-- An outstanding outbound read (R376): its tag, what it fetches, who asked (engine kind, number, offset), and whether
it is from before a drain (R393). -/
structure OutTag where
  tag : Nat
  addr : Nat
  len : Nat
  kind : Nat
  q : Nat
  off : Nat
  old : Bool := false
  gen : Bool := false
  sent : Nat := 0
  deriving DecidableEq, Repr

/-- The link states of LSTAT.STATE (R399). -/
inductive LState where
  | down | training | upIo | upMem | contained | inReset
  deriving DecidableEq, Repr

/-- One host link. After a reset it is contained, cause WITHDRAW (R464, R632). `held` tells a link disable, `msixOpen` lists the
unmasked vectors, `decErr` the decoders with Error Not Committed, `rasUe` and `aerCto` an error noted in the CXL RAS Capability and a completion timeout noted in AER,
`flrAt` the time of the FLR, `bar` is the address in BAR0 (R362), `cto` the Completion Timeout Value, `idoReq` and
`idoCpl` are the IDO enables of Device Control 2 (R377, R378). -/
structure HostLink where
  state : LState := .contained
  rate : Nat := 0
  width : Nat := 0
  flit256 : Bool := false
  bme : Bool := false
  biEnable : Bool := false
  decoders : List (Nat × Decoder) := []
  decErr : List Nat := []
  contained : Bool := true
  sweepPend : Bool := false
  cause : Nat := 5
  held : Bool := false
  winLog2 : Nat := 44
  lbase : Nat := 0
  split : Bool := false
  msixEnable : Bool := false
  msixFuncMask : Bool := false
  msixOpen : List Nat := []
  msixPending : List Nat := []
  tags : List OutTag := []
  tagGen : Bool := false
  draining : Bool := false
  flr : Bool := false
  mrrs : Nat := 512
  waitBi : List Request := []
  resetting : Bool := false
  rasUe : Bool := false
  aerCto : Bool := false
  flrAt : Nat := 0
  bar : Nat := 0
  cto : Nat := 0
  idoReq : Bool := false
  idoCpl : Bool := false
  deriving DecidableEq, Repr

/-- The host ports: links by 2 × port + link, the three event logs, SPDM and DOE state. -/
structure HostPorts where
  links : KMap HostLink := []
  evLogs : KMap EventLog := []
  perst : List Nat := []
  deriving DecidableEq, Repr

/-! ### Memory channels -/

/-- The states of a channel (R424, CH_STAT.STATE). -/
inductive ChState where
  | training | active | selfRefresh | retraining | failed
  deriving DecidableEq, Repr

/-- One entry of a subchannel's write queue (R408): raw address of the burst, its 64 bytes, its poison mark, and the key slot it is
encrypted under (R549). -/
structure WqEntry where
  ra : Nat
  data : Line
  poison : Bool
  key : Nat := 0
  deriving DecidableEq, Repr

/-- One channel controller. Queues by subchannel; `openRows` by bank; `postponed` counts the refreshes of a rank held back; `hotRanks`
are refreshed at double rate; `raa` are the rolling activate counts by bank (R419); `alerts` are the times of the latest errors on
ALERT_n (R420); `passed` tells how often a queued read has been passed (R412), `openNow` the page mode at the last access (R415),
`spdRead` that the SPD has been read (R403); `heldScrub` are scrubber reads held in self-refresh, with the errors that they will show; `pinned` are loaf records
(R426). -/
structure Channel where
  state : ChState := .training
  attempts : Nat := 0
  rate : Nat := 3
  fast : Bool := false
  wq : KMap (List WqEntry) := []
  rq : KMap (List Nat) := []
  passed : KMap Nat := []
  draining : List Nat := []
  openRows : KMap Nat := []
  openNow : Bool := true
  spdRead : Bool := false
  postponed : KMap Nat := []
  hotRanks : List Nat := []
  raa : KMap Nat := []
  alerts : List Nat := []
  heldScrub : List (Nat × List Nat) := []
  pinned : List Nat := []
  deriving DecidableEq, Repr

/-! ### Memory integrity -/

/-- The row that the Proofer tests (R451): its key, a burst of it, patterns done, failing positions and lanes. -/
structure ProofTest where
  row : Nat
  ra : Nat
  patterns : Nat := 0
  pos : Nat := 0
  lanes : Nat := 0
  deriving DecidableEq, Repr

/-- A retirement that runs (R453): unit (1 ROW, 2 BANK), its row or bank key, a raw address in it, its result. -/
structure RetireRun where
  op : Nat
  key : Nat
  result : Nat
  deriving DecidableEq, Repr

/-- Memory integrity. `errs` are the symbol errors stored in a burst (40 values, codeword by codeword); `queue` the rows that wait
for a test (row key, burst); `tested` when a row was last tested; `kept` the stopped tests whose copies
are kept (R457); `history` the latest events by row; `retiredIds` the DIMM identity
stored with each retirement; `scrubIdx` and `scrubPriv` the scrubber's place in a loaf and in the private area. -/
structure Integ where
  errs : KMap (List Nat) := []
  queue : List (Nat × Nat) := []
  test : Option ProofTest := none
  tested : KMap Nat := []
  history : List (Nat × Nat) := []
  kept : List ProofTest := []
  retire : Option RetireRun := none
  retiredIds : List (Nat × Nat × Nat) := []
  scrubIdx : Nat := 0
  scrubPriv : Nat := 0
  fixes : KMap (List Nat) := []
  deriving DecidableEq, Repr

/-! ### Twins and quartets -/

/-- The service states (R464), in the order of PAIR_STAT.STATE. -/
inductive Svc where
  | start | join | resync | solo | paired | handingOver | withdrawn
  deriving DecidableEq, Repr

/-- A peer message of a twin stream that the partner has not acknowledged (R470), or one received ahead of its turn (`bad` as in Via). -/
structure StreamMsg where
  tseq : Nat
  msg : PeerMsg
  bad : Option Nat := none
  deriving DecidableEq, Repr

/-- One direction pair of a twin stream (R468): next TSEQ to send, next to apply, unacknowledged messages, messages
received out of order, and whether the stream has moved to the other link. -/
structure Stream where
  next : Nat := 0
  applied : Nat := 0
  unacked : List StreamMsg := []
  early : List StreamMsg := []
  moved : Bool := false
  deriving DecidableEq, Repr

/-- A request that this device forwarded and still holds (R483); `lost`: its mesh link did not resume (R503). -/
structure Forward where
  fid : Nat
  req : Request
  link : Option Nat
  lost : Bool := false
  deriving DecidableEq, Repr

/-- A handover that runs (R493, R494): a withdrawal or the return of the other side's regions, the next home slice, and the
step: 0 slices, 1 host copies, 2 site requests. -/
structure Hand where
  withdraw : Bool
  slice : Nat := 0
  step : Nat := 0
  deriving DecidableEq, Repr

/-- Twin and quartet state (R461 to R505). `peerOk` lists the peer links whose HELLO checks passed, `proto` the protocol version each uses, `inService` the
arrival codes (side × 4 + QID) of the other devices known to be in service. `cut` are the home slices handed over, `gained` those
taken over (`gainAll`: in a withdrawal of the twin); `resyncCur` are the lines whose owner has answered for the copy of their loaf (R140);
`serveFetch` the twin fetches that wait here for a channel, `heldFetch` those of this device that wait for a countersign (R441); `slew` the ticks by which
the time base still runs slow (R497); `sitesCut` tells that a withdrawal disabled the site links (R480). -/
structure Twin where
  svc : Svc := .start
  twinSvc : Svc := .start
  hbIn : Bool := false
  hbOut : Bool := false
  confirm : Bool := true
  peerOk : List Nat := []
  failed : List (Nat × Nat) := []
  inService : List Nat := []
  twinUid : Nat := 0
  leads : Bool := false
  covers : Bool := false
  streams : KMap Stream := []
  forwards : List Forward := []
  nextFid : Nat := 0
  resyncRun : Bool := false
  resyncSource : Bool := false
  resyncPos : Nat := 0
  resyncAcked : Bool := false
  resyncCur : List Nat := []
  proto : KMap Nat := []
  poisonKey : Option Nat := none
  fetches : List (Nat × Nat × Nat) := []
  nextFetch : Nat := 0
  heldFetch : List (Nat × Nat × Nat) := []
  hand : Option Hand := none
  cut : List Nat := []
  gained : List Nat := []
  gainAll : Bool := false
  serveFetch : List (Nat × Nat × Nat) := []
  resyncBytes : Nat := 0
  slew : Nat := 0
  sitesCut : Bool := false
  stewarded : Bool := false
  steward : Bool := false
  mgmtLost : Bool := false
  held500 : Bool := false
  timeLocked : Bool := false
  twinGdeq : List Nat := []
  twinGt0 : List Nat := []
  resetAfter : Bool := false
  deriving DecidableEq, Repr

/-! ### Keys, identity and firmware -/

/-- The running image: slot (0 A, 1 B), bytes 0–111 of its header, trial and fallback boots (R560, R562). -/
structure RunImage where
  slot : Nat := 0
  header : List Nat := []
  trial : Bool := false
  fallback : Bool := false
  deriving DecidableEq, Repr

/-- An SPDM connection or transport (R575, R577): version, open sessions, the messages that its transcript covers so far, and
the transcript that the most recent signed response covered, while GET_PQ_SIG may still ask for it. -/
structure SpdmConn where
  version : Nat := 0
  sessions : List Nat := []
  log : List Nat := []
  held : Option (List Nat) := none
  deriving DecidableEq, Repr

/-- Keys, identity and firmware (R544 to R582). `flash` is the QSPI NOR; `key0` and `key1` number the key in each slot, 0 where it
is zeroised; `arbC` and `revoked` are OTP (signer slots 0 to 3 firmware, 4 to 7 debug); `nonceAt` is the time at which the nonce
was drawn; `token` is TOKEN_BUF by byte; `tap` are the debug controller's data registers DBG_ADDR, DBG_DATA and DBG_CTL
and the instruction shifted in (0: none). -/
structure Security where
  flash : Memory := []
  run : Option RunImage := some {}
  bootSlot : Nat := 0
  nextSlot : Nat := 0
  trial : Bool := false
  arbC : Nat := 0
  revoked : List Nat := []
  outOk : Bool := true
  key0 : Nat := 1
  key1 : Nat := 0
  keysMade : Nat := 1
  nonceAt : Nat := 0
  token : KMap Nat := []
  scopeSeen : Nat := 0
  tapInstr : Nat := 0
  tapAddr : Nat := 0
  tapData : Nat := 0
  tapCtl : Nat := 0
  spdm : KMap SpdmConn := []
  deriving DecidableEq, Repr

/-! ### Power, clocks, ageing, blade power and reset -/

/-- A droop domain (R589 to R591): the detectors that are tripped now, whether its clocks are stretched, the divider level that sags left
(0 FULL, 1 7/8, 2 3/4), and the always-on time of its latest trip. -/
structure Domain where
  tripped : List Nat := []
  stretch : Bool := false
  level : Nat := 0
  lastTrip : Nat := 0
  deriving DecidableEq, Repr

/-- A margin plan that is made or applied (R597 to R599): the items not yet applied, the item that runs, and the twin
link whose stream has moved for it and which is to be reset (R470, R604). -/
structure MarginPlan where
  items : List PlanItem := []
  current : Option PlanItem := none
  armed : Option Nat := none
  deriving DecidableEq, Repr

/-- What a CAL_CMD does now. -/
inductive CalRun where
  | idle | opening | committing
  deriving DecidableEq, Repr

/-- The calibration set (R601 to R605): its words by word offset, the staging area while it is open, the sections
found torn, the words and torn sections in use since the last start (R602), and what runs. -/
structure Calibration where
  words : KMap Nat := []
  staging : Option (KMap Nat) := none
  torn : List Nat := []
  used : KMap Nat := []
  usedTorn : List Nat := []
  run : CalRun := .idle
  deriving DecidableEq, Repr

/-- The states of HSW_STAT.STATE. -/
inductive HswState where
  | off | debounce | ramp | on | pg | retryWait | lockout | offHold
  deriving DecidableEq, Repr

/-- The hot-swap controller (R607 to R626). Measurements are in the units of HSW_MEAS1 and HSW_MEAS2, the current after its division by SHUNT (DEDUCED, log entry 148); `tMeas` is in °C, `tModel`
in millionths of it (R612). `retryAt`, `pgAt`, `prsntAt` (PRSNT_L low) and `gateOffFrom` are always-on times, `gateOff` tells that the gate turns off 100 µs after an extraction or an OFF, `auxStart` that an AUX start
has begun whose cold start is still to come (R625); `startCause` and `prevOff` are those of the next RESET record of a cold start (R630). -/
structure HotSwap where
  state : HswState := .pg
  prsnt : Bool := true
  recognised : Bool := true
  offHold : Bool := false
  locked : Bool := false
  gate : Bool := true
  gateOff : Bool := false
  gateOffFrom : Nat := 0
  prsntAt : Nat := 0
  auxStart : Bool := false
  iout : Nat := 0
  vout : Nat := 5400
  vin : Nat := 5400
  tMeas : Int := 25
  tModel : Int := 25000000
  retryAt : Option Nat := none
  pgAt : Nat := 0
  prevOff : Nat := 0
  startCause : Nat := 0
  deriving DecidableEq, Repr

/-- Power, clocks, ageing and reset. `auxOk`, `mainOn` and `hubReset` are 3.3 V AUX, main power and DEV_RST_L; `hold` tells that the
device serves nothing after start-up (R42, R403, R456); `aon` is the always-on time in ns; `sensors` the readings in °C and
`excluded` the excluded sensors; `throttle` the throttle steps by die (0 Hub, 1 to 4 Tier 0, 5 to 8 SIO, 9 and 10 WIO); `refsLost` the
lost references (0 to 3 SIO, 4 host/peer, 5 crystal); `degr` the degradation by monitor; `blk` the block resets that run and `blkWait` those whose effect waits for commits (R190) (code and
number) and `late` the register writes that wait for their end (agent, address, value; R659); `eyes` the latest eye height and width of each link
receiver (4096 × kind + number); `d2d` and `sbTries` the replays of the flit or frame in hand by die-to-die link and of the sideband. -/
structure Power where
  auxOk : Bool := true
  mainOn : Bool := true
  hubReset : Bool := false
  hold : Bool := false
  aon : Nat := 0
  hsw : HotSwap := {}
  domains : KMap Domain := []
  sensors : KMap Int := []
  excluded : List Nat := []
  throttle : KMap Nat := []
  refsLost : List Nat := []
  degr : KMap Nat := []
  plan : MarginPlan := {}
  cal : Calibration := {}
  blk : List (Nat × Nat) := []
  blkWait : List (Nat × Nat) := []
  late : List (Agent × Nat × Nat) := []
  d2d : KMap Nat := []
  eyes : KMap (Nat × Nat) := []
  sbTries : Nat := 0
  deriving DecidableEq, Repr

/-! ### What the device sends -/

/-- The CXL mailbox return codes that the device gives. -/
inductive MboxCode where
  | success | invalidInput | unsupported | invalidHandle | invalidSlot | authFailed | invalidLog
  deriving DecidableEq, Repr

/-- The SPDM responses (R575). -/
inductive SpdmRsp where
  | version | capabilities | algorithms | digests | certificate | challengeAuth | measurements | keyExchangeRsp
  | finishRsp | heartbeatAck | keyUpdateAck | endSessionAck | chunkAck | pqCert | pqSig
  | errUnsupported | errUnexpected | errBusy | errInvalid | errSessionLimit
  deriving DecidableEq, Repr

/-- The attributes of an outbound request or completion: Relaxed Ordering and No Snoop are never set (R377). -/
structure TlpAttr where
  relaxed : Bool := false
  noSnoop : Bool := false
  ido : Bool := false
  deriving DecidableEq, Repr

/-- A vendor-defined CXL event record: its UUID, and its event-specific data (R374). -/
structure CxlEvent where
  uuid : List Nat
  data : List Nat
  deriving DecidableEq, Repr

/-- The messages, completions and pin changes that leave the device. A flit of a Ronlink link is given as what it says and, coded, as the 66-bit blocks of
a site link (bit 0 is sent first) or, frame by frame, as the PAM4 levels on the lanes of a peer link; `skip` names a SKIP frame. -/
inductive Out where
  | s2mDrs (port link tag : Nat) (data : Line) (poison : Bool)
  | s2mNdr (port link tag : Nat) (g : Grant)
  | biConflictAck (port link tag : Nat)
  | biSnp (port link : Nat) (kind : SnoopKind) (dpa sid : Nat)
  | msix (port link vector : Nat)
  | flit (k : LinkId) (h : FlitHdr) (body : Option Body)
  | train (k : LinkId) (kind : Nat) (f : TrainFields)
  | blocks (s : Nat) (l : List (BitVec 66))
  | symbols (p : Nat) (lanes : List (Nat × List Int))
  | skip (p : Nat)
  | hostRead (port link tag addr len : Nat) (attr : TlpAttr)
  | hostWrite (port link addr : Nat) (bytes : List Nat) (poison : Bool) (attr : TlpAttr)
  | aperture (n tag : Nat) (data : Line) (poison : Bool) (attr : TlpAttr)
  | regValue (ag : Agent) (addr value : Nat)
  | mailbox (port link : Nat) (code : MboxCode) (data : List Nat)
  | events (port link log overflow : Nat) (more : Bool) (recs : List CxlEvent)
  | doe (port link inst : Nat) (data : List Nat)
  | spdm (conn : Nat) (rsp : SpdmRsp) (data : List Nat)
  | endpoint (code status : Nat) (data : List Nat)
  deriving DecidableEq, Repr

/-- What is fixed in one part and its installation: grade, identity, straps, DIMM population, and what manufacture wrote: certificate
chains, signer keys with their OTP digests, identity records with their digests, ROM versions, OTP configuration (R555, R556, R576). `stepping` is the Revision ID (R677), `subsystem` the subsystem ID
in persistent configuration (R362); `dimmIds` are the
SPD identities by slot (2 × channel + slot), `popBad` the channels and slots whose population breaks a rule of R401 (channel, slot, rule), `codecBad` the
codecs that fail their check at start-up (R456: 0 to 15 of a channel, 16 to 19 of a Tier-0 die), `raaLimit` the DRAM's refresh management threshold, 0 where it asks for none. -/
structure Hw where
  gradeH : Bool := false
  uid : Nat := 0
  stepping : Nat := 1
  subsystem : Nat := 1
  strapQid : Nat := 0
  strapSide : Nat := 0
  strapSmb : Nat := 0
  dimms : Nat := 2
  dimmGib : Nat := 128
  ranks : Nat := 2
  x8 : Bool := false
  gb32 : Bool := true
  stack : Nat := 1
  speedBin : Nat := 3
  edChain : List Nat := []
  mldsaChain : List Nat := []
  edKeys : List (List Nat) := []
  mldsaKeys : List (List Nat) := []
  keyDigests : List (List Nat) := []
  identity : List (List Nat × List Nat) := []
  romVersions : List Nat := []
  otpConfig : List Nat := []
  dimmIds : List Nat := []
  popBad : List (Nat × Nat × Nat) := []
  codecBad : List Nat := []
  raaLimit : Nat := 0
  deriving DecidableEq, Repr

/-- Everything the spec gives the machine but the queue of waiting commands. `time` is the device time base in ns, `upAt` the always-on time
of the latest device reset or cold start; `fresh` is the model's own: it numbers the free values (Config). -/
structure Device where
  hw : Hw := {}
  time : Nat := 0
  upAt : Nat := 0
  fresh : Nat := 0
  regs : KMap Nat := []
  hdr : KMap PageHdr := []
  shadow : KMap Nat := []
  fc : Collector := {}
  ldg : Ledger := {}
  mgmt : MgmtPairs := {}
  mem : Memory := []
  regions : Regions := {}
  tier : Tiers := {}
  coh : Coherence := {}
  batch : Batches := {}
  qos : Qos := {}
  links : KMap Link := []
  site : Sites := {}
  fail : FailSvc := {}
  eng : Engines := {}
  host : HostPorts := {}
  chans : KMap Channel := []
  integ : Integ := {}
  twin : Twin := {}
  power : Power := {}
  sec : Security := {}
  space : Nat × Nat := (16, 0)
  qid : Nat := 0
  side : Nat := 0
  out : List Out := []
  deriving DecidableEq, Repr

/-- The machine: the device and the commands that wait, first in, first out. -/
structure State where
  dev : Device
  pending : List Instr
  deriving DecidableEq, Repr

/-- The machine right after reset. -/
def State.reset : State := { dev := {}, pending := [] }

end Sys2Proof.Machine
end

