-- ==== Sys2Proof/Machine/Ops.lean ====
section
/-! DEFINITION. The named operations over registers, page headers, messages and memory bytes. -/

namespace Sys2Proof.Machine

/-! ### Bytes and words -/

/-- The `n` low bytes of a number, least significant first. -/
def leBytes : Nat → Nat → List Nat
  | 0, _ => []
  | n + 1, v => v % 256 :: leBytes n (v / 256)

/-- The number whose bytes, least significant first, are given. -/
def ofLe : List Nat → Nat
  | [] => 0
  | b :: bs => b % 256 + 256 * ofLe bs

/-- The bits `lo` to `lo + w - 1` of a number. -/
def bitsOf (v lo w : Nat) : Nat := v / 2 ^ lo % 2 ^ w

/-- Is bit `i` of a number 1? -/
def bitOf (v i : Nat) : Bool := v / 2 ^ i % 2 == 1

/-- Cut a list into pieces of `k` elements (`fuel` bounds the number of pieces). -/
def chunk {α : Type} (k : Nat) : Nat → List α → List (List α)
  | 0, _ => []
  | fuel + 1, l => if l.isEmpty then [] else l.take k :: chunk k fuel (l.drop k)

/-! ### Registers -/

/-- The key of page `i` of a type, for the table of page headers. -/
def Page.pid (p : Page) (i : Nat) : Nat := 1024 * p.code + i

/-- The key of a field: of page `i` of its type, or of bank `i` where the page selects a bank (R284, R326, R387)
or numbers its classes or queues (R356). -/
def Field.key (f : Field) (i : Nat) : Nat := f.lo + 32 * (f.off + 4096 * f.page.pid i)

/-- The value that a field holds. -/
def Device.reg (d : Device) (f : Field) (i : Nat := 0) : Nat := KMap.get d.regs f.reset (f.key i)

/-- Store a value in a field, cut to its width. -/
def Device.setReg (d : Device) (f : Field) (v : Nat) (i : Nat := 0) : Device :=
  { d with regs := KMap.put d.regs (f.key i) (v % 2 ^ f.width) }

/-- A field as a Boolean. -/
def Device.flagReg (d : Device) (f : Field) (i : Nat := 0) : Bool := d.reg f i != 0

/-- Add to a counter that wraps at the end of its field. -/
def Device.countWrap (d : Device) (f : Field) (i : Nat := 0) (n : Nat := 1) : Device :=
  d.setReg f (d.reg f i + n) i

/-- Add to a counter that stops at the end of its field. -/
def Device.countSat (d : Device) (f : Field) (i : Nat := 0) (n : Nat := 1) : Device :=
  d.setReg f (min (d.reg f i + n) (2 ^ f.width - 1)) i

/-- Store a field for 64-bit values held in a LO and HI pair. -/
def Device.setPair (d : Device) (lo hi : Field) (v : Nat) (i : Nat := 0) : Device :=
  (d.setReg lo (v % 2 ^ 32) i).setReg hi (v / 2 ^ 32) i

/-- The 64-bit value held in a LO and HI pair. -/
def Device.regPair (d : Device) (lo hi : Field) (i : Nat := 0) : Nat := d.reg lo i + 2 ^ 32 * d.reg hi i

/-- Add to a 64-bit counter held in a LO and HI pair. -/
def Device.countPair (d : Device) (lo hi : Field) (n : Nat) (i : Nat := 0) : Device :=
  d.setPair lo hi (d.regPair lo hi i + n) i

/-! ### Page headers -/

/-- The header of a page (R640). -/
def Device.page (d : Device) (p : Page) (i : Nat := 0) : PageHdr := KMap.get d.hdr {} (p.pid i)

/-- Replace the header of a page. -/
def Device.setPage (d : Device) (p : Page) (i : Nat) (h : PageHdr) : Device :=
  { d with hdr := KMap.put d.hdr (p.pid i) h }

/-- Does the block of a page take work: ENABLE is 1 and POWER_POLICY is not HELD_OFF (R583, R642)? -/
def Device.pageOn (d : Device) (p : Page) (i : Nat := 0) : Bool := (d.page p i).enable && (d.page p i).policy != 3

/-- A write to fields of a page that its lock binds (R643): while the page is locked it has no effect on them, and it
counts once if it would have changed one. -/
def Device.rwl (d : Device) (p : Page) (i : Nat) (changes : Bool) (f : Device → Device) : Device :=
  let h := d.page p i
  if h.lock then
    (if changes then d.setPage p i { h with lockedWrites := min (h.lockedWrites + 1) 65535 } else d)
  else f d

/-- Would a write of a value change a field? -/
def Device.changes (d : Device) (f : Field) (v i : Nat) : Bool := v % 2 ^ f.width != d.reg f i

/-- Store a value in a field unless it is a reserved encoding (R13). -/
def Device.store (d : Device) (f : Field) (v : Nat) (i : Nat := 0) : Device :=
  let v := v % 2 ^ f.width
  if f.minV ≤ v ∧ v ≤ f.maxV then d.setReg f v i else d

/-- The type codes of R655. -/
def Page.typeCode : Page → Nat
  | .dev => 0x01 | .fc => 0x02 | .evtsum => 0x03 | .region => 0x10 | .tier => 0x11 | .baker => 0x12
  | .coh => 0x13 | .batch => 0x14 | .bwin => 0x15 | .mcast => 0x16 | .fail => 0x17 | .assay => 0x18
  | .qos => 0x19 | .integ => 0x1A | .twin => 0x1B | .ledger => 0x1C | .mgmt => 0x1D | .mint => 0x1E
  | .fwsec => 0x1F | .secalm => 0x20 | .pwr => 0x21 | .age => 0x22 | .cal => 0x23 | .hsw => 0x24
  | .rst => 0x25 | .dma => 0x26 | .host => 0x30 | .peer => 0x31 | .site => 0x32 | .ddrch => 0x33

/-- The PAGE_ID word of a page (R640). -/
def Page.idWord (p : Page) (i : Nat) : Nat := 1 + 256 * i + 2 ^ 24 * p.typeCode

/-- The fault source that bit `bit` of page `i` reports to (R508, R655); none for the summary pages without faults. -/
def Page.source (p : Page) (i bit : Nat) : Option Nat :=
  match p with
  | .site => some (i / 16)
  | .ddrch => some (64 + i)
  | .host => some (80 + i)
  | .peer => some (84 + i)
  | .fc =>
    if bit < 6 then some (89 + bit)
    else if 8 ≤ bit ∧ bit < 14 then some (89 + (bit - 8))
    else if 16 ≤ bit ∧ bit < 20 then some (95 + (bit - 16))
    else if bit = 24 then some 110 else if bit = 25 then some 111 else none
  | .coh | .region | .qos => some 99
  | .tier | .baker => some 100
  | .integ => some 101
  | .batch | .bwin | .mcast => some 102
  | .fail | .assay => some 103
  | .twin => some 104
  | .mint | .fwsec => some 105
  | .mgmt | .dma => some 106
  | .pwr | .age | .cal => some 107
  | .hsw | .rst | .ledger => some 108
  | .secalm => some 109
  | .dev | .evtsum => none

/-- How many pages of each type the device has (R655, R2). -/
def Page.count (gradeH : Bool) : Page → Nat
  | .host => 4 | .peer => 5 | .ddrch => 16 | .bwin => 256
  | .site => if gradeH then 0 else 1024
  | .mcast | .fail | .assay => if gradeH then 0 else 1
  | _ => 1

/-! ### Messages -/

/-- Send a message: it joins the list of what the device has sent, newest last. -/
def Device.send (d : Device) (m : Out) : Device := { d with out := d.out ++ [m] }

/-- Take the next number for a free value (Config). -/
def Device.nextFree (d : Device) : Device := { d with fresh := d.fresh + 1 }

/-! ### Memory bytes -/

/-- The byte at a raw address. An address that nothing has written reads as 0 (log entry 3). -/
def Memory.byte : Memory → Nat → BitVec 8
  | [], _ => 0
  | (a, b) :: m, i => if a = i then b else Memory.byte m i

/-- Write one byte, keeping the canonical form: writing 0 removes the entry. -/
def Memory.setByte : Memory → Nat → BitVec 8 → Memory
  | [], i, v => if v = 0 then [] else [(i, v)]
  | (a, b) :: m, i, v =>
    if i = a then (if v = 0 then m else (i, v) :: m)
    else if i < a then (if v = 0 then (a, b) :: m else (i, v) :: (a, b) :: m)
    else (a, b) :: Memory.setByte m i v

/-- The `n` bytes from an address. -/
def Memory.bytes (m : Memory) (a : Nat) : Nat → List Nat
  | 0 => []
  | n + 1 => (Memory.byte m a).toNat :: Memory.bytes m (a + 1) n

/-- Write bytes from an address up. -/
def Memory.setBytes (m : Memory) (a : Nat) : List Nat → Memory
  | [] => m
  | v :: vs => Memory.setBytes (Memory.setByte m a (BitVec.ofNat 8 v)) (a + 1) vs

/-- The canonical form: addresses strictly rising, and no entry equal to what an unlisted address reads as. -/
def Memory.wf : Memory → Bool
  | [] => true
  | [(_, b)] => b != 0
  | (a, b) :: (c, e) :: m => (b != 0) && decide (a < c) && Memory.wf ((c, e) :: m)

/-! ### MSI-X (R379) -/

/-- The state of one host link. -/
def Device.hostLink (d : Device) (p l : Nat) : HostLink := KMap.get d.host.links {} (2 * p + l)

/-- Replace the state of one host link. -/
def Device.setHostLink (d : Device) (p l : Nat) (h : HostLink) : Device :=
  { d with host := { d.host with links := KMap.put d.host.links (2 * p + l) h } }

/-- May the function of a link send a message with this vector now? -/
def HostLink.msixReady (h : HostLink) (v : Nat) : Bool :=
  h.msixEnable && !h.msixFuncMask && h.msixOpen.contains v && h.bme && !h.contained

/-- Send an MSI-X message, or set its pending bit while it cannot be sent (R379). -/
def Device.msix (d : Device) (p l v : Nat) : Device :=
  let h := d.hostLink p l
  if h.msixReady v then d.send (.msix p l v)
  else if h.msixPending.contains v then d
  else d.setHostLink p l { h with msixPending := h.msixPending ++ [v] }

/-- Is the nonce current: drawn, and 600 s of the always-on clock not yet passed (R570)? -/
def Device.nonceLive (d : Device) : Bool :=
  d.flagReg FWSEC.DBG_STAT.NONCE_VALID && decide (d.power.aon < d.sec.nonceAt + 600 * 10 ^ 9)

/-- The device event interrupt: on every host link whose IRQ_CFG.EN is 1 (R520). -/
def Device.eventIrq (d : Device) : Device :=
  (List.range 8).foldl (fun d k =>
    let p := k / 2; let l := k % 2
    if d.flagReg (HOST.IRQ_CFG.EN l) p then d.msix p l (d.reg (HOST.IRQ_CFG.VECTOR l) p) else d) d

/-! ### The coordinator (R52, R464, R495) -/

/-- The arrival code of this device: side × 4 + QID (R120). -/
def Device.myArr (d : Device) : Nat := d.side * 4 + d.qid

/-- In service: SOLO, PAIRED or HANDING_OVER (R464). -/
def Svc.serving : Svc → Bool
  | .solo | .paired | .handingOver => true
  | _ => false

/-- Is the device in service as an arrival device, so that host links may train (R392, R464)? -/
def Device.serving (d : Device) : Bool := d.twin.svc.serving

/-- Is the device with an arrival code in service? -/
def Device.inSvc (d : Device) (a : Nat) : Bool := if a = d.myArr then d.serving else d.twin.inService.contains a

/-- The coordinator: the lowest QID in service on side A, or on side B where side A has none. It is the time master. -/
def Device.coordinator (d : Device) : Option Nat := (List.range 8).find? d.inSvc

/-- Is this device the coordinator? -/
def Device.coordinates (d : Device) : Bool := d.coordinator == some d.myArr

/-- Is the time base locked (R496)? The master holds its own time base (log entry 23). -/
def Device.timeLock (d : Device) : Bool := d.twin.timeLocked || d.coordinates

end Sys2Proof.Machine
end

