-- ==== Sys2Proof/Machine/Flags.lean ====
section
/-! DEFINITION. Every flag computation: raising and clearing flags, fault classes, the ledger records that go with
them, and the fault collector (Faults and the Ledger; Register Map). -/

namespace Sys2Proof.Machine

/-! ### Fault classes -/

/-- The fault class of ERR_STAT bit `bit` of a page type; FC.TEST has the class FC_TEST.CLASS had when it was raised. -/
def flagClass (testCls : FaultClass) (p : Page) (bit : Nat) : FaultClass :=
  if p = .fc ∧ bit = 25 then testCls
  else match p.errFlags.find? (fun f => f.bit == bit) with
    | some f => f.cls
    | none => .none

/-- The higher of two classes. -/
def FaultClass.join (a b : FaultClass) : FaultClass := if a.code < b.code then b else a

/-- The class of a number (FC_TEST.CLASS). -/
def FaultClass.ofCode : Nat → FaultClass
  | 1 => .ce | 2 => .uc | 3 => .ft | _ => .none

/-- The bits of a word that are 1. -/
def onesOf (n : Nat) (v : Nat) : List Nat := (List.range n).filter (fun i => bitOf v i)

/-- The highest class among the flags of a page that are 1 (R507, PAGE_STAT.ERR_CLASS). -/
def pageClass (testCls : FaultClass) (p : Page) (err : BitVec 32) : FaultClass :=
  (p.errFlags.filter (fun f => err.getLsbD f.bit)).foldl (fun c f => c.join (flagClass testCls p f.bit)) .none

/-- The page type with a code. -/
def Page.ofCode (c : Nat) : Page := Page.all.getD c .dev

/-- Set the bit of a source, if there is one. -/
def orSource (w : BitVec 128) : Option Nat → BitVec 128
  | some s => w ||| BitVec.ofNat 128 (2 ^ s)
  | none => w

/-- The sources at which some flag of a class that passes the test is 1, as a 128-bit word (R508). -/
def errSources (testCls : FaultClass) (hdr : KMap PageHdr) (test : FaultClass → Bool) : BitVec 128 :=
  hdr.foldl (fun w e =>
    let p := Page.ofCode (e.1 / 1024)
    (p.errFlags.filter (fun f => e.2.err.getLsbD f.bit && test (flagClass testCls p f.bit))).foldl (fun w f =>
      orSource w (p.source (e.1 % 1024) f.bit)) w) 0

/-- The sources that a page reports to when its header passes a test (R658). -/
def pageSources (hdr : KMap PageHdr) (test : PageHdr → Bool) : BitVec 128 :=
  hdr.foldl (fun w e =>
    orSource w (if test e.2 then (Page.ofCode (e.1 / 1024)).source (e.1 % 1024) 0 else none)) 0

/-! ### The collector follows the flags -/

/-- The escalation timers that run: one for each source with a UC fault; a timer that runs keeps its start, and a
source that escalated keeps its expired timer while its UC fault stays (R510, R511). -/
def nextTimers (old : KMap EscTimer) (uc : BitVec 128) (now : Nat) : KMap EscTimer :=
  ((List.range 112).filter (fun s => uc.getLsbD s)).map (fun s =>
    (s, match KMap.find old s with
        | some t => t
        | none => .running now 0))

/-- Some source has a fault of a class that ERRL_CFG enables, or PEND is 1 with FT enabled, or FORCED is 1 (R517).
ERR_L is released while AUX is absent (R519). -/
def errLine (d : Device) : Bool :=
  d.power.auxOk &&
  (d.flagReg FC.ERRL_CFG.FORCED
  || (d.flagReg FC.ERRL_CFG.CE && (errSources d.fc.testCls d.hdr (fun c => c = .ce)) != 0)
  || (d.flagReg FC.ERRL_CFG.UC && (errSources d.fc.testCls d.hdr (fun c => c = .uc)) != 0)
  || (d.flagReg FC.ERRL_CFG.FT &&
      ((errSources d.fc.testCls d.hdr (fun c => c = .ft)) != 0 || !d.fc.escalated.isEmpty
        || d.flagReg FC.FT_STAT.PEND)))

/-- The summary word of escalated sources. -/
def sourcesOf (l : List Nat) : BitVec 128 := l.foldl (fun w s => orSource w (some s)) 0

/-- Does the Strongbox see the collector: main power on and the sideband up (R539)? -/
def Device.strongboxSees (d : Device) : Bool := d.power.mainOn && !((d.page .rst).err.getLsbD RST.flag.SB_FAIL.bit)

/-- What the collector and the summary pages show of the flags, formed again after every command (R507, R508, R510,
R517, R658). It changes nothing but the collector. -/
def settle (d : Device) : Device :=
  let uc := errSources d.fc.testCls d.hdr (fun c => c = .uc)
  let sum := errSources d.fc.testCls d.hdr (fun c => c ≠ .none) ||| sourcesOf d.fc.escalated
  let copied := d.strongboxSees && sum != d.fc.snapshot
  { d with fc := { d.fc with
      summary := sum
      snapshot := if copied then sum else d.fc.snapshot
      snapshotAt := if copied then d.power.aon else d.fc.snapshotAt
      ucSources := uc
      evtSummary := pageSources d.hdr (fun h => h.evt != 0)
      accSummary := pageSources d.hdr (fun h => h.accErr || h.accRefused)
      timers := nextTimers d.fc.timers uc d.power.aon
      errL := errLine d } }

/-! ### Ledger records -/

/-- Is the ledger still advancing (R533, R535)? -/
def Device.ledgerOpen (d : Device) : Bool :=
  !(d.flagReg LEDGER.LDG_STAT.WORN) && !(d.flagReg LEDGER.LDG_STAT.SEALED)

/-- Put a record in the last-words ring, newest first, 64 at most (R534). -/
def Ledger.pushLast (g : Ledger) (r : Record) : Ledger := { g with lastWords := (r :: g.lastWords).take 64 }

/-- The key of a CXL event log of a link: 0 Warning, 1 Failure, 2 Fatal. -/
def evLogKey (p l k : Nat) : Nat := (2 * p + l) * 3 + k

/-- Put a record in the CXL event log of its class on every link (R374). The interrupt of the log's policy is sent when the log
was empty. -/
def Device.eventLog (d : Device) (r : Record) : Device :=
  if r.cls = 0 then d
  else (List.range 8).foldl (fun (d : Device) i =>
    let p := i / 2; let l := i % 2; let k := evLogKey p l (r.cls - 1)
    let g := KMap.get d.host.evLogs {} k
    if l = 1 ∧ (d.hostLink p 0).split = false then d
    else
      let full := decide (256 ≤ g.recs.length)
      let g' : EventLog := if full then { g with overflow := g.overflow + 1 } else { g with recs := g.recs ++ [r] }
      let d := { d with host := { d.host with evLogs := KMap.put d.host.evLogs k g' } }
      if g.recs.isEmpty ∧ g.policy = 1 then d.msix p l g.vector else d) d

/-- Set an EVT_STAT flag if it is enabled, and advance EVT_SEQ (R644, R646). -/
def Device.setEvtBit (d : Device) (p : Page) (i bit : Nat) : Device :=
  let h := d.page p i
  if h.evtEn.getLsbD bit then
    d.setPage p i { h with evt := h.evt ||| BitVec.ofNat 16 (2 ^ bit), evtSeq := h.evtSeq + 1 }
  else d

/-- The SEQ that the next record takes: that of the ring, or of the last-words ring on a worn or sealed ledger (R527, R534, R535). -/
def Device.recordSeq (d : Device) : Nat :=
  if d.ledgerOpen then d.ldg.nextSeq
  else if d.flagReg LEDGER.LDG_STAT.SEALED then 2 ^ 64 - 1 else d.ldg.volatileSeq + d.ldg.nextSeq

/-- Has the writer's queue an entry for a record; `held` records may take the eight entries held back for FT and reset records (R524)? -/
def Device.hasEntry (d : Device) (held : Bool) : Bool := decide (d.ldg.queue.length < (if held then 256 else 248))

/-- Write a record: it takes the next SEQ and joins the writer's queue, or is lost when no entry is free; on a worn
or sealed ledger it goes to the last-words ring only (R524, R527, R533, R535). -/
def Device.putRecord (d : Device) (r : Record) (held : Bool) : Device :=
  let g := d.ldg
  let r := { r with time := d.time, unlocked := !d.timeLock, lost := g.lostMark }
  if !d.ledgerOpen then
    let r := { r with seq := d.recordSeq, volatileRec := true }
    ({ d with ldg := { (g.pushLast r) with volatileSeq := g.volatileSeq + 1, lostMark := false } }).eventLog r
  else if d.hasEntry held then
    let r := { r with seq := g.nextSeq }
    ({ d with ldg := { g with queue := g.queue ++ [r], nextSeq := g.nextSeq + 1, lostMark := false } }).eventLog r
  else
    let d := (d.countSat LEDGER.RECORDS_LOST.COUNT).setEvtBit .ledger 0 4
    let d := { d with ldg := { d.ldg with lostMark := true } }
    if (d.page .ledger).evtEn.getLsbD 4 then d.eventIrq else d

/-- The REPEAT record of an entry that closes with a count (R530). -/
def Device.closeCoalesce (d : Device) (e : Coalesce) : Device :=
  if e.count = 0 then d
  else d.putRecord { seq := 0, time := 0, type := 0x0001, source := e.source, cls := e.cls, pageId := e.pageId,
                     detail := leBytes 8 e.seqRef ++ leBytes 4 e.count ++ leBytes 8 e.tLast } false

/-- The record types that never coalesce (R530). -/
def Record.alone (r : Record) : Bool :=
  r.cls = 3 || r.type = 0x0011 || r.type = 0x0012 || r.type = 0x0030 || r.type = 0x0031 || r.type = 0x0060

/-- Hand an event to the writer under the coalescing rule (R530). `ident` is the identifying part of its INFO. A record that is lost opens no entry,
since it has no SEQ that a REPEAT could name (DEDUCED, log entry 133). -/
def Device.record (d : Device) (r : Record) (ident : List Nat) : Device :=
  if r.alone then d.putRecord r (r.cls = 3 || r.type = 0x0030)
  else
    let key := [r.type, r.source, r.pageId, r.detail.headD 0] ++ ident
    match d.ldg.coal.find? (fun e => e.key = key) with
    | some _ =>
      { d with ldg := { d.ldg with coal := d.ldg.coal.map (fun e =>
          if e.key = key then { e with count := min (e.count + 1) (2 ^ 32 - 1), tLast := d.time } else e) } }
    | none =>
      let seq := d.recordSeq
      let written := !d.ledgerOpen || d.hasEntry false
      let d := d.putRecord r false
      let e : Coalesce := { key := key, seqRef := seq, source := r.source, pageId := r.pageId, cls := r.cls,
                            tLast := d.time, opened := d.power.aon }
      if !written then d
      else if d.ldg.coal.length < 32 then { d with ldg := { d.ldg with coal := d.ldg.coal ++ [e] } }
      else
        match d.ldg.coal with
        | [] => d
        | o :: rest => ({ d with ldg := { d.ldg with coal := rest ++ [e] } }).closeCoalesce o

/-- The source byte of a record. -/
def sourceByte (p : Page) (i bit : Nat) : Nat := (p.source i bit).getD 0xFF

/-- An EVENT record for a flag or an event code of a page (R528, R684). -/
def Device.eventRecord (d : Device) (p : Page) (i code : Nat) (info ident : List Nat) : Device :=
  d.record { seq := 0, time := 0, type := 0x0020, source := sourceByte p i code, cls := 0, pageId := p.idWord i,
             detail := code :: info } ident

/-! ### Raising flags -/

/-- An event sets its EVT_STAT flag and writes no record of its own. -/
def Device.evt (d : Device) (f : Flag) (i : Nat := 0) : Device :=
  let d := d.setEvtBit f.page i f.bit
  if f.page = .ledger ∧ (d.page f.page i).evtEn.getLsbD f.bit = true then d.eventIrq else d

/-- An event that its chapter says writes a ledger record. The record is written while the flag is disabled too
(R646). -/
def Device.evtRec (d : Device) (f : Flag) (i : Nat) (info ident : List Nat) : Device :=
  (d.evt f i).eventRecord f.page i f.bit info ident

/-- Has a source a fault of a class now? -/
def Device.sourceHas (d : Device) (s : Nat) (c : FaultClass) : Bool :=
  (errSources d.fc.testCls d.hdr (fun x => x = c)).getLsbD s

/-- Set an ERR_STAT bit, advance ERR_SEQ, and note when a flag that was 0 was set. -/
def Device.setErrBit (d : Device) (p : Page) (i bit : Nat) : Device :=
  let h := d.page p i
  d.setPage p i { h with err := h.err ||| BitVec.ofNat 32 (2 ^ bit), errSeq := h.errSeq + 1,
                         setAt := if h.err.getLsbD bit then h.setAt else KMap.put h.setAt bit d.time }

/-- A fatal fault: FT_STAT, the counters and the reaction that FATAL_REACTION carries out (R514, R516, R518). -/
def Device.raiseFatal (d : Device) (s : Nat) (escalated : Bool) : Device :=
  let d := d.setReg FC.FT_STAT.PEND 1
  let d := d.setReg FC.FT_STAT.ESCALATED (if escalated then 1 else 0)
  let d := d.setReg FC.FT_STAT.SOURCE s
  let d := d.countSat FC.FT_COUNT.COUNT
  { d with fc := { d.fc with ftPending := d.fc.ftPending ++ [(s, escalated)] } }

/-- What the collector does when a flag that was 0 becomes 1: the counts, the interrupt and the fatal latch
(R506, R514, R520). -/
def Device.newFault (d : Device) (p : Page) (i bit : Nat) (c : FaultClass) (hadCe hadUc : Bool) : Device :=
  match c with
  | .none => d
  | .ce =>
    let d := d.countSat FC.CE_COUNT.COUNT
    if !hadCe && d.flagReg FC.FC_CTL.IRQ_CE then d.eventIrq else d
  | .uc =>
    let s := sourceByte p i bit
    let d := d.countSat FC.UC_COUNT.COUNT
    let d := if hadUc then d
      else { d with fc := { d.fc with timers := KMap.put d.fc.timers s (.running d.power.aon bit) } }
    if !hadUc && d.flagReg FC.FC_CTL.IRQ_UC then d.eventIrq else d
  | .ft => d.raiseFatal (sourceByte p i bit) false

/-- An ERR_STAT flag is raised: the flag, the sequence, the ledger record (FAULT for a flag with a class, EVENT for
one without, where `noted` asks for it) and the collector (R506, R507, R528, R644). -/
def Device.raise (d : Device) (f : Flag) (i : Nat) (info ident : List Nat) (noted : Bool := true) : Device :=
  let c := flagClass d.fc.testCls f.page f.bit
  let s := sourceByte f.page i f.bit
  let was := (d.page f.page i).err.getLsbD f.bit
  let hadCe := d.sourceHas s .ce
  let hadUc := d.sourceHas s .uc
  let d := d.setErrBit f.page i f.bit
  let d := if c = .none then (if noted then d.eventRecord f.page i f.bit info ident else d)
    else d.record { seq := 0, time := 0, type := 0x0010, source := s, cls := c.code, pageId := f.page.idWord i,
                    detail := f.bit :: info } ident
  if was && c == .ft then d else d.newFault f.page i f.bit c hadCe hadUc

/-- A flag that its chapter says returns to 0 by itself (R646, R160). -/
def Device.dropErr (d : Device) (f : Flag) (i : Nat := 0) : Device :=
  let h := d.page f.page i
  d.setPage f.page i { h with err := h.err &&& ~~~(BitVec.ofNat 32 (2 ^ f.bit)) }

/-- An error of access size or alignment (R14, R648). -/
def Device.accErr (d : Device) (p : Page) (i : Nat) (info : List Nat) : Device :=
  let h := d.page p i
  (d.setPage p i { h with accErr := true, errSeq := h.errSeq + 1 }).eventRecord p i 0x80 info []

/-- A refused access that arrived through a page's port (R68, R648); one coalesced record for each port and cause. -/
def Device.accRefused (d : Device) (p : Page) (i : Nat) (cause : Nat) (info : List Nat) : Device :=
  let h := d.page p i
  (d.setPage p i { h with accRefused := true, errSeq := h.errSeq + 1 }).eventRecord p i 0x81 (cause :: info) [cause]

/-- The agents of UC_CLEARED (R528). -/
def agentCode : Agent → Nat
  | .host _ _ => 0 | .endpoint => 1 | .firmware => 2 | .steward => 3 | .dma _ => 0 | .debug => 2

/-- ERR_CLR with the current sequence clears every ERR_STAT flag, ACC_ERR and ACC_REFUSED; each UC flag cleared writes
a UC_CLEARED record (R507, R528, R645). -/
def Device.clearErr (d : Device) (p : Page) (i : Nat) (seq : Nat) (ag : Agent) : Device :=
  let h := d.page p i
  if seq = h.errSeq.toNat then
    let ucs := (onesOf 32 h.err.toNat).filter (fun b => flagClass d.fc.testCls p b = .uc)
    let d := d.setPage p i { h with err := 0, accErr := false, accRefused := false, setAt := [] }
    ucs.foldl (fun d b =>
      let rest := leBytes 4 (min ((d.time - KMap.get h.setAt d.time b) / 1000) (2 ^ 32 - 1)) ++ [agentCode ag]
      d.record { seq := 0, time := 0, type := 0x0013, source := sourceByte p i b, cls := 2, pageId := p.idWord i,
                 detail := b :: rest } rest) d
  else d

/-- EVT_CLR with the current sequence clears every EVT_STAT flag (R645). -/
def Device.clearEvt (d : Device) (p : Page) (i : Nat) (seq : Nat) : Device :=
  let h := d.page p i
  if seq = h.evtSeq.toNat then d.setPage p i { h with evt := 0 } else d

/-- A MGMT record (R528): event, pair. -/
def Device.mgmtRecord (d : Device) (ev pair : Nat) : Device :=
  d.record { seq := 0, time := 0, type := 0x0070, source := 106, cls := 0, pageId := Page.idWord .mgmt 0,
             detail := [ev, pair] } [ev, pair]

/-- A RESET record (R528, R634). -/
def Device.resetRecord (d : Device) (kind cause : Nat) (info : List Nat) : Device :=
  d.record { seq := 0, time := 0, type := 0x0030, source := 0xFF, cls := 0, pageId := 0,
             detail := kind :: cause :: info } []

/-- A POWER record (R528). -/
def Device.powerRecord (d : Device) (detail ident : List Nat) : Device :=
  d.record { seq := 0, time := 0, type := 0x0040, source := 0xFF, cls := 0, pageId := 0, detail := detail } ident

/-- A SECURITY record (R528). -/
def Device.securityRecord (d : Device) (source : Nat) (detail ident : List Nat) : Device :=
  d.record { seq := 0, time := 0, type := 0x0050, source := source, cls := 0, pageId := 0, detail := detail } ident

/-- Run an operation on the device, then let the collector follow. No command touches the queue of waiting commands. -/
def State.run (f : Device → Device) (s : State) : Host.Outcome State Fault Refusal :=
  .next { s with dev := settle (f s.dev) }

end Sys2Proof.Machine
end

