-- ==== Sys2Proof/Machine/Operands.lean ====
section
/-! DEFINITION. Every operand form: addresses and how they decode, loaf records, and the stored streams of baked
loaves. All functions here are pure. -/

namespace Sys2Proof.Machine

/-! ### What holds the device's own engines -/

/-- Is a throttle step in force (R594)? -/
def Device.throttling (d : Device) : Bool := d.power.throttle.any (fun e => e.2 != 0)

/-- Have the device's engines stopped, without management and without a steward (R500)? -/
def Device.enginesHeld (d : Device) : Bool := d.twin.held500

/-- Do the Baker, the scrubber and the Proofer pause (R500, R594)? -/
def Device.paused (d : Device) : Bool := d.throttling || d.enginesHeld

/-! ### Address spaces (R38 to R45) -/

/-- LOGICAL_TIB in force. -/
def Device.logicalTib (d : Device) : Nat := d.space.1

/-- log2 of MEMBERS in force. -/
def Device.membersLog2 (d : Device) : Nat := d.space.2

/-- The number of members of the quartet. -/
def Device.members (d : Device) : Nat := 2 ^ d.membersLog2

/-- The extent of the quartet logical space in bytes (R38). -/
def Device.qlaLimit (d : Device) : Nat := 2 ^ 40 * (d.members * d.logicalTib)

/-- The XOR of the two-bit groups of a page number (R43). -/
def homeFold (pn : Nat) : Nat :=
  (List.range 17).foldl (fun f k => f ^^^ bitsOf pn (2 * k) 2) 0

/-- The home position of a page number (R43). -/
def homePosition (membersLog2 pn : Nat) : Nat :=
  if membersLog2 = 2 then homeFold pn else if membersLog2 = 1 then homeFold pn % 2 else 0

/-- The local address of a quartet logical address (R43). -/
def llaOf (membersLog2 qla : Nat) : Nat := 4096 * (qla / 4096 / 2 ^ membersLog2) + qla % 4096

/-- The quartet logical address of a local address at a position: the page of the group that the hash homes there. -/
def qlaOf (membersLog2 position lla : Nat) : Nat :=
  let lpn := lla / 4096
  let cands := (List.range (2 ^ membersLog2)).map (fun k => lpn * 2 ^ membersLog2 + k)
  match cands.find? (fun pn => homePosition membersLog2 pn == position) with
  | some pn => 4096 * pn + lla % 4096
  | none => lla

/-- The line number of an address in this device's local space: LLA[43:6]. -/
def Device.lineOf (d : Device) (qla : Nat) : Nat := llaOf d.membersLog2 qla / 64

/-- The address of a line that this device homes. -/
def Device.qlaOfLine (d : Device) (line : Nat) : Nat := qlaOf d.membersLog2 d.qid (64 * line)

/-- The local page number of a line. -/
def lpnOf (line : Nat) : Nat := line / 64

/-! ### Regions (R46 to R51) -/

/-- The region that holds an address, with its ID (R48). -/
def Device.regionOf (d : Device) (qla : Nat) : Option (Nat × Region) :=
  let g := qla / 2 ^ 30
  d.regions.table.find? (fun e => e.2.base ≤ g && g < e.2.base + e.2.size)

/-- May a host with this ID do this access (R51)? -/
def Region.hostMay (r : Region) (host : Nat) (write : Bool) : Bool :=
  bitOf r.hostMask host && (if write then r.hostAcc == 2 else r.hostAcc == 1 || r.hostAcc == 2)

/-- May a site do this access (R51)? -/
def Region.siteMay (r : Region) (s : Nat) (write : Bool) : Bool :=
  bitOf r.sgMask (s / 16) && (if write then r.siteAcc == 2 else r.siteAcc == 1 || r.siteAcc == 2)

/-- Is an address in a region's range? -/
def regionCovers (r : Region) (qla : Nat) : Bool := decide (r.base ≤ qla / 2 ^ 30) && decide (qla / 2 ^ 30 < r.base + r.size)

/-- The destroyed region that holds an address, while this device still holds pages of it (R58). -/
def Device.leavingOf (d : Device) (qla : Nat) : Option (Nat × Region) :=
  (d.regions.leaving.find? (fun e => regionCovers e.2.region qla)).map (fun e => (e.1, e.2.region))

/-- The region of a local line: one of the table, or one that is being destroyed. -/
def Device.regionOfLine (d : Device) (line : Nat) : Option (Nat × Region) :=
  (d.regionOf (d.qlaOfLine line)).orElse (fun _ => d.leavingOf (d.qlaOfLine line))

/-- Is the line in an Elastic region? -/
def Device.elasticLine (d : Device) (line : Nat) : Bool :=
  match d.regionOfLine line with
  | some (_, r) => r.cap == 1
  | none => false

/-! ### Host windows (R60) -/

/-- The window and QLA of a device physical address on a link; the window may be disabled. -/
def Device.windowDecode (d : Device) (p l dpa : Nat) : Nat × Nat :=
  let h := d.hostLink p l
  (dpa / 2 ^ h.winLog2, 2 ^ 36 * h.lbase + dpa % 2 ^ h.winLog2)

/-- Is a window of a link enabled (R60)? -/
def Device.windowOn (d : Device) (p l w : Nat) : Bool := w < 16 && bitOf (d.reg (HOST.WIN_CFG.WIN_EN l) p) w

/-- The address a link shows a QLA at, through a window (R127). -/
def Device.dpaOf (d : Device) (p l win qla : Nat) : Nat :=
  let h := d.hostLink p l
  win * 2 ^ h.winLog2 + (qla - 2 ^ 36 * h.lbase)

/-! ### The directory (R121) -/

/-- The set of a line. -/
def dirSet (line : Nat) : Nat :=
  let lpn := line / 64
  2 ^ 14 * (line % 64) + ((lpn % 2 ^ 14) ^^^ bitsOf lpn 14 14 ^^^ bitsOf lpn 28 4)

/-- The Tier-0 die that stores the set of a line: set[1:0] (R121). -/
def dirDie (line : Nat) : Nat := dirSet line % 4

/-- The line of a set with a tag, LPN[31:14] (R121). -/
def lineOfTag (set tag : Nat) : Nat := 64 * (2 ^ 14 * tag + (set % 2 ^ 14 ^^^ tag % 2 ^ 14 ^^^ tag / 2 ^ 14)) + set / 2 ^ 14

/-- The home slice of a line: set[13:9]. -/
def homeSlice (line : Nat) : Nat := bitsOf (dirSet line) 9 5

/-- The twin stream of a line (R468). -/
def streamOf (line : Nat) : Nat := if homeSlice line < 16 then 0 else 1

/-- A pointer as its 12 bits (R120). -/
def Ptr.bits (p : Ptr) : Nat := p.host + 32 * p.win + 512 * p.arr

/-- The 64-bit word of a directory entry of a line (R120). -/
def DirEntry.word (e : DirEntry) (line : Nat) (pend : Bool) : Nat :=
  let named := e.ptrs.take 3
  bitsOf (line / 64) 14 18 + 2 ^ 18 * e.state + 2 ^ 20 * named.length
    + (if e.lovf then 2 ^ 22 else 0) + (if e.pin then 2 ^ 23 else 0) + (if pend then 2 ^ 24 else 0)
    + 2 ^ 25 * ((named.map Ptr.bits).getD 0 0) + 2 ^ 37 * ((named.map Ptr.bits).getD 1 0)
    + 2 ^ 49 * ((named.map Ptr.bits).getD 2 0)

/-- An entry that is free once no back-invalidate for its line is in flight (R120). -/
def DirEntry.isFree (e : DirEntry) : Bool :=
  e.state == 0 && e.ptrs.isEmpty && !e.lovf && !e.pin

/-! ### Raw memory (R69, R78, R79, R404, R405) -/

/-- Installed raw memory in GiB: 16 channels. -/
def Hw.rawGib (h : Hw) : Nat := 16 * h.dimms * h.dimmGib

/-- Installed raw memory in bytes. -/
def Device.rawBytes (d : Device) : Nat := 2 ^ 30 * d.hw.rawGib

/-- The base of the device-private area (R69). -/
def Device.privateBase (d : Device) : Nat := 2 ^ 30 * (d.hw.rawGib - 4)

/-- The GiB below the loaf-record table: the installed memory less the private area and 8 GiB for each logical TiB (R78). -/
def Device.tableGib (d : Device) : Nat := d.hw.rawGib - 4 - d.logicalTib * 8

/-- TABLE_BASE (R78). -/
def Device.tableBase (d : Device) : Nat := 2 ^ 30 * d.tableGib

/-- The raw address of a loaf record (R78). -/
def Device.recordAddr (d : Device) (lpn : Nat) : Nat := d.tableBase + 32 * lpn

/-- The raw address of a slice of a bin (R79). -/
def sliceAddr (bin idx : Nat) : Nat := 2 ^ 34 * bin + 512 * idx

/-- The target of a raw address: channel × 2 + subchannel (R404). -/
def targetOf (ra : Nat) : Nat :=
  bitsOf ra 9 5 ^^^ bitsOf ra 14 5 ^^^ bitsOf ra 19 5 ^^^ bitsOf ra 24 5 ^^^ bitsOf ra 29 5

/-- The channel of a raw address. -/
def channelOf (ra : Nat) : Nat := targetOf ra / 2

/-- The address within the target (R404). -/
def taOf (ra : Nat) : Nat := 512 * (ra / 2 ^ 14) + ra % 512

/-- Width of the rank field (R405). -/
def Hw.rankBits (h : Hw) : Nat := if h.ranks = 2 then 1 else 0

/-- Width of the chip-ID field: 0, 1 or 2 for stack heights 1, 2, 4. -/
def Hw.cidBits (h : Hw) : Nat := if h.stack = 4 then 2 else if h.stack = 2 then 1 else 0

/-- Width of the row field: 16 for 16 Gb, 17 for 32 Gb. -/
def Hw.rowBits (h : Hw) : Nat := if h.gb32 then 17 else 16

/-- Width of the column-high field (R405). -/
def Hw.colBits (h : Hw) : Nat := if h.x8 then 3 else 4

/-- The DRAM place of a raw address (R405). -/
structure DramLoc where
  ch : Nat
  sub : Nat
  dimm : Nat
  rank : Nat
  cid : Nat
  bg : Nat
  bank : Nat
  row : Nat
  col : Nat
  deriving DecidableEq, Repr

/-- The fields of TA (R405). -/
def Device.dramLoc (d : Device) (ra : Nat) : DramLoc :=
  let t := targetOf ra; let ta := taOf ra; let h := d.hw
  let c := 14; let r := c + h.colBits; let k := r + h.rankBits; let w := k + h.cidBits; let m := w + h.rowBits
  { ch := t / 2, sub := t % 2, bg := bitsOf ta 9 3, bank := bitsOf ta 12 2,
    rank := bitsOf ta r h.rankBits, cid := bitsOf ta k h.cidBits, row := bitsOf ta w h.rowBits,
    dimm := bitsOf ta m (if h.dimms = 2 then 1 else 0),
    col := 128 * bitsOf ta c h.colBits + bitsOf ta 6 3 * 16 }

/-- A row as one number: everything of its place but the column. -/
def DramLoc.rowKey (l : DramLoc) : Nat :=
  2 ^ 17 * (((((((l.ch * 2 + l.sub) * 2 + l.dimm) * 2 + l.rank) * 4 + l.cid) * 8 + l.bg) * 4 + l.bank)) + l.row

/-- A bank as one number. -/
def DramLoc.bankKey (l : DramLoc) : Nat := l.rowKey / 2 ^ 17

/-! ### Loaf records (R77, R80) -/

/-- A loaf record taken apart. -/
structure LoafRec where
  state : Nat := 0
  nslice : Nat := 0
  bin : Nat := 0
  qend : List Nat := [0, 0, 0]
  slices : List Nat := []
  deriving DecidableEq, Repr

/-- The record that a 256-bit word spells. -/
def LoafRec.ofWord (w : Nat) : LoafRec :=
  { state := bitsOf w 0 3, nslice := bitsOf w 3 4, bin := bitsOf w 7 9,
    qend := [bitsOf w 16 12, bitsOf w 28 12, bitsOf w 40 12],
    slices := (List.range (min (bitsOf w 3 4) 8)).map (fun k => bitsOf w (52 + 25 * k) 25) }

/-- The 256-bit word of a record; the slices beyond NSLICE are written 0 (R79). -/
def LoafRec.word (r : LoafRec) : Nat :=
  r.state + r.nslice * 2 ^ 3 + 2 ^ 7 * r.bin + 2 ^ 16 * r.qend.getD 0 0 + 2 ^ 28 * r.qend.getD 1 0
    + 2 ^ 40 * r.qend.getD 2 0
    + (List.range 8).foldl (fun n k => n + (r.slices.getD k 0) * 2 ^ (52 + 25 * k)) 0

/-- Are the quarter ends of a stream increasing and within it (R80)? -/
def LoafRec.qendOk (r : LoafRec) : Bool :=
  let a := r.qend.getD 0 0; let b := r.qend.getD 1 0; let c := r.qend.getD 2 0
  decide (0 < a) && decide (a < b) && decide (b < c) && decide (c < 512 * r.nslice)

/-- Does a record keep the state rules (R80, R81)? -/
def LoafRec.ok (r : LoafRec) : Bool :=
  let noQend := r.qend == [0, 0, 0]
  let plain := r.nslice == 8 && noQend
  let baked := decide (1 ≤ r.nslice) && decide (r.nslice ≤ 7) && r.qendOk
  match r.state with
  | 0 | 1 | 4 => r.nslice == 0 && noQend
  | 2 => plain
  | 3 => baked
  | 5 => plain || baked
  | _ => false

/-- Does the record hold a BAKED layout: BAKED, or MIGRATING from one (R80)? -/
def LoafRec.baked (r : LoafRec) : Bool := r.state == 3 || (r.state == 5 && r.nslice != 8)

/-- Does the record hold a PLAIN layout? -/
def LoafRec.plain (r : LoafRec) : Bool := r.state == 2 || (r.state == 5 && r.nslice == 8)

/-- The layout that a record change carries. -/
def LoafRec.layout (r : LoafRec) : Layout :=
  { state := r.state, nslice := r.nslice, qend1 := r.qend.getD 0 0, qend2 := r.qend.getD 1 0, qend3 := r.qend.getD 2 0 }

/-- The stored bytes of quarter `q`: first and end (R88); for quarter 3 the end of the last slice, the stream may end before. -/
def LoafRec.span (r : LoafRec) (q : Nat) : Nat × Nat :=
  let start := if q = 0 then 0 else r.qend.getD (q - 1) 0
  (start, if q < 3 then r.qend.getD q 0 else 512 * r.nslice)

/-! ### Quarter encodings (R83 to R85) -/

/-- What a stored quarter decodes to. -/
inductive Quarter where
  | bytes (l : List Nat)
  | poison
  | corrupt
  deriving DecidableEq, Repr

/-- Copy `n` bytes from a distance back, one at a time (R84). `rev` is the output so far, newest byte first. -/
def lzCopy (dist : Nat) : Nat → List Nat → List Nat
  | 0, rev => rev
  | n + 1, rev => lzCopy dist n (rev.getD (dist - 1) 0 :: rev)

/-- Decode LZ tokens (R84): the output newest byte first, and the bytes left after the end token. -/
def lzDecode : Nat → List Nat → List Nat → Option (List Nat × List Nat)
  | 0, _, _ => none
  | _ + 1, [], _ => none
  | fuel + 1, t :: s, rev =>
    if t = 0xFF then some (rev, s)
    else if t < 0x40 then
      if s.length < t + 1 then none
      else lzDecode fuel (s.drop (t + 1)) ((s.take (t + 1)).reverse ++ rev)
    else if t < 0x80 then
      match s with
      | [] => none
      | b :: s =>
        let dist := 256 * (t % 8) + b + 1
        if rev.length < dist then none else lzDecode fuel s (lzCopy dist (t / 8 % 8 + 3) rev)
    else if t < 0xC0 then
      match s with
      | b :: c :: s =>
        let v := b + 256 * c
        let dist := v % 1024 + 1
        if 1024 ≤ v ∨ rev.length < dist then none else lzDecode fuel s (lzCopy dist (t % 64 + 11) rev)
      | _ => none
    else none

/-- Set or clear the listed bit positions of a quarter (R83, SPARSE). -/
def sparseBytes (pol : Bool) (pos : List Nat) : List Nat :=
  (List.range 1024).map (fun i =>
    let v := (pos.filter (fun p => p / 8 == i)).foldl (fun n p => n + 2 ^ (p % 8)) 0
    if pol then 255 - v else v)

/-- Is a list strictly increasing? -/
def increasing : List Nat → Bool
  | [] => true
  | [_] => true
  | a :: b :: l => decide (a < b) && increasing (b :: l)

/-- Decode the quarter that a stream begins with, and how many bytes it took (R83). Of the SPARSE form, flag bits [7:1] that are not 0
make the quarter corrupt, and padding bits are not looked at: R83 says that both are 0 and no more (DESIGN CHOICE, log entry 110). -/
def decodeQuarter (s : List Nat) : Quarter × Nat :=
  match s with
  | [] => (.corrupt, 0)
  | 0x00 :: _ => (.bytes (List.replicate 1024 0), 1)
  | 0x01 :: r =>
    if r.length < 8 then (.corrupt, 0) else (.bytes ((List.replicate 128 (r.take 8)).flatten), 9)
  | 0x02 :: f :: n0 :: n1 :: r =>
    let n := n0 + 256 * n1
    let len := (13 * n + 7) / 8
    let v := ofLe (r.take len)
    let pos := (List.range n).map (fun k => bitsOf v (13 * k) 13)
    if f ≤ 1 ∧ 1 ≤ n ∧ n ≤ 512 ∧ len ≤ r.length ∧ increasing pos = true then
      (.bytes (sparseBytes (f == 1) pos), 4 + len)
    else (.corrupt, 0)
  | 0x03 :: r =>
    match lzDecode (r.length + 1) r [] with
    | some (rev, rest) =>
      if rev.length = 1024 ∧ r.length - rest.length ≤ 1024 then (.bytes rev.reverse, 1 + (r.length - rest.length))
      else (.corrupt, 0)
    | none => (.corrupt, 0)
  | 0x04 :: r => if r.length < 1024 then (.corrupt, 0) else (.bytes (r.take 1024), 1025)
  | 0xFE :: _ => (.poison, 1)
  | _ => (.corrupt, 0)

/-- The bit positions of a quarter that are 1. -/
def onePositions (q : List Nat) : List Nat :=
  (q.zip (List.range q.length)).flatMap (fun e => (onesOf 8 e.1).map (fun b => 8 * e.2 + b))

/-- The SPARSE encoding of listed positions. -/
def sparseEncode (pol : Nat) (pos : List Nat) : List Nat :=
  let v := (pos.zip (List.range pos.length)).foldl (fun n e => n + e.1 * 2 ^ (13 * e.2)) 0
  [0x02, pol, pos.length % 256, pos.length / 256] ++ leBytes ((13 * pos.length + 7) / 8) v

/-- The encodings that can express a quarter, in the order of their mode bytes (R83, R85). -/
def quarterModes (q : List Nat) : List (List Nat) :=
  let ones := onePositions q
  let zeros := onePositions (q.map (fun b => 255 - b))
  let lz := Config.lzTokens q
  (if q = List.replicate 1024 0 then [[0x00]] else [])
  ++ (if q = (List.replicate 128 (q.take 8)).flatten then [0x01 :: q.take 8] else [])
  ++ (if 1 ≤ ones.length ∧ ones.length ≤ 512 then [sparseEncode 0 ones] else [])
  ++ (if 1 ≤ zeros.length ∧ zeros.length ≤ 512 then [sparseEncode 1 zeros] else [])
  ++ (if lz.length ≤ 1024 ∧ decodeQuarter (0x03 :: lz) = (.bytes q, 1 + lz.length) then [0x03 :: lz] else [])
  ++ [0x04 :: q]

/-- The shortest of several encodings; the earlier one wins a tie (R85). -/
def shortest : List (List Nat) → List Nat
  | [] => []
  | [e] => e
  | e :: l => let m := shortest l; if e.length ≤ m.length then e else m

/-- The encoding the device writes for a quarter (R85). -/
def encodeQuarter (q : List Nat) : List Nat :=
  if q = List.replicate 1024 0 then [0x00] else shortest (quarterModes q)

/-- The stream of a page of 4,096 bytes and its quarter ends. -/
def encodePage (page : List Nat) : List Nat × List Nat :=
  let qs := (List.range 4).map (fun k => encodeQuarter ((page.drop (1024 * k)).take 1024))
  let e1 := (qs.getD 0 []).length; let e2 := e1 + (qs.getD 1 []).length; let e3 := e2 + (qs.getD 2 []).length
  (qs.flatten, [e1, e2, e3])

/-- The 64 bytes of a line. -/
def lineBytes (l : Line) : List Nat := leBytes 64 l.toNat

/-- The line that 64 bytes spell. -/
def lineOfBytes (b : List Nat) : Line := BitVec.ofNat 512 (ofLe (b.take 64))

/-- Merge the enabled bytes of new data into a line (R253, R76). -/
def mergeLine (old new : Line) (mask : BitVec 64) : Line :=
  let m := (List.range 64).foldl (fun (w : Nat) i => if mask.getLsbD i then w + 255 * 2 ^ (8 * i) else w) 0
  let mw := BitVec.ofNat 512 m
  (old &&& ~~~mw) ||| (new &&& mw)

/-! ### CRC-32C (R210) -/

/-- One bit step of the reflected CRC-32C. -/
def crcStep (c : Nat) : Nat := if c % 2 = 1 then (c / 2) ^^^ 0x82F63B78 else c / 2

/-- CRC-32C of bytes: initial value and final XOR all ones. -/
def crc32c (bs : List Nat) : Nat :=
  (bs.foldl (fun c b => (List.range 8).foldl (fun c _ => crcStep c) (c ^^^ b)) 0xFFFFFFFF) ^^^ 0xFFFFFFFF

/-- The 64 bytes of a ledger record (R526); the CRC of a torn record does not match. -/
def Record.bytes (r : Record) : List Nat :=
  let flags := r.cls + (if r.escalated then 4 else 0) + (if r.unlocked then 8 else 0)
    + (if r.volatileRec then 16 else 0) + (if r.lost then 32 else 0)
  let b := leBytes 8 r.seq ++ leBytes 8 r.time ++ leBytes 2 r.type ++ [r.source % 256, flags] ++ leBytes 4 r.pageId
    ++ (r.detail ++ List.replicate 36 0).take 36
  let c := crc32c b
  b ++ leBytes 4 (if r.torn then c ^^^ 1 else c)

end Sys2Proof.Machine
end

