-- ==== Sys2Proof/Machine/Code.lean ====
section
/-! DEFINITION. The DRAM code: RS(10,8) over GF(2^16), its syndromes and the outcome of a burst (Memory Integrity, R434 to
R438). The code is linear, so the outcome of a burst depends only on its symbol errors and on its poison mask. -/

namespace Sys2Proof.Machine

/-- Multiply by α in GF(2^16) with x^16 + x^12 + x^3 + x + 1 (R434). -/
def gf16x (a : Nat) : Nat := if 32768 ≤ a then (2 * a % 65536) ^^^ 0x100B else 2 * a

/-- Multiply by α^i. -/
def gf16pow : Nat → Nat → Nat
  | 0, a => a
  | i + 1, a => gf16pow i (gf16x a)

/-- Multiply in GF(2^16). -/
def gf16mul (a b : Nat) : Nat :=
  (List.range 16).foldl (fun n i => if b / 2 ^ i % 2 = 1 then n ^^^ gf16pow i a else n) 0

/-- The eight data symbols of codeword `k` of a burst's ciphertext: bytes 16k + 2i and 16k + 2i + 1, little-endian (R434). -/
def dataSymbols (ct : Line) (k : Nat) : List Nat := (List.range 8).map (fun i => ct.toNat / 2 ^ (128 * k + 16 * i) % 65536)

/-- The two check symbols of a codeword: with them the sum of the symbols, and that of c_i × α^i, is 0 (R435). 0x9E75 is α^-8 and 0xF006 is
(1 + α)^-1. -/
def checkSymbols (cs : List Nat) : Nat × Nat :=
  let (a, b) := (cs.zip (List.range 8)).foldl (fun (s : Nat × Nat) e => (s.1 ^^^ e.1, s.2 ^^^ gf16pow e.2 e.1)) (0, 0)
  let c9 := gf16mul (a ^^^ gf16mul b 0x9E75) 0xF006
  (a ^^^ c9, c9)

/-- The tweak of the next AES block of a data unit: times α in GF(2^128) (IEEE 1619). -/
def xtsNext (t : BitVec 128) : BitVec 128 := (t <<< 1) ^^^ (if t.msb then 0x87#128 else 0#128)

/-- The tweak of block `j` of the data unit that holds raw address `ra`: the unit number is RA[42:6] (R546). -/
def xtsTweak (k2 ra : Nat) : Nat → BitVec 128
  | 0 => Config.aes256 k2 (BitVec.ofNat 128 (ra / 64))
  | j + 1 => xtsNext (xtsTweak k2 ra j)

/-- AES-256-XTS of one burst, which is four AES blocks, under a key K1, K2 (R546). -/
def xtsBurst (key : Nat × Nat) (ra : Nat) (v : Line) : Line :=
  (List.range 4).foldl (fun (c : Line) j =>
    let t := xtsTweak key.2 ra j
    c ||| (((Config.aes256 key.1 (v.extractLsb' (128 * j) 128 ^^^ t) ^^^ t).setWidth 512) <<< (128 * j))) 0

/-- The ten symbols of codeword `k` as DRAM stores them: data, check symbols, and the poison mask where the burst is poison (R434, R435, R438). -/
def storedCodeword (ct : Line) (poison : Bool) (k : Nat) : List Nat :=
  let cs := dataSymbols ct k
  let (c8, c9) := checkSymbols cs
  let m := if poison then 0x9E37 else 0
  cs ++ [c8 ^^^ m, c9 ^^^ m]

/-- The bit of lane `n` (0 to 39) at beat `t` (0 to 15) of a stored burst: bit 4b + l of symbol i of codeword k is lane 4i + l at beat 4k + b (R434). -/
def laneBit (ct : Line) (poison : Bool) (n t : Nat) : Bool :=
  ((storedCodeword ct poison (t / 4)).getD (n / 4) 0).testBit (4 * (t % 4) + n % 4)

/-- The ten symbol errors of codeword `k`, the poison mask included where the burst has it. -/
def symbolErrors (err : List Nat) (k : Nat) (mask : Bool) : List Nat :=
  (List.range 10).map (fun i => err.getD (10 * k + i) 0 % 65536 ^^^ (if mask && decide (8 ≤ i) then 0x9E37 else 0))

/-- S0 and S1 of a codeword (R436). -/
def syndromes (es : List Nat) : Nat × Nat :=
  ((es.zip (List.range es.length)).foldl (fun (s : Nat × Nat) e => (s.1 ^^^ e.1, s.2 ^^^ gf16pow e.2 e.1)) (0, 0))

/-- What a codeword indicates: 0xF clean, a position 0–9, 0xE no valid locator. -/
def indicated (es : List Nat) : Nat :=
  let (s0, s1) := syndromes es
  if s0 = 0 ∧ s1 = 0 then 0xF
  else if s0 = 0 then 0xE
  else ((List.range 10).find? (fun j => gf16pow j s0 == s1)).getD 0xE

/-- The bytes `n` from byte `o` of a line, all ones. -/
def byteRange (o n : Nat) : Line := BitVec.ofNat 512 ((2 ^ (8 * n) - 1) * 2 ^ (8 * o))

/-- Are data symbols of a codeword still wrong after the correction that its syndromes indicate? -/
def residual (err : List Nat) (k : Nat) (mask : Bool) : Bool :=
  let es := symbolErrors err k mask
  let j := indicated es
  let fixed := if j < 10 then es.set j (es.getD j 0 ^^^ (syndromes es).1) else es
  (fixed.take 8).any (fun v => v != 0)

/-- The outcomes of R436. -/
inductive BurstOutcome where
  | clean
  | corrected
  | poisoned (corrected : Bool)
  | failure
  deriving DecidableEq, Repr

/-- What the four codewords indicate. -/
def positionsOf (err : List Nat) (mask : Bool) : List Nat := (List.range 4).map (fun k => indicated (symbolErrors err k mask))

/-- Is every codeword clean? -/
def allClean (ps : List Nat) : Bool := ps.all (fun p => p == 0xF)

/-- Do all codewords that are not clean indicate one position? -/
def oneSymbol (ps : List Nat) : Bool :=
  let bad := ps.filter (fun p => p != 0xF)
  bad.all (fun p => decide (p < 10)) && bad.all (fun p => p == bad.headD 0)

/-- The outcome of a burst with symbol errors, which carries the poison mask or not (R436). -/
def burstOutcome (err : List Nat) (poison : Bool) : BurstOutcome :=
  let ps := positionsOf err poison
  if allClean ps then .clean
  else if oneSymbol ps then .corrected
  else
    let qs := positionsOf err (!poison)
    if allClean qs then .poisoned false
    else if oneSymbol qs then .poisoned true
    else .failure

end Sys2Proof.Machine
end

