-- ==== Sys2Proof/Machine/Wire.lean ====
section
/-! DEFINITION. What Ronlink flits look like on the wire: payloads, headers and trailers, training flits, 64b/66b blocks, the scrambler, frames with
their FEC, and lanes (Ronlink Physical and Link Layer, R199 to R216; Site Transactions, R259; Batches, R186). -/

namespace Sys2Proof.Machine

/-! ### Payloads (R186, R212, R259, R467) -/

/-- Bytes with zeros behind them, `n` in all. -/
def padTo (n : Nat) (l : List Nat) : List Nat := (l ++ List.replicate n 0).take n

/-- The bytes of a commit record (R186). -/
def commitBytes (r : CommitRec) : List Nat :=
  let n := r.lines.length
  let hdr := r.bseq % 65536 + 2 ^ 16 * (r.slot % 2048) + 2 ^ 27 * (r.arr % 8) + 2 ^ 30 * (n % 128)
  let addrs := (r.lines.zip (List.range n)).foldl (fun k e => k + e.1.line % 2 ^ 38 * 2 ^ (38 * e.2)) 0
  leBytes 8 hdr ++ leBytes ((38 * n + 7) / 8) addrs ++ r.lines.flatMap (fun l => lineBytes l.data)

/-- The line that flit `i` of a peer message carries, where it carries one (R467). -/
def msgLine (m : PeerMsg) (i : Nat) : Option Line :=
  match m with
  | .mirrorLine _ v _ _ _ | .mirrorOr _ _ v _ | .rsLine _ v _ _ | .fetchData _ v _ => if i = 1 then some v else none
  | .fwdRsp _ a => if i = 0 then none else (a.data[i - 1]?).map Prod.fst
  | .fwdReq _ r =>
    match r.op with
    | .hostWrite v _ _ _ | .siteWriteMasked v _ _ | .failOr _ _ v => if i = 1 then some v else none
    | .siteWrite l _ => if i = 0 then none else l[i - 1]?
    | _ => none
  | _ => none

/-- The payload of flit `i` of a peer message: lines, commit records and streams as they are; the spec leaves the other fields to the device. -/
def msgPart (m : PeerMsg) (tseq : Option Nat) (i : Nat) : List Nat :=
  match m, i with
  | .commitRec r, i => padTo 64 ((commitBytes r).drop (64 * i))
  | .rsLoaf _ _ s _, i + 1 => padTo 64 (s.drop (64 * i))
  | m, i =>
    match msgLine m i with
    | some v => lineBytes v
    | none => lineBytes (Config.msgField m tseq i)

/-- The payload of a flit (R208, R209, R259). -/
def Body.payload : Body → List Nat
  | .rrec opcode status missed tag cause bseq result =>
    padTo 64 ([opcode, status + (if missed then 16 else 0)] ++ leBytes 2 tag ++ [cause, 0] ++ leBytes 2 bseq ++ result)
  | .data v _ => lineBytes v
  | .msg t m => msgPart m t 0
  | .part m i => msgPart m none i
  | .lctl op => padTo 64 [op]

/-- The payload of a training flit: kind 0 TS1, 1 TS2, 2 TS_END (R212). -/
def trainPayload (kind : Nat) (f : TrainFields) : List Nat :=
  let ts2 (l : List Nat) : List Nat := if kind = 1 then l else List.replicate l.length 0
  padTo 64 ([0xA5, 0x3C, 0x96, 0x0F, 0xF0, 0x69, 0xC3, 0x5A, f.role, f.rate, f.lane, 0]
    ++ ts2 (leBytes 2 f.lanes ++ [if f.resume then 1 else 0, f.epoch] ++ leBytes 2 f.rxNext ++ padTo 4 f.credits)
    ++ leBytes 6 f.linkId ++ leBytes 2 f.port ++ [if kind = 2 then f.endCount else 0])

/-! ### The flit (R208 to R211) -/

/-- The 80 bytes of a flit; reserved fields are 0, and the CRC is computed each time it is sent. -/
def flitBytes (h : FlitHdr) (payload : List Nat) : List Nat :=
  let w := h.seq % 4096 + 2 ^ 12 * (h.ack % 4096) + 2 ^ 24 * (h.ackType % 4) + 2 ^ 26 * (h.creditClass % 4) + 2 ^ 28 * (h.creditCount % 256)
    + 2 ^ 36 * (h.ftype % 16) + 2 ^ 40 * (h.pool % 4)
  let b := leBytes 8 w ++ padTo 64 payload ++ [h.epoch % 256, 0, 0, 0]
  b ++ leBytes 4 (crc32c b)

/-- The 80 bytes of a training flit. -/
def trainBytes (kind : Nat) (f : TrainFields) : List Nat := flitBytes { ftype := 8 + kind, epoch := f.epoch } (trainPayload kind f)

/-- The header of a flit's bytes, if its CRC is good (R208, R210, R211). -/
def parseFlit (b : List Nat) : Option FlitHdr :=
  if ofLe ((b.drop 76).take 4) = crc32c (b.take 76) then
    let h := ofLe (b.take 8)
    some { seq := bitsOf h 0 12, ack := bitsOf h 12 12, ackType := bitsOf h 24 2, creditClass := bitsOf h 26 2,
           creditCount := bitsOf h 28 8, ftype := bitsOf h 36 4, pool := bitsOf h 40 2, epoch := b.getD 72 0 }
  else none

/-- Is a FLIT_TYPE reserved (R209)? -/
def reservedType (t : Nat) : Bool := !([0, 1, 2, 8, 9, 10].contains t)

/-! ### The scrambler (R202) -/

/-- One step of the scrambler (R202): the output bit and the next state. -/
def scramble (s : Nat) : Bool × Nat :=
  let o := bitOf s 57 != bitOf s 38
  (o, (2 * s + (if o then 1 else 0)) % 2 ^ 58)

/-- Scramble or descramble one byte, bit 0 first. -/
def scrambleByte (s b : Nat) : Nat × Nat :=
  (List.range 8).foldl (fun (st : Nat × Nat) i =>
    let (o, s) := scramble st.2
    (st.1 + (if bitOf b i != o then 2 ^ i else 0), s)) (0, s)

/-- Scramble or descramble bytes in order. -/
def scrambleBytes (s : Nat) : List Nat → List Nat × Nat
  | [] => ([], s)
  | b :: bs =>
    let (x, s) := scrambleByte s b
    let (r, s) := scrambleBytes s bs
    (x :: r, s)

/-! ### 64b/66b blocks (R199, R200) -/

/-- The ten 66-bit blocks of a flit's 80 bytes, each as it is sent, bit 0 first: H0, H1, then D0 to D63. Block `k` has the header 01 where `k` is even
and 10 where it is odd. -/
def flitBlocks (b : List Nat) : List (BitVec 66) :=
  (List.range 10).map (fun k => BitVec.ofNat 66 ((if k % 2 = 0 then 2 else 1) + 4 * ofLe ((b.drop (8 * k)).take 8)))

/-! ### The FEC of Ronlink-P (R205) -/

/-- Multiply by x in GF(2^8) with x^8 + x^4 + x^3 + x^2 + 1. -/
def gf8x (a : Nat) : Nat := if 128 ≤ a then (2 * a % 256) ^^^ 0x1D else 2 * a

/-- Multiply in GF(2^8). -/
def gf8mul (a b : Nat) : Nat :=
  ((List.range 8).foldl (fun (st : Nat × Nat) i => (if bitOf b i then st.1 ^^^ st.2 else st.1, gf8x st.2)) (0, a)).1

/-- The two syndromes of a codeword: its values at 1 and at α, highest coefficient first. -/
def rsSyndromes (cw : List Nat) : Nat × Nat :=
  (cw.foldl (fun s c => s ^^^ c) 0, cw.foldl (fun s c => gf8x s ^^^ c) 0)

/-- Correct one byte of an RS(82,80) codeword; none where no single byte explains the syndromes. -/
def rsCorrect (cw : List Nat) : Option (List Nat × Bool) :=
  let (s0, s1) := rsSyndromes cw
  if s0 = 0 ∧ s1 = 0 then some (cw, false)
  else if s0 = 0 ∨ s1 = 0 then none
  else
    let hits := ((List.range 82).foldl (fun (st : List Nat × Nat) i =>
      (if st.2 = s1 then i :: st.1 else st.1, gf8x st.2)) ([], s0)).1
    match hits with
    | i :: _ => some (cw.set (81 - i) ((cw.getD (81 - i) 0) ^^^ s0), true)
    | [] => none

/-- Codeword `w` of a frame, highest coefficient first (R205). -/
def codeword (fr : List Nat) (w : Nat) : List Nat :=
  (List.range 80).map (fun i => fr.getD (w + 3 * i) 0) ++ [fr.getD (240 + w) 0, fr.getD (243 + w) 0]

/-- The data bytes of a frame after FEC: none where a codeword is uncorrectable; the number of corrected codewords. -/
def decodeFrame (fr : List Nat) : Option (List Nat × Nat) :=
  match rsCorrect (codeword fr 0), rsCorrect (codeword fr 1), rsCorrect (codeword fr 2) with
  | some (a, x), some (b, y), some (c, z) =>
    some ((List.range 240).map (fun j =>
        (if j % 3 = 0 then a else if j % 3 = 1 then b else c).getD (j / 3) 0),
      (if x then 1 else 0) + (if y then 1 else 0) + (if z then 1 else 0))
  | _, _, _ => none

/-- The two check bytes of 80 data bytes, highest coefficient first: with them both syndromes are 0. 0xF4 is the inverse of 0x03. -/
def rsChecks (data : List Nat) : Nat × Nat :=
  let (s0, s1) := rsSyndromes data
  let c1 := gf8mul 0xF4 (s0 ^^^ gf8x (gf8x s1))
  (c1, s0 ^^^ c1)

/-- The 6 FEC bytes of the 240 scrambled bytes of a frame. -/
def fecBytes (b : List Nat) : List Nat :=
  let c (w : Nat) : Nat × Nat := rsChecks ((List.range 80).map (fun i => b.getD (w + 3 * i) 0))
  [(c 0).1, (c 1).1, (c 2).1, (c 0).2, (c 1).2, (c 2).2]

/-! ### Lanes (R203, R216) -/

/-- The allowed widths: the lanes of each group, in the order of R216. -/
def laneGroups : List (Nat × Nat) :=
  [(0xFFFF, 16), (0x00FF, 8), (0xFF00, 8), (0x000F, 4), (0x00F0, 4), (0x0F00, 4), (0xF000, 4)]

/-- The group in use: the first whose lanes both ends have locked (R216). -/
def laneGroup (mine theirs : Nat) : Option (Nat × Nat) := laneGroups.find? (fun g => (mine &&& theirs) &&& g.1 == g.1)

/-- The four PAM4 levels of a byte, from bits [1:0] to bits [7:6]. -/
def pam4 (b : Nat) : List Int :=
  (List.range 4).map (fun i => match bitsOf b (2 * i) 2 with | 0 => -3 | 1 => -1 | 2 => 3 | _ => 1)

/-- The levels of stream bytes on the lanes of a group; the first byte has place `pos` in the stream, and byte `j` goes to the lane at place `j` modulo
the width. -/
def striped (group pos : Nat) (b : List Nat) : List (Nat × List Int) :=
  let lanes := (List.range 16).filter (fun l => bitOf group l)
  (lanes.zip (List.range lanes.length)).map (fun e =>
    (e.1, ((b.zip (List.range b.length)).filter (fun x => (pos + x.2) % lanes.length == e.2)).flatMap (fun x => pam4 x.1)))

/-- A SKIP frame (R206). -/
def skipBytes : List Nat := List.replicate 246 0x4B

/-- Is a received frame a SKIP frame: at least 240 of its bytes are 0x4B (R206)? -/
def isSkip (b : List Nat) : Bool := decide (240 ≤ (b.filter (fun x => x == 0x4B)).length)

end Sys2Proof.Machine
end

