-- ==== Sys2Proof/Machine/Arbiter.lean ====
section
/-! DEFINITION. Guarantee buckets and the choice between classes, for a channel queue, the Tier-0 array and a twin-link transmitter (Bandwidth,
Deadlines and Admission, R340, R342, R345, R346, R349). -/

namespace Sys2Proof.Machine

/-- Is the twin in service? -/
def Device.twinServes (d : Device) : Bool := d.twin.twinSvc.serving

/-! ### Guarantee buckets (R340, R345, R349). Resources are 0 DRAM, 1 twin link, 2 Tier 0 -/

/-- The guarantee that a class must be given now, by resource (R349). -/
def Device.gEff (d : Device) (c r : Nat) : Nat :=
  let t := d.qos.table
  let carry := !d.twinServes
  match r with
  | 0 => t.gDeq.getD c 0 + (if carry then d.twin.twinGdeq.getD c 0 else 0)
  | 1 => if carry then 0 else t.gTwin.getD c 0
  | _ => t.gT0.getD c 0 + (if carry then d.twin.twinGt0.getD c 0 else 0)

/-- The guarantee of a class in force, in units of 0.25 GB/s: 0 while it is demoted (R351). -/
def Device.rateOf (d : Device) (r c : Nat) : Nat := if d.qos.demoted.contains c then 0 else d.gEff c r

/-- The depth of a bucket, in quarters of a byte: 4,096 bytes or 8 µs of the guarantee (R340). -/
def Device.bucketDepth (d : Device) (r c : Nat) : Nat := 4 * max 4096 (2000 * d.rateOf r c)

/-- The bucket of a class for a resource, in quarters of a byte; full until used. -/
def Device.bucket (d : Device) (r c : Nat) : Int := KMap.get d.qos.buckets (d.bucketDepth r c : Int) (16 * r + c)

/-- Is a request of `n` bytes within the guarantee of its class? -/
def Device.within (d : Device) (r c n : Nat) : Bool := decide ((4 * n : Int) ≤ d.bucket r c) && !(d.qos.demoted.contains c)

/-- A request takes its bytes from the bucket of its class, which goes negative by at most its depth. -/
def Device.spend (d : Device) (r c n : Nat) : Device :=
  { d with qos := { d.qos with buckets := KMap.put d.qos.buckets (16 * r + c) (max (-(d.bucketDepth r c : Int)) (d.bucket r c - (4 * n : Int))) } }

/-! ### Deficit round robin (R342, R345, R346) -/

/-- The state of a deficit round robin: the class whose turn it is, and the deficits. -/
structure Drr where
  turn : Nat
  deficit : KMap Nat

/-- One choice by deficit round robin over the classes that have a request: `cost` is the size of a class's next request. The
class whose turn it is goes on while its deficit lasts. -/
def drrPick (weight : Nat → Nat) (cost : Nat → Option Nat) : Nat → Drr → Option Nat × Drr
  | 0, x => (none, x)
  | fuel + 1, x =>
    let have_ := KMap.get x.deficit 0 x.turn
    match cost x.turn with
    | some n =>
      if n ≤ have_ then (some x.turn, { x with deficit := KMap.put x.deficit x.turn (have_ - n) })
      else
        let t := (x.turn + 1) % 16
        drrPick weight cost fuel { turn := t, deficit := KMap.put x.deficit t (KMap.get x.deficit 0 t + 64 * weight t) }
    | none =>
      let t := (x.turn + 1) % 16
      let m := KMap.drop x.deficit x.turn
      drrPick weight cost fuel { turn := t, deficit := KMap.put m t (KMap.get m 0 t + 64 * weight t) }

/-- Run a choice with the stored state `key`, for a set of classes. -/
def Device.drr (d : Device) (key : Nat) (cost : Nat → Option Nat) : Device × Option Nat :=
  if (List.range 16).all (fun c => (cost c).isNone) then (d, none)
  else
    let x : Drr := { turn := KMap.get d.qos.turn 0 key,
                     deficit := (List.range 16).map (fun c => (c, KMap.get d.qos.deficit 0 (key * 16 + c))) }
    let (c, x) := drrPick (fun c => d.qos.table.weight.getD c 1) cost 4096 x
    let def_ := (List.range 16).foldl (fun (m : KMap Nat) c => KMap.put m (key * 16 + c) (KMap.get x.deficit 0 c)) d.qos.deficit
    ({ d with qos := { d.qos with turn := KMap.put d.qos.turn key x.turn, deficit := def_ } }, c)

/-- One of the requests that wait for Tier 0 or a twin-link transmitter (R345): those within guarantee first, in order, then the rest by deficit round
robin with the state `key`. A request is its place, its class and its bytes. -/
def Device.arbitrate (d : Device) (r key : Nat) (l : List (Nat × Nat × Nat)) : Device × Option Nat :=
  match l with
  | [] => (d, none)
  | [e] => (d, some e.1)
  | _ =>
    match l.find? (fun e => d.within r e.2.1 e.2.2) with
    | some e => (d, some e.1)
    | none =>
      let first (c : Nat) : Option (Nat × Nat × Nat) := l.find? (fun e => e.2.1 == c)
      let (d, k) := d.drr key (fun c => (first c).map (fun e => e.2.2))
      (d, (k.bind first).map (fun e => e.1))

end Sys2Proof.Machine
end

