-- ==== Sys2Proof/Machine/Link.lean ====
section
/-! DEFINITION. The link layer of Ronlink: sending and coding, acknowledging, credits, training flits, going down
(Ronlink Physical and Link Layer). -/

namespace Sys2Proof.Machine

/-! ### Links and their registers -/

/-- The key of a link. -/
def linkKey : LinkId → Nat
  | .site s => s
  | .peer p => 2000 + p

/-- The page of a link. -/
def linkPage : LinkId → Page
  | .site _ => .site
  | .peer _ => .peer

/-- The number of a link in its page type. -/
def linkNo : LinkId → Nat
  | .site s => s
  | .peer p => p

/-- Is the link a peer link? -/
def isPeer : LinkId → Bool
  | .site _ => false
  | .peer _ => true

/-- The field of a link's page: the site's or the peer's. -/
def lf (k : LinkId) (s p : Field) : Field := if isPeer k then p else s

/-- May the link of a site be enabled: the device is in service, and its page takes work (R464, R642)? -/
def Device.siteLive (d : Device) (s : Nat) : Bool :=
  d.twin.svc.serving && decide (s < 1024) && !d.hw.gradeH && d.pageOn .site s

/-- The state of a link. A site link that has done nothing yet is in DETECT while it may be enabled, at the rate of its LINK_CTL. -/
def Device.link (d : Device) (k : LinkId) : Link :=
  match KMap.find d.links (linkKey k) with
  | some x => x
  | none => match k with
    | .site s => { state := if d.siteLive s then .detect else .disabled, rate := d.reg SITE.LINK_CTL.RATE s,
                   preset := d.reg SITE.LINK_CTL.TX_PRESET s }
    | .peer _ => {}

/-- Replace the state of a link. -/
def Device.setLink (d : Device) (k : LinkId) (x : Link) : Device := { d with links := KMap.put d.links (linkKey k) x }

/-- Count in a counter of the link's page. -/
def Device.linkCount (d : Device) (k : LinkId) (s p : Field) (n : Nat := 1) : Device :=
  d.countSat (lf k s p) (linkNo k) n

/-- Raise an event flag of the link's page: its bit is the same in both page types (R249). -/
def Device.linkEvt (d : Device) (k : LinkId) (bit : Nat) : Device := d.setEvtBit (linkPage k) (linkNo k) bit

/-- Raise an error flag of the link's page, with one record for each link and cause where it has a fault class. -/
def Device.linkErr (d : Device) (k : LinkId) (bit : Nat) : Device :=
  match (linkPage k).errFlags.find? (fun f => f.bit == bit) with
  | some f => d.raise f (linkNo k) [bit] [bit] (f.cls != .none)
  | none => d

/-- Element `i` of a credit list. -/
def pool (l : List Nat) (i : Nat) : Nat := l.getD i 0

/-- Change element `i` of a credit list. -/
def setPool (l : List Nat) (i v : Nat) : List Nat := l.set i v

/-- The credits the device advertises (R230). -/
def ownCredits : LinkId → List Nat
  | .site _ => [32, 64, 0, 32]
  | .peer _ => [255, 255, 255, 255]

/-- The distance of two sequence numbers (R220). -/
def seqDist (a b : Nat) : Nat := (a + 4096 - b % 4096) % 4096

/-- The oldest unacknowledged sequence number, or the next one where none is. -/
def Link.oldest (x : Link) : Nat := match x.unacked with | f :: _ => f.seq | [] => x.next

/-! ### Sending -/

/-- The header a flit leaves with: acknowledgement, one pool's credits and the epoch, filled anew each time
(R222, R224, R233). -/
def Link.header (x : Link) (ftype seq pl : Nat) : FlitHdr :=
  { seq := seq, ftype := ftype, pool := pl, epoch := x.epoch,
    ack := if x.nakDue then x.expect else (x.expect + 4095) % 4096,
    ackType := if x.nakDue then 2 else if x.gotTxn then 1 else 0,
    creditClass := x.report, creditCount := pool x.released x.report % 256 }

/-- After a flit has left: the NAK is sent and the next pool is due. -/
def Link.afterFlit (x : Link) : Link := { x with nakDue := false, report := (x.report + 1) % 4 }

/-- Code a flit for a site link: its data bits are scrambled and leave in ten blocks (R199 to R202). -/
def Device.codeSite (d : Device) (s : Nat) (b : List Nat) : Device :=
  let x := d.link (.site s)
  let (c, scr) := scrambleBytes x.txScr b
  (d.setLink (.site s) { x with txScr := scr }).send (.blocks s (flitBlocks c))

/-- Send a frame's bytes over the lanes in use. -/
def Device.sendBytes (d : Device) (p : Nat) (b : List Nat) : Device :=
  let x := d.link (.peer p)
  (d.setLink (.peer p) { x with txPos := (x.txPos + b.length) % 16 }).send (.symbols p (striped x.group x.txPos b))

/-- A SKIP frame leaves before more than 1,024 data frames have followed the last one (R206). -/
def Device.sendSkip (d : Device) (p : Nat) : Device :=
  let x := d.link (.peer p)
  if x.sinceSkip < 1024 then d else ((d.setLink (.peer p) { x with sinceSkip := 0 }).send (.skip p)).sendBytes p skipBytes

/-- Code a flit for a peer link: with its third flit the frame in hand is scrambled, gets its FEC bytes and leaves (R203 to R206). -/
def Device.codePeer (d : Device) (p : Nat) (b : List Nat) : Device :=
  let x := d.link (.peer p)
  let buf := x.txFrame ++ b
  if buf.length < 240 then d.setLink (.peer p) { x with txFrame := buf }
  else
    let (c, scr) := scrambleBytes x.txScr buf
    let d := (d.setLink (.peer p) { x with txFrame := [], txScr := scr }).sendSkip p
    let x := d.link (.peer p)
    (d.setLink (.peer p) { x with sinceSkip := x.sinceSkip + 1 }).sendBytes p (c ++ fecBytes c)

/-- Code a flit for its link. -/
def Device.code (d : Device) (k : LinkId) (b : List Nat) : Device :=
  match k with
  | .site s => d.codeSite s b
  | .peer p => d.codePeer p b

/-- Send one flit: its header is filled and its CRC computed anew (R222). An IDLE flit has payload 0. -/
def Device.sendFlit (d : Device) (k : LinkId) (ftype seq pl : Nat) (b : Option Body) : Device :=
  let x := d.link k
  let h := x.header ftype seq pl
  ((d.setLink k x.afterFlit).send (.flit k h b)).code k (flitBytes h (match b with | some c => c.payload | none => []))

/-- Send an IDLE flit, which carries the acknowledgement and credits that are due and the number of the TXN flit that is sent next (R209). -/
def Device.sendIdle (d : Device) (k : LinkId) : Device :=
  let x := d.link k
  d.sendFlit k 0 (match x.resend with | f :: _ => f.seq | [] => x.next) 0 none

/-- Send an LCTL flit (R209). Its SEQ, which the spec leaves open, is 0 (DESIGN CHOICE, log entry 123). -/
def Device.sendLctl (d : Device) (k : LinkId) (op : Nat) : Device := d.sendFlit k 2 0 0 (some (.lctl op))

/-! ### Peer messages as flits (R467) -/

/-- The pool of a message's first flit. -/
def msgPool : PeerMsg → Nat
  | .fwdReq .. | .mirrorLine .. | .mirrorFail .. | .mirrorOr .. | .commitRec .. | .twinFetch .. | .rsLoaf .. | .rsLine .. => 0
  | .fwdRsp .. | .snoopAns .. | .csign .. | .fetchData .. | .stewRsp .. => 2
  | _ => 3

/-- The number of flits of a message (R467, R331). -/
def msgFlits : PeerMsg → Nat
  | .fwdReq _ r =>
    match r.op with
    | .hostWrite .. | .siteWriteMasked .. | .failOr .. => 2
    | .siteWrite l _ => 1 + l.length
    | _ => 1
  | .fwdRsp _ a => 1 + a.data.length
  | .mirrorLine .. | .mirrorOr .. | .rsLine .. | .fetchData .. => 2
  | .commitRec r => (8 + (38 * r.lines.length + 7) / 8 + 64 * r.lines.length + 63) / 64
  | .rsTable r g u o a _ _ _ => min 64 (1 + r.length + g.length + u.length + o.length + a.length)
  | .rsLoaf _ l _ _ => 1 + 8 * l.nslice
  | _ => 1

/-- The class that a message is charged to on a twin link, `resync` being that of a resync (R329, R331): 64 B for each of its flits. A record change
names no class here; it goes as the messages without a charge do. -/
def twinClass (resync : Nat) : PeerMsg → Option Nat
  | .mirrorLine _ _ _ c _ | .mirrorFail _ _ c | .mirrorOr _ _ _ c => some c
  | .commitRec r => some r.cls
  | .rsLoaf .. | .rsLine .. => some resync
  | _ => none

/-! ### What is sent next -/

/-- Does the first flit of a further flit's message still wait before it? -/
def waitsFirst (ahead : List (Nat × Body)) (e : Nat × Body) : Bool :=
  match e.2 with
  | .part m _ => ahead.any (fun f => match f.2 with | .msg _ n => n == m | _ => false)
  | _ => false

/-- The places of the waiting items that may be sent: their pools have credits, and the first flits of their messages have left. -/
def sendable (avail : List Nat) (q : List (Nat × Body)) : List Nat :=
  (List.range q.length).filter (fun i => match q[i]? with
    | some e => decide (0 < pool avail e.1) && !(waitsFirst (q.take i) e)
    | none => false)

/-- The charge of an item that starts a message on a twin link: its class and its bytes. -/
def Device.twinCharge (d : Device) (k : LinkId) (q : List (Nat × Body)) (i : Nat) : Option (Nat × Nat) :=
  match k, q[i]? with
  | .peer p, some (_, .msg _ m) => if p < 3 then none else (twinClass (d.reg TWIN.RESYNC_CTL.CLASS) m).map (fun c => (c, 64 * msgFlits m))
  | _, _ => none

/-- Choose the next item of a link: the first that may be sent; where several charged messages of a twin link may start and nothing else may be sent, by
R345 (messages without a charge and started messages come first: DESIGN CHOICE, log entry 124). -/
def Device.pickItem (d : Device) (k : LinkId) : Device × Option Nat :=
  let x := d.link k
  let l := sendable x.avail x.txq
  match l.find? (fun i => (d.twinCharge k x.txq i).isNone) with
  | some i => (d, some i)
  | none =>
    let (d, i) := d.arbitrate 1 (32 + linkNo k) (l.filterMap (fun i => (d.twinCharge k x.txq i).map (fun c => (i, c.1, c.2))))
    match i.bind (d.twinCharge k x.txq) with
    | some c => (d.spend 1 c.1 c.2, i)
    | none => (d, i)

/-- Send what may be sent: first the flits of a replay, then new flits while credits and the replay buffer allow
(R221, R226, R232, R243). -/
def Device.pumpLink (d : Device) (k : LinkId) : Nat → Device
  | 0 => d
  | fuel + 1 =>
    let x := d.link k
    if x.state ≠ .active then d
    else match x.resend with
      | f :: rest =>
        if x.unpaid.contains f.seq then
          if pool x.avail f.pool = 0 then d
          else
            let x := { x with resend := rest, unpaid := x.unpaid.filter (fun q => q != f.seq),
                              avail := setPool x.avail f.pool (pool x.avail f.pool - 1) }
            ((d.setLink k x).sendFlit k 1 f.seq f.pool (some f.body)).pumpLink k fuel
        else ((d.setLink k { x with resend := rest }).sendFlit k 1 f.seq f.pool (some f.body)).pumpLink k fuel
      | [] =>
        if x.holdTxn ∨ 256 ≤ x.unacked.length then d
        else match d.pickItem k with
          | (d, none) => d
          | (d, some i) =>
            let e := x.txq.getD i (0, .lctl 0)
            let f : TxFlit := { seq := x.next, pool := e.1, body := e.2 }
            let x := { x with txq := x.txq.eraseIdx i, next := (x.next + 1) % 4096, unacked := x.unacked ++ [f],
                              avail := setPool x.avail e.1 (pool x.avail e.1 - 1) }
            ((d.setLink k x).sendFlit k 1 f.seq f.pool (some f.body)).pumpLink k fuel

/-- Send all that may be sent on a link. -/
def Device.pump (d : Device) (k : LinkId) : Device :=
  d.pumpLink k ((d.link k).resend.length + (d.link k).txq.length + 1)

/-! ### Training flits (R212, R213, R217, R238) -/

/-- The fields of this end's training flits. RESUME is offered where the sequence state was kept, FORCE_NEW is 0, and the LINK_ID heard in this training
is that of the last session. -/
def Device.myTrain (d : Device) (k : LinkId) : TrainFields :=
  let x := d.link k
  let force := d.flagReg (lf k SITE.LINK_CTL.FORCE_NEW PEER.LINK_CTL.FORCE_NEW) (linkNo k)
  { role := if isPeer k then 2 else 0, rate := x.rate, lanes := if isPeer k then x.lanes else 1,
    resume := x.kept && !force && x.partner.isSome && x.heard == x.partner, epoch := x.epoch, rxNext := x.expect,
    credits := ownCredits k, linkId := d.hw.uid % 2 ^ 48, port := linkNo k }

/-- Send a training flit, not scrambled: on a site link in ten blocks, on a peer link the same on every lane, but for its LANE. -/
def Device.sendTrain (d : Device) (k : LinkId) (kind : Nat) (f : TrainFields) : Device :=
  let d := d.send (.train k kind f)
  match k with
  | .site s => d.send (.blocks s (flitBlocks (trainBytes kind f)))
  | .peer p => d.send (.symbols p ((List.range 16).map (fun l => (l, (trainBytes kind { f with lane := l }).flatMap pam4))))

/-- A link enters DETECT and sends TS1, at the rate and preset that its LINK_CTL now has (R217); RETRAIN clears. -/
def Device.detect (d : Device) (k : LinkId) : Device :=
  let n := linkNo k
  let d := d.setReg (lf k SITE.LINK_CTL.RETRAIN PEER.LINK_CTL.RETRAIN) 0 n
  let d := d.setLink k { d.link k with state := .detect, trainCount := 0, ts2Sent := 0, lastTs2 := none, heard := none, forced := false,
                                       rate := d.reg (lf k SITE.LINK_CTL.RATE PEER.LINK_CTL.RATE) n,
                                       preset := d.reg (lf k SITE.LINK_CTL.TX_PRESET PEER.LINK_CTL.TX_PRESET) n }
  d.sendTrain k 0 (d.myTrain k)

/-- A sleeping link wakes: it enters DETECT with its sequence state kept (R244). -/
def Device.wake (d : Device) (k : LinkId) : Device :=
  let x := d.link k
  if x.state = .sleep then (d.setLink k { x with kept := true, sleepSent := false, sleepSeen := false, holdTxn := false }).detect k else d

/-- Queue a TXN payload for a link and send what may be sent. A sleeping link wakes for it. -/
def Device.linkSend (d : Device) (k : LinkId) (pl : Nat) (b : Body) : Device :=
  let d := d.wake k
  let x := d.link k
  (d.setLink k { x with txq := x.txq ++ [(pl, b)] }).pump k

/-! ### Peer messages -/

/-- Send a peer message on a peer link: its first flit in its pool, further flits in WDATA, or in RSP for a response. -/
def Device.peerSend (d : Device) (p : Nat) (tseq : Option Nat) (m : PeerMsg) : Device :=
  let k := LinkId.peer p
  let more := if msgPool m = 2 then 2 else 1
  let x := d.link k
  let items := (msgPool m, Body.msg tseq m) :: (List.range (msgFlits m - 1)).map (fun i => (more, Body.part m (i + 1)))
  (d.setLink k { x with txq := x.txq ++ items }).pump k

/-! ### Receiving -/

/-- Apply a received acknowledgement (R226). The oldest number is one past the last released. -/
def Link.release (x : Link) (a : Nat) : Link :=
  let n := seqDist (a + 1) x.oldest
  { x with unacked := x.unacked.drop n, resend := x.resend.filter (fun f => (x.unacked.drop n).contains f),
           replays := if n = 0 then x.replays else 0 }

/-- Credits reported by a flit (R234). -/
def Link.credit (x : Link) (h : FlitHdr) : Link :=
  let p := h.creditClass
  { x with avail := setPool x.avail p (pool x.avail p + (h.creditCount + 256 - pool x.seen p % 256) % 256),
           seen := setPool x.seen p h.creditCount }

/-- The value of a reported cumulative count cannot exceed what the partner may have released: the credits in hand
would pass its advertisement (R235, a credit overflow). -/
def Link.creditOverflow (x : Link) (h : FlitHdr) : Bool :=
  decide (pool x.adv h.creditClass <
    pool x.avail h.creditClass + (h.creditCount + 256 - pool x.seen h.creditClass % 256) % 256)

/-- Free a flit of the receive buffer: its credit is released, or owed while 64 requests are outstanding (R255). -/
def Device.consume (d : Device) (k : LinkId) (pl n : Nat) (hold : Bool) : Device :=
  let x := d.link k
  let n := min n (pool x.rxUsed pl)
  let x := { x with rxUsed := setPool x.rxUsed pl (pool x.rxUsed pl - n) }
  d.setLink k (if hold then { x with owed := setPool x.owed pl (pool x.owed pl + n) }
    else { x with released := setPool x.released pl (pool x.released pl + n) })

/-- From step 4 of a withdrawal on, the site links get no CMD, WDATA or SVC credit (R493). -/
def Device.siteClosing (d : Device) : Bool := match d.twin.hand with | some h => h.withdraw && h.step == 2 | none => false

/-- Release the credits that were held back. -/
def Device.releaseOwed (d : Device) (k : LinkId) : Device :=
  let x := d.link k
  d.setLink k { x with released := (List.range 4).map (fun i => pool x.released i + pool x.owed i), owed := [0, 0, 0, 0] }

/-! ### Going down -/

/-- A stream that had moved to a twin link which now goes down is back on its own link where that carries traffic, and its unacknowledged messages
are sent again there (R470). -/
def Device.streamBack (d : Device) (p : Nat) : Device :=
  let k := 4 - p
  let s := KMap.get d.twin.streams {} k
  if (p = 3 ∨ p = 4) ∧ s.moved = true ∧ (d.link (.peer (7 - p))).state = .active ∧ d.twin.peerOk.contains (7 - p) then
    let d := { d with twin := { d.twin with streams := KMap.put d.twin.streams k { s with moved := false } } }
    s.unacked.foldl (fun d m => d.peerSend (7 - p) (some m.tseq) m.msg) d
  else d

/-- The stream of a twin link that goes down moves to the other twin link and its unacknowledged messages are sent
again there (R470). -/
def Device.failover (d : Device) (p : Nat) : Device :=
  let d := d.streamBack p
  let k := p - 3
  if (p = 3 ∨ p = 4) ∧ (KMap.get d.twin.streams {} k).moved = false ∧ (d.link (.peer (7 - p))).state = .active ∧ d.twin.peerOk.contains (7 - p) then
    let s := KMap.get d.twin.streams {} k
    let d := { d with twin := { d.twin with streams := KMap.put d.twin.streams k { s with moved := true } } }
    let d := (d.evt TWIN.flag.FAILOVER).countSat TWIN.FAILOVERS.COUNT
    s.unacked.foldl (fun d m => d.peerSend (7 - p) (some m.tseq) m.msg) d
  else d

/-- A link goes down for a cause: it counts, and its grace timer starts (R236, R237, R245). -/
def Device.linkDrop (d : Device) (k : LinkId) (cause : Nat) : Device :=
  let x := d.link k
  let up := x.state = .active ∨ x.state = .sleep
  let d := d.setReg (lf k SITE.LINK_STAT.DOWN_CAUSE PEER.LINK_STAT.DOWN_CAUSE) cause (linkNo k)
  let d := if up then (d.linkCount k SITE.LINK_DOWNS.COUNT PEER.LINK_DOWNS.COUNT).linkEvt k 1 else d
  let d := if cause = 1 then d.linkErr k 0 else if cause = 2 then d.linkErr k 1 else if cause = 3 then d.linkErr k 2 else d
  let d := d.setLink k { x with graceRun := true, kept := x.kept || decide up,
                                trainCount := 0, ts2Sent := 0, lastTs2 := none, heard := none, endSent := false, endSeen := false,
                                resend := [], sleepSent := false, sleepSeen := false, holdTxn := false,
                                nakDue := false, nakSent := false, width := 0, group := 0, txFrame := [], badFrames := 0, frames := 0 }
  match k with
  | .peer p =>
    let d := (d.setReg PEER.WIDTH_STAT.WIDTH 0 p).setReg PEER.WIDTH_STAT.LANES 0 p
    if up then ({ d with twin := { d.twin with peerOk := d.twin.peerOk.filter (fun q => q != p) } }).failover p else d
  | .site _ => d

/-- A link that has gone down enters DETECT, or QUIET after a training failure. -/
def Device.linkDown (d : Device) (k : LinkId) (cause : Nat) : Device :=
  if (d.link k).state = .disabled then d
  else
    let d := d.linkDrop k cause
    if cause = 10 then d.setLink k { d.link k with state := .quiet } else d.detect k

/-- Take a link to DISABLED (DOWN_CAUSE 11). -/
def Device.linkDisable (d : Device) (k : LinkId) : Device :=
  if (d.link k).state = .disabled then d
  else
    let d := d.linkDrop k 11
    d.setLink k { d.link k with state := .disabled }

/-- Lose a link's sequence state: a reset of its block (R245). -/
def Device.linkReset (d : Device) (k : LinkId) : Device :=
  d.setLink k { epoch := (d.link k).epoch }

/-! ### Starting replays -/

/-- Replay from the oldest flit, or go down when the replay count reaches LIMIT (R226). -/
def Device.startReplay (d : Device) (k : LinkId) : Device :=
  let x := d.link k
  let d := d.linkCount k SITE.REPLAYS.COUNT PEER.REPLAYS.COUNT
  if d.reg (lf k SITE.LINK_REPLAY.LIMIT PEER.LINK_REPLAY.LIMIT) (linkNo k) ≤ x.replays + 1 then d.linkDown k 2
  else (d.setLink k { x with replays := x.replays + 1, resend := x.unacked }).pump k

end Sys2Proof.Machine
end

