-- ==== Sys2Proof/Machine/Home.lean ====
section
/-! DEFINITION. What a home slice works with: DRAM bursts, charges, capacity, the twin streams, loaf records and the
lines of Tier 0 (Tiers, Loaves and Slices; Memory Channels; Bandwidth, Deadlines and Admission). -/

namespace Sys2Proof.Machine

/-! ### Service (R464) -/

/-- Does this device home the pages of a region now (R44, R464)? In SOLO every page of its position; in PAIRED those
whose LEAD is its side while it leads them, and the twin's while it covers them (R491, R493). -/
def Device.leadsRegion (d : Device) (r : Region) : Bool :=
  match d.twin.svc with
  | .solo => true
  | .paired | .handingOver => if r.lead = d.side then d.twin.leads else d.twin.covers
  | _ => false

/-- Does this device home the pages of a region and home slice now? During a handover slices pass one by one (R494). -/
def Device.leadsSlice (d : Device) (r : Region) (slice : Nat) : Bool :=
  if d.leadsRegion r then
    !(d.twin.cut.contains slice && (d.twin.svc == .handingOver || r.lead != d.side))
  else d.twin.svc == .paired && d.twin.gained.contains slice && (d.twin.gainAll || r.lead == d.side)

/-- Does the twin hold a mirror of a page of this device (R33)? -/
def Device.mirrored (d : Device) (lpn : Nat) : Bool :=
  match d.twin.svc with
  | .paired | .handingOver => true
  | .solo => d.twin.resyncRun && d.twin.resyncSource && decide (lpn < d.twin.resyncPos)
  | _ => false

/-! ### Charges (R330) -/

/-- Add to BYTES of a class. -/
def Device.chargeBytes (d : Device) (c n : Nat) : Device := d.countPair QOS.BYTES_LO.BYTES_LO QOS.BYTES_HI.BYTES_HI n c
/-- Add to DEQ of a class. -/
def Device.chargeDeq (d : Device) (c n : Nat) : Device := d.countPair QOS.DEQ_LO.DEQ_LO QOS.DEQ_HI.DEQ_HI n c
/-- Add to T0B of a class, whose Tier-0 bucket gives up the bytes (R345). -/
def Device.chargeT0 (d : Device) (c n : Nat) : Device := (d.countPair QOS.T0B_LO.T0B_LO QOS.T0B_HI.T0B_HI n c).spend 2 c n
/-- Add to TWB of a class. -/
def Device.chargeTwin (d : Device) (c n : Nat) : Device := d.countPair QOS.TWB_LO.TWB_LO QOS.TWB_HI.TWB_HI n c

/-! ### Channels -/

/-- The state of a channel. -/
def Device.chan (d : Device) (c : Nat) : Channel := KMap.get d.chans {} c

/-- Replace the state of a channel. -/
def Device.setChan (d : Device) (c : Nat) (x : Channel) : Device := { d with chans := KMap.put d.chans c x }

/-- A channel is in service unless it trains, retrains or has failed (R333). -/
def Channel.inService (x : Channel) : Bool :=
  match x.state with
  | .active | .selfRefresh => true
  | _ => false

/-- The line that memory holds at a burst, and whether it carries the poison mask (R438). -/
def Device.memLine (d : Device) (ra : Nat) : Line × Bool :=
  (lineOfBytes (Memory.bytes d.mem ra 64), d.tier.poisoned.contains ra)

/-- Store a burst in memory, with its poison mark. -/
def Device.storeBurst (d : Device) (ra : Nat) (v : Line) (poison : Bool) : Device :=
  { d with mem := Memory.setBytes d.mem ra (lineBytes v),
           tier := { d.tier with poisoned :=
             if poison then (if d.tier.poisoned.contains ra then d.tier.poisoned else d.tier.poisoned ++ [ra])
             else d.tier.poisoned.filter (fun a => a != ra) } }

/-- Wake a channel from self-refresh (R422). -/
def Device.wakeChan (d : Device) (c : Nat) : Device :=
  let x := d.chan c
  if x.state = .selfRefresh then d.setChan c { x with state := .active } else d

/-- The write queue entry of a burst, if it has one (R409). -/
def Device.wqFind (d : Device) (ra : Nat) : Option WqEntry :=
  (KMap.get (d.chan (channelOf ra)).wq [] (targetOf ra % 2)).find? (fun e => e.ra == ra)

/-- Does a raw address lie in the device-private area (R69)? -/
def Device.inPrivate (d : Device) (ra : Nat) : Bool := decide (d.privateBase ≤ ra)

/-- Does a raw address lie in the loaf-record table (R78)? -/
def Device.inTable (d : Device) (ra : Nat) : Bool := decide (d.tableBase ≤ ra) && decide (ra < d.privateBase)

/-- The other copy of a burst of the device-private area (R426). -/
def privateCopy (ra : Nat) : Nat := ra ^^^ 0x80002800

/-- The local pages that this device knows anything of: loaf records in memory or in a write queue, and frames. A page
that is not listed is UNMAPPED and holds nothing. -/
def Device.knownPages (d : Device) : List Nat :=
  let t := d.tableBase
  let cells := (d.mem.filter (fun c => d.inTable c.1)).map (fun c => (c.1 - t) / 32)
  let queued := d.chans.flatMap (fun e => e.2.wq.flatMap (fun q =>
    (q.2.filter (fun w => d.inTable w.ra)).flatMap (fun w => [(w.ra - t) / 32, (w.ra - t) / 32 + 1])))
  (cells ++ queued ++ d.tier.frames.map Prod.fst).eraseDups

/-- The raw word of a loaf record, through the write queue. -/
def Device.recordWord (d : Device) (lpn : Nat) : Nat :=
  let a := d.recordAddr lpn; let ra := 64 * (a / 64)
  let v := match d.wqFind ra with | some e => e.data | none => (d.memLine ra).1
  bitsOf v.toNat (8 * (a % 64)) 256

/-- The loaf whose record names the slice of a burst, if one does. -/
def Device.ownerOf (d : Device) (ra : Nat) : Option Nat :=
  d.knownPages.find? (fun lpn =>
    let r := LoafRec.ofWord (d.recordWord lpn)
    r.ok && r.slices.any (fun i => sliceAddr r.bin i == 512 * (ra / 512)))

/-- NLOAF: the number of local loaves (R78, R547). -/
def Device.nloaf (d : Device) : Nat := 2 ^ 28 * d.logicalTib

/-- The sweep unit of a burst (R547); `owner` is the loaf of a slice that no record names yet. -/
def Device.sweepUnit (d : Device) (ra : Nat) (owner : Option Nat) : Nat :=
  if d.inPrivate ra then d.nloaf + (ra - d.privateBase) / 4096
  else if d.inTable ra then (ra - d.tableBase) / 64 * 2
  else match owner with
    | some lpn => lpn
    | none => (d.ownerOf ra).getD 0

/-- The key slot that encrypts a burst now (R549). -/
def Device.keySlot (d : Device) (ra : Nat) (owner : Option Nat) : Nat :=
  let cur := d.reg MINT.KEY_STAT.CUR_SLOT
  if d.reg MINT.REKEY_STAT.PHASE = 1 ∧ d.sweepUnit ra owner < d.regPair MINT.REKEY_PTR_LO.PTR_LO MINT.REKEY_PTR_HI.PTR_HI
  then 1 - cur else cur

/-- The number of the key in a slot (R547). -/
def Device.keyNumber (d : Device) (slot : Nat) : Nat := if slot = 0 then d.sec.key0 else d.sec.key1

/-- What lane `n` of a burst's channel carries at beat `t` when the burst is written to DRAM: its ciphertext under the key of its unit, with its check
symbols (R434, R435, R438, R546, R549). -/
def Device.dramBit (d : Device) (ra : Nat) (v : Line) (poison : Bool) (owner : Option Nat) (n t : Nat) : Bool :=
  laneBit (xtsBurst (Config.memKey (d.keyNumber (d.keySlot ra owner))) ra v) poison n t

/-- The symbol errors that an armed injection puts into a burst of a subchannel (R459). -/
def Device.injection (d : Device) (c : Nat) : List Nat :=
  (List.range 40).map (fun i =>
    if i % 10 = d.reg DDRCH.ERR_INJ.POS c ∧ bitOf (d.reg DDRCH.ERR_INJ.CW_MASK c) (i / 10) = true
    then d.reg DDRCH.ERR_INJ.VALUE c else 0)

/-- Replace the integrity state. -/
def Device.setInteg (d : Device) (x : Integ) : Device := { d with integ := x }

/-- Write out the oldest entry of a subchannel's write queue: the burst in DRAM has no errors but those of an armed injection,
which then clears (R459). -/
def Device.drainOne (d : Device) (c sub : Nat) : Device :=
  let x := d.chan c
  match KMap.get x.wq [] sub with
  | [] => d
  | e :: rest =>
    let d := ((d.setChan c { x with wq := KMap.put x.wq sub rest }).storeBurst e.ra e.data e.poison).countSat DDRCH.WRITES.COUNT c
    let hit := d.flagReg DDRCH.ERR_INJ.ARM c && d.reg DDRCH.ERR_INJ.SUB c == sub
    let inj := d.injection c
    let d := if hit then d.setReg DDRCH.ERR_INJ.ARM 0 c else d
    let errs := if hit && inj.any (fun v => v != 0) then KMap.put d.integ.errs e.ra inj else KMap.drop d.integ.errs e.ra
    d.setInteg { d.integ with errs := errs }

/-- Put one burst into the write queue (R408, R410). A full queue writes its oldest entry out first. -/
def Device.putBurst (d : Device) (ra : Nat) (v : Line) (poison : Bool) (owner : Option Nat) : Device :=
  let c := channelOf ra; let sub := targetOf ra % 2
  let d := d.wakeChan c
  let q := KMap.get (d.chan c).wq [] sub
  let e : WqEntry := { ra := ra, data := v, poison := poison, key := d.keySlot ra owner }
  if (q.find? (fun e => e.ra == ra)).isSome then
    let x := d.chan c
    d.setChan c { x with wq := KMap.put x.wq sub (q.map (fun o => if o.ra == ra then e else o)) }
  else
    let d := if 64 ≤ q.length then d.drainOne c sub else d
    let x := d.chan c
    d.setChan c { x with wq := KMap.put x.wq sub (KMap.get x.wq [] sub ++ [e]) }

/-- Write one burst: it is complete for the home slice once it is in the write queue. A burst of the device-private area goes to
both copies that are in service (R426). -/
def Device.writeBurst (d : Device) (ra : Nat) (v : Line) (poison : Bool) (owner : Option Nat := none) : Device :=
  if d.inPrivate ra then
    [ra, privateCopy ra].foldl (fun (d : Device) a =>
      if (d.chan (channelOf a)).inService then d.putBurst a v poison none else d) d
  else d.putBurst ra v poison owner

/-! ### Capacity (R103 to R110) -/

/-- The pool in slices. -/
def Device.pool (d : Device) : Nat := d.tableBase / 512 - d.tier.retiredSlices

/-- The slices that Guaranteed regions reserve on this device. -/
def Device.gRes (d : Device) : Nat :=
  (d.regions.table.filter (fun e => e.2.cap == 0)).foldl (fun n e => n + 2097152 * e.2.size / d.members) 0

/-- The slices reserved for writebacks. -/
def wbReserve : Nat := 1183744

/-- The slices reserved for the Baker. -/
def bkReserve : Nat := 512

/-- Elastic capacity, which may fall below 0. -/
def Device.elCapacity (d : Device) : Int := (d.pool : Int) - d.gRes - wbReserve - bkReserve

/-- Free Elastic capacity. -/
def Device.elFree (d : Device) : Int := d.elCapacity - d.tier.elCharge

/-- The level of the writeback reserve: a writeback is one step here, so its transient slices are back when it ends; what el_charge holds
above el_capacity stays drawn (R106). -/
def Device.wbLevel (d : Device) : Int := (wbReserve : Int) - max 0 (-d.elFree)

/-- The level of the Baker reserve: running migrations have drawn their new slices from it (R99, R111). -/
def Device.bkLevel (d : Device) : Int :=
  (bkReserve : Int) - d.tier.migrations.foldl (fun (n : Nat) m => n + (LoafRec.ofWord m.newRec).nslice) 0

/-- The number of bins of the pool (16 GiB each). -/
def Device.bins (d : Device) : Nat := (d.tableGib + 15) / 16

/-- The slices of a bin that lie in the pool. -/
def Device.binSize (d : Device) (b : Nat) : Nat := min (2 ^ 25) (d.tableBase / 512 - 2 ^ 25 * b)

/-- The slices in use in a bin. -/
def Device.binUsed (d : Device) (b : Nat) : Nat := (d.tier.used.filter (fun s => s / 2 ^ 25 == b)).length

/-- Does a slice lie in a retired row (R453)? -/
def Device.sliceRetired (d : Device) (s : Nat) : Bool :=
  let l := d.dramLoc (512 * s)
  d.tier.retiredRows.contains l.rowKey || d.tier.retiredBanks.contains l.bankKey

/-- Is a channel out of service as R426 means it: RETRAINING or FAILED? -/
def Device.chanOut (d : Device) (c : Nat) : Bool :=
  match (d.chan c).state with
  | .retraining | .failed => true
  | _ => false

/-- The slices of a bin that retirement took from the pool, on channels that `ok` selects (R453): those of retired rows, and of retired banks,
whose rows run through the bins in order (R405). -/
def Device.retiredIn (d : Device) (b : Nat) (ok : Nat → Bool) : Nat :=
  let h := d.hw
  let w := 14 + h.colBits + h.rankBits + h.cidBits
  let binOf (row dimm : Nat) : Nat := row / 2 ^ (29 - w) + dimm * 2 ^ (w + h.rowBits - 29)
  let rows := d.tier.retiredRows.filter (fun k => !(d.tier.retiredBanks.contains (k / 2 ^ 17)) && ok (k / 2 ^ 27)
    && binOf (k % 2 ^ 17) (k / 2 ^ 25 % 2) == b)
  let banks := d.tier.retiredBanks.filter (fun k => ok (k / 2 ^ 10) && b / 2 ^ (w + h.rowBits - 29) == k / 2 ^ 8 % 2)
  rows.length * 2 ^ h.colBits + banks.length * 2 ^ (h.colBits + (29 - w))

/-- The slices of a bin that the allocator may take: in the pool, not in use, not retired, on no channel out of service. Each channel has one
sixteenth of a bin's slices (R404). -/
def Device.binFree (d : Device) (b : Nat) : Nat :=
  let out := (List.range 16).filter d.chanOut
  let here := d.tier.used.filter (fun s => s / 2 ^ 25 == b && !(d.sliceRetired s) && !(out.contains (channelOf (512 * s))))
  d.binSize b / 16 * (16 - out.length) - d.retiredIn b (fun c => !(out.contains c)) - here.length

/-- The bin with the most free slices, the lowest of several (R110). -/
def Device.bestBin (d : Device) : Nat :=
  ((List.range d.bins).foldl (fun (best : Nat × Nat) b =>
    let f := d.binFree b
    if best.2 < f then (b, f) else best) (0, 0)).1

/-- May slice `i` of a bin be taken: in the pool, free, not retired, on no channel out of service (R426)? -/
def Device.sliceFree (d : Device) (b i : Nat) : Bool :=
  let s := 2 ^ 25 * b + i
  decide (i < d.binSize b) && !(d.tier.used.contains s) && !(d.sliceRetired s) && !(d.chanOut (channelOf (sliceAddr b i)))

/-- The lowest free slices of a bin: `n` of them, searching `fuel` places from index `i` (log entry 8). -/
def Device.pickSlices (d : Device) (b : Nat) : Nat → Nat → Nat → List Nat
  | 0, _, _ => []
  | _, 0, _ => []
  | fuel + 1, n + 1, i =>
    if d.sliceFree b i then i :: d.pickSlices b fuel n (i + 1) else d.pickSlices b fuel (n + 1) (i + 1)

/-- Take `n` slices of one bin: the bin and the slice indexes; fewer than `n` where the bin has no room. -/
def Device.allocSlices (d : Device) (n : Nat) : Device × Nat × List Nat :=
  let b := d.bestBin
  let fuel := 32 * (n + d.tier.used.length + 16 * d.tier.retiredRows.length + d.tier.retiredSlices + 1)
  let l := d.pickSlices b fuel n 0
  let mine := l.map (fun i => 2 ^ 25 * b + i)
  let audit := if d.flagReg TIER.AUDIT_CMD.BUSY then d.tier.auditUsed ++ mine else d.tier.auditUsed
  ({ d with tier := { d.tier with used := d.tier.used ++ mine, auditUsed := audit } }, b, l)

/-- Free slices of a bin. -/
def Device.freeSlices (d : Device) (b : Nat) (l : List Nat) : Device :=
  { d with tier := { d.tier with used := d.tier.used.filter (fun s => !(l.map (fun i => 2 ^ 25 * b + i)).contains s) } }

/-- Set a CAP_STAT bit, with its event on the rising edge (R117). -/
def Device.capBit (d : Device) (f : Field) (e : Flag) (on : Bool) : Device :=
  let was := d.flagReg f
  let d := d.setReg f (if on then 1 else 0)
  if on && !was then d.evt e else d

/-- Form CAP_STAT again after a change of capacity, charge or LOW_PCT (R106, R107, R110, R115). A new Elastic need is taken as 8 slices, the
most that a loaf can need (R77), so BIN_FULL rises once no bin has 8 free (DESIGN CHOICE, log entry 107); a last bin of fewer
than 64 slices, which could never have 64 free, does not keep BIN_FULL at 1 (DESIGN CHOICE, log entry 107). The follow's el_free counts from its
first CSIGN on (log entry 108). -/
def Device.capUpdate (d : Device) : Device :=
  let free := d.elFree; let cap := d.elCapacity
  let twin : Option Int := if d.mirrored 0 then d.tier.followFree else none
  let low := decide (free * 100 < cap * (d.reg BAKER.WATERMARK.LOW_PCT : Int))
  let out := decide (free ≤ 0) || twin.any (fun f => decide (f ≤ 0))
  let back := decide (65536 ≤ free) && twin.all (fun f => decide (65536 ≤ f))
  let exh := if out then true else if back then false else d.flagReg TIER.CAP_STAT.EL_EXHAUSTED
  let full := (List.range d.bins).all (fun b => decide (d.binFree b < 8))
  let roomy := (List.range d.bins).all (fun b => decide (64 ≤ d.binFree b) || decide (d.binSize b < 64))
  let binf := if full then true else if roomy then false else d.flagReg TIER.CAP_STAT.BIN_FULL
  let d := d.capBit TIER.CAP_STAT.EL_LOW TIER.flag.EL_LOW low
  let d := d.capBit TIER.CAP_STAT.EL_EXHAUSTED TIER.flag.EL_EXHAUSTED exh
  let d := d.capBit TIER.CAP_STAT.EL_DEFICIT TIER.flag.EL_DEFICIT (decide (free < 0))
  d.capBit TIER.CAP_STAT.BIN_FULL TIER.flag.BIN_FULL binf

/-- Are write-kind requests to Elastic regions refused now (R107, R110)? -/
def Device.elRefused (d : Device) : Bool :=
  d.flagReg TIER.CAP_STAT.EL_EXHAUSTED || d.flagReg TIER.CAP_STAT.BIN_FULL

/-- The slices of an Elastic loaf count in el_charge (R105): apply the change from an old to a new record. -/
def Device.chargeChange (d : Device) (lpn : Nat) (old new : LoafRec) : Device :=
  if d.elasticLine (64 * lpn) then
    { d with tier := { d.tier with elCharge := d.tier.elCharge + new.nslice - old.nslice } }.capUpdate
  else d

/-- Both records of a record burst are lost: they become POISONED, so their loaves count no slices any more (R82, R105, R442). -/
def Device.losePair (d : Device) (ra : Nat) : Device :=
  let lpn := (ra - d.tableBase) / 32
  [lpn, lpn + 1].foldl (fun (d : Device) p =>
    let old := LoafRec.ofWord (d.recordWord p)
    d.chargeChange p (if old.ok then old else {}) { state := 4 }) d

/-! ### Errors of DRAM bursts (R436, R441 to R444, R449, R450) -/

/-- Is the row of a burst under test? Its copy serves then (R451). -/
def Device.underTest (d : Device) (ra : Nat) : Bool :=
  match d.integ.test with
  | some t => t.row == (d.dramLoc ra).rowKey
  | none => false

/-- The symbol errors that a read of a burst from DRAM meets. -/
def Device.errsOf (d : Device) (ra : Nat) : List Nat := if d.underTest ra then [] else KMap.get d.integ.errs [] ra

/-- Would a read of a burst be a CODE_FAILURE (R436)? A burst in the write queue is served from it. -/
def Device.burstFails (d : Device) (ra : Nat) : Bool :=
  (d.wqFind ra).isNone && burstOutcome (d.errsOf ra) (d.memLine ra).2 == .failure

/-- A place in the layout of RETIRE_ADDR_A (R458). -/
def DramLoc.addrA (l : DramLoc) : Nat :=
  l.ch + 16 * l.sub + 32 * l.dimm + 64 * l.rank + 128 * l.cid + 512 * l.bg + 4096 * l.bank

/-- The number of a burst within its row: columns 16 apart. -/
def DramLoc.burst (l : DramLoc) : Nat := l.col / 16

/-- The row as record bytes: channel, subchannel, DIMM, rank, chip ID, bank group, bank, row (R443). -/
def DramLoc.rowBytes (l : DramLoc) : List Nat := [l.ch, l.sub, l.dimm, l.rank, l.cid, l.bg, l.bank] ++ leBytes 3 l.row

/-- Show and record a DRAM error: the flag, LAST_LOC and LAST_SYN, and a record that names the place, the positions and the
outcome; repeats for one row coalesce (R443). -/
def Device.memEvent (d : Device) (f : Flag) (ra : Nat) (ps : List Nat) (outcome : Nat) : Device :=
  let l := d.dramLoc ra
  let pos := ps.getD 0 15 + 16 * ps.getD 1 15 + 256 * ps.getD 2 15 + 4096 * ps.getD 3 15
  let d := d.setReg INTEG.LAST_LOC_A.LOC l.addrA
  let d := d.setReg INTEG.LAST_LOC_B.ROW l.row
  let d := d.setReg INTEG.LAST_LOC_B.BURST l.burst
  let d := d.setReg INTEG.LAST_SYN.POS pos
  let d := d.setReg INTEG.LAST_SYN.OUTCOME outcome
  d.raise f 0 (l.rowBytes ++ leBytes 2 l.col ++ ps ++ [outcome]) l.rowBytes

/-- The verdicts of R452: 0 TRANSIENT, 1 INTERMITTENT, 2 PERMANENT, 3 UNTESTED. The verdict is counted, recorded in the ledger with
the row and the masks, and noted in the history. -/
def Device.verdict (d : Device) (ra kind pos lanes : Nat) : Device :=
  let l := d.dramLoc ra; let row := l.rowKey
  let n := bitsOf (d.reg INTEG.VERDICTS.COUNTS) (8 * kind) 8
  let d := if n < 255 then d.setReg INTEG.VERDICTS.COUNTS (d.reg INTEG.VERDICTS.COUNTS + 2 ^ (8 * kind)) else d
  let d := d.evtRec INTEG.flag.VERDICT 0 (l.rowBytes ++ [kind] ++ leBytes 2 pos ++ leBytes 5 lanes) (l.rowBytes ++ [kind])
  let d := if kind = 2 then d.evt INTEG.flag.PERMANENT else d
  let hist := (row, d.time) :: d.integ.history.filter (fun e => e.1 != row)
  d.setInteg { d.integ with history := hist.take 4096 }

/-- An error queues a test of its row (R450). -/
def Device.queueTest (d : Device) (ra : Nat) : Device :=
  let row := (d.dramLoc ra).rowKey
  let recent := match KMap.find d.integ.tested row with
    | some t => decide (d.time < t + 1000000000 * d.reg INTEG.PROOF_CTL.REARM_S)
    | none => false
  if !(d.flagReg INTEG.PROOF_CTL.EN) then d.verdict ra 3 0 0
  else if d.underTest ra || recent || d.integ.queue.any (fun e => e.1 == row) then d
  else if 64 ≤ d.integ.queue.length then (d.countSat INTEG.PROOF_SKIPPED.COUNT).verdict ra 3 0 0
  else d.setInteg { d.integ with queue := d.integ.queue ++ [(row, ra)] }

/-- Content whose 16-byte blocks with symbol errors left after decoding differ in an unknown way: a free value (log entry 17). -/
def garbled (free v : Line) (err : List Nat) (mask : Bool) : Line :=
  (List.range 4).foldl (fun (w : Line) k =>
    if residual err k mask then (w &&& ~~~(byteRange (16 * k) 16)) ||| (free &&& byteRange (16 * k) 16) else w) v

/-- The number of stored bursts that a read of a record burst can lose: both records become POISONED (R442). -/
def poisonedRecords : Line := BitVec.ofNat 512 (4 + 4 * 2 ^ 256)

/-- What a read from DRAM returns for a burst that DRAM holds with symbol errors, and what follows from them: content, poison. A
CODE_FAILURE reaches here only where no other device can supply the lines (R441, R442). `stream` tells that the burst belongs to a
BAKED loaf. -/
def Device.decodeBurst (d : Device) (ra cls : Nat) (stream : Bool) (v : Line) (p : Bool) : Device × Line × Bool :=
  let err := d.errsOf ra
  let ps := positionsOf err p
  match burstOutcome err p with
  | .clean =>
    let w := garbled (Config.freeLine d.fresh) v err p
    (if w = v then d else d.nextFree, w, false)
  | .corrected =>
    let w := garbled (Config.freeLine d.fresh) v err p
    let d := if w = v then d else d.nextFree
    let d := ((d.countSat INTEG.MEM_CES.COUNT).memEvent INTEG.flag.MEM_CE ra ps 1).queueTest ra
    (((d.putBurst ra w false none).chargeDeq cls 64), w, false)
  | .poisoned c =>
    if c then
      let d := ((d.countSat INTEG.MEM_CES.COUNT).memEvent INTEG.flag.MEM_CE ra (positionsOf err (!p)) 2).queueTest ra
      ((d.putBurst ra 0 true none).chargeDeq cls 64, 0, true)
    else (d, 0, true)
  | .failure =>
    let b := privateCopy ra
    if d.inPrivate ra && (d.chan (channelOf b)).inService && burstOutcome (d.errsOf b) (d.memLine b).2 != .failure then
      let w := match d.wqFind b with | some e => (e.data, e.poison) | none => d.memLine b
      let d := ((d.countSat INTEG.MEM_RECOVERIES.COUNT).memEvent INTEG.flag.MEM_RECOVERED ra ps 3).queueTest ra
      (d.putBurst ra w.1 w.2 none, w.1, w.2)
    else
      let d := ((d.countSat INTEG.MEM_UNCORRS.COUNT).memEvent INTEG.flag.MEM_UNCORR ra ps 4).queueTest ra
      if d.inTable ra then ((d.losePair ra).putBurst ra poisonedRecords false none, poisonedRecords, false)
      else if stream then (d, 0, true)
      else (d.putBurst ra 0 true none, 0, true)

/-- Read one burst: from the write queue with no DRAM access, or from DRAM (R409). A burst of a row under test is served from the Proofer's copy (R451). A burst of a FAILED channel reads as
poison (R427), one of the device-private area from its other copy (R426). `cls` is charged the correction of an error; `stream` as for
decodeBurst. Whether DRAM was read. -/
def Device.readBurst (d : Device) (ra cls : Nat) (stream : Bool := false) : Device × Line × Bool × Bool :=
  let ra := if d.inPrivate ra && !((d.chan (channelOf ra)).inService) then privateCopy ra else ra
  let c := channelOf ra
  match d.wqFind ra with
  | some e => (d.countSat DDRCH.FWD_HITS.COUNT c, e.data, e.poison, false)
  | none =>
    if (d.chan c).state = .failed then (d, 0, true, false)
    else if d.underTest ra then (d, (d.memLine ra).1, (d.memLine ra).2, false)
    else
      let d := (d.wakeChan c).countSat DDRCH.READS.COUNT c
      let v := d.memLine ra
      if (d.errsOf ra).isEmpty then (d, v.1, v.2, true)
      else
        let (d, w, p) := d.decodeBurst ra cls stream v.1 v.2
        (d, w, p, true)

/-- Read the bytes of a BAKED stream through the queues, burst by burst: the bytes, how many bursts DRAM served, whether one is
poisoned. -/
def Device.readRaw (d : Device) (cls : Nat) : List Nat → Device × List Nat × Nat × Bool
  | [] => (d, [], 0, false)
  | ra :: ras =>
    let (d, v, p, dram) := d.readBurst ra cls true
    let (d, bs, n, q) := d.readRaw cls ras
    (d, lineBytes v ++ bs, n + (if dram then 1 else 0), p || q)

/-! ### Channel queues of the scheduler (R340 to R343) -/

/-- The queue of a channel. -/
def Device.chanQueue (d : Device) (c : Nat) : List ChanEntry := KMap.get d.qos.queues [] c

/-- The level of a queue by its fill: 0 green, 1 amber, 2 red (R342). -/
def levelOf (n : Nat) : Nat := if n < 64 then 0 else if n < 103 then 1 else 2

/-- Is a deadline urgent now (R341)? -/
def Device.urgent (d : Device) (cls deadline : Nat) : Bool :=
  deadline != 0 && decide (deadline ≤ d.time + d.reg QOS.SCHED_CTL.URGENT_NS) && !(d.qos.demoted.contains cls)

/-- May a request enter the queue of a channel (R342, R343)? -/
def Device.mayEnter (d : Device) (c cls deadline deq : Nat) (writeback : Bool) : Bool :=
  let n := (d.chanQueue c).length
  decide (n < 128) &&
  (writeback || d.urgent cls deadline
    || d.within 0 cls deq
    || levelOf n == 0
    || (levelOf n == 1 && KMap.get d.qos.amberToken 0 c == cls + 1))

/-- A request enters the queue of a channel: it takes its charge from the bucket, and RED_ENTER is set when the queue
becomes red. -/
def Device.enterQueue (d : Device) (c cls deadline deq ra : Nat) (write : Bool) (frm : Origin := .dropped) (arrival : Nat := 0) : Device :=
  let q := d.chanQueue c
  if 128 ≤ q.length then d
  else
    let e : ChanEntry := { cls := cls, deadline := deadline, deq := deq, order := d.qos.order, ra := ra, write := write, frm := frm, arrival := arrival }
    let above := !(d.urgent cls deadline) && !(d.within 0 cls deq) && !write
    let d := d.spend 0 cls deq
    let d := { d with qos := { d.qos with
      queues := KMap.put d.qos.queues c (q ++ [e]), order := d.qos.order + 1,
      amberToken := if above && levelOf q.length == 1 then KMap.put d.qos.amberToken c 0 else d.qos.amberToken } }
    if levelOf q.length != 2 && levelOf (q.length + 1) == 2 then d.evt QOS.flag.RED_ENTER else d

/-! ### Poison between the twins (R437, R439) -/

/-- The poison token of a line under the pair's poison key (R439). -/
def poisonToken (key line : Nat) : Line := BitVec.ofNat 512 (key % 2 ^ 448 + 2 ^ 448 * (line % 2 ^ 38))

/-- Is content equal to the poison token of its own line? It is stored as poison then (R439). -/
def Device.isToken (d : Device) (line : Nat) (v : Line) : Bool :=
  match d.twin.poisonKey with
  | some k => v == poisonToken k line
  | none => false

/-- The content that a twin message carries for a line: the token of a poisoned one (R437, R439). -/
def Device.wireData (d : Device) (line : Nat) (v : Line) (p : Bool) : Line :=
  match p, d.twin.poisonKey with
  | true, some k => poisonToken k line
  | _, _ => v

/-! ### Twin streams (R468 to R470) -/

/-- A stream's state. -/
def Device.stream (d : Device) (k : Nat) : Stream := KMap.get d.twin.streams {} k

/-- Replace a stream's state. -/
def Device.setStream (d : Device) (k : Nat) (s : Stream) : Device :=
  { d with twin := { d.twin with streams := KMap.put d.twin.streams k s } }

/-- The twin link that carries a stream now: P3 for stream 0 and P4 for stream 1, the other while it has moved. -/
def Device.streamLink (d : Device) (k : Nat) : Nat :=
  if (d.stream k).moved then (if k = 0 then 4 else 3) else 3 + k

/-- Send a message on a twin stream; its TSEQ. -/
def Device.twinSend (d : Device) (k : Nat) (m : PeerMsg) : Device × Nat :=
  let s := d.stream k
  let t := s.next
  let d := d.setStream k { s with next := (t + 1) % 65536, unacked := s.unacked ++ [{ tseq := t, msg := m }] }
  (d.peerSend (d.streamLink k) (some t) m, t)

/-- Send a message to the twin about a line, without waiting for its countersign. -/
def Device.twinTell (d : Device) (line : Nat) (m : PeerMsg) : Device := (d.twinSend (streamOf line) m).1

/-! ### Loaf records -/

/-- The record of a loaf as the home takes it: a corrupt one counts as POISONED (R81), and so does one on a FAILED
channel (R427). -/
def Device.loaf (d : Device) (lpn : Nat) : LoafRec :=
  let r := LoafRec.ofWord (d.recordWord lpn)
  let lost := (d.chan (channelOf (d.recordAddr lpn))).state == .failed && !(d.tier.recCache.contains lpn)
  if r.ok && !lost then r else { state := 4 }

/-- Write a loaf record: the home merges its 32 bytes into their burst (R407). -/
def Device.writeRecord (d : Device) (lpn w : Nat) : Device :=
  let a := d.recordAddr lpn; let ra := 64 * (a / 64)
  let v := match d.wqFind ra with | some e => e.data | none => (d.memLine ra).1
  let sh := 8 * (a % 64)
  let n := v.toNat - bitsOf v.toNat sh 256 * 2 ^ sh + w % 2 ^ 256 * 2 ^ sh
  d.writeBurst ra (BitVec.ofNat 512 n) false

/-- Put a record into the loaf-record cache of 1,572,864 records (R73, R76). A full cache gives up one that is not pinned (R426), by the rule
of log entry 7. -/
def Device.cacheRecord (d : Device) (lpn : Nat) : Device :=
  if d.tier.recCache.contains lpn then d
  else if d.tier.recCache.length < 1572864 then { d with tier := { d.tier with recCache := d.tier.recCache ++ [lpn] } }
  else
    let free := d.tier.recCache.filter (fun l => !(d.chans.any (fun e => e.2.pinned.contains l)))
    let gone := free[Config.victim d.fresh % free.length]?
    { d.nextFree with tier := { d.tier with recCache := d.tier.recCache.filter (fun l => some l != gone) ++ [lpn] } }

/-- Reach a record: a miss of the record cache fetches it, 64 B to the requesting class (R331); a corrupt record raises
RECORD_CORRUPT and is POISONED (R81). -/
def Device.touchRecord (d : Device) (lpn cls : Nat) : Device :=
  let d := if d.tier.recCache.contains lpn then d
    else ((d.readBurst (64 * (d.recordAddr lpn / 64)) cls).1.chargeDeq cls 64).cacheRecord lpn
  let w := d.recordWord lpn
  if (LoafRec.ofWord w).ok then d
  else (d.raise TIER.flag.RECORD_CORRUPT 0 (leBytes 4 lpn ++ leBytes 32 w) (leBytes 4 lpn)).writeRecord lpn 4

/-! ### Frames of the hot-data cache (R20, R73 to R75, R91, R92) -/

/-- The Tier-0 die and the set of a local page, as one number: die × 2,304 + set. -/
def t0Set (lpn : Nat) : Nat := Config.t0Hash lpn % 9216

/-- The Tier-0 die that holds the frame of a local page (R20, R74). -/
def t0Die (lpn : Nat) : Nat := t0Set lpn / 2304

/-- The ways of a set that stay taken: frames that no writeback is about to free, Proofer scratch, fenced frames. -/
def Device.t0Ways (d : Device) (set : Nat) : Nat :=
  (d.tier.frames.filter (fun e => t0Set e.1 == set && e.2.snap.isNone)).length
    + ((d.tier.scratch ++ d.tier.fenced).filter (fun k => k == set)).length

/-- Has the set of a local page a way for a new frame (R74)? A set cannot be full while fewer than 16 frames are taken in all. -/
def Device.t0Room (d : Device) (set : Nat) : Bool :=
  decide (d.tier.frames.length + d.tier.scratch.length + d.tier.fenced.length < 16) || decide (d.t0Ways set < 16)

/-- A write cancels the migration of its loaf: the record returns to its old state and the new slices are freed
(R100). -/
def Device.cancelMigration (d : Device) (lpn : Nat) : Device :=
  match d.tier.migrations.find? (fun m => m.lpn == lpn) with
  | none => d
  | some m =>
    let n := LoafRec.ofWord m.newRec
    let d := d.freeSlices n.bin n.slices
    let d := { d with tier := { d.tier with migrations := d.tier.migrations.filter (fun x => x.lpn != lpn) } }
    (d.writeRecord lpn m.oldRec).countWrap BAKER.CANCELS.COUNT

/-- A frame is evicted (R91, R92): one without dirty lines goes at once; else a snapshot of its dirty lines is taken and the
writeback starts. A migration of the loaf is cancelled (R100). -/
def Device.evictFrame (d : Device) (lpn : Nat) : Device :=
  match KMap.find d.tier.frames lpn with
  | none => d
  | some f =>
    let dirty := f.lines.keep (fun _ t => t.dirty)
    if f.snap.isSome then d
    else if dirty.isEmpty then { d with tier := { d.tier with frames := KMap.drop d.tier.frames lpn } }
    else
      let d := d.cancelMigration lpn
      { d with tier := { d.tier with frames := KMap.put d.tier.frames lpn { f with snap := some dirty, again := [] } } }

/-- Make room in a set: a full one evicts a frame, by the rule of log entry 7. A dirty victim stays valid until its writeback ends (R92); the
new frame does not wait for that (DESIGN CHOICE, log entry 106). -/
def Device.makeRoom (d : Device) (set : Nat) : Device :=
  if d.t0Room set then d
  else
    let held := d.tier.frames.filter (fun e => t0Set e.1 == set && e.2.snap.isNone)
    match held[Config.victim d.fresh % held.length]? with
    | some v => d.nextFree.evictFrame v.1
    | none => d

/-! ### Tier 0 -/

/-- The frame of a loaf, if the hot-data cache has one. -/
def Device.frame (d : Device) (lpn : Nat) : Option Frame := KMap.find d.tier.frames lpn

/-- The line in the hot-data cache, if valid. -/
def Device.t0Line (d : Device) (line : Nat) : Option T0Line :=
  match d.frame (lpnOf line) with
  | some f => KMap.find f.lines (line % 64)
  | none => none

/-- Put a line into the frame of its loaf, allocating the frame. A dirty line sets the frame's class (R74), and one written while a writeback
runs stays dirty after it (R92). -/
def Device.putT0 (d : Device) (line : Nat) (t : T0Line) (cls : Nat) : Device :=
  let n := line % 64
  let d := if (d.frame (lpnOf line)).isSome then d else d.makeRoom (t0Set (lpnOf line))
  let f := (d.frame (lpnOf line)).getD {}
  let f := { f with lines := KMap.put f.lines n t, cls := if t.dirty then cls else f.cls,
                    again := if t.dirty && f.snap.isSome && !(f.again.contains n) then f.again ++ [n] else f.again }
  { d with tier := { d.tier with frames := KMap.put d.tier.frames (lpnOf line) f, fetched := KMap.drop d.tier.fetched line } }

/-- A line at hand without an access to DRAM: in the hot-data cache, or come back from the twin. -/
def Device.atHand (d : Device) (line : Nat) : Option T0Line :=
  match d.t0Line line with
  | some t => some t
  | none => KMap.find d.tier.fetched line

/-- Fill a clean line unless the frame already holds it. -/
def Device.fillT0 (d : Device) (line : Nat) (v : Line) (poison : Bool) : Device :=
  match d.t0Line line with
  | some _ => d
  | none => d.putT0 line { data := v, poison := poison } 0

/-- An access that reached the home slice and missed Tier 0 sets HEAT to 3 (R95); the HEAT before. -/
def Device.heat (d : Device) (lpn : Nat) : Device × Nat :=
  let h := KMap.get d.tier.heat 0 lpn
  ({ d with tier := { d.tier with heat := KMap.put d.tier.heat lpn 3 } }, h)

/-- A write that reaches the home slice and misses Tier 0 sets HEAT as well (R95). -/
def Device.heatMiss (d : Device) (line : Nat) : Device := if (d.t0Line line).isSome then d else (d.heat (lpnOf line)).1

/-- The raw addresses of the bursts that hold stored bytes `a` to `b - 1` of a loaf. -/
def LoafRec.bursts (r : LoafRec) (a b : Nat) : List Nat :=
  (List.range (8 * r.nslice)).filter (fun k => decide (a < 64 * k + 64) && decide (64 * k < b)) |>.map
    (fun k => sliceAddr r.bin (r.slices.getD (k / 8) 0) + 64 * (k % 8))

/-- The content of a burst as it was written last. -/
def Device.burstLine (d : Device) (ra : Nat) : Line := match d.wqFind ra with | some e => e.data | none => (d.memLine ra).1

/-- The stored bytes `a` to `b - 1` of a loaf as they were written last. -/
def Device.storedBytes (d : Device) (r : LoafRec) (a b : Nat) : List Nat :=
  (((r.bursts a b).flatMap (fun ra => lineBytes (d.burstLine ra))).drop (a % 64)).take (b - a)

/-- Where the stream of a BAKED loaf ends: with quarter 3, whose length its own encoding tells (R83); at the end of the last slice where
that is corrupt. -/
def Device.streamEnd (d : Device) (r : LoafRec) : Nat :=
  let a := (r.span 3).1; let b := 512 * r.nslice
  let used := (decodeQuarter (d.storedBytes r a b)).2
  if used = 0 then b else a + used

/-- The stored bytes of quarter `q`: first and end (R88). -/
def Device.spanOf (d : Device) (r : LoafRec) (q : Nat) : Nat × Nat :=
  if q = 3 then ((r.span 3).1, d.streamEnd r) else r.span q

/-- The bursts with stream bytes in the slices that hold bytes of quarter `q`. -/
def Device.quarterSlices (d : Device) (r : LoafRec) (q : Nat) : List Nat :=
  let (a, b) := d.spanOf r q
  r.bursts (512 * (a / 512)) (min (512 * ((b + 511) / 512)) (d.streamEnd r))

/-- Has quarter `q` bytes in an uncorrectable slice (R86)? -/
def Device.quarterBad (d : Device) (r : LoafRec) (q : Nat) : Bool := (d.quarterSlices r q).any d.burstFails

/-- The bytes of a quarter of a BAKED loaf: what it decodes to, its bytes, the bursts DRAM served, whether a slice of it is
uncorrectable (R86, R88). Then the bursts of its slices that fail are read as well. -/
def Device.readQuarter (d : Device) (r : LoafRec) (q cls : Nat) : Device × Quarter × List Nat × Nat × Bool :=
  let (a, b) := d.spanOf r q
  let own := r.bursts a b
  let more := (d.quarterSlices r q).filter (fun ra => d.burstFails ra && !(own.contains ra))
  let (d, bs, n, bad) := d.readRaw cls (own ++ more)
  if bad then (d, .corrupt, [], n, true)
  else
    let s := (bs.drop (a % 64)).take (b - a)
    let (v, used) := decodeQuarter s
    let v := if used ≠ b - a then .corrupt else v
    (d, v, s, n, false)

/-- The 16 lines of a decoded quarter: content and poison. -/
def Quarter.lines : Quarter → List (Line × Bool)
  | .bytes l => (List.range 16).map (fun k => (lineOfBytes (l.drop (64 * k)), false))
  | _ => List.replicate 16 (0, true)

/-- Is a loaf's record neither cached nor readable: its burst on a channel out of service, or a CODE_FAILURE (R426, R441)? -/
def Device.recordLost (d : Device) (lpn : Nat) : Bool :=
  let ra := 64 * (d.recordAddr lpn / 64)
  !(d.tier.recCache.contains lpn) && (!((d.chan (channelOf ra)).inService) || d.burstFails ra)

/-- Is a fault of the stored form in the way of reading a line: a corrupt or uncorrectable quarter, or a channel out of
service? Then the line is fetched from the twin where that is possible (R86, R426, R441). -/
def Device.needsFetch (d : Device) (line : Nat) : Bool :=
  match d.atHand line with
  | some _ => false
  | none =>
    let r := d.loaf (lpnOf line)
    let n := line % 64
    let out (ra : Nat) : Bool := (d.wqFind ra).isNone && !((d.chan (channelOf ra)).inService)
    if d.recordLost (lpnOf line) then true
    else if r.plain then
      let ra := sliceAddr r.bin (r.slices.getD (n / 8) 0) + 64 * (n % 8)
      out ra || d.burstFails ra
    else if r.baked then
      let (a, b) := d.spanOf r (n / 16)
      (r.bursts a b).any out || d.quarterBad r (n / 16) || (d.readQuarter r (n / 16) 0).2.1 == .corrupt
    else false

/-- Write a line as poison into the hot-data cache, as a write that is mirrored (R86, R148). -/
def Device.landPoison (d : Device) (line cls : Nat) : Device :=
  let d := d.putT0 line { data := 0, poison := true, dirty := true } cls
  if d.mirrored (lpnOf line) then d.twinTell line (.mirrorLine line (d.wireData line 0 true) true cls none) else d

/-- A quarter of a BAKED loaf cannot be recovered (R86): the fault, unless an uncorrectable slice raised MEM_UNCORR, and its lines become
poison; of an uncorrectable slice, so do those of every quarter with bytes in it. A line that is valid in the hot-data cache already keeps
its data: it is newer than the stored quarter, or equal to it (DESIGN CHOICE, log entry 109). -/
def Device.quarterLost (d : Device) (lpn : Nat) (r : LoafRec) (q cls : Nat) (bad : Bool) : Device :=
  let at_ := leBytes 6 (4096 * lpn + 1024 * q)
  let qs := if bad then (List.range 4).filter (fun k => k == q || d.quarterBad r k) else [q]
  let d := if bad then d else d.raise TIER.flag.QUARTER_CORRUPT 0 at_ at_
  qs.foldl (fun (d : Device) k => (List.range 16).foldl (fun (d : Device) i =>
    let line := 64 * lpn + 16 * k + i
    if (d.t0Line line).isSome then d else d.landPoison line cls) d) d

/-- Read a line at its home: its content and whether it is poison. `alloc` is false for requesters that never allocate
frames (R75). Charges follow R331. -/
def Device.readLine (d : Device) (line cls : Nat) (alloc : Bool) : Device × Line × Bool :=
  match d.t0Line line with
  | some t => (d.chargeT0 cls 64, t.data, t.poison)
  | none =>
    let lpn := lpnOf line; let n := line % 64
    let alloc := alloc && bitOf (d.reg TIER.T0_ALLOC.CLASS_ALLOC) cls
    match KMap.find d.tier.fetched line with
    | some t =>
      let d := (d.heat lpn).1.chargeT0 cls 64
      (if alloc then d.fillT0 line t.data t.poison else d, t.data, t.poison)
    | none =>
    let d := d.touchRecord lpn cls
    let (d, h) := d.heat lpn
    let r := d.loaf lpn
    if r.plain then
      let ra := sliceAddr r.bin (r.slices.getD (n / 8) 0) + 64 * (n % 8)
      let (d, v, p, dram) := d.readBurst ra cls
      let d := if dram then d.chargeDeq cls 64 else d
      let d := d.chargeT0 cls 64
      (if alloc then d.fillT0 line v p else d, v, p)
    else if r.baked then
      let auto := match d.regionOfLine line with | some (_, g) => g.tier == 0 | none => false
      let d := if h = 3 && auto && !(d.tier.promotions.contains lpn)
        then { d with tier := { d.tier with promotions := d.tier.promotions ++ [lpn] } } else d
      let (d, q, _, k, bad) := d.readQuarter r (n / 16) cls
      let d := d.chargeDeq cls (64 * k)
      let ls := q.lines
      let base := line / 16 * 16
      let d := if q = .corrupt then d.quarterLost lpn r (n / 16) cls bad
        else if alloc then
          ((List.range 16).foldl (fun d k =>
            let v := ls.getD k (0, false); d.fillT0 (base + k) v.1 v.2) d).chargeT0 cls 1024
        else d.chargeT0 cls 64
      let v := ls.getD (n % 16) (0, true)
      (d, v.1, v.2)
    else (d, 0, r.state == 4)

/-- The raw address of the first burst that a read of a line needs from DRAM, if it needs one. -/
def Device.dramNeed (d : Device) (line : Nat) : Option Nat :=
  match d.atHand line with
  | some _ => none
  | none =>
    let r := d.loaf (lpnOf line); let n := line % 64
    if r.plain then
      let ra := sliceAddr r.bin (r.slices.getD (n / 8) 0) + 64 * (n % 8)
      if (d.wqFind ra).isSome then none else some ra
    else if r.baked then
      let (a, b) := d.spanOf r (n / 16)
      ((r.bursts a b).filter (fun ra => (d.wqFind ra).isNone)).head?
    else none

/-- The DRAM-equivalent bytes that a read of a line will move (R340). -/
def Device.dramCost (d : Device) (line : Nat) : Nat :=
  let r := d.loaf (lpnOf line); let n := line % 64
  if r.plain then 64 else if r.baked then let (a, b) := d.spanOf r (n / 16); 64 * (r.bursts a b).length else 0

end Sys2Proof.Machine
end

