-- ==== Sys2Proof/Machine/Coherent.lean ====
section
/-! DEFINITION. The directory, back-invalidate snoops, batches at their home, mirrored writes and responses (Coherence
and the Directory; Batches; Twins and Quartets). -/

namespace Sys2Proof.Machine

/-! ### Routes (R45, R482) -/

/-- The mesh link of this device to a member of its own quartet (R462). -/
def meshLink (membersLog2 q dest : Nat) : Option Nat :=
  if membersLog2 = 2 ∧ dest ≠ q then some ((dest + 4 - q + 3) % 4)
  else if membersLog2 = 1 ∧ dest ≠ q then some 0 else none

/-- The twin link in use: P3, or P4 where P3 carries no traffic. -/
def Device.twinLink (d : Device) : Option Nat :=
  if d.twin.peerOk.contains 3 then some 3 else if d.twin.peerOk.contains 4 then some 4 else none

/-- A usable mesh link to a position of this side. -/
def Device.meshTo (d : Device) (q : Nat) : Option Nat :=
  match meshLink d.membersLog2 d.qid q with
  | some p => if d.twin.peerOk.contains p then some p else none
  | none => none

/-- The lowest position of the quartet but two that a condition holds of. -/
def Device.viaPos (d : Device) (q : Nat) (ok : Nat → Bool) : Option Nat :=
  (List.range d.members).find? (fun x => x != d.qid && x != q && d.twin.inService.contains (d.side * 4 + x) && (d.meshTo x).isSome && ok x)

/-- The first link of the route with the fewest hops, at most three, to a device in service; ties go to fewer twin hops, then to the lower QID of
the first device on the way (R482). Where both the side and the position differ, the two routes of two hops have one twin hop each: the mesh comes
first where it can be taken, whatever the QIDs, because with every device in service the route is that of R45 (DESIGN CHOICE, log entry 115). -/
def Device.routeTo (d : Device) (arr : Nat) : Option Nat :=
  let side := arr / 4; let q := arr % 4
  let mine (x : Nat) : Bool := d.twin.inService.contains (d.side * 4 + x)
  let other (x : Nat) : Bool := d.twin.inService.contains ((1 - d.side) * 4 + x)
  let twin := if other d.qid then d.twinLink else none
  if !(d.twin.inService.contains arr) then none
  else if side = d.side then
    (d.meshTo q).orElse (fun _ => match d.viaPos q (fun _ => true) with
      | some x => d.meshTo x
      | none => if other q then twin else none)
  else if q = d.qid then d.twinLink.orElse (fun _ => (d.viaPos q other).bind d.meshTo)
  else
    (if mine q then d.meshTo q else none).orElse (fun _ => twin.orElse (fun _ =>
      (d.viaPos q (fun x => mine q || other x)).bind d.meshTo))

/-- Send a message towards a device over a peer link: on a twin link it joins the stream of its line. -/
def Device.tell (d : Device) (p line : Nat) (m : PeerMsg) : Device :=
  if 3 ≤ p then (d.twinSend (streamOf line) m).1 else d.peerSend p none m

/-- Send a message towards a device over the first link of its route; nothing where it has none. -/
def Device.tellDev (d : Device) (arr line : Nat) (m : PeerMsg) : Device :=
  match d.routeTo arr with
  | some p => d.tell p line m
  | none => d

/-! ### Directory entries -/

/-- The entry of a line, free where there is none. -/
def Device.entry (d : Device) (line : Nat) : DirEntry := KMap.get d.coh.dir {} line

/-- A back-invalidate for the line is in flight (BI_PEND). -/
def Device.linePend (d : Device) (line : Nat) : Bool := d.coh.snoops.any (fun s => s.line == line)

/-- Send a directory change to the follow (R153, R477). -/
def Device.dirTell (d : Device) (line : Nat) (c : DirChange) : Device :=
  if d.mirrored (lpnOf line) then d.twinTell line (.dirUpd c) else d

/-- Store an entry; a free one leaves its way unless a back-invalidate is in flight (R120). BATCH_PIN changes are not
sent to the follow (R170). -/
def Device.setEntry (d : Device) (line : Nat) (e : DirEntry) : Device :=
  let old := d.entry line
  let gone := e.isFree && !d.linePend line
  let d := { d with coh := { d.coh with dir := if gone then KMap.drop d.coh.dir line else KMap.put d.coh.dir line e } }
  if old.state = e.state ∧ old.ptrs = e.ptrs ∧ old.lovf = e.lovf then d
  else d.dirTell line (if e.isFree then .free line else .entry line e.state e.ptrs e.lovf)

/-- The lines of a set that hold a way: those whose entry is not free (R120). -/
def Device.waysOf (d : Device) (set : Nat) : KMap DirEntry :=
  d.coh.dir.filter (fun e => dirSet e.1 == set && (!e.2.isFree || d.linePend e.1))

/-- SET_OVF of a set: the log holds a line of it (R123). -/
def Device.setOvf (d : Device) (set : Nat) : Bool := d.coh.log.any (fun l => dirSet l == set)

/-- A line that hosts may hold without an entry: logged, or in a set marked UNTRACKED (R683). -/
def Device.untrackedLine (d : Device) (line : Nat) : Bool :=
  d.coh.log.contains line || (d.coh.untracked.contains (dirSet line) && (KMap.find d.coh.dir line).isNone)

/-- The lines in the log of a slice. -/
def Device.logOf (d : Device) (slice : Nat) : List Nat := d.coh.log.filter (fun l => homeSlice l == slice)

/-- Put a line into the overflow log of its slice: SET_OVF of its set rises with the first line of the set, and LOG_FULL is set by the
512th line of the slice (R123, R159). -/
def Device.logPut (d : Device) (line : Nat) : Device :=
  let first := !d.setOvf (dirSet line)
  let d := { d with coh := { d.coh with log := d.coh.log ++ [line] } }
  let d := if first then d.evt COH.flag.SET_OVF_RAISED else d
  if (d.logOf (homeSlice line)).length = 512 then d.evt COH.flag.LOG_FULL else d

/-- Enter a line in the overflow log of its slice, if it has room (R123, R131). -/
def Device.logAdd (d : Device) (line : Nat) : Device :=
  if d.coh.log.contains line then d else (d.logPut line).dirTell line (.log line)

/-- Take a line out of the overflow log. -/
def Device.logDrop (d : Device) (line : Nat) : Device :=
  if d.coh.log.contains line then
    ({ d with coh := { d.coh with log := d.coh.log.filter (fun l => l != line) } }).dirTell line (.unlog line)
  else d

/-! ### Host links and snoops -/

/-- The link of a host on this device: the lowest VALID link with its HOST_ID (R126, R127). -/
def Device.linkOfHost (d : Device) (host : Nat) : Option (Nat × Nat) :=
  ((List.range 8).find? (fun k =>
    let p := k / 2; let l := k % 2
    d.flagReg (HOST.HOST_ID.VALID l) p && d.reg (HOST.HOST_ID.HOST_ID l) p == host
      && (l == 0 || (d.hostLink p 0).split))).map (fun k => (k / 2, k % 2))

/-- Does a pointer name a lost link whose sweep has not ended (R156)? Host 32 stands for every link of a withdrawn
device. -/
def Device.isLost (d : Device) (t : Ptr) : Bool :=
  d.coh.lostPtrs.any (fun q => (q.host == t.host || q.host == 32) && q.arr == t.arr)

/-- Note a snoop in flight. Its timer counts the always-on clock (R146). -/
def Device.noteSnoop (d : Device) (line : Nat) (kind : SnoopKind) (t : Ptr) (broadcast : Bool) (use : SnoopUse) : Device :=
  let s : Snoop := { sid := d.coh.nextSid, line := line, kind := kind, target := t, broadcast := broadcast, use := use, start := d.power.aon }
  { d with coh := { d.coh with snoops := d.coh.snoops ++ [s], nextSid := d.coh.nextSid + 1 } }

/-- Send one snoop (R127, R146). A pointer gets none whose link no longer exists, is lost (R156) or has BI Enable at 0
(R370). -/
def Device.sendSnoop (d : Device) (line : Nat) (kind : SnoopKind) (t : Ptr) (broadcast : Bool) (use : SnoopUse) : Device :=
  let sid := d.coh.nextSid
  let note (d : Device) : Device := (d.noteSnoop line kind t broadcast use).countWrap COH.BI_SENT.COUNT
  let qla := d.qlaOfLine line
  if d.isLost t then d
  else if t.arr = d.myArr then
    match d.linkOfHost t.host with
    | some (p, l) => if (d.hostLink p l).biEnable then (note d).send (.biSnp p l kind (d.dpaOf p l t.win qla) sid) else d
    | none => d
  else if (d.routeTo t.arr).isSome then (note d).tellDev t.arr line (.snoopFwd t.arr d.myArr sid kind t.host t.win qla .named)
  else d

/-- Send another device its part of a broadcast: one message, which ends when every snoop there has; the host 33 of its target stands for none
(R128). That device counts in its own BI_SENT what it sends (log entry 114). -/
def Device.sendPart (d : Device) (line arr : Nat) (g : Region) (use : SnoopUse) (skip : Option Ptr) : Device :=
  if (d.routeTo arr).isSome then
    (d.noteSnoop line .inv { host := 33, win := 0, arr := arr } true use).tellDev arr line
      (.snoopFwd arr d.myArr d.coh.nextSid .inv 33 0 (d.qlaOfLine line) (.broadcast g.hostMask g.hostAcc skip))
  else d

/-- The local targets of a broadcast (R128): every enabled window of each VALID link whose host a region's HOST_MASK and HOST_ACC admit. -/
def Device.broadcastTargets (d : Device) (mask acc : Nat) : List Ptr :=
  (List.range 8).flatMap (fun k =>
    let p := k / 2; let l := k % 2
    let host := d.reg (HOST.HOST_ID.HOST_ID l) p
    if d.flagReg (HOST.HOST_ID.VALID l) p && d.linkOfHost host == some (p, l) && bitOf mask host && acc != 0
        && (d.hostLink p l).state == .upMem && (d.hostLink p l).biEnable then
      ((List.range 16).filter (fun w => d.windowOn p l w)).map (fun w => { host := host, win := w, arr := d.myArr })
    else [])

/-- What ends when the last snoop of a line has ended: a broadcast leaves the line without holders and out of the log,
an eviction frees the way (R129, R130). -/
def Device.snoopsDone (d : Device) (line : Nat) : Device :=
  let d := if d.coh.bcast.contains line then
      let e := d.entry line
      let d := { d with coh := { d.coh with bcast := d.coh.bcast.filter (fun l => l != line) } }
      (d.setEntry line { e with state := 0, ptrs := [], lovf := false }).logDrop line
    else d
  let d := if d.coh.evicting.contains line then
      let e := d.entry line
      let d := { d with coh := { d.coh with evicting := d.coh.evicting.filter (fun l => l != line) } }
      (d.setEntry line { e with state := 0, ptrs := [], lovf := false }).countWrap COH.DIR_EVICTIONS.COUNT
    else d
  d.setEntry line (d.entry line)

/-- A broadcast back-invalidate of a line under the attributes of a region (R128, R129). `skip` is the requester,
which is not snooped for its own request. -/
def Device.broadcast (d : Device) (line : Nat) (r : Region) (use : SnoopUse) (skip : Option Ptr) : Device :=
  let d := (d.countWrap COH.BI_BROADCASTS.COUNT)
  let d := { d with coh := { d.coh with bcast := d.coh.bcast ++ [line] } }
  let d := ((d.broadcastTargets r.hostMask r.hostAcc).filter (fun t => some t != skip)).foldl (fun d t => d.sendSnoop line .inv t true use) d
  let d := (d.twin.inService.filter (fun a => a != d.myArr)).foldl (fun d a => d.sendPart line a r use skip) d
  if d.linePend line then d else d.snoopsDone line

/-- Invalidate every holder of a line but one: named snoops, or a broadcast where sharers are untracked (R129), under the attributes that the
request was ordered under (R58) or those of the line's region. A line in no region has no host copy (R58). -/
def Device.invalidate (d : Device) (line : Nat) (use : SnoopUse) (skip : Option Ptr) (attr : Option Region := none) : Device :=
  let e := d.entry line
  match (attr.map (fun r => (0, r))).orElse (fun _ => d.regionOfLine line) with
  | none => (d.setEntry line { e with state := 0, ptrs := [], lovf := false }).logDrop line
  | some (_, r) =>
    if e.lovf || d.untrackedLine line then d.broadcast line r use skip
    else
      let ts := e.ptrs.filter (fun t => some t != skip)
      let d := ts.foldl (fun d t => d.sendSnoop line .inv t false use) d
      if d.linePend line then d
      else d.setEntry line { e with ptrs := e.ptrs.filter (fun t => some t == skip),
                                    state := if skip.isSome && (e.ptrs.any (fun t => some t == skip)) then e.state else 0 }

/-! ### What grants and answers do to an entry (R124, R135) -/

/-- Add a sharer (R124). -/
def DirEntry.share (e : DirEntry) (t : Ptr) : DirEntry :=
  if e.ptrs.contains t then { e with state := 1 }
  else if e.ptrs.length < 3 then { e with state := 1, ptrs := e.ptrs ++ [t] }
  else { e with state := 1, lovf := true }

/-- Grant ownership (R124). -/
def DirEntry.own (e : DirEntry) (t : Ptr) : DirEntry := { e with state := 2, ptrs := [t], lovf := false }

/-- Remove one pointer; the line has no host copy once none is left. -/
def DirEntry.unshare (e : DirEntry) (t : Ptr) : DirEntry :=
  let ps := e.ptrs.filter (fun q => q != t)
  { e with ptrs := ps, state := if ps.isEmpty && !e.lovf then 0 else if e.state = 2 && !(ps.contains t) && e.ptrs.contains t then 0 else e.state }

/-! ### Batches at their home (R167 to R173, R188) -/

/-- The batch that pins a line. -/
def Device.pinnedBy (d : Device) (line : Nat) : Option HomeBatch :=
  d.batch.home.find? (fun b => (KMap.find b.shadow line).isSome)

/-- Shadow lines in use. -/
def Device.shadowUsed (d : Device) : Nat := d.batch.home.foldl (fun n b => n + b.shadow.length) 0

/-- The slot of a batch on this device. -/
def Device.slot (d : Device) (s : Nat) : BatchSlot := KMap.get d.batch.slots {} s

/-- Replace a slot. -/
def Device.setSlot (d : Device) (s : Nat) (b : BatchSlot) : Device :=
  { d with batch := { d.batch with slots := KMap.put d.batch.slots s b } }

/-- Record a window's outcome: WIN_LAST, OUTCOME and the MSI-X message (R181). -/
def Device.winLast (d : Device) (n outcome cause bseq : Nat) : Device :=
  let d := ((d.setReg BWIN.WIN_LAST.OUTCOME outcome n).setReg BWIN.WIN_LAST.CAUSE cause n).setReg BWIN.WIN_LAST.BSEQ bseq n
  let d := d.evt BWIN.flag.OUTCOME n
  if d.flagReg BWIN.WIN_CLASS.IRQ_EN n then
    d.msix (d.reg BWIN.WIN_BIND.PORT n) (d.reg BWIN.WIN_BIND.LINK n) (d.reg BWIN.WIN_CLASS.VECTOR n)
  else d

/-- The outcome entry of a slot of a device (R189). -/
def Device.setOutcome (d : Device) (arr slot : Nat) (e : OutcomeEntry) : Device :=
  { d with batch := { d.batch with outcomes := KMap.put d.batch.outcomes (2048 * arr + slot) e } }

/-- The outcome entry of a slot of a device. -/
def Device.outcome (d : Device) (arr slot : Nat) : OutcomeEntry := KMap.get d.batch.outcomes {} (2048 * arr + slot)

/-- Count an abort in the register of its cause (R188, R192). -/
def Device.countAbort (d : Device) (cause : Nat) : Device :=
  match cause with
  | 1 => d.countWrap BATCH.ABORTS_EXPLICIT.COUNT
  | 2 => d.countWrap BATCH.ABORTS_CONFLICT.COUNT
  | 3 => d.countWrap BATCH.ABORTS_CAPACITY.COUNT
  | 4 => (d.countWrap BATCH.ABORTS_TIMEOUT.COUNT).evt BATCH.flag.TIMEOUT_ABORT
  | 5 => d.countWrap BATCH.ABORTS_RESET.COUNT
  | 6 => (d.countWrap BATCH.ABORTS_TWIN_LOSS.COUNT).evt BATCH.flag.TWIN_LOSS_ABORT
  | _ => d

/-- Clear the pins of a batch. -/
def Device.unpin (d : Device) (b : HomeBatch) : Device :=
  b.shadow.foldl (fun d e =>
    match KMap.find d.coh.dir e.1 with
    | some x => d.setEntry e.1 { x with pin := false }
    | none => d) d

/-- Is this the batch of a slot with a sequence? A slot whose batch has been aborted may have opened its next one while the home still holds it. -/
def HomeBatch.is (b : HomeBatch) (slot arr bseq : Nat) : Bool := b.slot == slot && b.arr == arr && b.bseq == bseq

/-- Take a batch off its home: shadow lines and pins are released. -/
def Device.dropBatch (d : Device) (b : HomeBatch) : Device :=
  let d := { d with batch := { d.batch with home := d.batch.home.filter (fun x => !(x.is b.slot b.arr b.bseq)) } }
  d.unpin b

/-- Mark the slot of an aborted batch on this device; its requester learns the cause when it closes the slot (R177). An abort with TWIN_LOSS is
counted here, at the arrival device (R192). -/
def Device.slotAborted (d : Device) (s cause : Nat) : Device :=
  let x := d.slot s
  if x.state = .opened ∨ x.state = .committing then
    (if cause = 6 then d.countAbort 6 else d).setSlot s { x with state := .aborted, cause := cause, lines := 0 }
  else d

/-- Remember how a batch ended at this home, for requests of it that still come (R176), and count it in the register of its cause, which for
TWIN_LOSS is its arrival device's (R192). -/
def Device.batchEnds (d : Device) (arr slot bseq cause : Nat) : Device :=
  let d := if cause = 6 then d else d.countAbort cause
  { d with batch := { d.batch with ended := KMap.put d.batch.ended (2048 * arr + slot) (bseq, cause) } }

/-- The number of a FWD_RSP that answers no forwarded request but tells an arrival device that the batch of a slot has aborted at its home
(DESIGN CHOICE, log entry 117). -/
def abortNotice (arr slot : Nat) : Nat := 2 ^ 32 + 2048 * arr + slot

/-- A batch aborts on its own at its home (R177, R188): its slot is ABORTED at once, and what is still queued of it is not applied. Where the
arrival device is not in service, the outcome entry is written (R189). -/
def Device.abortBatch (d : Device) (b : HomeBatch) (cause : Nat) : Device :=
  let d := (d.dropBatch b).batchEnds b.arr b.slot b.bseq cause
  if b.arr = d.myArr then (if (d.slot b.slot).bseq = b.bseq then d.slotAborted b.slot cause else d)
  else if d.twin.inService.contains b.arr then
    d.tellDev b.arr 0 (.fwdRsp (abortNotice b.arr b.slot) { status := 5, cause := cause, bseq := b.bseq })
  else d.setOutcome b.arr b.slot { bseq := b.bseq, outcome := 2, cause := cause }

/-! ### Changing a line -/

/-- Drop the block of a line from every enabled group whose range covers it (R276). -/
def Device.dropBlocks (d : Device) (qla : Nat) : Device :=
  (List.range 64).foldl (fun d g =>
    if d.flagReg MCAST.GRP_CTL.ENABLE g then
      let base := 1024 * d.reg MCAST.GRP_BASE_LO.QLA_LO g + 2 ^ 32 * d.reg MCAST.GRP_BASE_HI.QLA_HI g
      let len := d.reg MCAST.GRP_LEN.BLOCKS g
      if base ≤ qla ∧ qla < base + 1024 * len then
        let b := (qla - base) / 1024
        let x := KMap.get d.site.groups {} g
        let held := (KMap.find x.blocks b).isSome || x.fills.any (fun f => f.block == b && !f.dropped)
        if held then
          let x := { x with blocks := KMap.drop x.blocks b,
                            fills := x.fills.map (fun f => if f.block = b then { f with dropped := true } else f) }
          ({ d with site := { d.site with groups := KMap.put d.site.groups g x } }).countWrap MCAST.GRP_DROPS.COUNT g
        else d
      else d
    else d) d

/-- What every change of a line's home copy does first: an OPEN batch that pins the line aborts with CONFLICT (R173),
a migration is cancelled, the line's multicast block is dropped. A batch that commits goes on: its content replaces the poison of a lost link's
sweep (R156), which R182 does not name among the conflicts of a commit (DESIGN CHOICE, log entry 118). -/
def Device.beforeChange (d : Device) (line : Nat) : Device :=
  let d := match d.pinnedBy line with
    | some b => if b.committing then d else d.abortBatch b 2
    | none => d
  (d.cancelMigration (lpnOf line)).dropBlocks (d.qlaOfLine line)

/-- Wait for a countersign. -/
def Device.awaitCs (d : Device) (stream tseq : Nat) (w : Waiter) : Device :=
  { d with coh := { d.coh with csWait := d.coh.csWait ++ [{ stream := stream, tseq := tseq, waiter := w }] } }

/-- Write a line at its home: it lands in the hot-data cache, dirty, and is mirrored; whether a countersign is awaited
(R33, R76, R471). Charges follow R331. -/
def Device.writeLine (d : Device) (line : Nat) (v : Line) (poison : Bool) (cls : Nat) (e : Option AtomicEntry)
    (w : Waiter) : Device × Bool :=
  let d := (d.beforeChange line).heatMiss line
  let d := (d.putT0 line { data := v, poison := poison, dirty := true } cls).chargeT0 cls 128
  if d.mirrored (lpnOf line) then
    let (d, t) := (d.chargeTwin cls 128).twinSend (streamOf line) (.mirrorLine line (d.wireData line v poison) poison cls e)
    (d.awaitCs (streamOf line) t w, true)
  else (d, false)

/-- Poison a line at its home, as a write that is mirrored (R147, R148). -/
def Device.poisonLine (d : Device) (line cls : Nat) : Device := (d.writeLine line 0 true cls none .engine).1

/-- Handle a line's pointers to lost links exactly as the directory sweep would (R156). -/
def Device.purgeLost (d : Device) (line : Nat) : Device :=
  let e := d.entry line
  match e.ptrs.filter (fun t => d.isLost t) with
  | [] => d
  | lost =>
    let owned := e.state = 2
    let d := d.setEntry line { e with ptrs := e.ptrs.filter (fun t => !d.isLost t),
                                      state := if owned ∨ (e.ptrs.filter (fun t => !d.isLost t)).isEmpty ∧ e.lovf = false then 0 else e.state }
    if owned then
      let d := d.poisonLine line (d.reg COH.DIR_CTL.SWEEP_CLASS)
      let info := (lost.map (fun t => t.host)) ++ leBytes 6 (d.qlaOfLine line)
      if d.coh.lossRaised then d.record { seq := 0, time := 0, type := 0x0010, source := 99, cls := 2, pageId := Page.idWord .coh 0,
                                          detail := 1 :: info } info
      else { d with coh := { d.coh with lossRaised := true } }.raise COH.flag.LINK_LOSS 0 info info
    else d

/-! ### Ways (R130 to R134) -/

/-- What a request finds when it needs an entry. -/
inductive WayResult where
  | ready | wait | overflow
  deriving DecidableEq, Repr

/-- Start evicting a line: pointers of lost links are handled first (R156), its holders are invalidated and its way freed. -/
def Device.startEvict (d : Device) (line : Nat) : Device :=
  let d := d.purgeLost line
  let d := { d with coh := { d.coh with evicting := d.coh.evicting ++ [line] } }
  let d := d.invalidate line .evict none
  if d.linePend line then d else d.snoopsDone line

/-- The victim of a set but for one line: S and I before E, then the replacement rule (R130). -/
def Device.victimOf (d : Device) (set : Nat) (but : Option Nat) : Option Nat :=
  let c := (d.waysOf set).filter (fun e => !e.2.pin && !d.linePend e.1 && some e.1 != but)
  let c := if (c.filter (fun e => e.2.state != 2)).isEmpty then c else c.filter (fun e => e.2.state != 2)
  ((c.drop (Config.victim d.fresh % c.length)).head?).map Prod.fst

/-- Make room for an entry of a line (R130, R131): a request that finds no way chooses one victim and waits for its way; where that way has gone to
another line, it chooses again. -/
def Device.needWay (d : Device) (r : Request) (line : Nat) : Device × Request × WayResult :=
  if (KMap.find d.coh.dir line).isSome then (d, r, .ready)
  else
    let set := dirSet line; let ways := d.waysOf set
    if ways.length < 16 then (d, r, .ready)
    else if ways.all (fun e => e.2.pin) then (d, r, .overflow)
    else if r.victim.any (fun v => d.coh.evicting.contains v) then (d, r, .wait)
    else match d.victimOf set none with
      | some v =>
        let d := d.nextFree.startEvict v
        (d, { r with victim := some v }, if (d.waysOf set).length < 16 then .ready else .wait)
      | none => (d, r, .wait)

/-- After an allocation (a line that had no entry before): with fewer than two free ways one background eviction starts
(R134). It takes a victim as R130 does, but never the line just allocated, which the spec does not exclude (DESIGN CHOICE, log entry 116). -/
def Device.evictAhead (d : Device) (line : Nat) (hadEntry : Bool) : Device :=
  let set := dirSet line
  if !hadEntry && d.flagReg COH.DIR_CTL.EVICT_AHEAD && decide (14 < (d.waysOf set).length) then
    match d.victimOf set (some line) with
    | some v => d.nextFree.startEvict v
    | none => d
  else d

/-! ### Responses -/

/-- The port of a site. -/
def Device.sitePort (d : Device) (s : Nat) : SitePort := KMap.get d.site.ports {} s

/-- Replace the port of a site. -/
def Device.setSitePort (d : Device) (s : Nat) (x : SitePort) : Device :=
  { d with site := { d.site with ports := KMap.put d.site.ports s x } }

/-- Is an opcode's response read data (R257)? -/
def isDataOp (opcode : Nat) : Bool := opcode == 0x01 || opcode == 0x22

/-- Queue the RSUM of a site (R258, R259). -/
def Device.sendRsum (d : Device) (s : Nat) : Device :=
  let x := d.sitePort s
  let entries := x.rsum.flatMap (fun e => leBytes 2 e.1 ++ [e.2.1, 0] ++ leBytes 2 e.2.2)
  let d := d.setSitePort s { x with rsum := [] }
  d.linkSend (.site s) 2 (.rrec 0x50 0 false 0 0 0 (x.rsum.length :: List.replicate 7 0 ++ entries))

/-- Form one response (R256 to R261): the status by its priority, the counters, the flits. -/
def Device.formOne (d : Device) (s : Nat) (q : SiteReq) (a : Answer) : Device :=
  let poison := a.status = 0 ∧ a.data.any (fun v => v.2) = true
  let missed := q.deadline ≠ 0 ∧ q.deadline < d.time
  let st := if a.status ≠ 0 then a.status else if poison then 1 else if missed then 4 else 0
  let d := if missed then d.countSat SITE.RSP_LATE.COUNT s else d
  let d := if st = 3 then d.countSat SITE.RSP_ACCESS.COUNT s else if st = 2 then d.countSat SITE.RSP_CAPACITY.COUNT s
    else if st = 1 then d.countSat SITE.RSP_POISON.COUNT s else d
  if q.discard then d.countSat SITE.RSP_DISCARDED.COUNT s
  else if isDataOp q.opcode then
    let lines := (List.range q.lines).map (fun i =>
      let v := a.data.getD i (0, false); if a.status = 3 ∨ a.status = 5 ∨ v.2 then 0 else v.1)
    let pmask := (List.range q.lines).foldl (fun n i => n + (if (a.data.getD i (0, false)).2 then 2 ^ i else 0)) 0
    let d := (lines.zip (List.range q.lines)).foldl (fun d e => d.linkSend (.site s) 2 (.data e.1 (e.2 + 1 == q.lines))) d
    let x := d.sitePort s
    let d := d.setSitePort s { x with rsum := x.rsum ++ [(q.tag, st + (if missed then 16 else 0), pmask)] }
    if q.sync ∨ (d.sitePort s).rsum.length = 8 then d.sendRsum s else d
  else
    let res := if q.opcode = 0x04 ∧ st ≠ 0 ∧ st ≠ 4 then []
      else if q.opcode = 0x41 ∨ (q.opcode = 0x40 ∧ a.result.length = 8) then a.result ++ leBytes 8 d.time else a.result
    d.linkSend (.site s) 2 (.rrec q.opcode st (decide missed) q.tag a.cause a.bseq res)

/-- Form the responses of a site that are due, in request order (R256), and release credits held back at 64
outstanding requests (R255). -/
def Device.formSite (d : Device) (s : Nat) : Nat → Device
  | 0 => d
  | fuel + 1 =>
    match (d.sitePort s).reqs with
    | [] => d
    | q :: rest =>
      match q.answer with
      | some a =>
        let d := d.setSitePort s { d.sitePort s with reqs := rest }
        let d := if rest.length < 64 ∧ d.siteClosing = false then d.releaseOwed (.site s) else d
        (d.formOne s q a).formSite s fuel
      | none => d

/-- The place of a status code in the order of R260; a higher rank is given. -/
def statusRank (st : Nat) : Nat := if st = 3 then 5 else if st = 5 then 4 else if st = 2 then 3 else if st = 1 then 2 else if st = 4 then 1 else 0

/-- Add two lists of bytes element by element. -/
def addBytes : List Nat → List Nat → List Nat
  | [], l => l
  | l, [] => l
  | a :: l, b :: m => (a + b) :: addBytes l m

/-- Join the answers of two parts of one request (R268, R260). -/
def Answer.join (a b : Answer) : Answer :=
  { b with status := if statusRank a.status < statusRank b.status then b.status else a.status,
           result := addBytes a.result b.result }

/-- Give a site request the answer of one of its parts. -/
def Device.answerSite (d : Device) (s id : Nat) (a : Answer) : Device :=
  let x := d.sitePort s
  let d := d.setSitePort s { x with reqs := x.reqs.map (fun q =>
    if q.id = id then
      let a := Answer.join q.sofar a
      if q.parts ≤ 1 then { q with parts := 0, answer := some a } else { q with parts := q.parts - 1, sofar := a }
    else q) }
  d.formSite s x.reqs.length

/-! ### Answers to device engines (R316, R319, R382, R384) -/

/-- A ring of the Assayer (0 to 15) or of the DMA engine (100 to 103): the field of its page, and its bank. -/
def ringF (ring : Nat) (assay dma : Field) : Field := if 100 ≤ ring then dma else assay

/-- A field of a ring's configuration. -/
def Device.ringReg (d : Device) (ring : Nat) (assay dma : Field) : Nat := d.reg (ringF ring assay dma) (ring % 100)

/-- The state of a ring. -/
def Device.ring (d : Device) (r : Nat) : RingQueue := KMap.get d.eng.rings {} r

/-- Replace the state of a ring. -/
def Device.setRing (d : Device) (r : Nat) (x : RingQueue) : Device :=
  { d with eng := { d.eng with rings := KMap.put d.eng.rings r x } }

/-- A ring enters STOPPED. -/
def Device.stopRing (d : Device) (r : Nat) : Device :=
  let x := d.ring r
  if x.state = 2 then d
  else
    let d := d.setRing r { x with state := 2, aborting := false, stopping := false, fetching := false }
    d.evt (if 100 ≤ r then DMA.flag.QUEUE_STOPPED else ASSAY.flag.QUEUE_STOPPED)

/-- The MSI-X message of a completion. -/
def Device.ringIrq (d : Device) (r : Nat) : Device :=
  if d.ringReg r ASSAY.Q_CTL.IRQ_EN DMA.Q_CTL.IRQ_EN = 1 ∧ d.ringReg r ASSAY.Q_CTL.BIND_VALID DMA.Q_CTL.BIND_VALID = 1 then
    d.msix (d.ringReg r ASSAY.Q_CTL.PORT DMA.Q_CTL.PORT) (d.ringReg r ASSAY.Q_CTL.LINK DMA.Q_CTL.LINK)
      (d.ringReg r ASSAY.Q_CTL.VECTOR DMA.Q_CTL.VECTOR)
  else d

/-- JOB_DONE or DESC_DONE: a completion of a ring is written or held (R328, R388). -/
def Device.doneEvt (d : Device) (r : Nat) : Device :=
  d.evt (if 100 ≤ r then DMA.flag.DESC_DONE else ASSAY.flag.JOB_DONE)

/-- The write of a completion entry succeeded: its flag, unless it was raised when the entry was held, and its MSI-X
message (R319, R384). -/
def Device.cplWritten (d : Device) (r : Nat) (wasHeld : Bool) : Device :=
  (if wasHeld then d else d.doneEvt r).ringIrq r

/-- An engine's access comes back. Kinds: 0 and 2 descriptor fetches of the Assayer and the DMA engine, 1 a job's read,
3 a DMA read or write, 4 a completion entry, 7 a completion entry that had been held, 5 a result entry, 6 a multicast
fill. A completion entry that cannot be written is lost and stops its ring (R319); what comes back for a job or
descriptor that has ended is dropped. -/
def Device.engineAnswer (d : Device) (kind q qla : Nat) (a : Answer) : Device :=
  if kind = 4 ∨ kind = 7 then
    if a.status = 0 then d.cplWritten q (kind == 7) else d.stopRing q
  else if (kind = 3 ∧ d.eng.dma.all (fun x => x.id != q) = true) ∨ ((kind = 1 ∨ kind = 5) ∧ d.eng.jobs.all (fun j => j.id != q) = true) then d
  else { d with eng := { d.eng with inbox := d.eng.inbox ++ [{ kind := kind, q := q, qla := qla, status := a.status, data := a.data }] } }

/-- The attributes of a completion on the link that a batch window is bound to (R377). -/
def Device.cplAttr (d : Device) (n : Nat) : TlpAttr := { ido := (d.hostLink (d.reg BWIN.WIN_BIND.PORT n) (d.reg BWIN.WIN_BIND.LINK n)).idoCpl }

/-- Answer a request at the port it came from (R135, R256), or over the peer link that forwarded it. -/
def Device.respond (d : Device) (r : Request) (a : Answer) : Device :=
  match r.origin with
  | .host p l tag =>
    match r.op with
    | .hostRead _ =>
      let v := a.data.headD (0, false)
      ((d.chargeBytes r.cls 64).send (.s2mDrs p l tag v.1 v.2)).send (.s2mNdr p l tag a.grant)
    | .biConflict => d.send (.biConflictAck p l tag)
    | _ => d.send (.s2mNdr p l tag a.grant)
  | .site s id => (d.chargeBytes r.cls (64 * a.data.length)).answerSite s id a
  | .forward p fid _ => d.tell p (d.lineOf r.qla) (.fwdRsp fid a)
  | .engine k q => (d.chargeBytes r.cls (64 * a.data.length)).engineAnswer k q r.qla a
  | .dropped => d
  | .window n tag len => if tag = 0 then d else
      let v := a.data.headD (0, false)
      let bad := v.2 || a.status != 0
      let b := if bad then 0 else bitsOf v.1.toNat (8 * (r.qla % 64)) (8 * len)
      (d.chargeBytes r.cls len).send (.aperture n (tag - 1) (BitVec.ofNat 512 b) bad (d.cplAttr n))

/-- Report a refused access on the page of its arrival port (R67, R68). -/
def Device.refuse (d : Device) (r : Request) (cause : Nat) : Device :=
  let info := leBytes 2 r.who ++ [r.win] ++ leBytes 6 r.qla
  match r.origin with
  | .host p _ _ => d.accRefused .host p cause info
  | .site s _ => d.accRefused .site s cause info
  | .window n _ _ => d.raise BWIN.flag.ACCESS_REFUSED n info info false
  | _ => d

end Sys2Proof.Machine
end

