-- ==== Sys2Proof/Machine/Tally.lean ====
section
/-! DEFINITION. The fail bitmap and the tally tree at the home of a bitmap line (Fail Accumulation and Repair
Analysis, R286 to R308). -/

namespace Sys2Proof.Machine

/-! ### Geometry (R287, R288, R290) -/

/-- Round up to a multiple of 4,096. -/
def alignPage (x : Nat) : Nat := 4096 * ((x + 4095) / 4096)

/-- The quantities derived from a descriptor (R287). -/
structure GeoDims where
  rp : Nat
  cp : Nat
  rl : Nat
  bl : Nat
  nb : Nat
  rpb : Nat
  cpb : Nat
  aCol : Nat
  aBlk : Nat
  aBank : Nat
  aDie : Nat
  aDut : Nat
  aLost : Nat
  bmapBytes : Nat
  tallyBytes : Nat
  deriving DecidableEq, Repr

/-- Derive them. -/
def geoDims (g : Geometry) : GeoDims :=
  let rp := g.rows + g.srows
  let cp := g.cols + g.scols
  let rl := (cp + 511) / 512
  let bl := 64 * ((rp * rl + 63) / 64)
  let nb := g.dies * g.banks * g.blocks
  let rpb := 16 * ((rp + 15) / 16)
  let cpb := 16 * ((cp + 15) / 16)
  let aCol := alignPage (4 * nb * rpb)
  let aBlk := aCol + alignPage (4 * nb * cpb)
  let aBank := aBlk + alignPage (8 * nb)
  let aDie := aBank + alignPage (8 * g.dies * g.banks)
  let aDut := aDie + 4096
  let aLost := aDut + 4096
  { rp := rp, cp := cp, rl := rl, bl := bl, nb := nb, rpb := rpb, cpb := cpb, aCol := aCol, aBlk := aBlk,
    aBank := aBank, aDie := aDie, aDut := aDut, aLost := aLost, bmapBytes := 64 * nb * bl,
    tallyBytes := aLost + alignPage ((nb + 7) / 8) }

/-- Is a descriptor valid (R286, R288)? -/
def geoValid (g : Geometry) : Bool :=
  let q := geoDims g
  decide (1 ≤ g.dies ∧ g.dies ≤ 64) && decide (1 ≤ g.banks ∧ g.banks ≤ 64) && decide (1 ≤ g.blocks ∧ g.blocks ≤ 4096)
    && decide (1 ≤ g.rows ∧ g.rows ≤ 65536) && decide (g.srows ≤ 63) && decide (1 ≤ g.cols ∧ g.cols ≤ 65536)
    && decide (g.scols ≤ 63) && decide (q.rp ≤ 65536) && decide (q.cp ≤ 65536)
    && decide (q.bmapBytes ≤ 256 * 2 ^ 30) && decide (q.tallyBytes ≤ 256 * 2 ^ 30)

/-- A fail record taken apart (R289). -/
structure FailCell where
  die : Nat
  bank : Nat
  block : Nat
  row : Nat
  col : Nat
  deriving DecidableEq, Repr

/-- The cell that a record names. -/
def failCell (v : Nat) : FailCell :=
  { die := bitsOf v 0 6, bank := bitsOf v 6 6, block := bitsOf v 12 12, row := bitsOf v 24 16, col := bitsOf v 40 16 }

/-- Does the cell lie within the geometry (R291)? -/
def cellOk (g : Geometry) (c : FailCell) : Bool :=
  decide (c.die < g.dies) && decide (c.bank < g.banks) && decide (c.block < g.blocks)
    && decide (c.row < (geoDims g).rp) && decide (c.col < (geoDims g).cp)

/-- The bitmap line of a cell and its bit position (R290). -/
def cellPlace (g : Geometry) (c : FailCell) : Nat × Nat :=
  let q := geoDims g
  (((c.die * g.banks + c.bank) * g.blocks + c.block) * q.bl + c.row * q.rl + c.col / 512, c.col % 512)

/-- The bits of a bitmap line that are cells: all of its positions, or fewer in the last line of a row, none in a
padding line (R290). -/
def lineCells (q : GeoDims) (L : Nat) : Nat :=
  let rest := L % q.bl
  if q.rl = 0 ∨ q.rp * q.rl ≤ rest then 0 else min 512 (q.cp - 512 * (rest % q.rl))

/-! ### Reaching lines for device updates -/

/-- A line's content for an update by the device: from Tier 0, or fetched; only the fetch is charged (R331). -/
def Device.peekLine (d : Device) (line cls : Nat) : Device × Line × Bool :=
  let t := d.regPair QOS.T0B_LO.T0B_LO QOS.T0B_HI.T0B_HI cls
  let (d, v, p) := d.readLine line cls false
  (d.setPair QOS.T0B_LO.T0B_LO QOS.T0B_HI.T0B_HI t cls, v, p)

/-- Put changed content of a line into Tier 0, dirty, without a mirror of its own. -/
def Device.landLine (d : Device) (line : Nat) (v : Line) (poison : Bool) (cls : Nat) : Device :=
  (d.beforeChange line).putT0 line { data := v, poison := poison, dirty := true } cls

/-- A bound DUT with its geometry. -/
structure DutCtx where
  id : Nat
  b : Dut
  g : Geometry
  deriving DecidableEq, Repr

/-- The binding of a DUT, if it is bound to a geometry that is there. -/
def Device.dut (d : Device) (id : Nat) : Option DutCtx :=
  match KMap.find d.fail.duts id with
  | some b => match KMap.find d.fail.geos b.geo with
    | some g => some { id := id, b := b, g := g }
    | none => none
  | none => none

/-- The local line that holds byte `o` of this member's copy of the tally range (R301). -/
def Device.tallyAt (d : Device) (t : DutCtx) (o : Nat) : Nat := (llaOf d.membersLog2 t.b.tally + o) / 64

/-- The local line of a bitmap line, and whether this device's position homes it. -/
def Device.bitmapAt (d : Device) (t : DutCtx) (L : Nat) : Nat × Bool :=
  let qla := t.b.bmap + 64 * L
  (d.lineOf qla, homePosition d.membersLog2 (qla / 4096) == d.qid)

/-! ### Counters (R299, R304) -/

/-- The value LOST of a counter. -/
def ctrLost (w : Nat) : Nat := 2 ^ (8 * w) - 1

/-- Add to a counter: LOST stays LOST, and a sum that would reach all ones becomes LOST (R304). -/
def ctrAdd (w a n : Nat) : Nat := if a = ctrLost w ∨ ctrLost w ≤ a + n then ctrLost w else a + n

/-- The counter of width `w` at byte `o` of a line. -/
def ctrOf (v : Line) (o w : Nat) : Nat := bitsOf v.toNat (8 * (o % 64)) (8 * w)

/-- Replace that counter. -/
def ctrPut (v : Line) (o w n : Nat) : Line :=
  let sh := 8 * (o % 64)
  BitVec.ofNat 512 (v.toNat - ctrOf v o w * 2 ^ sh + n % 2 ^ (8 * w) * 2 ^ sh)

/-- The number of 1 bits among the first `n` of a word. -/
def onesIn (v n : Nat) : Nat := (onesOf n v).length

/-- What a rebuild counts: a value, whether it is LOST, and the blocks whose bitmap it found poisoned. -/
structure Sum where
  n : Nat := 0
  lost : Bool := false
  blocks : List Nat := []
  deriving DecidableEq, Repr

/-- Add the bits of a local bitmap line that pass a test to a sum. -/
def Device.sumBitmap (d : Device) (t : DutCtx) (cls L : Nat) (sel : Nat → Bool) (s : Sum) : Device × Sum :=
  let q := geoDims t.g
  let (line, here) := d.bitmapAt t L
  if here then
    let (d, v, p) := d.peekLine line cls
    if p then (d, { s with lost := true, blocks := s.blocks ++ [L / q.bl] })
    else (d, { s with n := s.n + ((onesOf (lineCells q L) v.toNat).filter sel).length })
  else (d, s)

/-- Fold a rebuild source over a list. -/
def Device.sumOver (d : Device) (l : List Nat) (s : Sum) (f : Device → Nat → Sum → Device × Sum) : Device × Sum :=
  l.foldl (fun st x => f st.1 x st.2) (d, s)

/-- Write a rebuilt or marked line of the tree: at the home as one mirrored full-line write, at the follow into its
mirror. -/
def Device.treeWrite (d : Device) (line : Nat) (v : Line) (cls : Nat) (home : Bool) : Device :=
  if home then (d.writeLine line v false cls none .engine).1 else d.landLine line v false cls

/-- The counters of a line of the tree: byte offset of the first, width, how many (R299). -/
def treeWidth (q : GeoDims) (o : Nat) : Nat := if o < q.aBlk then 4 else 8

/-- Read a line of the tree; a poisoned one is rebuilt first from its sources (R306, R307). `fuel` bounds the depth of
the tree. The lost blocks that a rebuild met are added to the list. A rebuild that meets a poisoned bitmap line sets
DUT_LOST, one that completes without LOST sets TREE_REBUILT, and one whose sums hold a LOST term sets neither (R307). -/
def Device.treeLine (d : Device) (t : DutCtx) (cls : Nat) (home : Bool) : Nat → Nat → Device × Line × List Nat
  | 0, _ => (d, 0, [])
  | fuel + 1, o =>
    let o := 64 * (o / 64)
    let (d, v, p) := d.peekLine (d.tallyAt t o) cls
    if !p then (d, v, [])
    else
      let q := geoDims t.g
      let rec1 (d : Device) (off w : Nat) (s : Sum) : Device × Sum :=
        let (d, v, bs) := d.treeLine t cls home fuel off
        let n := ctrOf v off w
        (d, { s with n := s.n + n, lost := s.lost || n == ctrLost w, blocks := s.blocks ++ bs })
      let w := treeWidth q o
      let one (d : Device) (i : Nat) : Device × Sum :=
        if o < q.aCol then
          let n := o / 4 + i; let k := n / q.rpb; let r := n % q.rpb
          if q.nb ≤ k ∨ q.rp ≤ r then (d, {})
          else d.sumOver (List.range q.rl) {} (fun d j s => d.sumBitmap t cls (k * q.bl + r * q.rl + j) (fun _ => true) s)
        else if o < q.aBlk then
          let n := (o - q.aCol) / 4 + i; let k := n / q.cpb; let c := n % q.cpb
          if q.nb ≤ k ∨ q.cp ≤ c then (d, {})
          else d.sumOver (List.range q.rp) {} (fun d r s =>
            d.sumBitmap t cls (k * q.bl + r * q.rl + c / 512) (fun b => b == c % 512) s)
        else if o < q.aBank then
          let k := (o - q.aBlk) / 8 + i
          if q.nb ≤ k then (d, {})
          else d.sumOver (List.range q.rp) {} (fun d r s => rec1 d (4 * (k * q.rpb + r)) 4 s)
        else if o < q.aDie then
          let n := (o - q.aBank) / 8 + i
          if t.g.dies * t.g.banks ≤ n then (d, {})
          else d.sumOver (List.range t.g.blocks) {} (fun d k s => rec1 d (q.aBlk + 8 * (n * t.g.blocks + k)) 8 s)
        else if o < q.aDut then
          let n := (o - q.aDie) / 8 + i
          if t.g.dies ≤ n then (d, {})
          else d.sumOver (List.range t.g.banks) {} (fun d k s => rec1 d (q.aBank + 8 * (n * t.g.banks + k)) 8 s)
        else if o = q.aDut ∧ i = 0 then
          d.sumOver (List.range t.g.dies) {} (fun d k s => rec1 d (q.aDie + 8 * k) 8 s)
        else (d, {})
      if q.aLost ≤ o then
        let v : Line := BitVec.ofNat 512 (2 ^ 512 - 1)
        (((d.treeWrite (d.tallyAt t o) v cls home).countWrap FAIL.REBUILDS.COUNT), v, [])
      else
        let (d, v, lost, blocks) := (List.range (64 / w)).foldl (fun (st : Device × Line × Bool × List Nat) i =>
          let (d, v, lost, bs) := st
          let (d, s) := one d i
          let n := if s.lost ∨ ctrLost w ≤ s.n then ctrLost w else s.n
          (d, ctrPut v (o + w * i) w n, lost || n == ctrLost w, bs ++ s.blocks)) (d, (0 : Line), false, [])
        let d := (d.treeWrite (d.tallyAt t o) v cls home).countWrap FAIL.REBUILDS.COUNT
        let d := if home && !blocks.isEmpty then d.evtRec FAIL.flag.DUT_LOST 0 (leBytes 2 t.id) (leBytes 2 t.id)
          else if home && !lost then d.evtRec FAIL.flag.TREE_REBUILT 0 (leBytes 2 t.id) (leBytes 2 t.id) else d
        (d, v, blocks)

/-- Set bits of the lost map (R305). -/
def Device.markLost (d : Device) (t : DutCtx) (cls : Nat) (home : Bool) (blocks : List Nat) : Device :=
  blocks.eraseDups.foldl (fun d k =>
    let o := (geoDims t.g).aLost + k / 8
    let (d, v, _) := d.treeLine t cls home 8 o
    let b := ctrOf v o 1
    if bitOf b (k % 8) then d
    else d.treeWrite (d.tallyAt t o) (ctrPut v o 1 (b + 2 ^ (k % 8))) cls home) d

/-- Read a line of the tree for an update; blocks found lost are marked. -/
def Device.treeRead (d : Device) (t : DutCtx) (cls : Nat) (home : Bool) (o : Nat) : Device × Line :=
  let (d, v, bs) := d.treeLine t cls home 8 o
  (d.markLost t cls home bs, v)

/-- Add to one counter. -/
def Device.bump (d : Device) (t : DutCtx) (cls : Nat) (home : Bool) (o w n : Nat) : Device :=
  let (d, v) := d.treeRead t cls home o
  d.landLine (d.tallyAt t o) (ctrPut v o w (ctrAdd w (ctrOf v o w) n)) false cls

/-! ### What the Assayer's reads do at a home (R305, R306) -/

/-- Every bound DUT with its geometry. -/
def Device.allDuts (d : Device) : List DutCtx := d.fail.duts.filterMap (fun e => d.dut e.1)

/-- The DUT whose counter copy of this member holds a line, and the line's offset in it. -/
def Device.dutOfTally (d : Device) (line : Nat) : Option (DutCtx × Nat) :=
  (d.allDuts.find? (fun t =>
    let a := d.tallyAt t 0
    decide (a ≤ line) && decide (line < a + (geoDims t.g).tallyBytes / 64))).map (fun t => (t, 64 * (line - d.tallyAt t 0)))

/-- The DUT whose bitmap holds an address, and the bitmap line. -/
def Device.dutOfBitmap (d : Device) (qla : Nat) : Option (DutCtx × Nat) :=
  (d.allDuts.find? (fun t => decide (t.b.bmap ≤ qla) && decide (qla < t.b.bmap + (geoDims t.g).bmapBytes))).map
    (fun t => (t, (qla - t.b.bmap) / 64))

/-- The Assayer reads a line: a poisoned counter line is rebuilt first, and a poisoned bitmap line marks its block lost. -/
def Device.assayMeets (d : Device) (qla cls : Nat) : Device :=
  let line := d.lineOf qla
  let (d, _, p) := d.peekLine line cls
  if !p then d
  else match d.dutOfTally line with
    | some (t, o) => (d.treeRead t cls true o).1
    | none => match d.dutOfBitmap qla with
      | some (t, L) => d.markLost t cls true [L / (geoDims t.g).bl]
      | none => d

/-! ### Fail updates (R302) -/

/-- The counters of a bitmap line other than its columns: offset and width, from the row up to the DUT. -/
def lineCounters (g : Geometry) (L : Nat) : List (Nat × Nat) :=
  let q := geoDims g
  let k := L / q.bl; let r := L % q.bl / q.rl
  let bank := k / g.blocks; let die := bank / g.banks
  [(4 * (k * q.rpb + r), 4), (q.aBlk + 8 * k, 8), (q.aBank + 8 * bank, 8), (q.aDie + 8 * die, 8), (q.aDut, 8)]

/-- The column counter of a bit of a bitmap line. -/
def columnCounter (g : Geometry) (L p : Nat) : Nat :=
  let q := geoDims g
  q.aCol + 4 * (L / q.bl * q.cpb + 512 * (L % q.bl % q.rl) + p)

/-- The bits of a mask that a line's content does not have yet. -/
def newBits (q : GeoDims) (L : Nat) (mask v : Line) : List Nat := onesOf (lineCells q L) (mask &&& ~~~v).toNat

/-- The local lines that an update of a bitmap line touches: itself, and the lines of the counters that change. -/
def Device.failLines (d : Device) (t : DutCtx) (L : Nat) (mask : Line) : List Nat :=
  let (line, _) := d.bitmapAt t L
  let (_, v, p) := d.peekLine line 0
  let new := newBits (geoDims t.g) L mask v
  if p ∨ new = [] then [line]
  else (line :: ((lineCounters t.g L).map (fun c => d.tallyAt t c.1)
    ++ new.map (fun b => d.tallyAt t (columnCounter t.g L b)))).eraseDups

/-- Apply the new bits of a mask to a bitmap line and its counters (R302), once every poisoned counter line on their path is rebuilt
(R308). -/
def Device.applyBits (d : Device) (t : DutCtx) (L : Nat) (v : Line) (new : List Nat) (cls : Nat) (home : Bool) : Device :=
  let (line, _) := d.bitmapAt t L
  let m := new.foldl (fun n b => n + 2 ^ b) 0
  let at_ := (lineCounters t.g L).map Prod.fst ++ new.map (columnCounter t.g L)
  let d := at_.foldl (fun (d : Device) o => (d.treeRead t cls home o).1) d
  let d := d.landLine line (v ||| BitVec.ofNat 512 m) false cls
  let d := (lineCounters t.g L).foldl (fun d c => d.bump t cls home c.1 c.2 new.length) d
  new.foldl (fun d b => d.bump t cls home (columnCounter t.g L b) 4 1) d

/-- What a fail update at its home comes to: status, bits newly set, and whether it changed anything. -/
structure FailResult where
  status : Nat := 0
  new : Nat := 0
  deriving DecidableEq, Repr

/-- A fail update at its home (R264, R295, R302, R305, R107). -/
def Device.failUpdate (d : Device) (t : DutCtx) (L : Nat) (mask : Line) (cls : Nat) : Device × FailResult :=
  let (line, _) := d.bitmapAt t L
  let (d, v, p) := d.peekLine line cls
  if p then
    (d.markLost t cls true [L / (geoDims t.g).bl], { status := 1 })
  else
    let new := newBits (geoDims t.g) L mask v
    if new = [] then (d.chargeT0 cls 64, {})
    else if d.elRefused && (d.failLines t L mask).any (fun l => d.elasticLine l) then
      (d.countSat TIER.CAP_REFUSED.COUNT, { status := 2 })
    else
      ((d.applyBits t L v new cls true).countWrap FAIL.REC_NEW.COUNT 0 new.length, { new := new.length })

/-- Do the bitmap line and every counter line of a mask lie in regions (R295)? -/
def Device.failMapped (d : Device) (t : DutCtx) (L : Nat) (mask : Line) : Bool :=
  let cols := (onesOf (lineCells (geoDims t.g) L) mask.toNat).map (columnCounter t.g L)
  ((d.bitmapAt t L).1 :: (((lineCounters t.g L).map Prod.fst ++ cols).map (fun o => d.tallyAt t o))).all
    (fun l => (d.regionOfLine l).isSome)

end Sys2Proof.Machine
end

