-- ==== Sys2Proof/Machine/Analysis.lean ====
section
/-! DEFINITION. The repair analysis of one block: a pure function of the cells, the counters, the geometry, the bound and
MIN_SPARES (Fail Accumulation and Repair Analysis, R309 to R315). -/

namespace Sys2Proof.Machine

/-- Insert a number into a rising list. -/
def insertNat (n : Nat) : List Nat → List Nat
  | [] => [n]
  | m :: l => if n ≤ m then n :: m :: l else m :: insertNat n l

/-- A list in rising order. -/
def sortNat (l : List Nat) : List Nat := l.foldr insertNat []

/-- A cell: row and column. Cells are listed by row, and within a row by column. -/
abbrev Cell := Nat × Nat

/-- The cells that no chosen row and no chosen column covers. -/
def uncovered (f : List Cell) (x y : List Nat) : List Cell := f.filter (fun c => !(x.contains c.1) && !(y.contains c.2))

/-- The rows of cells, rising. -/
def rowsOf (f : List Cell) : List Nat := (f.map Prod.fst).eraseDups

/-- The columns of cells, rising. -/
def colsOf (f : List Cell) : List Nat := sortNat ((f.map Prod.snd).eraseDups)

/-- The state of the must-repair passes: chosen rows and columns, spares left, forced lines (column?, line, cells), whether
the spares fell below 0. -/
structure Must where
  x : List Nat := []
  y : List Nat := []
  sr : Nat
  sc : Nat
  log : List (Bool × Nat × Nat) := []
  failed : Bool := false
  deriving DecidableEq, Repr

/-- Force the rows, in rising order, with more uncovered cells than spare columns are left. -/
def forceRows (f : List Cell) (m : Must) : Must :=
  let u := uncovered f m.x m.y
  (rowsOf u).foldl (fun (m : Must) r =>
    let n := (u.filter (fun c => c.1 == r)).length
    if m.failed ∨ n ≤ m.sc then m
    else { m with x := m.x ++ [r], sr := m.sr - 1, failed := m.sr == 0, log := m.log ++ [(false, r, n)] }) m

/-- Force the columns, in rising order, with more uncovered cells than spare rows are left. -/
def forceCols (f : List Cell) (m : Must) : Must :=
  if m.failed then m
  else
    let u := uncovered f m.x m.y
    (colsOf u).foldl (fun (m : Must) c =>
      let n := (u.filter (fun e => e.2 == c)).length
      if m.failed ∨ n ≤ m.sr then m
      else { m with y := m.y ++ [c], sc := m.sc - 1, failed := m.sc == 0, log := m.log ++ [(true, c, n)] }) m

/-- Passes until one forces no line (stage 3). -/
def mustRepair (f : List Cell) : Nat → Must → Must
  | 0, m => m
  | fuel + 1, m =>
    let n := forceCols f (forceRows f m)
    if n.failed ∨ n.log.length = m.log.length then n else mustRepair f fuel n

/-- One search for an augmenting path (stage 5): the columns of a row in turn; the columns seen; the row matched to each
column. -/
def augment (f : List Cell) : Nat → Nat → List Nat → List Nat → KMap Nat → Bool × List Nat × KMap Nat
  | 0, _, _, seen, m => (false, seen, m)
  | _ + 1, _, [], seen, m => (false, seen, m)
  | fuel + 1, r, c :: cs, seen, m =>
    if seen.contains c then augment f fuel r cs seen m
    else match KMap.find m c with
      | none => (true, c :: seen, KMap.put m c r)
      | some r' =>
        let (ok, seen, m') := augment f fuel r' ((f.filter (fun e => e.1 == r')).map Prod.snd) (c :: seen) m
        if ok then (true, seen, KMap.put m' c r) else augment f fuel r cs seen m

/-- The maximum matching of cells, in rising row order (stage 5). -/
def matching (f : List Cell) : List Cell :=
  let m := (rowsOf f).foldl (fun (m : KMap Nat) r =>
    (augment f (2 * f.length + 2) r ((f.filter (fun e => e.1 == r)).map Prod.snd) [] m).2.2) []
  (rowsOf f).filterMap (fun r => (m.find? (fun e => e.2 == r)).map (fun e => (r, e.1)))

/-- The search: nodes used, the best cover, whether the bound cut it, whether it is over. -/
structure Search where
  nodes : Nat := 0
  best : Option (List Nat × List Nat) := none
  cut : Bool := false
  past : Bool := false
  deriving DecidableEq, Repr

/-- Is a cover of `n` spares no better than the best one? -/
def Search.noBetter (s : Search) (n : Nat) : Bool :=
  match s.best with
  | some b => decide (b.1.length + b.2.length ≤ n)
  | none => false

/-- Explore a node (R311): the row branch of its first uncovered cell, then the column branch. `fuel` is at least the
number of spares left. -/
def search (f : List Cell) (minSpares : Bool) (bound : Nat) : Nat → List Nat → List Nat → Nat → Nat → Search → Search
  | 0, _, _, _, _, s => s
  | fuel + 1, x, y, sr, sc, s =>
    match uncovered f x y with
    | [] => { s with best := if s.noBetter (x.length + y.length) then s.best else some (x, y), past := !minSpares }
    | c :: _ =>
      let branch (x y : List Nat) (sr sc : Nat) (s : Search) : Search :=
        let m := mustRepair f (f.length + 1) { x := x, y := y, sr := sr, sc := sc }
        if minSpares && !m.failed && s.noBetter (m.x.length + m.y.length + (matching (uncovered f m.x m.y)).length) then s
        else if bound ≤ s.nodes then { s with cut := true, past := true }
        else
          let s := { s with nodes := s.nodes + 1 }
          if m.failed then s else search f minSpares bound fuel m.x m.y m.sr m.sc s
      let s := if 0 < sr then branch (x ++ [c.1]) y (sr - 1) sc s else s
      if s.past then s
      else if 0 < sc then branch x (y ++ [c.2]) sr (sc - 1) s else s

/-- The result of a block (R315). Outcomes: 0 CLEAN, 1 REPAIRED, 2 UNREPAIRABLE, 3 INCONCLUSIVE, 4 LOST. -/
structure Repair where
  outcome : Nat
  witness : Nat := 0
  optimal : Bool := false
  changed : Bool := false
  faulty : Bool := false
  nrow : Nat := 0
  ncol : Nat := 0
  fails : Nat := 0
  nodes : Nat := 0
  items : List Nat := []
  deriving DecidableEq, Repr

/-- The 15 bits of a count in a witness item. -/
def countBits (n : Nat) : Nat := if n < 32768 then n else Config.wideCount n % 32768

/-- Items of forced lines: the rows in their order, then the columns. -/
def forcedItems (log : List (Bool × Nat × Nat)) : List Nat × Nat × Nat :=
  let rows := (log.filter (fun e => !e.1)).map (fun e => e.2.1 + 2 ^ 16 * countBits e.2.2)
  let cols := (log.filter (fun e => e.1)).map (fun e => e.2.1 + 2 ^ 16 * countBits e.2.2 + 2 ^ 31)
  (rows ++ cols, rows.length, cols.length)

/-- An UNREPAIRABLE result with forced lines as its witness. -/
def Repair.forced (b : Repair) (w : Nat) (log : List (Bool × Nat × Nat)) : Repair :=
  let (items, nr, nc) := forcedItems log
  { b with outcome := 2, witness := w, items := items, nrow := nr, ncol := nc }

/-- A REPAIRED result: repaired lines in rising order take the usable spares in rising order (R312). -/
def Repair.covered (b : Repair) (x y ur uc : List Nat) : Repair :=
  let rows := ((sortNat x).zip ur).map (fun e => e.1 + 2 ^ 16 * e.2)
  let cols := ((sortNat y).zip uc).map (fun e => e.1 + 2 ^ 16 * e.2 + 2 ^ 31)
  { b with outcome := 1, items := rows ++ cols, nrow := rows.length, ncol := cols.length }

/-- Stages 2 to 6 for the failing main cells of a block, with the usable spare rows and columns (R310, R311). -/
def analyse (f : List Cell) (ur uc : List Nat) (faulty minSpares : Bool) (bound : Nat) : Repair :=
  let b : Repair := { outcome := 0, faulty := faulty, fails := f.length }
  if f = [] then b
  else
    let m := mustRepair f (f.length + 1) { sr := ur.length, sc := uc.length }
    let left := uncovered f m.x m.y
    if m.failed then b.forced 1 m.log
    else if 2 * m.sr * m.sc < left.length then { (b.forced 2 m.log) with nodes := left.length }
    else if left = [] then b.covered m.x m.y ur uc
    else
      let k := matching f
      if ur.length + uc.length < k.length then
        let cells := k.take (ur.length + uc.length + 1)
        { b with outcome := 2, witness := 3, nrow := cells.length, items := cells.map (fun c => c.1 + 2 ^ 16 * c.2) }
      else
        let s := search f minSpares bound (m.sr + m.sc + 1) m.x m.y m.sr m.sc {}
        match s.best with
        | some (x, y) => { (b.covered x y ur uc) with nodes := s.nodes, optimal := minSpares && !s.cut }
        | none => if s.cut then { b with outcome := 3, nodes := s.nodes } else { (b.forced 4 m.log) with nodes := s.nodes }

/-- The bytes of a result entry (R315). -/
def entrySizeOf (g : Geometry) : Nat := 16 * ((16 + 4 * (g.srows + g.scols + 1) + 15) / 16)

/-- The result entry of a block. -/
def Repair.entry (r : Repair) (k : Nat) (g : Geometry) : List Nat :=
  let flags := r.witness + (if r.optimal then 8 else 0) + (if r.changed then 16 else 0) + (if r.faulty then 32 else 0)
  let b := leBytes 4 k ++ [r.outcome, flags, r.nrow % 256, r.ncol % 256] ++ leBytes 4 r.fails ++ leBytes 4 r.nodes
    ++ r.items.flatMap (leBytes 4)
  (b ++ List.replicate (entrySizeOf g) 0).take (entrySizeOf g)

end Sys2Proof.Machine
end

