-- ==== Sys2Proof/Machine/Serve.lean ====
section
/-! DEFINITION. Serving requests at the home slice: routes, the line queue, snoops that a request needs, grants, site
operations, batches and their commit (Coherence and the Directory; Batches; Site Transactions). -/

namespace Sys2Proof.Machine

/-! ### What a request touches -/

/-- The mask of one fail record within its bitmap line. -/
def recordMask (g : Geometry) (v : Nat) : Nat × Line :=
  let (L, p) := cellPlace g (failCell v)
  (L, BitVec.ofNat 512 (2 ^ p))

/-- The local lines that a request touches at its home. -/
def Device.reqLines (d : Device) (r : Request) : List Nat :=
  let line := d.lineOf r.qla
  match r.op with
  | .siteRead n _ => (List.range n).map (fun i => line + i)
  | .siteWrite l _ => (List.range l.length).map (fun i => line + i)
  | .failOr dut L mask => match d.dut dut with | some t => d.failLines t L mask | none => []
  | .failRec dut _ v => match d.dut dut with
    | some t => let (L, m) := recordMask t.g v; d.failLines t L m
    | none => []
  | .batchCommit _ | .batchAbort _ _ | .biConflict | .outcome _ => []
  | _ => [line]

/-- Is the request of a host? -/
def Request.isHost (r : Request) : Bool :=
  match r.op with
  | .hostRead _ | .hostInv | .hostWrite .. | .cleanEvict => true
  | _ => false

/-- The pointer of a host request (R120). -/
def ptrOf (r : Request) : Ptr := { host := r.who, win := r.win, arr := r.arr }

/-- Is the requester the owner of the line in E? -/
def Device.ownsLine (d : Device) (r : Request) (line : Nat) : Bool :=
  let e := d.entry line
  e.state == 2 && e.ptrs == [ptrOf r]

/-- Is the operation a write to the rights of R51? Atomics, batch writes and ownership count as writes. -/
def writeKind (op : HomeOp) : Bool :=
  match op with
  | .hostRead _ | .siteRead _ _ | .cleanEvict | .biConflict | .outcome _ => false
  | _ => true

/-- May the requester do this operation in a region (R51)? A window checks the host ID of its bound link (R178);
MemClnEvct is never refused (R682), and device engines are not checked. -/
def mayAccess (r : Request) (g : Region) : Bool :=
  match r.op with
  | .cleanEvict | .biConflict | .batchCommit _ | .batchAbort _ _ | .outcome _ => true
  | op =>
    if r.who = 4096 then true
    else if Request.isHost r then Region.hostMay g r.who (writeKind op)
    else if 1024 ≤ r.who then Region.hostMay g r.win (writeKind op)
    else match op with
      | .failOr .. | .failRec .. => g.pop == 1 && Region.siteMay g r.who true
      | _ => Region.siteMay g r.who (writeKind op)

/-- The answer of a refused request (R67, R682). -/
def refusedAnswer (r : Request) : Answer :=
  match r.op with
  | .hostRead _ => { data := [(0, true)] }
  | .hostInv | .hostWrite .. | .cleanEvict | .biConflict => {}
  | _ => { status := 3 }

/-! ### Slots and the delivery of answers (R176, R181) -/

/-- What an answer does to the batch slot of its request on this device: only to the batch that the request belongs to. -/
def Device.slotAnswer (d : Device) (r : Request) (a : Answer) : Device :=
  let write (d : Device) : Device :=
    let x := d.slot r.who
    if x.bseq ≠ r.bseq ∨ x.state ≠ .opened ∨ a.status = 3 then d
    else if a.status = 5 then d.slotAborted r.who a.cause
    else d.setSlot r.who { x with lines := a.lines }
  if r.arr ≠ d.myArr then d
  else match r.op with
  | .siteWrite _ true | .siteWriteMasked _ _ true => write d
  | .batchCommit s =>
    let x := d.slot s
    if x.bseq ≠ r.bseq ∨ x.state ≠ .committing then d
    else if a.status = 5 then
      if 1024 ≤ s then d.slotAborted s a.cause
      else (if a.cause = 6 then d.countAbort 6 else d).setSlot s { x with state := .free, cause := 0, lines := 0, home := none }
    else
      let d := d.setSlot s { x with state := .free, cause := 0, lines := 0, home := none }
      if 1024 ≤ s then d.winLast (s - 1024) 1 0 a.bseq else d
  | _ => d

/-- The outcome entry that a new home told of a batch answers the commit that waited (R191): OK where the entry holds the batch's BSEQ as committed,
ABORTED with TWIN_LOSS otherwise. -/
def Device.outcomeReq (d : Device) (r : Request) (slot : Nat) (a : Answer) : Device × Request × Answer :=
  let ok := a.bseq = r.bseq ∧ a.result.headD 0 = 1
  let a' : Answer := { status := if ok then 0 else 5, cause := if ok then 0 else 6, bseq := r.bseq }
  match d.twin.forwards.find? (fun f => f.req.op == .batchCommit slot && f.req.bseq == r.bseq) with
  | some f => ({ d with twin := { d.twin with forwards := d.twin.forwards.filter (fun g => g.fid != f.fid) } }, f.req, a')
  | none => (d, { r with op := .batchCommit slot, origin := .dropped }, a')

/-- Answer a request: its slot follows, the response leaves, and BIConflicts that waited for it are answered (R138). -/
def Device.deliver (d : Device) (r : Request) (a : Answer) : Device :=
  let (d, r, a) := match r.op with
    | .outcome s => if r.arr = d.myArr then d.outcomeReq r s a else (d, r, a)
    | _ => (d, r, a)
  let d := (d.slotAnswer r a).respond r a
  let mine := d.coh.conflicts.filter (fun c => c.1.origin == r.origin)
  let d := { d with coh := { d.coh with conflicts := d.coh.conflicts.filter (fun c => c.1.origin != r.origin) } }
  mine.foldl (fun d c => d.respond c.2 {}) d

/-! ### Home and route (R44, R45, R464, R482) -/

/-- The arrival code of the device that homes an address now: this device, else the lead, else the other side; none
while no device of the position is in service (R483). -/
def Device.homeArr (d : Device) (qla : Nat) (g : Region) : Option Nat :=
  let pos := homePosition d.membersLog2 (qla / 4096)
  if pos = d.qid ∧ d.leadsSlice g (homeSlice (d.lineOf qla)) then some d.myArr
  else
    let lead := g.lead * 4 + pos; let other := (1 - g.lead) * 4 + pos
    if lead ≠ d.myArr ∧ d.twin.inService.contains lead then some lead
    else if other ≠ d.myArr ∧ d.twin.inService.contains other then some other
    else none

/-- Forward a request, or hold it here while it has no route (R45, R483). -/
def Device.forward (d : Device) (r : Request) (arr : Option Nat) : Device :=
  let fid := d.twin.nextFid
  let link := arr.bind d.routeTo
  let f : Forward := { fid := fid, req := r, link := link }
  let d := { d with twin := { d.twin with forwards := d.twin.forwards ++ [f], nextFid := fid + 1 } }
  match link with
  | some p => d.tell p (d.lineOf r.qla) (.fwdReq fid r)
  | none => d

/-! ### What a request must wait for -/

/-- Is a request a host write? -/
def Request.isWrite (r : Request) : Bool :=
  match r.op with
  | .hostWrite .. => true
  | _ => false

/-- A host write that was queued for a line before the batch that pins it began its commit: it completes first, and is no conflict of that
commit (R182 step 2). -/
def Device.earlyWrite (d : Device) (r : Request) (line : Nat) : Bool :=
  match d.pinnedBy line with
  | some b => b.committing && Request.isWrite r && decide (r.order < b.since)
  | none => false

/-- A batch that commits holds the line (R182 step 1), but for the earlier host writes and what is queued in front of them. -/
def Device.commitHolds (d : Device) (r : Request) (line : Nat) : Bool :=
  match d.pinnedBy line with
  | some b => b.committing && !(d.earlyWrite r line)
      && !(d.coh.queue.any (fun q => decide (r.order ≤ q.order) && (d.reqLines q).contains line && d.earlyWrite q line))
  | none => false

/-- Is a host's next write of a line discarded as the writeback of an expired snoop (R139)? -/
def Device.isStale (d : Device) (host line : Nat) : Bool := d.coh.stale.any (fun x => x.1 == host && x.2.1 == line)

/-- The writeback that answers a snoop in flight, and a stale one, pass the line queue (R137, R139, R182). -/
def Device.answersSnoop (d : Device) (r : Request) (line : Nat) : Bool :=
  Request.isWrite r && ((d.ownsLine r line && d.coh.snoops.any (fun s => s.line == line && s.target == ptrOf r)) || d.isStale r.who line)

/-- Is a snoop of the line in flight that the request waits for? One that goes ahead for a BIConflict does not wait for its own host's
answer, which comes only after the BIConflictAck (R138). -/
def Device.pendFor (d : Device) (r : Request) (line : Nat) : Bool :=
  d.coh.snoops.any (fun s => s.line == line && !(r.ahead && s.target.host == r.who))

/-- The batch of a slot of a device with a sequence. -/
def Device.batchOf (d : Device) (slot arr bseq : Nat) : Option HomeBatch := d.batch.home.find? (fun b => b.is slot arr bseq)

/-- Does a handover pass on the pages of a region (R493, R494)? -/
def Device.handsRegion (d : Device) (h : Hand) (r : Region) : Bool := h.withdraw || r.lead != d.side

/-- Is a line of the slice that is handed over next, in a page that is passed on? -/
def Device.handsLine (d : Device) (h : Hand) (line : Nat) : Bool :=
  homeSlice line == h.slice && (match d.regionOfLine line with | some (_, r) => d.handsRegion h r | none => true)

/-- Is the request the first write of a new batch, one that has no batch of its slot and BSEQ here yet, to a page that a handover passes on next (R494
step 1; DEDUCED, log entry 140)? -/
def Device.handHolds (d : Device) (r : Request) (lines : List Nat) : Bool :=
  match r.op, d.twin.hand with
  | .siteWrite _ true, some h | .siteWriteMasked _ _ true, some h =>
    h.step == 0 && (d.batchOf r.who r.arr r.bseq).isNone && lines.any (d.handsLine h)
  | _, _ => false

/-- The region of a request: its attributes at the request's place in the order of its slice (R58). -/
def Device.regionFor (d : Device) (r : Request) : Option Region := r.attr.orElse (fun _ => (d.regionOf r.qla).map Prod.snd)

/-- Must the request wait in the line queue behind earlier requests, a snoop in flight, a commit, a handover, or the takeover of
its lines (R137, R155, R182, R494)? A commit and an explicit abort wait behind the writes of their batch (R180); one by the device itself does
not. An outcome is told only after the notice-flush wait (R191). -/
def Device.blocked (d : Device) (r : Request) (earlier : List Request) : Bool :=
  let lines := d.reqLines r
  let behind (s : Nat) : Bool := earlier.any (fun q => q.who == s && q.arr == r.arr && q.bseq == r.bseq)
  (match r.op with
    | .batchCommit s | .batchAbort s 1 => behind s
    | .hostInv => d.coh.noGrant.contains r.arr
    | .outcome _ => !d.coh.flushWait.isEmpty
    | _ => false) ||
  let mine := lines.all (fun l => d.answersSnoop r l)
  (!mine && lines.any (fun l => d.pendFor r l
      || (!r.ahead && (d.commitHolds r l || earlier.any (fun q => (d.reqLines q).contains l)))))
  || d.handHolds r lines
  || (!d.coh.flushWait.isEmpty && !lines.isEmpty
      && (match d.regionFor r with | some g => g.lead != d.side | none => false))

/-- What the directory asks for before a request may be performed on a line (R135, R140, R168). -/
inductive Need where
  | nothing | cur | data | others | all
  deriving DecidableEq, Repr

/-- Has the requester's own batch a shadow of the line? -/
def Device.ownShadow (d : Device) (r : Request) (line : Nat) : Option T0Line :=
  match d.batchOf r.who r.arr r.bseq with
  | some b => KMap.find b.shadow line
  | none => none

/-- Is the line owned in E by someone other than the requester? -/
def Device.ownedElse (d : Device) (r : Request) (line : Nat) : Bool :=
  (d.entry line).state == 2 && !(Request.isHost r && d.ownsLine r line)

/-- The need of a request at a line. -/
def Device.needOf (d : Device) (r : Request) (line : Nat) : Need :=
  let e := d.entry line
  let tracked := !e.ptrs.isEmpty || e.lovf || d.untrackedLine line
  let curNeed := if d.ownedElse r line && !(r.cur.contains line) then Need.cur else .nothing
  match r.op with
  | .hostRead .i => curNeed
  | .hostRead _ => if d.ownedElse r line then .data else .nothing
  | .hostInv => if d.ownsLine r line then .nothing
      else if e.ptrs.any (fun t => t != ptrOf r) || e.lovf || d.untrackedLine line then .others else .nothing
  | .hostWrite .. => if d.ownsLine r line || d.isStale r.who line then .nothing
      else if e.ptrs.any (fun t => t != ptrOf r) || e.lovf || d.untrackedLine line then .others else .nothing
  | .cleanEvict | .batchCommit _ | .batchAbort _ _ | .biConflict | .outcome _ => .nothing
  | .siteRead _ b => if b && (d.ownShadow r line).isSome then .nothing else curNeed
  | .siteWrite _ true => .nothing
  | .siteWriteMasked _ m true => if m == BitVec.allOnes 64 || (d.ownShadow r line).isSome then .nothing else curNeed
  | .atomic _ _ _ _ atag =>
    (match KMap.find d.site.atomics ((r.who * 4 + r.arr % 4) * 16 + atag % 16) with
     | some x => if x.atag = atag ∧ x.lla = llaOf d.membersLog2 r.qla then .nothing else if tracked then .all else .nothing
     | none => if tracked then .all else .nothing)
  | .siteWrite _ false | .siteWriteMasked _ _ false | .poisonWrite | .failOr .. | .failRec .. => if tracked then .all else .nothing

/-- Drop named pointers of a line that no snoop could reach: their links no longer exist. -/
def Device.dropPtrs (d : Device) (line : Nat) (p : Ptr → Bool) : Device :=
  let e := d.entry line
  let ps := e.ptrs.filter (fun t => !p t)
  d.setEntry line { e with ptrs := ps, state := if ps.isEmpty && !e.lovf then 0 else e.state }

/-- Take back the requester's own copies under other windows or arrival devices (R125). -/
def Device.takeAliases (d : Device) (r : Request) (line : Nat) : Device :=
  let other : Ptr → Bool := fun t => t.host == r.who && t != ptrOf r
  match r.op with
  | .hostRead _ | .hostInv | .hostWrite .. =>
    let ts := (d.entry line).ptrs.filter (fun t => other t && !(d.coh.snoops.any (fun s => s.line == line && s.target == t)))
    if ts.isEmpty then d
    else
      let d := ts.foldl (fun d t => (d.sendSnoop line .inv t false .aliasing).countWrap COH.ALIAS_INVALS.COUNT) d
      if d.linePend line then d else d.dropPtrs line other
  | _ => d

/-- Send what the need of a request asks for; the line is pending where an answer is awaited. -/
def Device.meetNeed (d : Device) (r : Request) (line : Nat) (need : Need) : Device :=
  let e := d.entry line
  match need with
  | .nothing => d
  | .cur | .data =>
    let kind := if need = .cur then SnoopKind.cur else .data
    let d := e.ptrs.foldl (fun d t => d.sendSnoop line kind t false .request) d
    if d.linePend line then d else d.dropPtrs line (fun _ => true)
  | .others => d.invalidate line .request (some (ptrOf r)) r.attr
  | .all => d.invalidate line .request none r.attr

/-- Does the request need a directory entry for the line (R130, R169)? -/
def Device.needsEntry (d : Device) (r : Request) (line : Nat) : Bool :=
  match r.op with
  | .hostRead .s | .hostRead .a | .hostInv => !(d.ownsLine r line) && !(d.coh.noGrant.contains r.arr)
  | .siteWrite _ true | .siteWriteMasked _ _ true => (d.ownShadow r line).isNone
  | _ => false

/-- Does performing the request read the line's home copy? -/
def Device.readsHome (d : Device) (r : Request) (line : Nat) : Bool :=
  match r.op with
  | .hostRead _ => true
  | .siteRead _ b => !(b && (d.ownShadow r line).isSome)
  | .hostWrite _ _ full _ => !full
  | .siteWriteMasked _ m b => m != BitVec.allOnes 64 && !(b && (d.ownShadow r line).isSome)
  | .atomic .. | .failOr .. | .failRec .. => true
  | _ => false

/-- A channel that the line's DRAM content or its record needs now retrains (R427). -/
def Device.chanWaits (d : Device) (line : Nat) : Bool :=
  let lpn := lpnOf line
  let out (ra : Nat) : Bool := (d.chan (channelOf ra)).state == .retraining
  (d.t0Line line).isNone &&
    (((d.atHand line).isNone && !(d.tier.recCache.contains lpn) && out (d.recordAddr lpn))
      || match d.dramNeed line with | some ra => out ra | none => false)

/-- The kinds of twin fetch: 0 for a channel out of service (R426), 1 to recover a corrupt quarter (R86), 2 to recover a
burst, 3 to recover a record burst (R441). -/
def Device.fetchKind (d : Device) (line : Nat) : Nat :=
  let lpn := lpnOf line; let n := line % 64
  let r := d.loaf lpn
  let (a, b) := d.spanOf r (n / 16)
  let bs := if r.plain then [sliceAddr r.bin (r.slices.getD (n / 8) 0) + 64 * (n % 8)] else r.bursts a b
  if d.recordLost lpn then (if (d.chan (channelOf (d.recordAddr lpn))).inService then 3 else 0)
  else if bs.any (fun ra => (d.wqFind ra).isNone && !((d.chan (channelOf ra)).inService)) then 0
  else if bs.any d.burstFails || (r.baked && d.quarterBad r (n / 16)) then 2 else 1

/-- The lines that a fetch of a kind asks for: one line, the 16 lines of a quarter, or the 64 lines of both loaves of a record
burst. -/
def Device.fetchLines (d : Device) (line kind : Nat) : List Nat :=
  let r := d.loaf (lpnOf line)
  if kind = 3 then (List.range 128).map (fun i => 128 * (line / 128) + i)
  else if kind = 1 ∨ (kind = 2 ∧ r.baked = true) then (List.range 16).map (fun i => line / 16 * 16 + i)
  else [line]

/-- Does a write to a line still await its countersign (R441)? -/
def Device.csPending (d : Device) (line : Nat) : Bool :=
  d.coh.csWait.any (fun c => match c.waiter with
    | .request r _ => (d.reqLines r).contains line
    | .commit slot arr bseq => d.batch.home.any (fun b => b.slot == slot && b.arr == arr && b.bseq == bseq && (KMap.find b.shadow line).isSome)
    | _ => false)

/-- Send a twin fetch, once no write to its line awaits its countersign (R441). -/
def Device.sendFetch (d : Device) (id line cls : Nat) : Device :=
  if d.csPending line then { d with twin := { d.twin with heldFetch := d.twin.heldFetch ++ [(id, line, cls)] } }
  else d.twinTell line (.twinFetch id line cls)

/-- Send the twin fetches that waited for a countersign. -/
def Device.releaseFetches (d : Device) : Device :=
  let l := d.twin.heldFetch
  l.foldl (fun (d : Device) f => d.sendFetch f.1 f.2.1 f.2.2) { d with twin := { d.twin with heldFetch := [] } }

/-- Ask the follow for lines (R426, R86, R441). A fetch for a channel counts in its TWIN_FETCHES. -/
def Device.askTwin (d : Device) (line kind cls : Nat) : Device :=
  (d.fetchLines line kind).foldl (fun (d : Device) l =>
    if d.twin.fetches.any (fun f => f.2.1 == l) || (kind == 3 && (d.atHand l).isSome) then d
    else
      let id := d.twin.nextFetch
      let d := { d with twin := { d.twin with fetches := d.twin.fetches ++ [(id, l, kind)], nextFetch := id + 1 } }
      let d := if kind = 0 then
          match d.dramNeed l with
          | some ra => d.countSat DDRCH.TWIN_FETCHES.COUNT (channelOf ra)
          | none => d
        else d
      d.sendFetch id l cls) d

/-- Make a line ready for a request: lost pointers, aliases, snoops, a way, the twin's copy, room in the channel queue.
The request is ready at the line when the Boolean is true. -/
def Device.prepLine (d : Device) (r : Request) (line : Nat) : Device × Request × Bool :=
  let d := (d.purgeLost line).takeAliases r line
  if d.pendFor r line && !(d.answersSnoop r line) then (d, r, false)
  else
    let d := d.meetNeed r line (d.needOf r line)
    if d.pendFor r line && !(d.answersSnoop r line) then (d, r, false)
    else
      let (d, r, w) := if d.needsEntry r line then d.needWay r line else (d, r, .ready)
      if w = .wait ∨ (w = .overflow ∧ r.op = .hostInv) then (d, r, false)
      else if d.readsHome r line then
        if d.twin.fetches.any (fun f => f.2.1 == line) then (d, r, false)
        else if d.twinServes && d.needsFetch line then (d.askTwin line (d.fetchKind line) r.cls, r, false)
        else if d.chanWaits line then (d, r, false)
        else match d.dramNeed line with
          | some ra =>
            let c := channelOf ra; let n := d.dramCost line
            if d.mayEnter c r.cls r.deadline n false then (d, r, true)
            else if r.held then (d, r, false)
            else (d.countWrap QOS.HELD.COUNT r.cls, { r with held := true }, false)
          | none => (d, r, true)
      else (d, r, true)

/-- Make every line of a request ready. -/
def Device.prepare (d : Device) (r : Request) : List Nat → Device × Request × Bool
  | [] => (d, r, true)
  | l :: ls =>
    let (d, r, a) := d.prepLine r l
    let (d, r, b) := d.prepare r ls
    (d, r, a && b)

/-- A line's content for a read by a request; its DRAM accesses enter the channel queue. -/
def Device.fetchFor (d : Device) (r : Request) (line : Nat) (alloc : Bool) : Device × Line × Bool :=
  let d := match d.dramNeed line with
    | some ra => d.enterQueue (channelOf ra) r.cls r.deadline (d.dramCost line) ra false r.origin r.order
    | none => d
  d.readLine line r.cls alloc

/-- The same for a partial write, whose Tier-0 charge is that of the write (R331). -/
def Device.peekFor (d : Device) (r : Request) (line : Nat) : Device × Line × Bool :=
  let d := match d.dramNeed line with
    | some ra => d.enterQueue (channelOf ra) r.cls r.deadline (d.dramCost line) ra false r.origin r.order
    | none => d
  d.peekLine line r.cls

/-! ### Host requests (R135) -/

/-- A line's entry after a grant of S to a host; a line that can take no entry is logged, or the host keeps no copy
(R131, R132). A logged line that takes an entry leaves the log with untracked sharers. -/
def Device.grantShared (d : Device) (r : Request) (line : Nat) : Device × Grant :=
  let room := (KMap.find d.coh.dir line).isSome || decide ((d.waysOf (dirSet line)).length < 16)
  if room then
    let logged := d.untrackedLine line
    let had := (KMap.find d.coh.dir line).isSome
    let e := (d.entry line).share (ptrOf r)
    let d := (d.setEntry line (if logged then { e with lovf := true } else e)).logDrop line
    (d.evictAhead line had, .shared)
  else if d.coh.log.contains line ∨ (d.logOf (homeSlice line)).length < 512 then (d.logAdd line, .shared)
  else (d.countWrap COH.UNCACHED_GRANTS.COUNT, .none)

/-- Is the host's access to the line's region read only (R51)? -/
def Device.readOnly (d : Device) (r : Request) : Bool :=
  match d.regionFor r with
  | some g => g.hostAcc == 1
  | none => false

/-- Has a line neither an entry nor a way to take, nor a place in the log, so that its reader keeps no copy (R132)? -/
def Device.noRoom (d : Device) (line : Nat) : Bool :=
  let ways := d.waysOf (dirSet line)
  (KMap.find d.coh.dir line).isNone && decide (16 ≤ ways.length) && ways.all (fun e => e.2.pin)
    && !(d.coh.log.contains line) && decide (512 ≤ (d.logOf (homeSlice line)).length)

/-- What a MemRd is granted, and the entry after it (R135). -/
def Device.grantRead (d : Device) (r : Request) (line : Nat) (m : MetaValue) : Device × Grant :=
  let e := d.entry line
  if d.ownsLine r line then (d, .exclusive)
  else if d.coh.noGrant.contains r.arr then (d, .none)
  else match m with
    | .i => (if d.noRoom line then d.countWrap COH.UNCACHED_GRANTS.COUNT else d, .none)
    | .s => d.grantShared r line
    | .a =>
      let alone := e.ptrs.all (fun t => t == ptrOf r) && !e.lovf && !(d.untrackedLine line)
      let room := (KMap.find d.coh.dir line).isSome || decide ((d.waysOf (dirSet line)).length < 16)
      if alone && room && !(d.readOnly r) then
        ((d.setEntry line (e.own (ptrOf r))).evictAhead line (KMap.find d.coh.dir line).isSome, .exclusive)
      else d.grantShared r line

/-- The directory change of a host write (R135). -/
def Device.writeDir (d : Device) (r : Request) (line : Nat) (m : MetaValue) : Device :=
  let e := d.entry line
  if d.ownsLine r line then
    match m with
    | .i => d.setEntry line (e.unshare (ptrOf r))
    | .s => d.setEntry line { e with state := 1 }
    | .a => d
  else if e.ptrs.isEmpty && !e.lovf then d
  else d.setEntry line { e with state := 0, ptrs := [], lovf := false }

/-- A commit that waits for the line's holders aborts when one of them answers with data (R182 step 2): the batch leaves
its home and the commit is answered; where its arrival device is not in service, the outcome entry is written (R189). -/
def Device.abortCommit (d : Device) (b : HomeBatch) (cause : Nat) : Device :=
  let d := (d.dropBatch b).batchEnds b.arr b.slot b.bseq cause
  let d := if b.arr = d.myArr ∨ d.twin.inService.contains b.arr then d
    else d.setOutcome b.arr b.slot { bseq := b.bseq, outcome := 2, cause := cause }
  match b.reply with
  | some r => d.deliver r { status := 5, cause := cause, bseq := b.bseq }
  | none => d

/-- Data reached a line that a commit waits for. -/
def Device.commitConflict (d : Device) (line : Nat) : Device :=
  match d.pinnedBy line with
  | some b => if b.committing && !b.sent then d.abortCommit b 2 else d
  | none => d

/-- A host write at its home (R135, R139, R149, R107); the data that answers the back-invalidate of a DUT_CLEAR is older
than the clear. The Boolean: a countersign is awaited. -/
def Device.hostWriteDo (d : Device) (r : Request) (line : Nat) (data : Line) (mask : BitVec 64) (full : Bool)
    (m : MetaValue) : Device × Bool :=
  let early := d.earlyWrite r line
  if d.isStale r.who line then (d.countSat COH.STRAY_WB.COUNT, false)
  else if d.coh.snoops.any (fun s => s.line == line && s.use == .destroy && s.target == ptrOf r) then (d.writeDir r line m, false)
  else if d.elRefused && d.elasticLine line then
    let d := if early then d else d.commitConflict line
    let info := [r.arr, r.port / 2, r.port % 2, r.who]
    (((d.countSat TIER.CAP_REFUSED.COUNT).evtRec TIER.flag.CAP_HOST_DISCARD 0 info info).writeDir r line m, false)
  else
    let d := if early then d else d.commitConflict line
    if full then
      let (d, w) := d.writeLine line data false r.cls none (.request r {})
      (d.writeDir r line m, w)
    else
      let (d, old, p) := d.peekFor r line
      if p then
        let d := (d.countSat COH.PTL_POISON_DROPS.COUNT).eventRecord .coh 0 0x82 ([r.who] ++ leBytes 6 r.qla) [r.who]
        (d.writeDir r line m, false)
      else
        let (d, w) := d.writeLine line (mergeLine old data mask) false r.cls none (.request r {})
        (d.writeDir r line m, w)

/-! ### Batch writes (R161 to R175) -/

/-- Replace a batch at its home. -/
def Device.setBatch (d : Device) (b : HomeBatch) : Device :=
  { d with batch := { d.batch with home := d.batch.home.map (fun x => if x.is b.slot b.arr b.bseq then b else x) } }

/-- Pin a line for a batch (R169): the shadow index, and BATCH_PIN in its entry where a way can take one; a migration of its loaf stops
(R172). -/
def Device.pinLine (d : Device) (line : Nat) : Device :=
  let d := d.cancelMigration (lpnOf line)
  let had := (KMap.find d.coh.dir line).isSome
  if had ∨ (d.waysOf (dirSet line)).length < 16 then
    let logged := d.untrackedLine line
    let e := { d.entry line with pin := true }
    ((d.setEntry line (if logged then { e with lovf := true, state := 1 } else e)).logDrop line).evictAhead line had
  else d

/-- An abort that a batch write meets: the batch ends, and the write is answered ABORTED (R171, R175, R176). -/
def Device.abortWriting (d : Device) (r : Request) (cause : Nat) : Device × Answer :=
  let b := (d.batchOf r.who r.arr r.bseq).getD { slot := r.who, arr := r.arr, bseq := r.bseq }
  (d.abortBatch b cause, { status := 5, cause := cause, bseq := r.bseq })

/-- One line of a batch write at the home: an abort cause, or none where it was written. `mask` selects the bytes. Where several causes apply,
the Elastic capacity of R175 comes first, then CONFLICT, then the 65th line and the empty pool; the spec gives no order (DESIGN CHOICE, log entry 119). -/
def Device.batchWriteLine (d : Device) (r : Request) (line : Nat) (v : Line) (mask : BitVec 64) : Device × Option Nat :=
  let b := (d.batchOf r.who r.arr r.bseq).getD { slot := r.who, arr := r.arr, bseq := r.bseq, cls := r.cls }
  if d.elRefused && d.elasticLine line then (d.countSat TIER.CAP_REFUSED.COUNT, some 3)
  else match KMap.find b.shadow line with
    | some t =>
      let t' : T0Line := if mask = BitVec.allOnes 64 then { data := v }
        else if t.poison then t else { data := mergeLine t.data v mask }
      ((d.setBatch { b with shadow := KMap.put b.shadow line t' }).chargeT0 r.cls 64, none)
    | none =>
      if (d.pinnedBy line).isSome then (d, some 2)
      else if 64 ≤ b.shadow.length ∨ 131072 ≤ d.shadowUsed then (d, some 3)
      else
        let (d, t) := if mask = BitVec.allOnes 64 then (d, ({ data := v } : T0Line))
          else
            let (d, old, p) := d.peekFor r line
            (d, if p then ({ data := 0, poison := true } : T0Line) else { data := mergeLine old v mask })
        let b := { b with shadow := KMap.put b.shadow line t }
        let d := if (d.batchOf r.who r.arr r.bseq).isSome then d.setBatch b
          else { d with batch := { d.batch with home := d.batch.home ++ [b] } }
        let d := if d.shadowUsed = 131072 then d.evt BATCH.flag.SHADOW_EMPTY else d
        ((d.chargeT0 r.cls 64).pinLine line, none)

/-- A batch write of several lines. -/
def Device.batchWrite (d : Device) (r : Request) (ls : List Line) (mask : BitVec 64) : Device × Answer :=
  match KMap.find d.batch.ended (2048 * r.arr + r.who) with
  | some (q, cause) =>
    if q = r.bseq ∧ (d.batchOf r.who r.arr r.bseq).isNone then (d, { status := 5, cause := cause, bseq := r.bseq })
    else go d
  | none => go d
where
  go (d : Device) : Device × Answer :=
    let line := d.lineOf r.qla
    let (d, c) := (ls.zip (List.range ls.length)).foldl (fun (st : Device × Option Nat) e =>
      match st.2 with
      | some _ => st
      | none => st.1.batchWriteLine r (line + e.2) e.1 mask) (d, none)
    match c with
    | some cause => d.abortWriting r cause
    | none => (d, { bseq := r.bseq, lines := match d.batchOf r.who r.arr r.bseq with | some b => b.shadow.length | none => 0 })

/-! ### Site operations (R263 to R268) -/

/-- The content a read gives a requester: its own batch's shadow, or the home copy (R173). -/
def Device.readFor (d : Device) (r : Request) (line : Nat) (batch : Bool) : Device × Line × Bool :=
  match (if batch then d.ownShadow r line else none) with
  | some t => (d.chargeT0 r.cls 64, t.data, t.poison)
  | none => d.fetchFor r line true

/-- Read several lines. -/
def Device.readLines (d : Device) (r : Request) (batch : Bool) : List Nat → Device × List (Line × Bool)
  | [] => (d, [])
  | l :: ls =>
    let (d, v) := d.readFor r l batch
    let (d, vs) := d.readLines r batch ls
    (d, v :: vs)

/-- The value of the operand of an atomic in a line. -/
def operandOf (v : Line) (qla : Nat) (wide : Bool) : Nat := bitsOf v.toNat (8 * (qla % 64)) (if wide then 64 else 32)

/-- The result of an atomic on a value (R265). -/
def atomicResult (op : AtomicOp) (wide : Bool) (old op1 op2 : Nat) : Nat :=
  let m := 2 ^ (if wide then 64 else 32)
  match op with
  | .fetchAdd => (old + op1) % m
  | .swap => op1 % m
  | .cas => if old = op1 % m then op2 % m else old

/-- A line with the operand of an atomic replaced. -/
def withOperand (v : Line) (qla : Nat) (wide : Bool) (n : Nat) : Line :=
  let sh := 8 * (qla % 64)
  BitVec.ofNat 512 (v.toNat - operandOf v qla wide * 2 ^ sh + n * 2 ^ sh)

/-- Mirror a line that an update left unchanged, for the entry it carries (R266). -/
def Device.mirrorEntry (d : Device) (line : Nat) (v : Line) (cls : Nat) (e : AtomicEntry) (w : Waiter) : Device × Bool :=
  if d.mirrored (lpnOf line) then
    let (d, t) := (d.chargeTwin cls 128).twinSend (streamOf line) (.mirrorLine line v false cls (some e))
    (d.awaitCs (streamOf line) t w, true)
  else (d, false)

/-- An ATOMIC at its home (R264 to R266). -/
def Device.atomicDo (d : Device) (r : Request) (op : AtomicOp) (wide : Bool) (op1 op2 atag : Nat) : Device × Answer × Bool :=
  let line := d.lineOf r.qla; let lla := llaOf d.membersLog2 r.qla
  let key := (r.who * 4 + r.arr % 4) * 16 + atag % 16
  let stored := match KMap.find d.site.atomics key with
    | some x => if x.atag = atag ∧ x.lla = lla then some x.old else none
    | none => none
  match stored with
  | some old => (d, { result := leBytes 8 old }, false)
  | none =>
    if d.elRefused && d.elasticLine line then (d.countSat TIER.CAP_REFUSED.COUNT, { status := 2 }, false)
    else
      let (d, v, p) := d.peekFor r line
      if p then (d, { status := 1, result := leBytes 8 0 }, false)
      else
        let old := operandOf v r.qla wide
        let new := atomicResult op wide old op1 op2
        let a : Answer := { result := leBytes 8 old }
        let e : AtomicEntry := { site := r.who, qid := r.arr % 4, atag := atag, lla := lla, old := old }
        let d := { d with site := { d.site with atomics := KMap.put d.site.atomics key e } }
        let failedCas := op = .cas ∧ old ≠ op1 % 2 ^ (if wide then 64 else 32)
        if failedCas then
          let (d, w) := (d.chargeT0 r.cls 128).mirrorEntry line v r.cls e (.request r a)
          (d, a, w)
        else
          let (d, w) := d.writeLine line (withOperand v r.qla wide new) false r.cls (some e) (.request r a)
          (d, a, w)

/-- Tell the follow of a fail update and await its countersign (R302, R471). -/
def Device.mirrorFail (d : Device) (r : Request) (line : Nat) (m : PeerMsg) (bytes : Nat) (a : Answer) : Device × Bool :=
  if d.mirrored (lpnOf line) then
    let (d, t) := (d.chargeTwin r.cls bytes).twinSend (streamOf line) m
    (d.awaitCs (streamOf line) t (.request r a), true)
  else (d, false)

/-- One fail record at its home (R268, R291, R295, R302). -/
def Device.failRecDo (d : Device) (r : Request) (dut idx v : Nat) : Device × Answer × Bool :=
  match d.dut dut with
  | none => (d.countWrap FAIL.REC_REFUSED.COUNT, { status := 3 }, false)
  | some t =>
    if !cellOk t.g (failCell v) then (d.countWrap FAIL.REC_REFUSED.COUNT, { status := 3 }, false)
    else
      let (L, mask) := recordMask t.g v
      if !d.failMapped t L mask then ((d.countWrap FAIL.REC_REFUSED.COUNT).refuse r 3, { status := 3 }, false)
      else
        let (d, x) := d.failUpdate t L mask r.cls
        let a : Answer := { status := x.status, result := [if x.status = 0 then 2 ^ idx else 0, x.new] }
        if x.status ≠ 0 then (d.countWrap FAIL.REC_REFUSED.COUNT, a, false)
        else if x.new = 0 then (d.countWrap FAIL.REC_SAME.COUNT, a, false)
        else
          let (d, w) := (d.chargeT0 r.cls 896).mirrorFail r (d.bitmapAt t L).1 (.mirrorFail dut v r.cls) 64 a
          (d, a, w)

/-- A FAIL_OR at its home (R268, R292, R302). -/
def Device.failOrDo (d : Device) (r : Request) (dut L : Nat) (mask : Line) : Device × Answer × Bool :=
  match d.dut dut with
  | none => (d, { status := 3 }, false)
  | some t =>
    let q := geoDims t.g
    if q.nb * q.bl ≤ L then (d, { status := 3 }, false)
    else if !d.failMapped t L mask then (d.refuse r 3, { status := 3 }, false)
    else
      let n := (d.failLines t L mask).length
      let (d, x) := d.failUpdate t L mask r.cls
      let a : Answer := { status := x.status, result := leBytes 2 x.new }
      if x.new = 0 then (d, a, false)
      else
        let (d, w) := (d.chargeT0 r.cls (128 * n)).mirrorFail r (d.bitmapAt t L).1 (.mirrorOr dut L mask r.cls) 128 a
        (d, a, w)

/-! ### Performing a request -/

/-- Write several lines, each as its own step (R263). -/
def Device.writeLines (d : Device) (r : Request) (a : Answer) : List (Nat × Line) → Device × Bool
  | [] => (d, false)
  | (l, v) :: ls =>
    let (d, w) := d.writeLine l v false r.cls none (.request r a)
    let (d, w') := d.writeLines r a ls
    (d, w || w')

/-- Perform a request whose lines are ready: the device, the answer, and whether a countersign is awaited. -/
def Device.perform (d : Device) (r : Request) : Device × Answer × Bool :=
  let line := d.lineOf r.qla
  match r.op with
  | .hostRead m =>
    let (d, v, p) := d.fetchFor r line true
    let (d, g) := d.grantRead r line m
    (d, { grant := g, data := [(v, p)] }, false)
  | .hostInv =>
    if d.ownsLine r line then (d, { grant := .exclusive }, false)
    else ((((d.setEntry line ((d.entry line).own (ptrOf r))).logDrop line).evictAhead line (KMap.find d.coh.dir line).isSome), { grant := .exclusive }, false)
  | .hostWrite data mask full m =>
    let (d, w) := d.hostWriteDo r line data mask full m
    (d, {}, w)
  | .cleanEvict => (d.setEntry line ((d.entry line).unshare (ptrOf r)), {}, false)
  | .siteRead n b =>
    let d := if r.who = 4096 ∧ r.win = 1 then d.assayMeets r.qla r.cls else d
    let (d, vs) := d.readLines r b ((List.range n).map (fun i => line + i))
    (d, { data := vs }, false)
  | .siteWrite ls true => let (d, a) := d.batchWrite r ls (BitVec.allOnes 64); (d, a, false)
  | .siteWrite ls false =>
    if d.elRefused && d.elasticLine line then (d.countSat TIER.CAP_REFUSED.COUNT, { status := 2 }, false)
    else
      let (d, w) := d.writeLines r {} ((ls.zip (List.range ls.length)).map (fun e => (line + e.2, e.1)))
      (d, {}, w)
  | .poisonWrite =>
    if d.elRefused && d.elasticLine line then (d.countSat TIER.CAP_REFUSED.COUNT, { status := 2 }, false)
    else
      let (d, w) := d.writeLine line 0 true r.cls none (.request r {})
      (d, {}, w)
  | .siteWriteMasked v m true => let (d, a) := d.batchWrite r [v] m; (d, a, false)
  | .siteWriteMasked v m false =>
    if d.elRefused && d.elasticLine line then (d.countSat TIER.CAP_REFUSED.COUNT, { status := 2 }, false)
    else
      let (d, old, p) := d.peekFor r line
      if p then (d, { status := 1 }, false)
      else
        let (d, w) := d.writeLine line (mergeLine old v m) false r.cls none (.request r {})
        (d, {}, w)
  | .atomic op wide a b atag => d.atomicDo r op wide a b atag
  | .failOr dut L mask => d.failOrDo r dut L mask
  | .failRec dut idx v => d.failRecDo r dut idx v
  | .batchCommit _ | .batchAbort _ _ | .biConflict | .outcome _ => (d, {}, false)

/-! ### Commit (R182 to R185) -/

/-- Gain ownership of the pinned lines in ascending order, as far as snoops and earlier host writes allow (R182 step 2). -/
def Device.ownLines (d : Device) (b : HomeBatch) : Nat → Device × HomeBatch
  | 0 => (d, b)
  | fuel + 1 =>
    match (b.shadow.map Prod.fst).filter (fun l => !(b.owned.contains l)) with
    | [] => (d, b)
    | l :: _ =>
      let d := d.purgeLost l
      if d.linePend l || d.coh.queue.any (fun q => (d.reqLines q).contains l && d.earlyWrite q l) then (d, b)
      else
        let e := d.entry l
        let clear := e.ptrs.isEmpty && !e.lovf && !(d.untrackedLine l)
        let d := if clear then d else d.invalidate l .commit none
        if d.linePend l then (d, b) else d.ownLines { b with owned := b.owned ++ [l] } fuel

/-- Advance a commit that has not been sent. -/
def Device.advanceCommit (d : Device) (b : HomeBatch) : Device :=
  if b.committing && !b.sent then
    let (d, b) := d.ownLines b 65
    d.setBatch b
  else d

/-- Advance every commit that waits for owners. -/
def Device.advanceCommits (d : Device) : Device := d.batch.home.foldl (fun d b => d.advanceCommit b) d

/-- How a batch that is no longer at this home ended, and forget it: its requester is told now. -/
def Device.takeEnded (d : Device) (arr slot bseq other : Nat) : Device × Nat :=
  match KMap.find d.batch.ended (2048 * arr + slot) with
  | some (q, c) => if q = bseq then ({ d with batch := { d.batch with ended := KMap.drop d.batch.ended (2048 * arr + slot) } }, c) else (d, other)
  | none => (d, other)

/-- A BATCH_COMMIT or WIN_CMD.COMMIT reaches the batch's home (R182 step 1). -/
def Device.commitStart (d : Device) (r : Request) (slot : Nat) : Device :=
  match d.batchOf slot r.arr r.bseq with
  | none =>
    let (d, c) := d.takeEnded r.arr slot r.bseq 6
    d.deliver r { status := 5, cause := c, bseq := r.bseq }
  | some b =>
    let b := { b with committing := true, since := r.order, reply := some r }
    let d := d.setBatch b
    if d.elRefused && b.shadow.any (fun e => d.elasticLine e.1) then
      (d.countSat TIER.CAP_REFUSED.COUNT).abortCommit b 3
    else d.advanceCommit b

/-- An abort that the arrival device asks for reaches the batch's home (R188). One of the device itself comes ahead of writes that are still
queued: they are not applied. -/
def Device.abortHere (d : Device) (r : Request) (slot cause : Nat) : Device :=
  match d.batchOf slot r.arr r.bseq with
  | some b =>
    if b.committing then d
    else ((d.dropBatch b).batchEnds r.arr slot r.bseq cause).deliver r { status := 5, cause := cause, bseq := r.bseq }
  | none =>
    let known := match KMap.find d.batch.ended (2048 * r.arr + slot) with | some (q, _) => q == r.bseq | none => false
    let (d, c) := d.takeEnded r.arr slot r.bseq cause
    (if known then d else d.batchEnds r.arr slot r.bseq cause).deliver r { status := 5, cause := c, bseq := r.bseq }

/-! ### Serving -/

/-- Is a request held back: by a DUT command that runs (R297), or, a record, by a block reset of the fail-service cluster (R322)? -/
def Device.dutBusy (d : Device) (r : Request) : Bool :=
  (match r.op with | .failOr .. => d.power.blk.contains (7, 0) | .failRec .. => d.power.blk.contains (7, 0) | _ => false) ||
  match r.op, d.fail.run with
  | .failOr dut _ _, some x => x.id == dut && (x.op == 6 || x.op == 7)
  | .failRec dut _ _, some x => x.id == dut && (x.op == 6 || x.op == 7)
  | _, _ => false

/-- Serve a request at its home: done, or still waiting. -/
def Device.serve (d : Device) (r : Request) : Device × Option Request :=
  match r.op with
  | .batchCommit s => (d.commitStart r s, none)
  | .batchAbort s c => (d.abortHere r s c, none)
  | .outcome s =>
    let e := d.outcome r.arr s
    (d.deliver r { cause := e.cause, bseq := e.bseq, result := [e.outcome] }, none)
  | _ =>
  if d.dutBusy r then (d, some r)
  else
    let (d, r, ok) := d.prepare r (d.reqLines r)
    if !ok then (d, some r)
    else
      let (d, a, w) := d.perform r
      (if w then d else d.deliver r a, none)

/-! ### The line queue (R137, R143 to R145) -/

/-- The bytes that a request moves in Tier 0 (R331). -/
def Device.t0Need (d : Device) (r : Request) : Nat :=
  match r.op with
  | .failRec .. => 896
  | .hostWrite .. | .siteWrite .. | .siteWriteMasked .. | .atomic .. | .failOr .. => 128 * (d.reqLines r).length
  | _ => 64 * (d.reqLines r).length

/-- Put a request that still waits back in its place of the line queue, or take it out where it was served. -/
def Device.tried (d : Device) (r : Request) (left : Option Request) : Device :=
  { d with coh := { d.coh with queue := match left with
      | some q => d.coh.queue.map (fun x => if x == r then q else x)
      | none => d.coh.queue.erase r } }

/-- One pass over the waiting requests: those that can be served are, the others keep their places. Requests that may be served at once take Tier 0 in
the order of R345; what a request that then still waits would have spent is not spent. -/
def Device.pumpPass (d : Device) (todo : List Request) : Nat → Device
  | 0 => d
  | fuel + 1 =>
    let free := todo.filter (fun r => !(d.blocked r (d.coh.queue.takeWhile (fun q => q != r))))
    let (e, i) := d.arbitrate 2 40 (free.zip (List.range free.length) |>.map (fun p => (p.2, p.1.cls, d.t0Need p.1)))
    match i.bind (fun i => free[i]?) with
    | none => d
    | some r =>
      match e.serve r with
      | (e, none) => (e.tried r none).pumpPass (todo.erase r) fuel
      | (_, some _) =>
        let (d, q) := d.serve r
        (d.tried r q).pumpPass (todo.erase r) fuel

/-- Does the queue of a request's home slice hold 256 requests (R137)? -/
def Device.sliceFull (d : Device) (r : Request) : Bool :=
  let k := homeSlice (d.lineOf r.qla)
  !(d.reqLines r).isEmpty && decide (256 ≤ (d.coh.queue.filter (fun q => !(d.reqLines q).isEmpty && homeSlice (d.lineOf q.qla) == k)).length)

/-- A request enters its home slice, where it is served or joins the line queue; the Boolean tells that it was served. While the slice's queue is
full, host requests are withheld, but for the writebacks that answer a snoop, and other requests wait that would join the queue (R137, log entry 120). -/
def Device.enter (d : Device) (r : Request) : Device × Bool :=
  let full := d.sliceFull r && !(d.answersSnoop r (d.lineOf r.qla))
  let hold (r : Request) : Device × Bool :=
    if full then ({ d with coh := { d.coh with withheld := d.coh.withheld ++ [r] } }, false)
    else ({ d with coh := { d.coh with queue := d.coh.queue ++ [r] } }, false)
  if (full && Request.isHost r) || d.blocked r d.coh.queue then hold r
  else match d.serve r with
    | (d, some r) => ({ d with coh := { d.coh with queue := d.coh.queue ++ [r] } }, false)
    | (d, none) => (d, true)

/-- The rank of a request among those that reach a slice in one core cycle for one line, by step, rotating priority, deadline and site number
(R143, R144). -/
def Device.rankOf (d : Device) (r : Request) : List Nat :=
  let k := homeSlice (d.lineOf r.qla)
  if Request.isWrite r then [0, (r.who + 32 - KMap.get d.coh.wrot 0 k) % 32]
  else if Request.isHost r then [1, (r.who + 33 - KMap.get d.coh.rot 0 k) % 33]
  else [1, 32 - KMap.get d.coh.rot 0 k, if r.deadline = 0 then 2 ^ 64 else r.deadline, r.who]

/-- Does one rank come before another? -/
def rankLess : List Nat → List Nat → Bool
  | a :: l, b :: m => decide (a < b) || (a == b && rankLess l m)
  | _, _ => false

/-- Put a request into a ranked list, behind those of equal rank. -/
def Device.rankIn (d : Device) (r : Request) : List Request → List Request
  | [] => [r]
  | q :: l => if rankLess (d.rankOf r) (d.rankOf q) then r :: q :: l else q :: d.rankIn r l

/-- Requests that reach a slice in one cycle for one line, in their order; WROT and ROT of the slice follow the winners of their steps (R144). -/
def Device.rankLine (d : Device) (rs : List Request) : Device × List Request :=
  let l := rs.foldl (fun l r => d.rankIn r l) []
  let ws := l.filter Request.isWrite; let os := l.filter (fun r => !Request.isWrite r)
  let pos (r : Request) : Nat := if Request.isHost r then r.who else 32
  match ws, os with
  | w :: _ :: _, _ =>
    let d := { d with coh := { d.coh with wrot := KMap.put d.coh.wrot (homeSlice (d.lineOf w.qla)) ((w.who + 1) % 32) } }
    (if os.any (fun o => pos o != pos (os.headD o)) then
      { d with coh := { d.coh with rot := KMap.put d.coh.rot (homeSlice (d.lineOf w.qla)) ((pos (os.headD w) + 1) % 33) } } else d, l)
  | _, o :: more =>
    (if more.any (fun x => pos x != pos o) then
      { d with coh := { d.coh with rot := KMap.put d.coh.rot (homeSlice (d.lineOf o.qla)) ((pos o + 1) % 33) } } else d, l)
  | _, [] => (d, l)

/-- Requests that reach their slices in one cycle: line by line, those of one line in the order of R143. -/
def Device.rankAll (d : Device) (rs : List Request) : Device × List Request :=
  ((rs.map (fun r => d.lineOf r.qla)).eraseDups).foldl (fun (st : Device × List Request) l =>
    let (d, g) := st.1.rankLine (rs.filter (fun r => st.1.lineOf r.qla == l))
    (d, st.2 ++ g)) (d, [])

/-- The withheld requests come again, in one cycle, once a place is free (R137, R143). -/
def Device.admitWithheld (d : Device) : Device :=
  if d.coh.withheld.isEmpty then d
  else
    let (d, rs) := d.rankAll d.coh.withheld
    rs.foldl (fun (d : Device) r => (d.enter r).1) { d with coh := { d.coh with withheld := [] } }

/-- Let waiting requests and commits proceed. -/
def Device.pumpQueueN (d : Device) : Nat → Device
  | 0 => d
  | fuel + 1 =>
    let n := d.coh.queue.length + d.coh.withheld.length
    let d := ((d.pumpPass d.coh.queue d.coh.queue.length).admitWithheld).advanceCommits
    if d.coh.queue.length + d.coh.withheld.length = n then d else d.pumpQueueN fuel

/-- Let waiting requests proceed until none can. -/
def Device.pumpQueue (d : Device) : Device := d.pumpQueueN (d.coh.queue.length + d.coh.withheld.length + 1)

/-! ### The commit record and the flip (R182, R183) -/

/-- The COMMITTED flip (R182 step 5): every line of the batch moves into the hot-data cache, its pin is cleared, and the
commit is answered. -/
def Device.commitFlip (d : Device) (b : HomeBatch) : Device :=
  let d := d.dropBatch b
  let d := b.shadow.foldl (fun d e =>
    (((d.beforeChange e.1).heatMiss e.1).putT0 e.1 { e.2 with dirty := true } b.cls).chargeT0 b.cls 128) d
  let d := d.countWrap BATCH.COMMITS.COUNT
  let d := if b.arr = d.myArr ∨ d.twin.inService.contains b.arr then d
    else d.setOutcome b.arr b.slot { bseq := b.bseq, outcome := 1, cause := 0 }
  let d := match b.reply with
    | some r => d.deliver r { bseq := b.bseq }
    | none => d
  d.pumpQueue

/-- All lines owned: the commit record leaves, or the flip follows at once where no line is mirrored (R182, R183). -/
def Device.commitSend (d : Device) (b : HomeBatch) : Device :=
  let owned := b.shadow.all (fun e => b.owned.contains e.1 && !d.linePend e.1)
  if !(b.committing && !b.sent && owned) then d
  else if b.shadow.any (fun e => d.mirrored (lpnOf e.1)) then
    let k := match b.shadow with | e :: _ => streamOf e.1 | [] => 0
    let rc : CommitRec := { bseq := b.bseq, slot := b.slot, arr := b.arr, cls := b.cls,
                            lines := b.shadow.map (fun e => { line := e.1, data := d.wireData e.1 e.2.data e.2.poison, poison := e.2.poison }),
                            after := (d.stream (1 - k)).next, passed := if d.twin.resyncRun then d.twin.resyncPos else 2 ^ 32 }
    let n := b.shadow.length
    let d := d.chargeTwin b.cls (64 * ((8 + (38 * n + 7) / 8 + 64 * n + 63) / 64))
    let (d, t) := d.twinSend k (.commitRec rc)
    (d.setBatch { b with sent := true }).awaitCs k t (.commit b.slot b.arr b.bseq)
  else d.commitFlip b

/-! ### Arrival -/

/-- A BIConflict at the home: the request it conflicts with is completed first where it entered the queue before the
snoop: ahead of the snoop's answer, which the host gives only after the BIConflictAck (R138, log entry 22). -/
def Device.biConflictDo (d : Device) (r : Request) : Device :=
  let line := d.lineOf r.qla
  let sids := (d.coh.snoops.filter (fun s => s.line == line && s.target.host == r.who && s.target.arr == r.arr)).map (fun s => s.sid)
  let mine := d.coh.queue.find? (fun q => q.who == r.who && q.arr == r.arr && Request.isHost q && d.lineOf q.qla == line
      && sids.any (fun s => decide (q.seen ≤ s)))
  match mine with
  | some q =>
    let goes (x : Request) : Request := if x.origin == q.origin then { x with ahead := true } else x
    { d with coh := { d.coh with conflicts := d.coh.conflicts ++ [(q, r)], queue := d.coh.queue.map goes } }.pumpQueue
  | none => d.respond r {}

/-- May a request act on its home slice: its region, as it stands at this place in the slice's order, admits it (R51, R58, R67)? MemClnEvct,
BIConflict and the commands of a batch are never refused (R682). -/
def admits (r : Request) : Bool :=
  match r.op, r.attr with
  | .cleanEvict, _ | .biConflict, _ | .batchCommit _, _ | .batchAbort .., _ | .outcome _, _ => true
  | _, some g => mayAccess r g
  | _, none => false

/-- A request reaches its home slice: its place in the order is taken, with the attributes that its region has now (R58); it is served, or waits in
the line queue. -/
def Device.arrive (d : Device) (r : Request) : Device :=
  let r := { r with seen := d.coh.nextSid, order := d.coh.arrivals, attr := (d.regionOf r.qla).map Prod.snd }
  let d := { d with coh := { d.coh with arrivals := d.coh.arrivals + 1 } }
  if !(admits r) then (d.refuse r 1).deliver r (refusedAnswer r)
  else match r.op with
  | .biConflict => d.biConflictDo r
  | _ =>
    match d.enter r with
    | (d, true) => d.advanceCommits.pumpQueue
    | (d, false) => d

/-- A command of a batch goes to the batch's home by the address of its first line (R165). -/
def Device.routeBatch (d : Device) (r : Request) : Device :=
  match (d.regionOf r.qla).bind (fun e => d.homeArr r.qla e.2) with
  | some a => if a = d.myArr then d.arrive r else d.forward r (some a)
  | none => d.arrive r

/-- A request at its arrival device: refused, served here, or forwarded (R45, R48, R67). -/
def Device.route (d : Device) (r : Request) : Device :=
  match r.op with
  | .batchCommit _ | .batchAbort .. | .outcome _ => d.routeBatch r
  | _ =>
  if d.qlaLimit ≤ r.qla ∧ (r.op = .cleanEvict ∨ r.op = .biConflict) then d.deliver r {}
  else if d.qlaLimit ≤ r.qla then (d.refuse r 2).deliver r (refusedAnswer r)
  else match d.regionOf r.qla with
    | none => if r.op = .cleanEvict ∨ r.op = .biConflict then d.deliver r {}
        else (d.refuse r 3).deliver r (refusedAnswer r)
    | some (_, g) =>
      if !(mayAccess r g) then (d.refuse r 4).deliver r (refusedAnswer r)
      else match d.homeArr r.qla g with
        | some a => if a = d.myArr then d.arrive r else d.forward r (some a)
        | none => d.forward r none

/-- A batch command goes to the batch's home. -/
def Device.routeTo1 (d : Device) (r : Request) (home : Nat) : Device :=
  if home = d.myArr then d.arrive r else d.forward r (some home)

end Sys2Proof.Machine
end

