-- ==== Sys2Proof/Machine/Engine.lean ====
section
/-! DEFINITION. What the Assayer, the DMA engine and the multicast engine share: accesses at home slices and on host
links, submission and completion rings, and the loss of a host link's outbound path (R316 to R321, R376 to R386). -/

namespace Sys2Proof.Machine

/-! ### Accesses at home slices (R140, R316) -/

/-- The request of a device engine. -/
def engineReq (d : Device) (kind q cls qla : Nat) (op : HomeOp) : Request :=
  { origin := .engine kind q, who := 4096, win := 0, arr := d.myArr, cls := cls, deadline := 0, qla := qla, op := op }

/-- Read lines for an engine; the answer comes to the engines' inbox. -/
def Device.engRead (d : Device) (kind q cls qla n : Nat) : Device := d.route (engineReq d kind q cls qla (.siteRead n false))

/-- The mask of `n` bytes of a line from byte `o`. -/
def byteMask (o n : Nat) : BitVec 64 := BitVec.ofNat 64 ((2 ^ n - 1) * 2 ^ o)

/-- Write bytes that lie within one line for an engine. -/
def Device.engWrite (d : Device) (kind q cls addr : Nat) (bytes : List Nat) : Device :=
  let o := addr % 64
  let v := lineOfBytes (List.replicate o 0 ++ bytes)
  let op := if bytes.length = 64 then HomeOp.siteWrite [v] false else .siteWriteMasked v (byteMask o bytes.length) false
  (d.chargeBytes cls bytes.length).route (engineReq d kind q cls (64 * (addr / 64)) op)

/-- Take an engine's answers out of the inbox. -/
def Device.takeInbox (d : Device) (kind q : Nat) : Device × List EngineAnswer :=
  let mine := d.eng.inbox.filter (fun a => a.kind == kind && a.q == q)
  ({ d with eng := { d.eng with inbox := d.eng.inbox.filter (fun a => !(a.kind == kind && a.q == q)) } }, mine)

/-- The status of an engine's read: refused, poisoned, or good. -/
def readStatus (a : EngineAnswer) : Nat := if a.status ≠ 0 then a.status else if a.data.any (fun v => v.2) then 1 else 0

/-! ### Outbound requests (R376, R377) -/

/-- May the device send outbound requests on a host link now (R390, R393, R394)? -/
def Device.outUsable (d : Device) (p l : Nat) : Bool :=
  let h := d.hostLink p l
  h.bme && !h.contained && !h.flr && (h.state == .upIo || h.state == .upMem)

/-- The lowest free tag of a link. -/
def HostLink.freeTag (h : HostLink) : Option Nat := (List.range 1024).find? (fun t => h.tags.all (fun x => x.tag != t))

/-- How many bytes of a read fit in one request: to Max_Read_Request_Size and to the next 4 KiB boundary. -/
def HostLink.pieceLen (h : HostLink) (addr len : Nat) : Nat := min len (min h.mrrs (4096 - addr % 4096))

/-- Send one outbound read; false where no tag is free or the link may not be used. -/
def Device.outPiece (d : Device) (p l addr len kind q off : Nat) : Device × Bool :=
  let h := d.hostLink p l
  if d.outUsable p l then
    match h.freeTag with
    | some t =>
      let x : OutTag := { tag := t, addr := addr, len := len, kind := kind, q := q, off := off, gen := h.tagGen, sent := d.time }
      let gen := if h.tagGen then 2 ^ 13 else 0
      ((d.setHostLink p l { h with tags := h.tags ++ [x] }).send (.hostRead p l (t + gen) addr len { ido := h.idoReq }), true)
    | none => (d, false)
  else (d, false)

/-- Send an outbound posted write; false where the link may not be used. -/
def Device.outWrite (d : Device) (p l addr : Nat) (bytes : List Nat) (poison : Bool) : Device × Bool :=
  if d.outUsable p l then (d.send (.hostWrite p l addr bytes poison { ido := (d.hostLink p l).idoReq }), true) else (d, false)

/-! ### Rings (R316, R318, R382) -/

/-- Is the ring one of the DMA engine? -/
def isDma (r : Nat) : Bool := 100 ≤ r

/-- Bytes of a submission entry. -/
def entrySize (r : Nat) : Nat := if isDma r then 32 else 64

/-- Entries of the submission ring. -/
def Device.sqSize (d : Device) (r : Nat) : Nat := 2 ^ d.ringReg r ASSAY.Q_SIZE.SQ_LOG2 DMA.Q_SIZE.SQ_LOG2
/-- Entries of the completion ring. -/
def Device.cqSize (d : Device) (r : Nat) : Nat := 2 ^ d.ringReg r ASSAY.Q_SIZE.CQ_LOG2 DMA.Q_SIZE.CQ_LOG2
/-- Do the rings lie in host memory? -/
def Device.ringOnHost (d : Device) (r : Nat) : Bool := d.ringReg r ASSAY.Q_CTL.LOC DMA.Q_CTL.LOC == 1
/-- A ring base by its registers; of a QLA only bits [45:0] are used (R326). -/
def Device.ringBase (d : Device) (r lo hi : Nat) : Nat := 4096 * lo + 2 ^ 32 * (if d.ringOnHost r then hi else hi % 2 ^ 14)
/-- The base of the submission ring. -/
def Device.sqBase (d : Device) (r : Nat) : Nat :=
  d.ringBase r (d.ringReg r ASSAY.SQ_BASE_LO.BASE_LO DMA.SQ_BASE_LO.BASE_LO) (d.ringReg r ASSAY.SQ_BASE_HI.BASE_HI DMA.SQ_BASE_HI.BASE_HI)
/-- The base of the completion ring. -/
def Device.cqBase (d : Device) (r : Nat) : Nat :=
  d.ringBase r (d.ringReg r ASSAY.CQ_BASE_LO.BASE_LO DMA.CQ_BASE_LO.BASE_LO) (d.ringReg r ASSAY.CQ_BASE_HI.BASE_HI DMA.CQ_BASE_HI.BASE_HI)
/-- Is the queue bound to a link? -/
def Device.ringBound (d : Device) (r : Nat) : Bool := d.ringReg r ASSAY.Q_CTL.BIND_VALID DMA.Q_CTL.BIND_VALID == 1
/-- The port of the bound link. -/
def Device.ringPort (d : Device) (r : Nat) : Nat := d.ringReg r ASSAY.Q_CTL.PORT DMA.Q_CTL.PORT
/-- The link of the bound link. -/
def Device.ringLink (d : Device) (r : Nat) : Nat := d.ringReg r ASSAY.Q_CTL.LINK DMA.Q_CTL.LINK
/-- The class of the queue's traffic. -/
def Device.ringClass (d : Device) (r : Nat) : Nat := d.ringReg r ASSAY.Q_CTL.CLASS DMA.Q_CTL.CLASS

/-- Start the fetch of the next submission entry, one at a time and in order (R318); it waits while no tag of the ring's link is free (R376). -/
def Device.ringFetch (d : Device) (r : Nat) : Device :=
  let x := d.ring r
  let p := d.ringPort r; let l := d.ringLink r
  let full := d.ringOnHost r && d.ringBound r && d.outUsable p l && (d.hostLink p l).freeTag.isNone
  if x.state ≠ 1 ∨ x.aborting ∨ x.disabling ∨ x.stopping ∨ x.fetching ∨ x.head = x.tail ∨ full then d
  else
    let kind := if isDma r then 2 else 0
    let addr := d.sqBase r + entrySize r * x.head
    let d := d.setRing r { x with fetching := true }
    if d.ringOnHost r then
      let (d, ok) := if d.ringBound r then d.outPiece p l addr (entrySize r) kind r 0 else (d, false)
      if ok then d
      else { d with eng := { d.eng with inbox := d.eng.inbox ++ [{ kind := kind, q := r, qla := 0, status := 7 }] } }
    else d.engRead kind r (d.ringClass r) (64 * (addr / 64)) 1

/-- The submission entry that an answer carries. -/
def Device.entryOf (d : Device) (r : Nat) (a : EngineAnswer) : List Nat :=
  if a.bytes.isEmpty then
    let addr := d.sqBase r + entrySize r * (d.ring r).head
    ((lineBytes (a.data.headD (0, false)).1).drop (addr % 64)).take (entrySize r)
  else a.bytes

/-! ### Completions (R319, R384) -/

/-- Is the completion ring full: would the next write reach CQ_HEAD? -/
def Device.cqFull (d : Device) (r : Nat) : Bool :=
  let x := d.ring r
  (x.cqTail + 1) % d.cqSize r == x.cqHead

/-- Write a completion entry at the tail, with PHASE and SQ_HEAD of the moment. -/
def Device.writeCpl (d : Device) (r : Nat) (bytes : List Nat) (wasHeld : Bool) : Device :=
  let x := d.ring r
  let b := bytes.take 3 ++ [if x.phase then 1 else 0] ++ (bytes.drop 4).take 4 ++ leBytes 2 x.head ++ bytes.drop 10
  let addr := d.cqBase r + 16 * x.cqTail
  let t := (x.cqTail + 1) % d.cqSize r
  let d := d.setRing r { x with cqTail := t, phase := if t = 0 then !x.phase else x.phase }
  if d.ringOnHost r then
    let (d, ok) := if d.ringBound r then d.outWrite (d.ringPort r) (d.ringLink r) addr b false else (d, false)
    if ok then d.cplWritten r wasHeld else d.stopRing r
  else d.engWrite (if wasHeld then 7 else 4) r (d.ringClass r) addr b

/-- Jobs, descriptors and held completions of a ring that remain. -/
def Device.ringWork (d : Device) (r : Nat) : Bool :=
  d.eng.jobs.any (fun j => j.queue == r) || d.eng.dma.any (fun x => x.ring == r) || d.eng.held.any (fun h => h.ring == r)

/-- When no job remains, an abort ends in STOPPED and a disable in DISABLED (R320); a queue that a bad fetch stops
enters STOPPED (R318). -/
def Device.ringSettle (d : Device) (r : Nat) : Device :=
  if d.ringWork r then d
  else
    let x := d.ring r
    if x.disabling then d.setRing r { x with state := 0, disabling := false, aborting := false, fetching := false }
    else if x.aborting ∨ x.stopping then d.stopRing r
    else d

/-- A job or descriptor ends: its status, its flag, and its completion entry written or held. A completion that finds the
ring full while the queue is disabled is dropped (R320). -/
def Device.complete (d : Device) (r status : Nat) (bytes : List Nat) : Device :=
  let x := d.ring r
  let d := d.setRing r { x with last := status }
  let d := d.countWrap (if isDma r then DMA.DESCS_DONE.COUNT else ASSAY.JOBS_DONE.COUNT)
  if d.cqFull r then
    if x.disabling ∨ x.state = 0 then d
    else ({ d with eng := { d.eng with held := d.eng.held ++ [{ ring := r, bytes := bytes }] } } : Device).doneEvt r
  else d.writeCpl r bytes false

/-- Write held completions of a ring while it has room. -/
def Device.releaseHeld (d : Device) (r : Nat) : Nat → Device
  | 0 => d
  | fuel + 1 =>
    match d.eng.held.find? (fun h => h.ring == r) with
    | some h =>
      if d.cqFull r then d
      else (({ d with eng := { d.eng with held := d.eng.held.erase h } }).writeCpl r h.bytes true).releaseHeld r fuel
    | none => d

/-- The completion entry of a job (R319). -/
def jobCpl (j : Job) (status : Nat) : List Nat :=
  (j.desc.drop 2).take 2 ++ [status, 0] ++ leBytes 4 j.next ++ [0, 0] ++ leBytes 2 (min j.unrep 65535)
    ++ leBytes 2 (min j.incon 65535) ++ leBytes 2 (min j.lost 65535)

/-- The completion entry of a descriptor (R384). -/
def dmaCpl (x : DmaRun) (status : Nat) : List Nat :=
  (x.desc.drop 2).take 2 ++ [status, 0] ++ leBytes 4 x.moved ++ List.replicate 8 0

/-- A job ends with a completion. -/
def Device.endJob (d : Device) (j : Job) (status : Nat) : Device :=
  (({ d with eng := { d.eng with jobs := d.eng.jobs.filter (fun k => k.id != j.id),
                                 inbox := d.eng.inbox.filter (fun a => !((a.kind == 1 || a.kind == 5) && a.q == j.id)) } }).complete
    j.queue status (jobCpl j status)).ringSettle j.queue

/-- A descriptor ends with a completion. -/
def Device.endDma (d : Device) (x : DmaRun) (status : Nat) : Device :=
  (({ d with eng := { d.eng with dma := d.eng.dma.filter (fun y => y.id != x.id),
                                 inbox := d.eng.inbox.filter (fun a => !((a.kind == 3 || a.kind == 8) && a.q == x.id)) } }).complete
    x.ring status (dmaCpl x status)).ringSettle x.ring

/-! ### Doorbells, enable, disable, abort (R318 to R320, R327) -/

/-- BAD_DOORBELL of a ring's page. -/
def Device.badDoorbell (d : Device) (r : Nat) : Device :=
  d.raise (if isDma r then DMA.flag.BAD_DOORBELL else ASSAY.flag.BAD_DOORBELL) 0 [] [] false

/-- A write of SQ_TAIL_q. -/
def Device.sqTail (d : Device) (r v : Nat) : Device :=
  let x := d.ring r
  if d.sqSize r ≤ v ∨ x.state ≠ 1 then d.badDoorbell r
  else (((d.setReg (ringF r ASSAY.SQ_TAIL.TAIL DMA.SQ_TAIL.TAIL) v (r % 100)).setRing r { x with tail := v })).ringFetch r

/-- A write of CQ_HEAD_q. -/
def Device.cqHeadWrite (d : Device) (r v : Nat) : Device :=
  let x := d.ring r
  if d.cqSize r ≤ v ∨ x.state ≠ 1 then d.badDoorbell r
  else
    let d := (d.setReg (ringF r ASSAY.CQ_HEAD.HEAD DMA.CQ_HEAD.HEAD) v (r % 100)).setRing r { x with cqHead := v }
    (d.releaseHeld r (d.eng.held.length + 1)).ringSettle r

/-- CFG_BUSY of a ring's page. -/
def Device.cfgBusy (d : Device) (r : Nat) : Device :=
  d.raise (if isDma r then DMA.flag.CFG_BUSY else ASSAY.flag.CFG_BUSY) 0 [] [] false

/-- ENABLE = 1: a DISABLED queue becomes ACTIVE with heads and tails at 0 and PHASE 1; while jobs remain it is ignored. -/
def Device.ringEnable (d : Device) (r : Nat) : Device :=
  let x := d.ring r
  if x.disabling then d.cfgBusy r
  else if x.state ≠ 0 then d
  else
    let d := d.setReg (ringF r ASSAY.Q_CTL.ENABLE DMA.Q_CTL.ENABLE) 1 (r % 100)
    let d := (d.setReg (ringF r ASSAY.SQ_TAIL.TAIL DMA.SQ_TAIL.TAIL) 0 (r % 100)).setReg (ringF r ASSAY.CQ_HEAD.HEAD DMA.CQ_HEAD.HEAD) 0 (r % 100)
    let d := { d with eng := { d.eng with inbox := d.eng.inbox.filter (fun a => !((a.kind == 0 || a.kind == 2) && a.q == r)) } }
    d.setRing r { state := 1, last := x.last }

/-- End the jobs of a ring that have not started, and mark those that run. -/
def Device.abortWork (d : Device) (r status : Nat) : Device :=
  let waiting := d.eng.jobs.filter (fun j => j.queue == r && !j.running)
  let d : Device := waiting.foldl (fun d j => d.endJob j status) d
  let d := { d with eng := { d.eng with
    jobs := d.eng.jobs.map (fun (j : Job) => if j.queue = r then { j with stop := some status } else j),
    dma := d.eng.dma.map (fun (x : DmaRun) => if x.ring = r then { x with stop := some status } else x) } }
  (d.eng.dma.filter (fun x => x.ring == r && !x.busy)).foldl (fun d x => d.endDma x status) d

/-- An abort reaches the completions of a ring that wait for room: their jobs end ABORTED (R324). -/
def Device.abortHeld (d : Device) (r status : Nat) : Device :=
  if d.eng.held.any (fun h => h.ring == r) then
    let d := { d with eng := { d.eng with held := d.eng.held.map (fun (h : HeldCpl) => if h.ring = r then { h with bytes := h.bytes.set 2 status } else h) } }
    d.setRing r { d.ring r with last := status }
  else d

/-- Q_CTL.ABORT = 1. -/
def Device.ringAbort (d : Device) (r : Nat) : Device :=
  let x := d.ring r
  let status := if isDma r then 6 else 4
  if x.state ≠ 1 then d
  else (((d.setRing r { x with aborting := true }).abortHeld r status).abortWork r status).ringSettle r

/-- ENABLE = 0: jobs abort, held completions are dropped, and the queue is DISABLED when no job remains. -/
def Device.ringDisable (d : Device) (r : Nat) : Device :=
  let x := d.ring r
  let d := d.setReg (ringF r ASSAY.Q_CTL.ENABLE DMA.Q_CTL.ENABLE) 0 (r % 100)
  if x.state = 0 then d
  else
    let d := { d with eng := { d.eng with held := d.eng.held.filter (fun h => h.ring != r) } }
    ((d.setRing r { x with disabling := true }).abortWork r (if isDma r then 6 else 4)).ringSettle r

/-! ### Loss of the outbound path (R321, R390, R393, R394) -/

/-- Is a ring bound to a host link? -/
def Device.ringOn (d : Device) (r p l : Nat) : Bool := d.ringBound r && d.ringPort r == p && d.ringLink r == l

/-- Every ring. -/
def allRings : List Nat := List.range 16 ++ [100, 101, 102, 103]

/-- The jobs, descriptors and fetches that use a link end HOST_ACCESS_REVOKED; a queue with its rings on the host keeps
the status and enters STOPPED. -/
def Device.revokeLink (d : Device) (p l : Nat) : Device :=
  (allRings.filter (fun r => d.ringOn r p l)).foldl (fun d r =>
    if d.ringOnHost r then
      if d.ringWork r ∨ (d.ring r).fetching then
        let ended := (d.eng.jobs.filter (fun j => j.queue == r)).length + (d.eng.dma.filter (fun x => x.ring == r)).length
        let d := { d with eng := { d.eng with jobs := d.eng.jobs.filter (fun j => j.queue != r),
                                              dma := d.eng.dma.filter (fun x => x.ring != r),
                                              held := d.eng.held.filter (fun h => h.ring != r) } }
        let d := (List.range ended).foldl (fun (d : Device) _ => d.countWrap (if isDma r then DMA.DESCS_DONE.COUNT else ASSAY.JOBS_DONE.COUNT)) d
        (d.setRing r { d.ring r with last := 5, fetching := false }).stopRing r
      else d
    else
      let js := d.eng.jobs.filter (fun j => j.queue == r && bitOf (j.desc.getD 6 0) 1)
      let d := js.foldl (fun d j => d.endJob j 5) d
      let xs := d.eng.dma.filter (fun x => x.ring == r && ((x.desc.getD 0 0 == 1 && x.desc.getD 4 0 % 4 == 1) || x.desc.getD 4 0 / 4 % 4 == 1))
      xs.foldl (fun d x => d.endDma x 5) d) d

/-- The end of a drain or a force release: old tags go, the tag generation inverts, and an FLR that drained completes
(R394, R395). -/
def Device.flipGen (d : Device) (p l : Nat) : Device :=
  let h := d.hostLink p l
  let d := d.setHostLink p l { h with tagGen := !h.tagGen, draining := false, flr := false, tags := h.tags.filter (fun t => !t.old) }
  if h.flr then d.evt (HOST.flag.FLR_DONE l) p else d

/-- Release every tag at once (R390, R396); an FLR completes with it (R398). -/
def Device.releaseTags (d : Device) (p l : Nat) : Device :=
  let h := d.hostLink p l
  let d := d.setHostLink p l { h with tags := [], tagGen := !h.tagGen, draining := false, flr := false }
  if h.flr then d.evt (HOST.flag.FLR_DONE l) p else d

/-- Start a drain (R393, R394): open tags are old; a drain with no tag open ends at once. -/
def Device.startDrain (d : Device) (p l : Nat) : Device :=
  let h := d.hostLink p l
  let d := d.setHostLink p l { h with tags := h.tags.map (fun t => { t with old := true }), draining := true }
  (if h.tags.isEmpty then d.flipGen p l else d).revokeLink p l

end Sys2Proof.Machine
end

