-- ==== Sys2Proof/Machine/HostOps.lean ====
section
/-! DEFINITION. What the host ports share: requests of host links, the end of snoops, the loss of a host link, batch
windows that close, containment and link resets (Coherence and the Directory; Host Ports; Batches). -/

namespace Sys2Proof.Machine

/-! ### The end of snoops (R137, R147, R151, R156) -/

/-- Does this device home a line now (R133, R464)? -/
def Device.homesLine (d : Device) (line : Nat) : Bool :=
  match d.regionOfLine line with
  | some (_, g) => homePosition d.membersLog2 (d.qlaOfLine line / 4096) == d.qid && d.leadsSlice g (homeSlice line)
  | none => true

/-! ### Taking back the copies held through links of a device (R157, R397, R493) -/

/-- Does a pointer name a host link that is recalled: a host, or 32 for every host, of an arrival device? -/
def recallHits (arr host : Nat) (t : Ptr) : Bool := t.arr == arr && (host == 32 || t.host == host)

/-- Take back the copies of one line: named holders by snoops, untracked ones by a broadcast. -/
def Device.recallLine (d : Device) (line arr host : Nat) : Device :=
  let e := d.entry line
  if e.lovf || d.untrackedLine line then
    match d.regionOfLine line with
    | some (_, g) => d.broadcast line g .handover none
    | none => d.logDrop line
  else
    let ts := e.ptrs.filter (recallHits arr host)
    let d := ts.foldl (fun d t => d.sendSnoop line .inv t false .handover) d
    if d.linePend line then d else d.dropPtrs line (recallHits arr host)

/-- Must the recall of a line wait: a snoop is in flight for it, or an earlier request waits in its line queue (R493)? -/
def Device.recallWaits (d : Device) (line : Nat) : Bool :=
  d.linePend line || d.coh.queue.any (fun r =>
    !(r.op == .hostInv && d.coh.noGrant.contains r.arr) && (d.reqLines r).contains line)

/-- Start the recalls whose lines are free. -/
def Device.recallStep (d : Device) : Device :=
  let go := d.coh.recalling.filter (fun x => !d.recallWaits x.1)
  let d := { d with coh := { d.coh with recalling := d.coh.recalling.filter (fun x => !(go.contains x)) } }
  go.foldl (fun (d : Device) x => d.recallLine x.1 x.2.1 x.2.2) d

/-- Are copies of these links still being taken back here? -/
def Device.recallBusy (d : Device) (arr host : Nat) : Bool :=
  d.coh.recalling.any (fun x => x.2.1 == arr && x.2.2 == host)
    || d.coh.snoops.any (fun s => s.use == .handover && (s.broadcast || recallHits arr host s.target))

/-- Answer the homes' askers whose recall has ended, and end the CXL Resets that wait for nothing (R397). -/
def Device.recallEnds (d : Device) : Device :=
  let done := d.coh.recallFor.filter (fun x => !d.recallBusy x.1 x.2)
  let d := { d with coh := { d.coh with recallFor := d.coh.recallFor.filter (fun x => !(done.contains x)) } }
  let d := done.foldl (fun (d : Device) x => d.tellDev x.1 0 (.handover x.1 d.myArr 2 x.2)) d
  (List.range 8).foldl (fun d k =>
    let p := k / 2; let l := k % 2
    let h := d.hostLink p l
    let host := d.reg (HOST.HOST_ID.HOST_ID l) p
    if h.resetting && !d.recallBusy d.myArr host && !(d.coh.recallWait.any (fun x => x.2 == host)) then
      d.setHostLink p l { h with resetting := false, decoders := [], decErr := [], biEnable := false }
    else d) d

/-- The lines of the sets marked UNTRACKED that have neither an entry nor a log place: hosts may hold any of them (R683). -/
def Device.untrackedLines (d : Device) : List Nat :=
  d.coh.untracked.flatMap (fun set => ((List.range (2 ^ 18)).map (lineOfTag set)).filter (fun l =>
    decide (lpnOf l < d.nloaf) && (KMap.find d.coh.dir l).isNone && !(d.coh.log.contains l)))

/-- Lines that may be held through links of a device, of those that this device homes. -/
def Device.recallLines (d : Device) (arr host : Nat) : List Nat :=
  (((d.coh.dir.filter (fun e => e.2.lovf || e.2.ptrs.any (recallHits arr host))).map Prod.fst ++ d.coh.log).eraseDups
    ++ d.untrackedLines).filter (fun l => d.homesLine l)

/-- Answer a twin fetch from this device's own copy (R426, R473). One whose channel retrains here waits. -/
def Device.serveFetchOne (d : Device) (f : Nat × Nat × Nat) : Device :=
  if d.chanWaits f.2.1 then { d with twin := { d.twin with serveFetch := d.twin.serveFetch ++ [f] } }
  else
    let (d, v, p) := d.readLine f.2.1 f.2.2 false
    d.twinTell f.2.1 (.fetchData f.1 (d.wireData f.2.1 v p) p)

/-- Try the twin fetches that wait here. -/
def Device.serveFetches (d : Device) : Device :=
  let fs := d.twin.serveFetch
  fs.foldl (fun (d : Device) f => d.serveFetchOne f) { d with twin := { d.twin with serveFetch := [] } }

/-! ### A destroyed region leaves this device (R58) -/

/-- Empty a loaf: its frame, its migration and its slices go, and its record takes a state without slices. `el` tells that
its slices count in the Elastic charge. -/
def Device.emptyLoaf (d : Device) (lpn st : Nat) (el : Bool) : Device :=
  let d := d.cancelMigration lpn
  let r := d.loaf lpn
  let d := d.freeSlices r.bin r.slices
  let d := { d with tier := { d.tier with frames := KMap.drop d.tier.frames lpn, fetched := d.tier.fetched.keep (fun l _ => lpnOf l != lpn),
                                          elCharge := if el then d.tier.elCharge - r.nslice else d.tier.elCharge } }
  (d.writeRecord lpn st).capUpdate

/-- Take back the host copies of a line under the attributes of a region: named holders by snoops, untracked ones by a
broadcast (R58). -/
def Device.takeBack (d : Device) (line : Nat) (r : Region) : Device :=
  let d := d.purgeLost line
  let e := d.entry line
  if e.lovf || d.untrackedLine line then d.broadcast line r .destroy none
  else
    let d := e.ptrs.foldl (fun d t => d.sendSnoop line .inv t false .destroy) d
    if d.linePend line then d else d.setEntry line { e with state := 0, ptrs := [] }

/-- The lines whose host copies a DESTROY takes back here: those that this device homes. -/
def Device.heldLines (d : Device) (r : Region) : List Nat :=
  ((d.coh.dir.map Prod.fst ++ d.coh.log).eraseDups ++ d.untrackedLines).filter (fun l => regionCovers r (d.qlaOfLine l) && d.homesLine l)

/-- The local pages of a region that a condition holds of. -/
def Device.pagesOf (d : Device) (r : Region) (ok : Nat → Bool) : List Nat :=
  d.knownPages.filter (fun p => regionCovers r (qlaOf d.membersLog2 d.qid (4096 * p)) && ok p)

/-- Empty pages of a region. -/
def Device.emptyPages (d : Device) (r : Region) (ok : Nat → Bool) : Device :=
  ((d.pagesOf r ok).foldl (fun d p => d.emptyLoaf p 0 (r.cap == 1)) d).capUpdate

/-- Replace a region that leaves; one that holds nothing any more is forgotten. -/
def Device.setLeaving (d : Device) (rid : Nat) (x : Leaving) : Device :=
  { d with regions := { d.regions with leaving :=
      if x.emptied && x.streams.isEmpty then KMap.drop d.regions.leaving rid else KMap.put d.regions.leaving rid x } }

/-- A region that leaves goes on: once no request ordered before the DESTROY waits, the host copies are taken back; once those are back, the pages
homed here are emptied, and the twin is told on both streams that no change of them follows. -/
def Device.leaveStep (d : Device) (rid : Nat) (x : Leaving) : Device :=
  let mine (l : Nat) : Bool := regionCovers x.region (d.qlaOfLine l)
  if x.emptied || !d.coh.flushWait.isEmpty then d
  else
    let d := if x.taking ∨ d.coh.queue.any (fun q => (d.reqLines q).any mine) then d
      else (d.heldLines x.region).foldl (fun d l => d.takeBack l x.region) (d.setLeaving rid { x with taking := true })
    match KMap.find d.regions.leaving rid with
    | some y =>
      if !y.taking ∨ d.coh.snoops.any (fun s => mine s.line) then d
      else
        let d := d.emptyPages y.region (fun p => d.homesLine (64 * p))
        let told := d.twinServes || (d.twin.resyncRun && d.twin.resyncSource)
        let d := if told then [0, 1].foldl (fun (d : Device) k => (d.twinSend k (.tableCmd ((1 - d.side) * 4 + d.qid) (.drop rid k))).1) d else d
        d.setLeaving rid { y with emptied := true }
    | none => d

/-- This device has finished the table command that is carried out: the coordinator is told (R53, R293). -/
def Device.tableDone (d : Device) : Device :=
  match d.coordinator with
  | some a =>
    if a = d.myArr then { d with regions := { d.regions with await := d.regions.await.filter (fun x => x != d.myArr) } }
    else d.tellDev a 0 (.tableCmd a (.done d.myArr))
  | none => d

/-- The regions that leave go on; once none is left, and no host copy of a line that a command empties is still taken back, the command is
finished here. -/
def Device.destroyAdvance (d : Device) : Device :=
  let d := d.regions.leaving.foldl (fun (d : Device) e => d.leaveStep e.1 e.2) d
  if d.regions.owing && d.regions.leaving.isEmpty && !(d.coh.snoops.any (fun s => s.use == .destroy)) then
    { d with regions := { d.regions with owing := false } }.tableDone
  else d

/-- After snoops ended: commits that wait for owners, waiting requests, regions that leave, recalls and twin fetches proceed. -/
def Device.proceed (d : Device) : Device := d.advanceCommits.pumpQueue.destroyAdvance.recallStep.recallEnds.serveFetches.releaseFetches

/-- Take back, at this home, every copy held through links of a device. -/
def Device.recallHere (d : Device) (arr host : Nat) : Device :=
  let ls := d.recallLines arr host
  { d with coh := { d.coh with recalling := d.coh.recalling ++ ls.map (fun l => (l, arr, host)) } }

/-- Take back every copy held through links of this device: here, and at every other home in service. -/
def Device.recallAll (d : Device) (host : Nat) : Device :=
  let others := d.twin.inService.filter (fun a => a != d.myArr)
  let d := d.recallHere d.myArr host
  let d := { d with coh := { d.coh with recallWait := d.coh.recallWait ++ others.map (fun a => (a, host)) } }
  (others.foldl (fun (d : Device) a => d.tellDev a 0 (.handover a d.myArr 1 host)) d).proceed

/-- Take a snoop out of those in flight; the line's entry follows once none is left. -/
def Device.dropSnoop (d : Device) (s : Snoop) : Device :=
  let d := { d with coh := { d.coh with snoops := d.coh.snoops.filter (fun x => x.sid != s.sid) } }
  if d.linePend s.line then d else d.snoopsDone s.line

/-- The change an answer makes to the entry (R135): the pointer goes with I or an invalidate, S remains with S. -/
def answerEntry (e : DirEntry) (s : Snoop) (ans : SnoopAnswer) : DirEntry :=
  if s.broadcast then e
  else match s.kind, ans with
    | .inv, _ => e.unshare s.target
    | _, .rspI => e.unshare s.target
    | .data, _ => { e with state := 1 }
    | .cur, .rspS => { e with state := 1 }
    | .cur, _ => e

/-- Note an answered BISnpCur at the earliest waiting request of its line. -/
def markCur (line : Nat) (hit : Request → Bool) : List Request → List Request
  | [] => []
  | r :: l => if hit r then { r with cur := r.cur ++ [line] } :: l else r :: markCur line hit l

/-- A snoop's answer reaches the home. -/
def Device.snoopAnswer (d : Device) (sid : Nat) (ans : SnoopAnswer) : Device :=
  match d.coh.snoops.find? (fun s => s.sid == sid) with
  | none => d
  | some s =>
    let e := d.entry s.line
    let q := if s.kind = .cur ∧ s.use ≠ .copy then markCur s.line (fun r => (d.reqLines r).contains s.line) d.coh.queue else d.coh.queue
    let cur := if s.use = .copy then d.twin.resyncCur ++ [s.line] else d.twin.resyncCur
    let d := { d with coh := { d.coh with queue := q }, twin := { d.twin with resyncCur := cur } }
    ((d.setEntry s.line (answerEntry e s ans)).dropSnoop s).proceed

/-- Snoops in flight to a lost link end (R156): the owner of a line in E leaves it poisoned. -/
def Device.endLost (d : Device) (host arr : Nat) : Device :=
  let gone := d.coh.snoops.filter (fun s => s.target.arr == arr && (s.target.host == host || host == 32))
  let d := gone.foldl (fun (d : Device) s =>
    let d := d.purgeLost s.line
    d.dropSnoop s) d
  d.proceed

/-- A host link is lost: its pointers count as absent until the sweep has handled them (R156). -/
def Device.loseLink (d : Device) (host arr : Nat) : Device :=
  let t : Ptr := { host := host, win := 0, arr := arr }
  let ts := if d.coh.lostPtrs.contains t then d.coh.lostPtrs else d.coh.lostPtrs ++ [t]
  let d := { d with coh := { d.coh with lossSweep := true, lostPtrs := ts } }
  d.endLost host arr

/-! ### Requests of a host link -/

/-- The host ID of a link. -/
def Device.hostId (d : Device) (p l : Nat) : Nat := d.reg (HOST.HOST_ID.HOST_ID l) p
/-- Is its host ID assigned? -/
def Device.hostValid (d : Device) (p l : Nat) : Bool := d.flagReg (HOST.HOST_ID.VALID l) p

/-- Does a link exist: L1 only on a split port, else its registers have no effect (R62, R359)? -/
def Device.linkPresent (d : Device) (p l : Nat) : Bool := l == 0 || (d.hostLink p 0).split

/-- Is there a VALID link with the same host ID and a lower port and link number (R126)? -/
def Device.hostDup (d : Device) (p l : Nat) : Bool :=
  (List.range (2 * p + l)).any (fun k => d.linkPresent (k / 2) (k % 2) && d.hostValid (k / 2) (k % 2) && d.hostId (k / 2) (k % 2) == d.hostId p l)

/-- Is some link a duplicate? -/
def Device.anyDup (d : Device) : Bool :=
  (List.range 8).any (fun k => d.linkPresent (k / 2) (k % 2) && d.hostValid (k / 2) (k % 2) && d.hostDup (k / 2) (k % 2))

/-- Does a committed decoder of the link cover the address (R370)? -/
def HostLink.decodes (h : HostLink) (dpa : Nat) : Bool :=
  h.decoders.any (fun e => decide (e.2.dpa ≤ dpa) && decide (dpa < e.2.dpa + e.2.size))

/-- The request that a host link's message makes. -/
def Device.hostReq (d : Device) (p l tag dpa : Nat) (op : HomeOp) : Request :=
  let (w, qla) := d.windowDecode p l dpa
  { origin := .host p l tag, who := d.hostId p l, win := w, arr := d.myArr, cls := w % 16, deadline := 0, qla := qla,
    op := op, port := 2 * p + l }

/-- A CXL.mem request of a host link (R60, R67, R126, R370). HOST_DUP returns to 0 with the first request that any link of this device in
UP_MEM brings once no link is a duplicate; MemSpecRd and the requests of sites do not count (R160; DESIGN CHOICE, log entry 112). -/
def Device.hostIntake (d : Device) (p l tag dpa : Nat) (op : HomeOp) : Device :=
  let h := d.hostLink p l
  if h.state ≠ .upMem then d
  else
    let d := if d.anyDup then d else d.dropErr COH.flag.HOST_DUP
    let r := d.hostReq p l tag dpa op
    let d := match op with | .hostWrite .. => d.chargeBytes r.cls 64 | _ => d
    if op = .cleanEvict ∨ op = .biConflict then d.route r
    else if d.hostValid p l && d.hostDup p l then
      let d := d.raise COH.flag.HOST_DUP 0 [] [] false
      (d.refuse r 5).deliver r (refusedAnswer r)
    else if !(d.hostValid p l) || !(d.windowOn p l r.win) || !(h.decodes dpa) then (d.refuse r 1).deliver r (refusedAnswer r)
    else if h.biEnable then d.route r
    else match op with
      | .hostRead _ => d.route { r with op := .hostRead .i }
      | .hostInv => d.setHostLink p l { h with waitBi := h.waitBi ++ [r] }
      | _ => d.route r

/-! ### Batch windows that close (R190) -/

/-- Is a window bound to a link? -/
def Device.winBound (d : Device) (n p l : Nat) : Bool :=
  d.flagReg BWIN.WIN_BIND.VALID n && d.reg BWIN.WIN_BIND.PORT n == p && d.reg BWIN.WIN_BIND.LINK n == l

/-- Take a batch of this device off its home, wherever that is (R45, R165). A batch that has written no line has no home: its arrival device counts
the abort (R161). -/
def Device.leaveHome (d : Device) (slot cause : Nat) : Device :=
  let x := d.slot slot
  match x.home with
  | some a => d.routeTo1 { origin := .dropped, who := slot, win := 0, arr := d.myArr, cls := 0, deadline := 0, qla := x.addr,
                           op := .batchAbort slot cause, bseq := x.bseq } a
  | none => d.countAbort cause

/-- Close a window: an OPEN batch aborts with the cause, an ABORTED one keeps its own; a commit completes. -/
def Device.closeWindow (d : Device) (n cause : Nat) : Device :=
  let s := 1024 + n; let x := d.slot s
  match x.state with
  | .opened => ((d.leaveHome s cause).setSlot s { x with state := .free, cause := 0, lines := 0, home := none }).winLast n 2 cause x.bseq
  | .aborted => (d.setSlot s { x with state := .free, cause := 0, lines := 0, home := none }).winLast n 2 x.cause x.bseq
  | _ => d

/-- Close every window bound to a link. -/
def Device.closeWindows (d : Device) (p l : Nat) : Device :=
  ((List.range 256).filter (fun n => d.winBound n p l)).foldl (fun d n => d.closeWindow n 5) d

/-- A site's batch aborts with RESET (R190): its slot stays ABORTED until the site closes it. -/
def Device.resetSlot (d : Device) (s : Nat) : Device :=
  if (d.slot s).state = .opened then (d.leaveHome s 5).slotAborted s 5 else d

/-! ### Losing a host link's traffic (R390, R396) -/

/-- Is a request one of a host link? -/
def fromLink (r : Request) (p l : Nat) : Bool :=
  match r.origin with
  | .host p' l' _ => p' == p && l' == l
  | _ => false

/-- A request loses its requester: a write goes on without a response, anything else is discarded. -/
def keepWrite (r : Request) (p l : Nat) : Option Request :=
  if fromLink r p l then
    match r.op with
    | .hostWrite .. => some { r with origin := .dropped }
    | _ => none
  else some r

/-- A waiter of a countersign loses its requester. -/
def dropWaiter (w : Waiter) (p l : Nat) : Waiter :=
  match w with
  | .request r a => if fromLink r p l then .request { r with origin := .dropped } a else w
  | w => w

/-- Commit the writes that arrived in full and discard the rest (R390). -/
def Device.discardLink (d : Device) (p l : Nat) : Device :=
  let h := d.hostLink p l
  let d := d.setHostLink p l { h with waitBi := [] }
  { d with
    coh := { d.coh with
      queue := d.coh.queue.filterMap (fun r => keepWrite r p l),
      csWait := d.coh.csWait.map (fun c => { c with waiter := dropWaiter c.waiter p l }),
      withheld := d.coh.withheld.filterMap (fun r => keepWrite r p l),
      conflicts := d.coh.conflicts.filter (fun c => !(fromLink c.1 p l) && !(fromLink c.2 p l)) },
    twin := { d.twin with forwards := d.twin.forwards.filterMap (fun f =>
      match keepWrite f.req p l with | some r => some { f with req := r } | none => none) } }

/-- A part of a broadcast has ended here: once no other is left, the home learns that the broadcast has ended on this device. -/
def Device.partEnds (d : Device) (x : RemoteSnoop) : Device :=
  let d := { d with coh := { d.coh with remote := d.coh.remote.filter (fun s => s.sid != x.sid) } }
  if d.coh.remote.any (fun s => s.home == x.home && s.frm == x.frm && !s.expired) then d
  else d.tellDev x.frm (d.lineOf x.qla) (.snoopAns x.frm x.home .rspI false 33 0 true)

/-- The snoops of other homes to a host whose link is lost end: those of a broadcast as if answered BIRspI, the others by the home itself, which is
told of the loss (R156). -/
def Device.endRemote (d : Device) (host : Nat) : Device :=
  let mine := d.coh.remote.filter (fun s => s.host == host)
  mine.foldl (fun (d : Device) s =>
    if s.part && !s.expired then d.partEnds s
    else { d with coh := { d.coh with remote := d.coh.remote.filter (fun t => t.sid != s.sid) } }) d

/-- What this device says of itself (R462, R463, R339). -/
def Device.myInfo (d : Device) : PeerInfo :=
  let code : Nat := match d.twin.svc with
    | .start => 0 | .join => 1 | .resync => 2 | .solo => 3 | .paired => 4 | .handingOver => 5 | .withdrawn => 6
  { side := d.side, qid := d.qid, logicalTib := d.logicalTib, members := d.membersLog2, uid := d.hw.uid, svc := code,
    gdeq := d.qos.table.gDeq, gt0 := d.qos.table.gT0, empty := d.regions.table.isEmpty,
    mgmtLost := d.twin.mgmtLost }

/-- Send a STATE report on the mesh links and the twin link. -/
def Device.tellState (d : Device) (lost : List Nat) : Device :=
  let ps := ([0, 1, 2].filter (fun p => d.twin.peerOk.contains p)) ++ d.twinLink.toList
  ps.foldl (fun (d : Device) p => d.peerSend p none (.state { d.myInfo with lost := lost })) d

/-- Tell the other homes of a lost host link (R156, log entry 13). -/
def Device.tellLost (d : Device) (host : Nat) : Device := d.tellState [host]

/-- The link of a margin plan's PORT_REEQ that runs is reset by something else: the item fails and is dropped (R599, R634). Kind 0 is a site link, 1 a
peer link, 2 a host link. -/
def Device.reeqFails (d : Device) (kind n : Nat) : Device :=
  if d.power.plan.current = some (.portReeq kind n) then
    let info := [1, kind] ++ leBytes 2 n
    { d with power := { d.power with plan := { d.power.plan with current := none, armed := none } } }.raise AGE.flag.ITEM_FAILED 0 info info
  else d

/-- What every loss of a link does to requests, tags, windows, engines and pointers. -/
def Device.cutLink (d : Device) (p l : Nat) : Device :=
  let d := d.reeqFails 2 (2 * p + l)
  let d := (((d.discardLink p l).releaseTags p l).closeWindows p l).revokeLink p l
  let d := if d.hostValid p l then ((d.endRemote (d.hostId p l)).loseLink (d.hostId p l) d.myArr).tellLost (d.hostId p l)
    else { d with coh := { d.coh with lossSweep := true } }
  let h := d.hostLink p l
  d.setHostLink p l { h with sweepPend := true }

/-- Contain a host link (R390). -/
def Device.contain (d : Device) (p l cause : Nat) : Device :=
  let h := d.hostLink p l
  if h.contained ∨ !d.linkPresent p l then d
  else
    let up := h.state = .upIo ∨ h.state = .upMem
    let d := d.cutLink p l
    let h := d.hostLink p l
    let d := d.setHostLink p l { h with state := .contained, contained := true, cause := cause, resetting := false, rate := 0, width := 0,
                                        flit256 := false }
    let d := if up then d.evt (HOST.flag.LINK_DOWN l) p else d
    d.evtRec (HOST.flag.CONTAINED l) p [l, cause] [l, cause]

/-- Contain every host link of the device (R389, causes 4 and 5). -/
def Device.containAll (d : Device) (cause : Nat) : Device :=
  (List.range 8).foldl (fun d k => d.contain (k / 2) (k % 2) cause) d

/-- A CXL.mem protocol error (R372). -/
def Device.protoErr (d : Device) (p l why : Nat) : Device :=
  let d := d.countSat (if l = 0 then HOST.PROTO_ERRS.COUNT 0 else HOST.PROTO_ERRS.COUNT 1) p
  let h := d.hostLink p l
  let d := d.setHostLink p l { h with rasUe := true }
  (d.raise (HOST.flag.PROTO_ERR l) p [l, why] [l, why]).contain p l 3

/-- Reset the function of a link as PERST does: configuration space, MSI-X, decoders (R391, R396). -/
def Device.resetFunction (d : Device) (p l : Nat) : Device :=
  let h := d.hostLink p l
  d.setHostLink p l { h with bme := false, biEnable := false, decoders := [], decErr := [], msixEnable := false,
                             msixFuncMask := false, msixOpen := [], msixPending := [], mrrs := 512, bar := 0, cto := 0, idoReq := false, idoCpl := false,
                             flr := false, draining := false, rasUe := false, aerCto := false, resetting := false }

/-- Apply the pending configuration of a port (R62, R359). A link L1 that appears on a device in service is not contained. -/
def Device.applyPortCfg (d : Device) (p : Nat) : Device :=
  let split := d.flagReg HOST.PORT_CFG.SPLIT p
  (List.range 2).foldl (fun d l =>
    let h := d.hostLink p l
    let new := l == 1 && split && !h.split && d.serving && h.contained
    d.setHostLink p l { h with split := split, winLog2 := d.reg (HOST.WIN_CFG.WIN_SIZE_LOG2 l) p,
                               lbase := d.reg (HOST.WIN_LBASE.LBASE l) p,
                               contained := h.contained && !new, state := if new then .down else h.state }) d

/-- Note a reset of a kind that RST_STAT and the ledger name (R628, R630). -/
def Device.noteReset (d : Device) (kind cause : Nat) (info : List Nat) : Device :=
  ((d.setReg RST.RST_STAT.LAST_KIND kind).setReg RST.RST_STAT.LAST_CAUSE cause).resetRecord kind cause info

/-- The state of a link that may train or not, by what holds it: PERST, a link disable, its page (R396, R642). -/
def Device.freeState (d : Device) (p l : Nat) : LState :=
  if d.host.perst.contains p then .inReset
  else if (d.hostLink p l).held || !(d.pageOn .host p) then .down else .training

/-- A link starts to train, or is contained again at once where the device is not in service or holds its links
(R392, R500). -/
def Device.trainOrHold (d : Device) (p l : Nat) : Device :=
  if !d.linkPresent p l then d
  else if d.twin.held500 then d.contain p l 4
  else if !d.serving then d.contain p l 5
  else d.setHostLink p l { d.hostLink p l with state := d.freeState p l }

/-- Release a contained link: its function is reset, its tags are released, and it trains (R391, R392, R396). -/
def Device.releaseLink (d : Device) (p l : Nat) : Device :=
  let d := (d.resetFunction p l).releaseTags p l
  let d := d.setHostLink p l { d.hostLink p l with contained := false, state := .down }
  (d.evt (HOST.flag.RELEASED l) p).trainOrHold p l

/-- A link loses its connection without being contained: traffic, tags, windows, function and copies (R396). A contained link
stays so (R398). -/
def Device.dropLink (d : Device) (p l : Nat) (st : LState) : Device :=
  if !d.linkPresent p l then d
  else
    let h := d.hostLink p l
    let up := h.state = .upIo ∨ h.state = .upMem
    let d := (d.cutLink p l).resetFunction p l
    let h := d.hostLink p l
    let d := d.setHostLink p l { h with state := if h.contained then .contained else st, rate := 0, width := 0,
                                        flit256 := false }
    if up then d.evt (HOST.flag.LINK_DOWN l) p else d

end Sys2Proof.Machine
end

