-- ==== Sys2Proof/Machine/BatchCmds.lean ====
section
/-! DEFINITION. Batch slots, batch windows and the commands of the batch engine (Batches, R161 to R194). -/

namespace Sys2Proof.Machine

/-! ### Slots (R164 to R166) -/

/-- Open a slot with a new BSEQ: 0 for the first batch after reset, then one more each time (R166). -/
def Device.openSlot (d : Device) (s : Nat) : Device :=
  let x := d.slot s
  d.setSlot s { state := .opened, opened := true, bseq := if x.opened then (x.bseq + 1) % 65536 else 0, openedAt := d.time }

/-- The slot of a batch is FREE again. -/
def Device.freeSlot (d : Device) (s : Nat) : Device :=
  d.setSlot s { d.slot s with state := .free, cause := 0, lines := 0, home := none }

/-- The arrival code of the home of an address, its lead device where none is in service (R165). -/
def Device.batchHome (d : Device) (qla : Nat) (g : Region) : Nat :=
  (d.homeArr qla g).getD (g.lead * 4 + homePosition d.membersLog2 (qla / 4096))

/-- A batch-flagged write of an open slot: the home of its line, if the requester may write it (R163, R165). -/
def Device.batchWriteHome (d : Device) (r : Request) : Option Nat :=
  match d.regionOf r.qla with
  | some (_, g) => if mayAccess r g && decide (r.qla < d.qlaLimit) then some (d.batchHome r.qla g) else none
  | none => none

/-- Send a batch write to its home; the first one fixes the batch's home, and its address stands for the batch in later commands (R165). -/
def Device.sendBatchWrite (d : Device) (r : Request) (home : Nat) : Device :=
  let x := d.slot r.who
  let d := if x.home.isNone then d.setSlot r.who { x with home := some home, addr := r.qla } else d
  d.route r

/-- Start the commit of an open slot that has a home. -/
def Device.sendCommit (d : Device) (s : Nat) (r : Request) (home : Nat) : Device :=
  (d.setSlot s { d.slot s with state := .committing }).routeTo1 r home

/-! ### Batch windows (R178 to R181) -/

/-- The base address of a window. -/
def Device.winBase (d : Device) (n : Nat) : Nat := 4096 * d.reg BWIN.WIN_BASE_LO.QLA_LO n + 2 ^ 32 * d.reg BWIN.WIN_BASE_HI.QLA_HI n

/-- The size, line and alignment rules of an aperture access (R179). -/
def apertureOk (off len : Nat) : Bool :=
  let a := if len ≤ 4 then 4 else if len ≤ 8 then 8 else if len ≤ 16 then 16 else if len ≤ 32 then 32 else 64
  decide (4 ≤ len) && decide (len ≤ 64) && len % 4 == 0 && off % a == 0 && decide (off % 64 + len ≤ 64)
    && decide (off < 4096)

/-- The request of a window. -/
def Device.winReq (d : Device) (n off tag len : Nat) (op : HomeOp) : Request :=
  let p := d.reg BWIN.WIN_BIND.PORT n; let l := d.reg BWIN.WIN_BIND.LINK n
  { origin := .window n tag len, who := 1024 + n, win := d.hostId p l, arr := d.myArr, cls := d.reg BWIN.WIN_CLASS.CLASS n,
    deadline := 0, qla := d.winBase n + off, op := op, bseq := (d.slot (1024 + n)).bseq, port := 2 * p + l }

/-- CMD_STATE of a window. -/
def Device.winCmdState (d : Device) (n : Nat) : Device := d.raise BWIN.flag.CMD_STATE n [] [] false

/-- An aperture write: bytes from an offset, each with its byte enable (R178 to R181). -/
def Device.apertureWrite (d : Device) (n p l off : Nat) (bytes : List (Nat × Bool)) : Device :=
  if !(d.winBound n p l) then d
  else if !(apertureOk off bytes.length) then d.raise BWIN.flag.BAD_SIZE n [] [] false
  else
    let o := off % 64
    let v := lineOfBytes (List.replicate o 0 ++ bytes.map Prod.fst)
    let m := ((bytes.zip (List.range 64)).filter (fun e => e.1.2)).foldl (fun k e => k + 2 ^ (o + e.2)) 0
    let op := HomeOp.siteWriteMasked v (BitVec.ofNat 64 m) true
    let r := d.winReq n off 0 0 op
    match d.batchWriteHome r with
    | none => d.refuse r 4
    | some home =>
      let d := d.chargeBytes r.cls bytes.length
      match (d.slot (1024 + n)).state with
      | .free =>
        let d := d.openSlot (1024 + n)
        d.sendBatchWrite (d.winReq n off 0 0 op) home
      | .opened => d.sendBatchWrite r home
      | .committing => d.winCmdState n
      | .aborted => d

/-- APERTURE_WRITE. -/
def execApertureWrite (n p l off : Nat) (bytes : List (Nat × Bool)) (s : State) : Host.Outcome State Fault Refusal :=
  s.run (fun d => d.apertureWrite n p l off bytes)

/-- An aperture read (R178, R179): the batch's view while OPEN or COMMITTING, the home copy otherwise. -/
def Device.apertureRead (d : Device) (n p l tag off len : Nat) : Device :=
  if !(d.winBound n p l) then d.send (.aperture n tag 0 false { ido := (d.hostLink p l).idoCpl })
  else if !(apertureOk off len) then (d.raise BWIN.flag.BAD_SIZE n [] [] false).send (.aperture n tag 0 false { ido := (d.hostLink p l).idoCpl })
  else
    let own := match (d.slot (1024 + n)).state with | .opened | .committing => true | _ => false
    d.route (d.winReq n off (tag + 1) len (.siteRead 1 own))

/-- APERTURE_READ. -/
def execApertureRead (n p l tag off len : Nat) (s : State) : Host.Outcome State Fault Refusal :=
  s.run (fun d => d.apertureRead n p l tag off len)

/-- WIN_CMD.COMMIT (R181). -/
def Device.winCommit (d : Device) (n : Nat) : Device :=
  let s := 1024 + n; let x := d.slot s
  match x.state with
  | .opened =>
    let r := { d.winReq n 0 0 0 (.batchCommit s) with qla := x.addr }
    match x.home with
    | some h => d.sendCommit s r h
    | none => d
  | .aborted => (d.freeSlot s).winLast n 2 x.cause x.bseq
  | _ => d.winCmdState n

/-- WIN_CMD.ABORT (R181). The window is FREE at once; the batch ends at its home behind the aperture writes that came before (R180). -/
def Device.winAbort (d : Device) (n : Nat) : Device :=
  let s := 1024 + n; let x := d.slot s
  match x.state with
  | .opened => ((d.leaveHome s 1).freeSlot s).winLast n 2 1 x.bseq
  | .aborted => (d.freeSlot s).winLast n 2 x.cause x.bseq
  | _ => d.winCmdState n

/-- WIN_CMD_COMMIT. -/
def execWinCmdCommit (n p l : Nat) (s : State) : Host.Outcome State Fault Refusal :=
  s.run (fun d => if d.winBound n p l then d.winCommit n else d)

/-- WIN_CMD_ABORT. -/
def execWinCmdAbort (n p l : Nat) (s : State) : Host.Outcome State Fault Refusal :=
  s.run (fun d => if d.winBound n p l then d.winAbort n else d)

/-- A write of WIN_BASE_LO or HI (R181): applied in FREE, BASE_BUSY otherwise. -/
def Device.winBaseWrite (d : Device) (n : Nat) (hi : Bool) (v : Nat) : Device :=
  if (d.slot (1024 + n)).state = .free then
    if hi then d.setReg BWIN.WIN_BASE_HI.QLA_HI v n else d.setReg BWIN.WIN_BASE_LO.QLA_LO (v / 4096) n
  else d.raise BWIN.flag.BASE_BUSY n [] [] false

/-- WIN_BASE_WRITE. -/
def execWinBaseWrite (n p l : Nat) (hi : Bool) (v : Nat) (s : State) : Host.Outcome State Fault Refusal :=
  s.run (fun d => if d.winBound n p l then d.winBaseWrite n hi v else d)

/-! ### Engine events -/

/-- A batch that its timeout aborts keeps its slot ABORTED until its requester closes it (R174, R177). -/
def Device.batchTimeout (d : Device) (slot : Nat) : Device :=
  if (d.slot slot).state = .opened then (d.leaveHome slot 4).slotAborted slot 4 else d

/-- BATCH_TIMEOUT. -/
def execBatchTimeout (slot : Nat) (s : State) : Host.Outcome State Fault Refusal := s.run (fun d => d.batchTimeout slot)

/-- COMMIT_SEND (R182 step 3). -/
def execCommitSend (slot arr : Nat) (s : State) : Host.Outcome State Fault Refusal :=
  s.run (fun d => match d.batch.home.find? (fun b => b.slot == slot && b.arr == arr && b.committing) with
    | some b => d.commitSend b
    | none => d)

/-- OUTCOME_QUERY.START (R192). -/
def Device.outcomeQuery (d : Device) : Device :=
  let e := d.outcome (d.reg BATCH.OUTCOME_QUERY.ARR) (d.reg BATCH.OUTCOME_QUERY.SLOT)
  ((d.setReg BATCH.OUTCOME_RESULT.OUTCOME e.outcome).setReg BATCH.OUTCOME_RESULT.CAUSE e.cause).setReg
    BATCH.OUTCOME_RESULT.BSEQ e.bseq

/-- OUTCOME_QUERY_START. -/
def execOutcomeQueryStart (s : State) : Host.Outcome State Fault Refusal := s.run Device.outcomeQuery

/-- Ask the new home for the outcome entry of a slot whose commit waited at a home that withdrew (R191). The request carries the batch's
sequence; the new home answers after its notice-flush wait, this device itself where it is the new home. A command that names another batch, home,
new home or device than the slot's asks nothing. The question travels as a FWD_REQ (DESIGN CHOICE, log entry 139). -/
def Device.outcomeAsk (d : Device) (slot bseq home heir arr : Nat) : Device :=
  let x := d.slot slot
  if x.state = .committing ∧ x.home = some home ∧ x.bseq = bseq ∧ arr = d.myArr ∧ home ≠ arr ∧ d.inSvc home = false ∧
      heir = (home + 4) % 8 ∧ d.inSvc heir = true then
    d.routeTo1 { origin := .dropped, who := slot, win := 0, arr := d.myArr, cls := 0, deadline := 0, qla := x.addr,
                 op := .outcome slot, bseq := x.bseq } heir
  else d

/-- OUTCOME_ASK. -/
def execOutcomeAsk (slot bseq home heir arr : Nat) (s : State) : Host.Outcome State Fault Refusal :=
  s.run (fun d => d.outcomeAsk slot bseq home heir arr)

end Sys2Proof.Machine
end

