-- ==== Sys2Proof/Machine/SiteOps.lean ====
section
/-! DEFINITION. What the site ports share: accepting a request, answering it, the multicast groups, the flush (Site
Transactions, R250 to R282). -/

namespace Sys2Proof.Machine

/-! ### Accepting requests (R251, R254, R255) -/

/-- Does the device have a port for a site, and is its link ACTIVE? -/
def Device.siteUp (d : Device) (s : Nat) : Bool :=
  !d.hw.gradeH && decide (s < 1024) && (d.link (.site s)).state == .active

/-- The traffic class of a site. -/
def Device.siteClass (d : Device) (s : Nat) : Nat := d.reg SITE.SITE_CLASS.CLASS s

/-- A site's request is accepted: it takes its place in request order, and its flits leave the receive buffer. The
number it gets. `pl` is the pool of its request flit and `n` the number of its data flits. -/
def Device.siteAccept (d : Device) (s opcode tag dl : Nat) (sync : Bool) (lines pl n : Nat) : Device × Nat :=
  let x := d.sitePort s
  let q : SiteReq := { id := x.nextId, opcode := opcode, tag := tag, arrived := d.time,
                       deadline := if dl = 0 then 0 else d.time + 16 * dl, sync := sync, lines := lines }
  let d := d.setSitePort s { x with reqs := x.reqs ++ [q], nextId := x.nextId + 1 }
  let hold := decide (64 ≤ x.reqs.length + 1) || d.siteClosing
  ((d.consume (.site s) pl 1 hold).consume (.site s) 1 n hold, x.nextId)

/-- A site's request as the home slices see it. -/
def Device.siteReq (d : Device) (s id dl qla : Nat) (op : HomeOp) : Request :=
  { origin := .site s id, who := s, win := 0, arr := d.myArr, cls := d.siteClass s,
    deadline := if dl = 0 then 0 else d.time + 16 * dl, qla := qla, op := op, bseq := (d.slot s).bseq }

/-- The lines of a SIZE code: 64 B, 256 B, 1 KiB (R252). -/
def sizeLines (size : Nat) : Nat := if size = 1 then 4 else if size = 2 then 16 else 1

/-- The two pools of request flits. -/
def cmdPool : Nat := 0
/-- The pool of fail-service, multicast and batch commands. -/
def svcPool : Nat := 3

/-- A request of a batch: what the slot says of it (R163, R165, R176). -/
def Device.siteBatchOp (d : Device) (s id : Nat) (r : Request) : Device :=
  let x := d.slot s
  match x.state with
  | .opened =>
    (match r.op with
     | .siteRead .. => d.route r
     | _ =>
       match d.batchWriteHome r with
       | none => (d.refuse r 4).answerSite s id { status := 3, bseq := x.bseq }
       | some h => if x.home.getD h = h then d.sendBatchWrite r h else d.answerSite s id { status := 3, bseq := x.bseq })
  | .aborted => d.answerSite s id { status := 5, cause := x.cause, bseq := x.bseq }
  | _ => d.answerSite s id { status := 3, bseq := x.bseq }

/-- A protocol error of a site's request takes its link down (R254). -/
def Device.siteProto (d : Device) (s : Nat) : Device := d.linkDown (.site s) 3

/-! ### Multicast groups (R272 to R277) -/

/-- A group. -/
def Device.group (d : Device) (g : Nat) : Group := KMap.get d.site.groups {} g

/-- Replace a group. -/
def Device.setGroup (d : Device) (g : Nat) (x : Group) : Device :=
  { d with site := { d.site with groups := KMap.put d.site.groups g x } }

/-- The address of block `b` of a group. -/
def Device.blockAddr (d : Device) (g b : Nat) : Nat :=
  1024 * d.reg MCAST.GRP_BASE_LO.QLA_LO g + 2 ^ 32 * d.reg MCAST.GRP_BASE_HI.QLA_HI g + 1024 * b

/-- The length of a group's stream in blocks. -/
def Device.groupLen (d : Device) (g : Nat) : Nat := d.reg MCAST.GRP_LEN.BLOCKS g

/-- Is the group enabled? -/
def Device.groupOn (d : Device) (g : Nat) : Bool := d.flagReg MCAST.GRP_CTL.ENABLE g

/-- The number of an engine access of a fill. -/
def fillNo (g b : Nat) : Nat := 2 ^ 24 * g + b

/-- Start the fills whose buffer slot has no earlier fill pending (R273). -/
def Device.startFills (d : Device) (g : Nat) : List Fill → List Nat → Device
  | [], _ => d
  | f :: fs, busy =>
    if f.started ∨ busy.contains (f.block % 128) then d.startFills g fs ((f.block % 128) :: busy)
    else
      let x := d.group g
      let d := d.setGroup g { x with fills := x.fills.map (fun h => if h = f then { h with started := true } else h) }
      let d := d.countWrap MCAST.GRP_FILLS.COUNT g
      let r := engineReq d 6 (fillNo g f.block) (d.reg MCAST.GRP_CTL.CLASS g) (d.blockAddr g f.block) (.siteRead 16 false)
      (d.route { r with deadline := f.deadline }).startFills g fs ((f.block % 128) :: busy)

/-- Add a fill and start what may start. -/
def Device.addFill (d : Device) (g : Nat) (f : Fill) : Device :=
  let x := d.group g
  let d := d.setGroup g { x with fills := x.fills ++ [f] }
  d.startFills g (d.group g).fills []

/-- A pull of a block by a member (R273, R275). -/
def Device.mcastPull (d : Device) (s id dl g b : Nat) : Device :=
  let x := d.group g
  if !(d.pageOn .mcast) ∨ !(d.groupOn g) ∨ !(x.members.contains s) ∨ d.groupLen g ≤ b then d.answerSite s id { status := 3 }
  else if b < x.low then
    (d.countWrap MCAST.GRP_BEHIND.COUNT g).route (d.siteReq s id dl (d.blockAddr g b) (.siteRead 16 false))
  else
    let x := if x.low + 127 < b then { x with low := b - 127, blocks := x.blocks.keep (fun k _ => decide (b - 127 ≤ k)) } else x
    let d := d.setGroup g x
    let abs := if dl = 0 then 0 else d.time + 16 * dl
    match KMap.find x.blocks b with
    | some ls =>
      let c := d.siteClass s
      (((d.countWrap MCAST.GRP_HITS.COUNT g).chargeT0 c 1024).chargeBytes c 1024).answerSite s id { data := ls }
    | none =>
      match x.fills.find? (fun f => f.block == b && !f.dropped) with
      | some f =>
        let early := if f.deadline = 0 then abs else if abs = 0 then f.deadline else min f.deadline abs
        let f' : Fill := { f with pulls := f.pulls ++ [(s, id, d.siteClass s)], demand := true, deadline := early }
        let d := d.setGroup g { x with fills := x.fills.map (fun h => if h = f then f' else h) }
        let sooner (r : Request) : Request := if r.origin = .engine 6 (fillNo g b) then { r with deadline := early } else r
        let queued (e : ChanEntry) : ChanEntry := if e.frm = .engine 6 (fillNo g b) then { e with deadline := early } else e
        ({ d with coh := { d.coh with queue := d.coh.queue.map sooner, withheld := d.coh.withheld.map sooner },
                  qos := { d.qos with queues := d.qos.queues.map (fun (e : Nat × List ChanEntry) => (e.1, e.2.map queued)) } }).countWrap MCAST.GRP_HITS.COUNT g
      | none => d.addFill g { block := b, demand := true, pulls := [(s, id, d.siteClass s)], deadline := abs }

/-- The prefetch fills after a demand fill of a block (R274). -/
def Device.prefetch (d : Device) (g b : Nat) : Device :=
  (List.range (d.reg MCAST.GRP_CTL.PREFETCH g)).foldl (fun d i =>
    let k := b + 1 + i
    let x := d.group g
    if k < d.groupLen g ∧ x.low ≤ k ∧ k ≤ x.low + 127 ∧ (KMap.find x.blocks k).isNone ∧ !(x.fills.any (fun f => f.block == k)) then
      d.addFill g { block := k, demand := false }
    else d) d

/-- When a group that disables has no fill left, its buffer is freed (R277). -/
def Device.groupIdle (d : Device) (g : Nat) : Device :=
  let x := d.group g
  if x.disabling ∧ x.fills = [] then
    ((d.setGroup g {}).setReg MCAST.GRP_CTL.BUSY 0 g).evt MCAST.flag.DISABLED
  else d

/-- A fill has come back: the pulls that joined it are answered, the block is kept while it is in the window and no write
dropped it, prefetches follow a demand fill (R273 to R276). -/
def Device.fillDone (d : Device) (g b : Nat) : Device :=
  let (d, as) := d.takeInbox 6 (fillNo g b)
  match as, (d.group g).fills.find? (fun f => f.block == b && f.started) with
  | a :: _, some f =>
    let x := d.group g
    let keep := !f.dropped && decide (x.low ≤ b) && d.groupOn g && a.status == 0
    let x := { x with fills := x.fills.erase f, blocks := if keep then KMap.put x.blocks b a.data else x.blocks }
    let d := d.setGroup g x
    let d := f.pulls.foldl (fun (d : Device) q =>
      (d.chargeBytes q.2.2 1024).answerSite q.1 q.2.1 { status := a.status, data := a.data }) d
    let d := if f.demand ∧ d.groupOn g then d.prefetch g b else d
    (d.startFills g (d.group g).fills []).groupIdle g
  | _, _ => d

/-! ### The flush (R281, R282) -/

/-- Responses among queued flits: a response record counts one, the last flit of a data response one; RSUM and NOTICE
are no responses. -/
def bodyCounts : Body → Nat
  | .rrec op _ _ _ _ _ _ => if op = 0x50 ∨ op = 0x51 then 0 else 1
  | .data _ last => if last then 1 else 0
  | _ => 0

/-- What a flush does to a site's requests, batch and memberships (R281). -/
def Device.siteFlush (d : Device) (s : Nat) : Device :=
  let x := d.sitePort s
  let k := d.link (.site s)
  let n := (k.unacked.map (fun f => bodyCounts f.body)).foldl (· + ·) 0 + (k.txq.map (fun e => bodyCounts e.2)).foldl (· + ·) 0
  let d := d.countSat SITE.RSP_DISCARDED.COUNT s n
  let d := d.setSitePort s { x with reqs := x.reqs.map (fun q => { q with discard := true }), rsum := [] }
  let d := d.resetSlot s
  { d with site := { d.site with groups := d.site.groups.map (fun (e : Nat × Group) => (e.1, { e.2 with members := e.2.members.filter (fun m => m != s) })) } }

end Sys2Proof.Machine
end

