-- ==== Sys2Proof/Machine/Mcast.lean ====
section
/-! DEFINITION. The commands of the multicast engine (Site Transactions, R272 to R277). -/

namespace Sys2Proof.Machine

/-- MCAST_FILL_DONE (R274). -/
def execMcastFillDone (g b : Nat) (s : State) : Host.Outcome State Fault Refusal := s.run (fun d => d.fillDone g b)

/-- Does a group's range lie within one region of the site population (R272)? -/
def Device.groupSource (d : Device) (g : Nat) : Bool :=
  match d.regionOf (d.blockAddr g 0), d.regionOf (d.blockAddr g (d.groupLen g) - 1) with
  | some (i, x), some (j, _) => i == j && x.pop == 1
  | _, _ => false

/-- GRP_CTL.ENABLE = 1 (R272, R277). -/
def Device.groupEnable (d : Device) (g : Nat) : Device :=
  if d.hw.gradeH ∨ d.groupOn g then d
  else if (d.group g).disabling then d.raise MCAST.flag.CFG_BUSY 0 [] [] false
  else if d.groupSource g then (d.setGroup g {}).setReg MCAST.GRP_CTL.ENABLE 1 g
  else d.raise MCAST.flag.BAD_SOURCE 0 [] [] false

/-- GRP_ENABLE. -/
def execGrpEnable (g : Nat) (s : State) : Host.Outcome State Fault Refusal := 
  s.run (fun d => d.rwl .mcast 0 (!d.hw.gradeH && d.changes MCAST.GRP_CTL.ENABLE 1 g) (fun d => d.groupEnable g))

/-- GRP_CTL.ENABLE = 0 (R277). -/
def Device.groupDisable (d : Device) (g : Nat) : Device :=
  if d.groupOn g then
    let x := d.group g
    let d := (d.setReg MCAST.GRP_CTL.ENABLE 0 g).setReg MCAST.GRP_CTL.BUSY 1 g
    (d.setGroup g { x with members := [], blocks := [], disabling := true }).groupIdle g
  else d

/-- GRP_DISABLE. -/
def execGrpDisable (g : Nat) (s : State) : Host.Outcome State Fault Refusal := 
  s.run (fun d => d.rwl .mcast 0 (d.changes MCAST.GRP_CTL.ENABLE 0 g) (fun d => d.groupDisable g))

/-- The configuration fields of a group that an enabled group freezes. -/
def groupField (k : Nat) : Field :=
  if k = 0 then MCAST.GRP_BASE_LO.QLA_LO else if k = 1 then MCAST.GRP_BASE_HI.QLA_HI
  else if k = 2 then MCAST.GRP_LEN.BLOCKS else MCAST.GRP_CTL.CLASS

/-- A write of GRP_BASE_LO, GRP_BASE_HI, GRP_LEN or GRP_CTL.CLASS (0 to 3): stored while disabled; while enabled it is
ignored, and CFG_BUSY is set if it would have changed the field (R272). On an LX9416-H the page is absent and the write has no effect (R2). -/
def Device.groupCfg (d : Device) (g k v : Nat) : Device :=
  let f := groupField k
  if d.hw.gradeH then d
  else if d.groupOn g then
    if v % 2 ^ f.width = d.reg f g then d else d.raise MCAST.flag.CFG_BUSY 0 [] [] false
  else d.store f (v % 2 ^ f.width) g

/-- GRP_CFG_WRITE. -/
def execGrpCfgWrite (g k v : Nat) (s : State) : Host.Outcome State Fault Refusal := 
  s.run (fun d => d.rwl .mcast 0 (!d.hw.gradeH && d.changes (groupField k) v g) (fun d => d.groupCfg g k v))

end Sys2Proof.Machine
end

