-- ==== Sys2Proof/Machine/Regions.lean ====
section
/-! DEFINITION. Regions: the staging registers, the region commands and their effect on a device, and the writes of the
space, window and site class registers (Addresses, Regions and Class Windows, R40 to R66). -/

namespace Sys2Proof.Machine

/-! ### The coordinator (R52, R53) -/

/-- Has every position of the quartet a device in service? -/
def Device.allReachable (d : Device) : Bool := (List.range d.members).all (fun q => d.inSvc q || d.inSvc (4 + q))

/-- Send a table command to every other device in service. -/
def Device.tableToAll (d : Device) (c : TableCmd) : Device :=
  (d.twin.inService.filter (fun a => a != d.myArr)).foldl (fun d a => d.tellDev a 0 (.tableCmd a c)) d

/-- A device that is the source of a resync passes a table command on to its twin, behind the tables that the twin already has (R47, R484). -/
def Device.tableToResync (d : Device) (c : TableCmd) : Device :=
  if d.twin.resyncRun && d.twin.resyncSource then (d.twinSend 0 (.tableCmd ((1 - d.side) * 4 + d.qid) c)).1 else d

/-! ### The effect of a command on one device (R55 to R58) -/

/-- Replace the region table. -/
def Device.setTable (d : Device) (t : KMap Region) : Device := { d with regions := { d.regions with table := t } }

/-- The twin streams on which the twin still may send changes of pages that it leads. -/
def Device.twinStreams (d : Device) : List Nat :=
  match d.twin.svc with
  | .paired | .handingOver | .resync => [0, 1]
  | _ => []

/-- A DESTROY on this device: the region leaves the table at this point, and its attributes as they stand stay with the pages until host copies are
taken back and the pages are empty (R58). -/
def Device.destroyHere (d : Device) (rid : Nat) : Device :=
  match KMap.find d.regions.table rid with
  | none => d
  | some r =>
    let early := d.regions.drops.filter (fun e => e.1 == rid)
    let d := d.setTable (KMap.drop d.regions.table rid)
    let x : Leaving := { region := r, streams := d.twinStreams.filter (fun k => !(early.contains (rid, k))) }
    let d := { d with regions := { d.regions with drops := d.regions.drops.filter (fun e => e.1 != rid),
                                                  leaving := KMap.put d.regions.leaving rid x } }
    let d := early.foldl (fun (d : Device) e => d.emptyPages r (fun p => !(d.homesLine (64 * p)) && streamOf (64 * p) == e.2)) d
    d.proceed

/-- The twin has sent its last change of a destroyed region's pages on a stream: the pages of that stream that it leads are emptied here. -/
def Device.dropHere (d : Device) (rid stream : Nat) : Device :=
  match KMap.find d.regions.leaving rid with
  | none => { d with regions := { d.regions with drops := d.regions.drops ++ [(rid, stream)] } }
  | some x =>
    let d := d.emptyPages x.region (fun p => !(d.homesLine (64 * p)) && streamOf (64 * p) == stream)
    (d.setLeaving rid { x with streams := x.streams.filter (fun k => k != stream) }).destroyAdvance

/-- A CREATE, DESTROY or MODIFY on this device. -/
def Device.applyRegion (d : Device) (c : TableCmd) : Device :=
  match c with
  | .create rid r => (d.setTable (KMap.put d.regions.table rid r)).capUpdate
  | .destroy rid => d.destroyHere rid
  | .modify rid tier hostAcc siteAcc hostMask sgMask =>
    match KMap.find d.regions.table rid with
    | some r => d.setTable (KMap.put d.regions.table rid
        { r with tier := tier, hostAcc := hostAcc, siteAcc := siteAcc, hostMask := hostMask, sgMask := sgMask })
    | none => d
  | _ => d

/-! ### What RGN_CMD stages and checks (R55 to R58, R680, R681) -/

/-- The region that the staging registers describe. -/
def Device.staged (d : Device) : Region :=
  { base := d.reg REGION.RGN_BASE.BASE_GIB, size := d.reg REGION.RGN_SIZE.SIZE_GIB, lead := d.reg REGION.RGN_ATTR.LEAD,
    cap := d.reg REGION.RGN_ATTR.CAP, tier := d.reg REGION.RGN_ATTR.TIER, pop := d.reg REGION.RGN_ATTR.POP,
    hostAcc := d.reg REGION.RGN_ATTR.HOST_ACC, siteAcc := d.reg REGION.RGN_ATTR.SITE_ACC,
    hostMask := d.reg REGION.RGN_HOSTMASK.HOST_MASK,
    sgMask := d.regPair REGION.RGN_SGMASK_LO.SG_MASK_LO REGION.RGN_SGMASK_HI.SG_MASK_HI }

/-- The lowest free region ID. -/
def Device.freeRid (d : Device) : Option Nat :=
  ((List.range 4095).map (fun i => i + 1)).find? (fun i => (KMap.find d.regions.table i).isNone)

/-- The slices that a Guaranteed region reserves on each device. -/
def Device.reservation (d : Device) (r : Region) : Int := ((2097152 * r.size / d.members : Nat) : Int)

/-- The result of a CREATE (R681). `others` is the least el_free of the other devices in service. -/
def Device.createResult (d : Device) (r : Region) (others : Int) : Nat :=
  if r.size = 0 ∨ 65536 < r.size ∨ (r.pop = 0 ∧ r.cap = 1) then 3
  else if d.freeRid.isNone then 4
  else if d.qlaLimit < 2 ^ 30 * (r.base + r.size)
      ∨ d.regions.table.any (fun e => decide (r.base < e.2.base + e.2.size) && decide (e.2.base < r.base + r.size)) then 1
  else if !d.allReachable then 5
  else if r.cap = 0 ∧ (d.elFree < d.reservation r ∨ (d.twin.inService.any (fun a => a != d.myArr) ∧ others < d.reservation r)) then 2
  else 0

/-- Does a job of the Assayer name an address in a region: its result buffer, or the ranges of its DUT (R57)? -/
def Device.jobNames (d : Device) (j : Job) (r : Region) : Bool :=
  let inside (a n : Nat) : Bool := decide (a < 2 ^ 30 * (r.base + r.size)) && decide (2 ^ 30 * r.base < a + n)
  let res := !(bitOf (j.desc.getD 6 0) 1) && inside (ofLe ((j.desc.drop 24).take 8)) (ofLe ((j.desc.drop 32).take 8))
  res || (match d.dut (ofLe ((j.desc.drop 4).take 2)) with
    | some t => let q := geoDims t.g; inside t.b.bmap q.bmapBytes || inside t.b.tally (d.members * q.tallyBytes)
    | none => false)

/-- Is a region in use here: a batch holds a line of it, a group streams from it, or a job names an address in it (R57)? -/
def Device.regionInUse (d : Device) (r : Region) : Bool :=
  d.batch.home.any (fun b => b.shadow.any (fun e => regionCovers r (d.qlaOfLine e.1)))
  || (List.range 64).any (fun g => (d.groupOn g || (d.group g).disabling)
        && (regionCovers r (d.blockAddr g 0) || regionCovers r (d.blockAddr g (d.groupLen g) - 1)))
  || d.eng.jobs.any (fun j => d.jobNames j r)

/-- Load the staging registers from a region (R56). -/
def Device.loadStaging (d : Device) (r : Region) : Device :=
  let d := (d.setReg REGION.RGN_BASE.BASE_GIB r.base).setReg REGION.RGN_SIZE.SIZE_GIB r.size
  let d := ((d.setReg REGION.RGN_ATTR.LEAD r.lead).setReg REGION.RGN_ATTR.CAP r.cap).setReg REGION.RGN_ATTR.TIER r.tier
  let d := ((d.setReg REGION.RGN_ATTR.POP r.pop).setReg REGION.RGN_ATTR.HOST_ACC r.hostAcc).setReg REGION.RGN_ATTR.SITE_ACC r.siteAcc
  (d.setReg REGION.RGN_HOSTMASK.HOST_MASK r.hostMask).setPair REGION.RGN_SGMASK_LO.SG_MASK_LO REGION.RGN_SGMASK_HI.SG_MASK_HI r.sgMask

/-! ### Space and window registers (R41, R62, R63) -/

/-- SPACE_PEND_WRITE (R41): both fields, each unless its value is reserved. -/
def execSpacePendWrite (tib members : Nat) (s : State) : Host.Outcome State Fault Refusal :=
  s.run (fun d => d.rwl .region 0
    (d.changes REGION.SPACE_PEND.LOGICAL_TIB_NEXT tib 0 || d.changes REGION.SPACE_PEND.MEMBERS_NEXT members 0)
    (fun d => (d.store REGION.SPACE_PEND.LOGICAL_TIB_NEXT tib).store REGION.SPACE_PEND.MEMBERS_NEXT members))

/-- Is LBASE a multiple of the window size (R63)? -/
def lbaseFits (lbase log2 : Nat) : Bool := 2 ^ 36 * lbase % 2 ^ log2 == 0

/-- A write of WIN_CFG (R62, R63): WIN_EN at once; the size is stored unless it is reserved or LBASE does not fit it. -/
def Device.winCfg (d : Device) (p l en log2 : Nat) : Device :=
  d.rwl .host p (d.changes (HOST.WIN_CFG.WIN_EN l) en p || d.changes (HOST.WIN_CFG.WIN_SIZE_LOG2 l) log2 p) (fun d =>
    let d := d.store (HOST.WIN_CFG.WIN_EN l) en p
    let w := log2 % 64
    if lbaseFits (d.reg (HOST.WIN_LBASE.LBASE l) p) w then d.store (HOST.WIN_CFG.WIN_SIZE_LOG2 l) w p else d)

/-- WIN_CFG_WRITE. -/
def execWinCfgWrite (p l en log2 : Nat) (s : State) : Host.Outcome State Fault Refusal := s.run (fun d => d.winCfg p l en log2)

/-- A write of WIN_LBASE (R63). -/
def Device.winLbase (d : Device) (p l v : Nat) : Device :=
  d.rwl .host p (d.changes (HOST.WIN_LBASE.LBASE l) v p) (fun d =>
    if lbaseFits (v % 1024) (d.reg (HOST.WIN_CFG.WIN_SIZE_LOG2 l) p) then d.store (HOST.WIN_LBASE.LBASE l) v p else d)

/-- WIN_LBASE_WRITE. -/
def execWinLbaseWrite (p l v : Nat) (s : State) : Host.Outcome State Fault Refusal := s.run (fun d => d.winLbase p l v)

end Sys2Proof.Machine
end

