-- ==== Sys2Proof/Machine/FailCmds.lean ====
section
/-! DEFINITION. Geometries and DUT bindings: what the commands of FAIL.CMD do on one device, and what they check (Fail Accumulation and Repair
Analysis, R286 to R298, R325). -/

namespace Sys2Proof.Machine

/-! ### The effect of a command on one device -/

/-- Replace the geometry table. -/
def Device.setGeos (d : Device) (t : KMap Geometry) : Device := { d with fail := { d.fail with geos := t } }

/-- Replace the DUT table. -/
def Device.setDuts (d : Device) (t : KMap Dut) : Device := { d with fail := { d.fail with duts := t } }

/-- The local pages of a DUT's bitmap that this position homes, and of its own copy of the tally range (R301). -/
def Device.dutPages (d : Device) (t : DutCtx) : List Nat :=
  let q := geoDims t.g
  let bm := ((List.range (q.bmapBytes / 4096)).map (fun i => t.b.bmap / 4096 + i)).filter (fun pn => homePosition d.membersLog2 pn == d.qid)
  bm.map (fun pn => pn / d.members) ++ (List.range (q.tallyBytes / 4096)).map (fun i => llaOf d.membersLog2 t.b.tally / 4096 + i)

/-- A batch that holds a line aborts with CONFLICT. -/
def Device.clearBatch (d : Device) (l : Nat) : Device :=
  match d.pinnedBy l with
  | some b => if b.committing then d.commitConflict l else d.abortBatch b 2
  | none => d

/-- DUT_CLEAR on one line (R296): a batch that holds it aborts; at the line's home host copies are invalidated. -/
def Device.clearLine (d : Device) (l : Nat) : Device :=
  let d := (d.clearBatch l).dropBlocks (d.qlaOfLine l)
  let home := match d.regionOfLine l with | some (_, g) => d.leadsSlice g (homeSlice l) | none => true
  if home && ((KMap.find d.coh.dir l).isSome || d.untrackedLine l) then d.invalidate l .destroy none else d

/-- DUT_CLEAR on one loaf: the loaf is ZERO and its slices are free. -/
def Device.clearLoaf (d : Device) (lpn : Nat) : Device :=
  let lines := (List.range 64).map (fun i => 64 * lpn + i)
  let d : Device := lines.foldl (fun (d : Device) l => d.clearLine l) d
  d.emptyLoaf lpn 1 (d.elasticLine (64 * lpn))

/-- DUT_REBUILD at the home of the bitmap (R296, R306, R307): the lost map is cleared, then every counter line is formed
again from its sources, those of the lower offsets first. -/
def Device.rebuildDut (d : Device) (t : DutCtx) (cls : Nat) : Device :=
  let q := geoDims t.g
  let d := (List.range ((q.tallyBytes - q.aLost) / 64)).foldl (fun (d : Device) i => d.treeWrite (d.tallyAt t (q.aLost + 64 * i)) 0 cls true) d
  (List.range (q.aDut / 64 + 1)).foldl (fun (d : Device) i =>
    ((d.landLine (d.tallyAt t (64 * i)) 0 true cls).treeRead t cls true (64 * i)).1) d

/-- A geometry or DUT command on this device, in one step (DESIGN CHOICE, log entry 143). -/
def Device.applyFail (d : Device) (c : TableCmd) : Device :=
  match c with
  | .geoSet id g => d.setGeos (KMap.put d.fail.geos id g)
  | .geoClear id => d.setGeos (KMap.drop d.fail.geos id)
  | .dutBind id b => d.setDuts (KMap.put d.fail.duts id b)
  | .dutUnbind id => d.setDuts (KMap.drop d.fail.duts id)
  | .dutClear id =>
    (match d.dut id with
     | some t => ((d.dutPages t).foldl (fun d p => d.clearLoaf p) d).proceed
     | none => d)
  | .dutRebuild id =>
    (match d.dut id with
     | some t =>
       (match d.regionOf t.b.bmap with
        | some (_, g) => if d.leadsRegion g then (d.rebuildDut t (d.reg FAIL.FAIL_CTL.SVC_CLASS)).proceed else d
        | none => d)
     | none => d)
  | _ => d

/-! ### What FAIL.CMD stages and checks -/

/-- The staged descriptor. -/
def Device.stagedGeo (d : Device) : Geometry :=
  { dies := d.reg FAIL.GEO_A.DIES_M1 + 1, banks := d.reg FAIL.GEO_A.BANKS_M1 + 1, blocks := d.reg FAIL.GEO_A.BLOCKS_M1 + 1,
    rows := d.reg FAIL.GEO_B.ROWS_M1 + 1, srows := d.reg FAIL.GEO_B.SROWS, cols := d.reg FAIL.GEO_C.COLS_M1 + 1,
    scols := d.reg FAIL.GEO_C.SCOLS }

/-- Does a bound DUT use a descriptor (R298)? -/
def Device.geoUsed (d : Device) (id : Nat) : Bool := d.fail.duts.any (fun e => e.2.geo == id)

/-- GEO_BMAP_KIB and GEO_TALLY_KIB follow the descriptor that is staged or read; both are 0 until there is one (R325). -/
def Device.geoSizes (d : Device) : Device :=
  let q := geoDims d.stagedGeo
  (d.setReg FAIL.GEO_BMAP_KIB.KIB (q.bmapBytes / 1024)).setReg FAIL.GEO_TALLY_KIB.KIB (q.tallyBytes / 1024)

/-- Load the staging registers from a descriptor. -/
def Device.loadGeo (d : Device) (g : Geometry) : Device :=
  let d := ((d.setReg FAIL.GEO_A.DIES_M1 (g.dies - 1)).setReg FAIL.GEO_A.BANKS_M1 (g.banks - 1)).setReg FAIL.GEO_A.BLOCKS_M1 (g.blocks - 1)
  let d := (d.setReg FAIL.GEO_B.ROWS_M1 (g.rows - 1)).setReg FAIL.GEO_B.SROWS g.srows
  ((d.setReg FAIL.GEO_C.COLS_M1 (g.cols - 1)).setReg FAIL.GEO_C.SCOLS g.scols).geoSizes

/-- The staged bases of a DUT. -/
def Device.stagedDut (d : Device) : Dut :=
  { geo := d.reg FAIL.DUT_GEO.GEO,
    bmap := 4096 * d.reg FAIL.DUT_BMAP_LO.QLA_LO + 2 ^ 32 * d.reg FAIL.DUT_BMAP_HI.QLA_HI,
    tally := 4096 * d.reg FAIL.DUT_TALLY_LO.QLA_LO + 2 ^ 32 * d.reg FAIL.DUT_TALLY_HI.QLA_HI }

/-- The region of the site population that holds a range whole. -/
def Device.siteRange (d : Device) (a n : Nat) : Option Region :=
  match d.regionOf a, d.regionOf (a + n - 1) with
  | some (i, r), some (j, _) => if i = j ∧ r.pop = 1 then some r else none
  | _, _ => none

/-- Do two ranges of bytes meet? -/
def rangesMeet (a n b m : Nat) : Bool := decide (a < b + m) && decide (b < a + n)

/-- The two ranges of a binding. -/
def Device.dutRanges (d : Device) (b : Dut) (g : Geometry) : List (Nat × Nat) :=
  let q := geoDims g
  [(b.bmap, q.bmapBytes), (b.tally, d.members * q.tallyBytes)]

/-- Are the ranges of a new binding well placed (R294)? -/
def Device.dutPlaced (d : Device) (b : Dut) (g : Geometry) : Bool :=
  let q := geoDims g
  let others := d.fail.duts.flatMap (fun e => match KMap.find d.fail.geos e.2.geo with
    | some h => d.dutRanges e.2 h
    | none => [])
  let mine := d.dutRanges b g
  b.bmap % 4096 == 0 && b.tally % (4096 * d.members) == 0
    && !rangesMeet b.bmap q.bmapBytes b.tally (d.members * q.tallyBytes)
    && mine.all (fun x => others.all (fun y => !rangesMeet x.1 x.2 y.1 y.2))
    && (match d.siteRange b.bmap q.bmapBytes, d.siteRange b.tally (d.members * q.tallyBytes) with
        | some x, some y => x.lead == y.lead
        | _, _ => false)

/-- The result of a command on a bound DUT (R298). `busy`: a job of another device names the DUT. -/
def Device.dutResult (d : Device) (id : Nat) (busy : Bool) : Nat :=
  if (KMap.find d.fail.duts (id % 1024)).isNone then 6
  else if busy || d.eng.jobs.any (fun j => ofLe ((j.desc.drop 4).take 2) == id % 1024) then 7
  else 0

end Sys2Proof.Machine
end

