-- ==== Sys2Proof/Machine/Assay.lean ====
section
/-! DEFINITION. The Assayer's queues, jobs and reads, and its commands (Fail Accumulation and Repair Analysis, R309 to
R321, R326, R327). -/

namespace Sys2Proof.Machine

/-! ### Job descriptors (R317, R319) -/

/-- The number in bytes `o` to `o + n - 1` of a descriptor. -/
def descField (b : List Nat) (o n : Nat) : Nat := ofLe ((b.drop o).take n)

/-- The DUT of a job. -/
def Job.dut (j : Job) : Nat := descField j.desc 4 2
/-- MIN_SPARES. -/
def Job.minSpares (j : Job) : Bool := bitOf (descField j.desc 6 1) 0
/-- RLOC. -/
def Job.rloc (j : Job) : Bool := bitOf (descField j.desc 6 1) 1
/-- FIRST_BLOCK. -/
def Job.first (j : Job) : Nat := descField j.desc 8 4
/-- NBLOCKS. -/
def Job.blocks (j : Job) : Nat := descField j.desc 12 4
/-- RESULT. -/
def Job.result (j : Job) : Nat := descField j.desc 24 8

/-- The descriptor checks that need no geometry. -/
def jobDescOk (b : List Nat) : Bool :=
  descField b 0 2 == 1 && descField b 6 1 / 4 == 0 && descField b 7 1 == 0 && decide (descField b 16 4 < 2 ^ 24)
    && descField b 20 4 == 0 && descField b 40 8 == 0 && descField b 48 8 == 0 && descField b 56 8 == 0
    && descField b 24 8 % 64 == 0 && decide (descField b 4 2 < 1024)

/-- The descriptor checks against the geometry. -/
def jobRangeOk (b : List Nat) (g : Geometry) : Bool :=
  let nb := (geoDims g).nb; let first := descField b 8 4; let n := descField b 12 4
  decide (1 ≤ n) && decide (first + n ≤ nb) && decide (n * entrySizeOf g ≤ descField b 32 8)

/-- The status that the checks give a job, in their order; none where all pass. -/
def Device.jobCheck (d : Device) (b : List Nat) : Option Nat :=
  if !jobDescOk b then some 1
  else match d.dut (descField b 4 2) with
    | none => some 2
    | some t => if jobRangeOk b t.g then none else some 1

/-! ### Reads of a block (R310, R314) -/

/-- The address of byte `o` of member `m`'s counter copy (R301). -/
def Device.tallyQla (d : Device) (t : DutCtx) (m o : Nat) : Nat := qlaOf d.membersLog2 m (llaOf d.membersLog2 t.b.tally + o)

/-- The line of that byte for every member. -/
def Device.tallyLines (d : Device) (t : DutCtx) (o : Nat) : List Nat :=
  (List.range d.members).map (fun m => 64 * (d.tallyQla t m o / 64))

/-- The lines that hold bytes `a` to `b - 1` of every copy. -/
def Device.tallySpan (d : Device) (t : DutCtx) (a b : Nat) : List Nat :=
  (List.range ((b + 63) / 64 - a / 64)).flatMap (fun i => d.tallyLines t (64 * (a / 64) + 64 * i))

/-- A line that the job has read. -/
def Job.line (j : Job) (key : Nat) : Line × Bool := KMap.get j.lines (0, true) key

/-- A counter of a block, summed over the members (R301, R304); `again` takes the second read. -/
def Device.ctrSum (d : Device) (t : DutCtx) (j : Job) (o w again : Nat) : Nat :=
  (List.range d.members).foldl (fun n m =>
    let v := j.line (64 * (d.tallyQla t m o / 64) + again)
    ctrAdd w n (ctrOf v.1 o w)) 0

/-- The lost-map bit of a block, over the members. -/
def Device.lostBit (d : Device) (t : DutCtx) (j : Job) (k : Nat) : Bool :=
  (List.range d.members).any (fun m =>
    let o := (geoDims t.g).aLost + k / 8
    bitOf (ctrOf (j.line (64 * (d.tallyQla t m o / 64))).1 o 1) (k % 8))

/-- What the reads of a block have come to. `need` lists the lines still wanted; an odd key is a second read. -/
inductive Reads where
  | need (keys : List Nat)
  | early (r : Repair)
  | full (first second : Nat) (r : Repair)
  deriving DecidableEq, Repr

/-- The row counters of a block with the bitmap lines of each row that has fails. -/
def Device.failRows (d : Device) (t : DutCtx) (j : Job) (k : Nat) : List (Nat × List Nat) :=
  let q := geoDims t.g
  ((List.range q.rp).filter (fun r => d.ctrSum t j (4 * (k * q.rpb + r)) 4 0 != 0)).map (fun r =>
    (r, (List.range q.rl).map (fun i => t.b.bmap + 64 * (k * q.bl + r * q.rl + i))))

/-- The result of a block whose lines have all been read (R309 to R313). -/
def Device.blockResult (d : Device) (t : DutCtx) (j : Job) (k : Nat) (rows : List (Nat × List Nat)) (bound : Nat) : Repair :=
  let q := geoDims t.g; let g := t.g
  if rows.any (fun e => e.2.any (fun a => (j.line a).2)) then { outcome := 4 }
  else
    let cells := (rows.filter (fun e => decide (e.1 < g.rows))).flatMap (fun e =>
      (e.2.zip (List.range q.rl)).flatMap (fun a =>
        ((onesOf (min 512 (q.cp - 512 * a.2)) (j.line a.1).1.toNat).map (fun b => (e.1, 512 * a.2 + b)))))
    let f : List Cell := cells.filter (fun c => decide (c.2 < g.cols))
    let ur := (List.range g.srows).filter (fun i => d.ctrSum t j (4 * (k * q.rpb + g.rows + i)) 4 0 == 0)
    let uc := (List.range g.scols).filter (fun i => d.ctrSum t j (q.aCol + 4 * (k * q.cpb + g.cols + i)) 4 0 == 0)
    analyse f ur uc (decide (ur.length < g.srows) || decide (uc.length < g.scols)) j.minSpares bound

/-- The bound of a job's search (R317). -/
def Device.jobBound (d : Device) (j : Job) : Nat :=
  let b := descField j.desc 16 4
  if b = 0 then d.reg ASSAY.Q_BOUND.NODES j.queue else b

/-- The lines of a list that the job does not hold yet. -/
def Job.missing (j : Job) (keys : List Nat) : List Nat := keys.eraseDups.filter (fun a => (KMap.find j.lines a).isNone)

/-- How far the reads of a job's block have come (R310, R314). -/
def Device.jobReads (d : Device) (t : DutCtx) (j : Job) : Reads :=
  let q := geoDims t.g
  let k := j.first + j.next
  let blk := q.aBlk + 8 * k
  let m0 := j.missing (d.tallyLines t (q.aLost + k / 8) ++ d.tallyLines t blk)
  if m0 ≠ [] then .need m0
  else if d.lostBit t j k then .early { outcome := 4 }
  else
    let count := d.ctrSum t j blk 8 0
    if count = 0 then .early { outcome := 0 }
    else
      let m1 := j.missing (d.tallySpan t (4 * k * q.rpb) (4 * (k * q.rpb + q.rp))
        ++ (if t.g.scols = 0 then [] else d.tallySpan t (q.aCol + 4 * (k * q.cpb + t.g.cols)) (q.aCol + 4 * (k * q.cpb + q.cp))))
      if m1 ≠ [] then .need m1
      else
        let spares := (List.range t.g.scols).map (fun i => d.ctrSum t j (q.aCol + 4 * (k * q.cpb + t.g.cols + i)) 4 0)
        let ctrs := (List.range q.rp).map (fun r => d.ctrSum t j (4 * (k * q.rpb + r)) 4 0)
        if count = ctrLost 8 ∨ (ctrs ++ spares).any (fun n => n == ctrLost 4) = true then .early { outcome := 4 }
        else
          let rows := d.failRows t j k
          let m2 := j.missing (rows.flatMap (fun e => e.2))
          if m2 ≠ [] then .need m2
          else
            let m3 := j.missing ((d.tallyLines t blk).map (fun a => a + 1))
            if m3 ≠ [] then .need m3
            else .full count (d.ctrSum t j blk 8 1) (d.blockResult t j k rows (d.jobBound j))

/-! ### Running jobs -/

/-- Replace a job by its number. -/
def Device.setJob (d : Device) (j : Job) : Device :=
  { d with eng := { d.eng with jobs := d.eng.jobs.map (fun k => if k.id = j.id then j else k) } }

/-- The job with a number. -/
def Device.job (d : Device) (id : Nat) : Option Job := d.eng.jobs.find? (fun j => j.id == id)

/-- Take the lines that have come back into the job; a refused read is given as the status 3. -/
def Device.jobTake (d : Device) (j : Job) : Device × Job × Bool :=
  let (d, as) := d.takeInbox 1 j.id
  let j := as.foldl (fun (j : Job) a =>
    let key := if (KMap.find j.lines a.qla).isSome then a.qla + 1 else a.qla
    { j with lines := KMap.put j.lines key (a.data.headD (0, true)) }) j
  (d.setJob j, j, as.any (fun a => a.status == 3))

/-- Ask for the lines that a job wants next, until it holds them all or waits for some (`fuel` bounds the stages). -/
def Device.jobAdvance (d : Device) (id : Nat) : Nat → Device
  | 0 => d
  | fuel + 1 =>
    match d.job id with
    | none => d
    | some j =>
      match d.dut j.dut with
      | none => d
      | some t =>
        let (d, j, refused) := d.jobTake j
        if refused then d.endJob j 2
        else match d.jobReads t j with
          | .need keys =>
            let new := keys.filter (fun a => !(j.asked.contains a))
            if new = [] then d
            else
              let d := d.setJob { j with asked := j.asked ++ new }
              let d : Device := new.foldl (fun (d : Device) a =>
                d.route { engineReq d 1 id (d.ringClass j.queue) (64 * (a / 64)) (.siteRead 1 false) with win := 1 }) d
              d.jobAdvance id fuel
          | .early _ => d
          | .full a b _ =>
            if a ≠ b ∧ j.tries < 2 then (d.setJob { j with lines := [], asked := [], tries := j.tries + 1 }).jobAdvance id fuel
            else d

/-- Advance a job's reads as far as they go now. -/
def Device.jobRead (d : Device) (id : Nat) : Device := d.jobAdvance id 20

/-- A job goes on to its next block, or ends: after its last block, or after the block in hand where it was told to stop. -/
def Device.jobNext (d : Device) (j : Job) : Device :=
  let j := { j with next := j.next + 1, lines := [], asked := [], tries := 0, entry := none, sent := 0 }
  let d := (d.setJob j).countWrap ASSAY.BLOCKS_DONE.COUNT
  if j.next = j.blocks then d.endJob j 0
  else match j.stop with
    | some st => d.endJob j st
    | none => d.jobRead j.id

/-- Cut a result entry at line boundaries: the address of each piece and its bytes. -/
def pieces (addr : Nat) : Nat → List Nat → List (Nat × List Nat)
  | 0, _ => []
  | fuel + 1, b =>
    if b.isEmpty then []
    else
      let n := 64 - addr % 64
      (addr, b.take n) :: pieces (addr + n) fuel (b.drop n)

/-- The result entry of a block is written: to host memory at once, or at the home slices of its lines (R315, R317). -/
def Device.jobWrite (d : Device) (j : Job) (t : DutCtx) (r : Repair) : Device :=
  let k := j.first + j.next
  let b := r.entry k t.g
  let addr := j.result + entrySizeOf t.g * j.next
  let j := { j with unrep := j.unrep + (if r.outcome = 2 then 1 else 0), incon := j.incon + (if r.outcome = 3 then 1 else 0),
                    lost := j.lost + (if r.outcome = 4 then 1 else 0) }
  let d := d.countWrap ASSAY.NODES_USED.COUNT 0 (if r.outcome = 2 ∧ r.witness = 2 then 0 else r.nodes)
  if j.rloc then
    let (d, ok) := if d.ringBound j.queue then d.outWrite (d.ringPort j.queue) (d.ringLink j.queue) addr b false else (d, false)
    if ok then d.jobNext j else d.endJob j 5
  else
    let ps := pieces addr 16 b
    let d := d.setJob { j with entry := some b, sent := ps.length }
    ps.foldl (fun d e => d.engWrite 5 j.id (d.ringClass j.queue) e.1 e.2) d

/-- The writes of a result entry have come back: the job goes on, or ends ACCESS or CAPACITY (R319). -/
def Device.jobWritten (d : Device) (j : Job) : Device :=
  let mine := d.eng.inbox.filter (fun a => a.kind == 5 && a.q == j.id)
  if mine.length < j.sent then d
  else
    let (d, as) := d.takeInbox 5 j.id
    if as.any (fun a => a.status == 3) then d.endJob j 2
    else if as.any (fun a => a.status == 2) then d.endJob j 3
    else d.jobNext j

/-- Before a block ends its reads advance as far as they go. -/
def Device.blockReads (d : Device) (id : Nat) : Device :=
  match d.job id with
  | some j => if j.running ∧ j.entry.isNone = true then d.jobRead id else d
  | none => d

/-- A block without a result entry gets one once its reads have all come back. -/
def Device.blockEntry (d : Device) (j : Job) (t : DutCtx) : Device :=
  if j.entry.isSome then d
  else match d.jobReads t j with
    | .need _ => d
    | .early r => d.jobWrite j t r
    | .full a b r => d.jobWrite j t { r with changed := decide (a ≠ b) }

/-- A unit finishes a block (R310, R314, R315), once all its reads and writes have come back. -/
def Device.blockDone (d : Device) (id : Nat) : Device :=
  let d := d.blockReads id
  match d.job id with
  | none => d
  | some j =>
    if !j.running || d.enginesHeld then d
    else match d.dut j.dut with
      | none => d
      | some t =>
        let d := d.blockEntry j t
        match d.job id with
        | some k => if k.entry.isSome ∧ k.next = j.next then d.jobWritten k else d
        | none => d

/-- ASSAY_BLOCK_DONE. -/
def execAssayBlockDone (job : Nat) (s : State) : Host.Outcome State Fault Refusal := s.run (fun d => d.blockDone job)

/-- The next waiting job in rotation over the queues (R318). -/
def Device.nextJob (d : Device) : Option Job :=
  ((List.range 16).map (fun i => (d.eng.turn + 1 + i) % 16)).findSome? (fun q =>
    d.eng.jobs.find? (fun j => j.queue == q && !j.running))

/-- The units in use: by jobs that run, and by those whose completion waits for room in its ring (R319). -/
def Device.unitsBusy (d : Device) : Nat :=
  (d.eng.jobs.filter (fun j => j.running)).length + (d.eng.held.filter (fun h => !isDma h.ring)).length

/-- A free unit takes the next job (R318, R642). -/
def Device.dispatchJob (d : Device) : Device :=
  if d.pageOn .assay && !d.enginesHeld && decide (d.unitsBusy < 8) then
    match d.nextJob with
    | some j =>
      let d := d.setJob { j with running := true }
      ({ d with eng := { d.eng with turn := j.queue } }).jobRead j.id
    | none => d
  else d

/-- ANALYSE. -/
def execAnalyse (s : State) : Host.Outcome State Fault Refusal := s.run Device.dispatchJob

/-! ### Descriptor fetches (R318) -/

/-- A fetch of a submission entry ends: a job, or a job that ends at once by its checks; an entry that could not be read ends
DESC_UNREADABLE and stops the queue. -/
def Device.descFetched (d : Device) (r : Nat) : Device :=
  let (d, as) := d.takeInbox 0 r
  let x := d.ring r
  match as with
  | [] => d
  | a :: _ =>
    if x.state ≠ 1 then d.setRing r { x with fetching := false }
    else
      let b := d.entryOf r a
      let d := d.setRing r { x with fetching := false, head := (x.head + 1) % d.sqSize r }
      let j : Job := { id := d.eng.nextJob, queue := r, desc := b }
      let d := { d with eng := { d.eng with nextJob := d.eng.nextJob + 1 } }
      if readStatus a ≠ 0 then
        let d := d.setRing r { d.ring r with stopping := true }
        (d.complete r 7 (jobCpl { j with desc := List.replicate 64 0 } 7)).ringSettle r
      else if x.aborting ∨ x.disabling then
        (d.complete r 4 (jobCpl j 4)).ringSettle r
      else match d.jobCheck b with
        | some st => (d.complete r st (jobCpl j st)).ringFetch r
        | none => ({ d with eng := { d.eng with jobs := d.eng.jobs ++ [j] } }).ringFetch r

/-- ASSAY_DESC_FETCHED. -/
def execAssayDescFetched (q : Nat) (s : State) : Host.Outcome State Fault Refusal :=
  s.run (fun d => if q < 16 then d.descFetched q else d)

/-! ### Queue registers (R318 to R320, R326, R327) -/

/-- A command of a queue of the Assayer, which grade H does not have. -/
def Device.onAssay (d : Device) (q : Nat) (f : Device → Device) : Device := if d.hw.gradeH ∨ 16 ≤ q then d else f d

/-- ASSAY_SQ_TAIL. -/
def execAssaySqTail (q v : Nat) (s : State) : Host.Outcome State Fault Refusal := s.run (fun d => d.onAssay q (fun d => d.sqTail q v))

/-- ASSAY_CQ_HEAD. -/
def execAssayCqHead (q v : Nat) (s : State) : Host.Outcome State Fault Refusal := s.run (fun d => d.onAssay q (fun d => d.cqHeadWrite q v))

/-- ASSAY_ENABLE. -/
def execAssayEnable (q : Nat) (s : State) : Host.Outcome State Fault Refusal :=
  s.run (fun d => d.onAssay q (fun d => d.rwl .assay 0 (d.changes ASSAY.Q_CTL.ENABLE 1 q) (fun d => d.ringEnable q)))

/-- ASSAY_DISABLE. -/
def execAssayDisable (q : Nat) (s : State) : Host.Outcome State Fault Refusal :=
  s.run (fun d => d.onAssay q (fun d => d.rwl .assay 0 (d.changes ASSAY.Q_CTL.ENABLE 0 q) (fun d => d.ringDisable q)))

/-- ASSAY_ABORT. -/
def execAssayAbort (q : Nat) (s : State) : Host.Outcome State Fault Refusal := s.run (fun d => d.onAssay q (fun d => d.ringAbort q))

/-- The configuration fields that a queue freezes while it is enabled or disabling. -/
def ringField (r k : Nat) : Field :=
  match k with
  | 0 => ringF r ASSAY.Q_CTL.LOC DMA.Q_CTL.LOC
  | 1 => ringF r ASSAY.Q_CTL.PORT DMA.Q_CTL.PORT
  | 2 => ringF r ASSAY.Q_CTL.LINK DMA.Q_CTL.LINK
  | 3 => ringF r ASSAY.Q_CTL.BIND_VALID DMA.Q_CTL.BIND_VALID
  | 4 => ringF r ASSAY.Q_CTL.CLASS DMA.Q_CTL.CLASS
  | 5 => ringF r ASSAY.SQ_BASE_LO.BASE_LO DMA.SQ_BASE_LO.BASE_LO
  | 6 => ringF r ASSAY.SQ_BASE_HI.BASE_HI DMA.SQ_BASE_HI.BASE_HI
  | 7 => ringF r ASSAY.CQ_BASE_LO.BASE_LO DMA.CQ_BASE_LO.BASE_LO
  | 8 => ringF r ASSAY.CQ_BASE_HI.BASE_HI DMA.CQ_BASE_HI.BASE_HI
  | 9 => ringF r ASSAY.Q_SIZE.SQ_LOG2 DMA.Q_SIZE.SQ_LOG2
  | _ => ringF r ASSAY.Q_SIZE.CQ_LOG2 DMA.Q_SIZE.CQ_LOG2

/-- A write of one of these fields: ignored with CFG_BUSY while the queue is enabled or disabling, stored otherwise. -/
def Device.ringCfg (d : Device) (r k v : Nat) : Device :=
  let f := ringField r k
  d.rwl f.page 0 (d.changes f v (r % 100)) (fun d =>
    let x := d.ring r
    if x.disabling ∨ d.ringReg r ASSAY.Q_CTL.ENABLE DMA.Q_CTL.ENABLE = 1 then d.cfgBusy r else d.store f v (r % 100))

/-- ASSAY_CFG_WRITE. -/
def execAssayCfgWrite (q k v : Nat) (s : State) : Host.Outcome State Fault Refusal := s.run (fun d => d.onAssay q (fun d => d.ringCfg q k v))

end Sys2Proof.Machine
end

