-- ==== Sys2Proof/Machine/Coordinator.lean ====
section
/-! DEFINITION. The commands that change the region, geometry and DUT tables: the coordinator that carries them out, RGN_CMD and FAIL.CMD
(Addresses, Regions and Class Windows, R52 to R58; Fail Accumulation and Repair Analysis, R293 to R298, R325). -/

namespace Sys2Proof.Machine

/-! ### Table commands on one device (R53, R293) -/

/-- Is a command one of FAIL.CMD? -/
def TableCmd.ofFail : TableCmd → Bool
  | .geoSet .. | .geoClear _ | .dutBind .. | .dutUnbind _ | .dutClear _ | .dutRebuild _ => true
  | _ => false

/-- A table command on this device, which owes the coordinator its end; the source of a resync passes it on to its twin. -/
def Device.applyTable (d : Device) (c : TableCmd) : Device :=
  let d := { d with regions := { d.regions with owing := true } }.tableToResync c
  (if (TableCmd.ofFail c) then d.applyFail c else d.applyRegion c).destroyAdvance

/-! ### The coordinator carries commands out (R52, R53, R293, R681) -/

/-- The result of a command at the coordinator, from its own table and what the issuing device found of the others: the first that applies of R681,
or of R293, R294 and R298; the ID; the command as every device takes it; and, for READ, the region. -/
def Device.askResult (d : Device) (a : RegionAsk) : Nat × Nat × TableCmd × Option Region :=
  match a.cmd with
  | .create _ r =>
    let res := d.createResult r a.free
    let rid := if res = 0 then d.freeRid.getD 0 else 0
    (res, rid, .create rid r, none)
  | .destroy rid =>
    (match KMap.find d.regions.table rid with
     | none => (7, rid, a.cmd, none)
     | some r => (if !d.allReachable then 5 else if d.regionInUse r || a.busy then 6 else 0, rid, a.cmd, none))
  | .modify rid .. =>
    (if (KMap.find d.regions.table rid).isNone then 7 else if !d.allReachable then 5 else 0, rid, a.cmd, none)
  | .read rid => (if (KMap.find d.regions.table rid).isNone then 7 else 0, rid, a.cmd, KMap.find d.regions.table rid)
  | .geoSet id g =>
    (if !d.allReachable then 8 else if 255 < id then 2 else if d.geoUsed id then 3 else if geoValid g then 0 else 1, id, a.cmd, none)
  | .geoClear id => (if !d.allReachable then 8 else if 255 < id then 2 else if d.geoUsed id then 3 else 0, id, a.cmd, none)
  | .dutBind id b =>
    (if !d.allReachable then 8 else if (KMap.find d.fail.duts id).isSome then 5
     else match KMap.find d.fail.geos b.geo with
       | none => 2
       | some g => if d.dutPlaced b g then 0 else 4, id, a.cmd, none)
  | .dutUnbind id | .dutClear id | .dutRebuild id => (if !d.allReachable then 8 else d.dutResult id a.busy, id, a.cmd, none)
  | c => (0, 0, c, none)

/-- The result of a command of this device is here; a READ loads the staging registers. The command ends with REGION_CMD_DONE or
FAIL_CMD_DONE. -/
def Device.gotResult (d : Device) (fail : Bool) (code id : Nat) (r : Option Region) : Device :=
  if fail then
    match d.fail.run with
    | some x => if x.ask.isSome then { d with fail := { d.fail with run := some { x with result := code, ask := none } } } else d
    | none => d
  else if (d.regions.cmd.bind (fun c => c.ask)).isSome then
    let d := { d with regions := { d.regions with cmd := some { result := code, rid := id } } }
    match r with
    | some x => d.loadStaging x
    | none => d
  else d

/-- The first link to a device, in service or not: a device out of service is reached over a link of its own only (R464, R482). -/
def Device.linkTowards (d : Device) (arr : Nat) : Option Nat :=
  (d.routeTo arr).orElse (fun _ => if arr / 4 = d.side then d.meshTo (arr % 4) else if arr % 4 = d.qid then d.twinLink else none)

/-- The coordinator gives the issuing device its result. -/
def Device.giveResult (d : Device) (frm : Nat) (fail : Bool) (code id : Nat) (r : Option Region) : Device :=
  if frm = d.myArr then d.gotResult fail code id r
  else match d.linkTowards frm with
    | some p => d.tell p 0 (.tableCmd frm (.result fail code id r))
    | none => d

/-- A command that passes its checks goes to every device in service and to this one; it runs until all have finished it. -/
def Device.tableStart (d : Device) (frm id : Nat) (c : TableCmd) : Device :=
  let others := d.twin.inService.filter (fun a => a != d.myArr)
  let d := { d with regions := { d.regions with exec := some (frm, (TableCmd.ofFail c), id), await := d.myArr :: others } }
  (d.tableToAll c).applyTable c

/-- Commands are carried out one at a time in their order of arrival (`fuel` bounds them): the one that every device has finished ends, and the
next starts; one that fails changes nothing. -/
def Device.tableSteps (d : Device) : Nat → Device
  | 0 => d
  | fuel + 1 =>
    match d.regions.exec with
    | some (frm, fail, id) =>
      if d.regions.await.isEmpty then
        (({ d with regions := { d.regions with exec := none } }).giveResult frm fail 0 id none).tableSteps fuel
      else d
    | none =>
      match d.regions.asks with
      | [] => d
      | a :: rest =>
        let d := { d with regions := { d.regions with asks := rest } }
        let (code, id, c, r) := d.askResult a
        let d := if code ≠ 0 ∨ r.isSome = true then d.giveResult a.frm (TableCmd.ofFail c) code id r else d.tableStart a.frm id c
        d.tableSteps fuel

/-- Carry out what can be. -/
def Device.tableStep (d : Device) : Device := d.tableSteps (2 * d.regions.asks.length + 3)

/-- A command reaches the coordinator, where it waits its turn. -/
def Device.takeAsk (d : Device) (a : RegionAsk) : Device :=
  ({ d with regions := { d.regions with asks := d.regions.asks ++ [a] } }).tableStep

/-- Bring a command to the coordinator. Where no device is in service there is none, and the command fails here (R53). -/
def Device.askTable (d : Device) (a : RegionAsk) : Device :=
  match d.coordinator with
  | some k => if k = d.myArr then d.takeAsk a else d.tellDev k 0 (.tableCmd k (.ask a.frm a.free a.busy a.cmd))
  | none =>
    let (code, id, c, r) := d.askResult a
    d.gotResult (TableCmd.ofFail c) (if code = 0 ∧ r.isNone = true then 5 else code) id r

/-- A device that finishes a command, or leaves service, is waited for no longer (R53). -/
def Device.tableGot (d : Device) (arr : Nat) : Device :=
  ({ d with regions := { d.regions with await := d.regions.await.filter (fun x => x != arr) } }).tableStep

/-- Commands whose coordinator is gone before it gave a result go to the new one (DESIGN CHOICE, log entry 113). -/
def Device.askAgain (d : Device) : Device :=
  let d := match d.regions.cmd.bind (fun c => c.ask) with
    | some a => d.askTable a
    | none => d
  match d.fail.run.bind (fun x => x.ask) with
  | some a => d.askTable a
  | none => d

/-! ### RGN_CMD (R54 to R57) -/

/-- A write of RGN_CMD: CMD_BUSY while a command runs (R54); the lock of the page binds it (R643). -/
def Device.regionCmd (d : Device) (f : Device → Device) : Device :=
  d.rwl .region 0 true (fun d =>
    if d.regions.cmd.isSome then d.raise REGION.flag.CMD_BUSY 0 [] [] false else f d)

/-- A region command of this device starts: it runs until REGION_CMD_DONE. -/
def Device.startRegion (d : Device) (c : TableCmd) (free : Int) (busy : Bool) : Device :=
  let a : RegionAsk := { frm := d.myArr, free := free, busy := busy, cmd := c }
  ({ d with regions := { d.regions with cmd := some { result := 0, rid := 0, ask := some a } } }).askTable a

/-- CREATE. `others` is the least el_free of the other devices in service. -/
def Device.create (d : Device) (others : Int) : Device :=
  d.regionCmd (fun d => d.startRegion (.create 0 d.staged) (if d.coordinates then others else min others d.elFree) false)

/-- CREATE. -/
def execCreate (others : Int) (s : State) : Host.Outcome State Fault Refusal := s.run (fun d => d.create others)

/-- DESTROY. `busy` tells that another device holds the region in use (R57). -/
def Device.destroy (d : Device) (rid : Nat) (busy : Bool) : Device :=
  d.regionCmd (fun d =>
    let mine := match KMap.find d.regions.table rid with | some r => d.regionInUse r | none => false
    d.startRegion (.destroy rid) 0 (mine || busy))

/-- DESTROY. -/
def execDestroy (rid : Nat) (busy : Bool) (s : State) : Host.Outcome State Fault Refusal := s.run (fun d => d.destroy rid busy)

/-- MODIFY (R56). -/
def Device.modifyRegion (d : Device) (rid : Nat) : Device :=
  d.regionCmd (fun d =>
    let r := d.staged
    d.startRegion (.modify rid r.tier r.hostAcc r.siteAcc r.hostMask r.sgMask) 0 false)

/-- MODIFY. -/
def execModify (rid : Nat) (s : State) : Host.Outcome State Fault Refusal := s.run (fun d => d.modifyRegion rid)

/-- READ (R56). -/
def Device.readRegion (d : Device) (rid : Nat) : Device := d.regionCmd (fun d => d.startRegion (.read rid) 0 false)

/-- RGN_READ. -/
def execRgnRead (rid : Nat) (s : State) : Host.Outcome State Fault Refusal := s.run (fun d => d.readRegion rid)

/-- A region command ends once its result is here, which the coordinator gives when every device has finished (R53, R58). -/
def Device.regionDone (d : Device) : Device :=
  let d := d.proceed.tableStep
  match d.regions.cmd with
  | none => d
  | some c =>
    if c.ask.isSome then d
    else
      let d := { d with regions := { d.regions with cmd := none } }
      ((d.setReg REGION.RGN_STATUS.RESULT c.result).setReg REGION.RGN_STATUS.RID c.rid).evt REGION.flag.CMD_DONE

/-- REGION_CMD_DONE. -/
def execRegionCmdDone (s : State) : Host.Outcome State Fault Refusal := s.run Device.regionDone

/-! ### FAIL.CMD (R286 to R298, R325) -/

/-- A write of FAIL.CMD: CMD_BUSY while a command runs (R293, R54, R328); the lock of the page binds it. -/
def Device.failCmd (d : Device) (f : Device → Device) : Device :=
  d.rwl .fail 0 true (fun d =>
    if d.hw.gradeH then d
    else if d.fail.run.isSome then d.raise FAIL.flag.CMD_BUSY 0 [] [] false else f d)

/-- A fail command starts and runs until FAIL_CMD_DONE. -/
def Device.failStart (d : Device) (op id result : Nat) : Device :=
  { d with fail := { d.fail with run := some { op := op, id := id, result := result } } }

/-- A command that changes the tables goes to the coordinator. `busy`: a job of another device names the DUT. -/
def Device.failTable (d : Device) (op id : Nat) (busy : Bool) (c : TableCmd) : Device :=
  d.failCmd (fun d =>
    let a : RegionAsk := { frm := d.myArr, free := 0, busy := busy, cmd := c }
    ({ d with fail := { d.fail with run := some { op := op, id := id % 1024, result := 0, ask := some a } } }).askTable a)

/-- A geometry is set from the staging registers (R288, R298, R325). -/
def Device.geoSet (d : Device) (id : Nat) : Device := d.failTable 1 id false (.geoSet (id % 1024) d.stagedGeo)

/-- GEO_SET. -/
def execGeoSet (id : Nat) (s : State) : Host.Outcome State Fault Refusal := s.run (fun d => d.geoSet id)

/-- A geometry is cleared (R298). -/
def Device.geoClear (d : Device) (id : Nat) : Device := d.failTable 2 id false (.geoClear (id % 1024))

/-- GEO_CLEAR. -/
def execGeoClear (id : Nat) (s : State) : Host.Outcome State Fault Refusal := s.run (fun d => d.geoClear id)

/-- A geometry is read into the staging registers (R325). -/
def Device.geoRead (d : Device) (id : Nat) : Device :=
  d.failCmd (fun d =>
    match KMap.find d.fail.geos (id % 1024) with
    | some g => (d.loadGeo g).failStart 3 (id % 1024) 0
    | none => d.failStart 3 (id % 1024) 2)

/-- GEO_READ. -/
def execGeoRead (id : Nat) (s : State) : Host.Outcome State Fault Refusal := s.run (fun d => d.geoRead id)

/-- A DUT is bound (R294). -/
def Device.dutBind (d : Device) (id : Nat) : Device := d.failTable 4 id false (.dutBind (id % 1024) d.stagedDut)

/-- DUT_BIND. -/
def execDutBind (id : Nat) (s : State) : Host.Outcome State Fault Refusal := s.run (fun d => d.dutBind id)

/-- Does a job of this device's Assayer name a DUT (R298)? -/
def Device.dutNamed (d : Device) (id : Nat) : Bool := d.eng.jobs.any (fun j => ofLe ((j.desc.drop 4).take 2) == id % 1024)

/-- DUT_UNBIND (R296). -/
def Device.dutUnbind (d : Device) (id : Nat) (busy : Bool) : Device := d.failTable 5 id (d.dutNamed id || busy) (.dutUnbind (id % 1024))

/-- DUT_UNBIND. -/
def execDutUnbind (id : Nat) (busy : Bool) (s : State) : Host.Outcome State Fault Refusal := s.run (fun d => d.dutUnbind id busy)

/-- DUT_CLEAR (R296). -/
def Device.dutClear (d : Device) (id : Nat) (busy : Bool) : Device := d.failTable 6 id (d.dutNamed id || busy) (.dutClear (id % 1024))

/-- DUT_CLEAR. -/
def execDutClear (id : Nat) (busy : Bool) (s : State) : Host.Outcome State Fault Refusal := s.run (fun d => d.dutClear id busy)

/-- DUT_REBUILD (R296). -/
def Device.dutRebuild (d : Device) (id : Nat) (busy : Bool) : Device := d.failTable 7 id (d.dutNamed id || busy) (.dutRebuild (id % 1024))

/-- DUT_REBUILD. -/
def execDutRebuild (id : Nat) (busy : Bool) (s : State) : Host.Outcome State Fault Refusal := s.run (fun d => d.dutRebuild id busy)

/-- A DUT is read into the staging registers (R325): one that is not bound leaves all of them but BOUND unchanged. -/
def Device.dutRead (d : Device) (id : Nat) : Device :=
  d.failCmd (fun d =>
    let d := match KMap.find d.fail.duts (id % 1024) with
      | some b =>
        let d := (d.setReg FAIL.DUT_GEO.GEO b.geo).setReg FAIL.DUT_GEO.BOUND 1
        let d := (d.setReg FAIL.DUT_BMAP_LO.QLA_LO (b.bmap / 4096)).setReg FAIL.DUT_BMAP_HI.QLA_HI (b.bmap / 2 ^ 32)
        (d.setReg FAIL.DUT_TALLY_LO.QLA_LO (b.tally / 4096)).setReg FAIL.DUT_TALLY_HI.QLA_HI (b.tally / 2 ^ 32)
      | none => d.setReg FAIL.DUT_GEO.BOUND 0
    d.failStart 8 (id % 1024) 0)

/-- DUT_READ. -/
def execDutRead (id : Nat) (s : State) : Host.Outcome State Fault Refusal := s.run (fun d => d.dutRead id)

/-- A fail command ends once its result is here (R293, R297): CMD_STAT, CMD_DONE, and the records that waited for it apply. -/
def Device.failDone (d : Device) : Device :=
  let d := d.proceed.tableStep
  match d.fail.run with
  | none => d
  | some c =>
    if c.ask.isSome then d
    else
      let d := { d with fail := { d.fail with run := none } }
      (((d.setReg FAIL.CMD_STAT.RESULT c.result).setReg FAIL.CMD_STAT.ID c.id).evt FAIL.flag.CMD_DONE).pumpQueue

/-- FAIL_CMD_DONE. -/
def execFailCmdDone (s : State) : Host.Outcome State Fault Refusal := s.run Device.failDone

end Sys2Proof.Machine
end

