-- ==== Sys2Proof/Machine/CohCmds.lean ====
section
/-! DEFINITION. The commands of a host's CXL.mem interface and of the directory (Coherence and the Directory, R118 to
R160; Host Ports, R370 to R372). -/

namespace Sys2Proof.Machine

/-! ### Requests -/

/-- An M2S message that neither R118 nor R371 admits: a protocol error of the link (R372). -/
def Device.badM2s (d : Device) (p l : Nat) : Device := if (d.hostLink p l).state = .upMem then d.protoErr p l 1 else d

/-- MEMRD (R135); with MetaField No-Op it is one with MetaValue A (R371). -/
def execMemrd (p l tag dpa : Nat) (m : HostMeta) (s : State) : Host.Outcome State Fault Refusal :=
  s.run (fun d => match m with
    | .state v => d.hostIntake p l tag dpa (.hostRead v)
    | .noOp => d.hostIntake p l tag dpa (.hostRead .a)
    | .other => d.badM2s p l)

/-- MEMRDDATA: as MemRd with MetaValue A (R118). -/
def execMemrddata (p l tag dpa : Nat) (s : State) : Host.Outcome State Fault Refusal :=
  s.run (fun d => d.hostIntake p l tag dpa (.hostRead .a))

/-- MEMSPECRD: accepted and ignored; any other M2S message that R118 does not list is a protocol error (R371). -/
def execMemspecrd (p l : Nat) (m : SpecMsg) (s : State) : Host.Outcome State Fault Refusal :=
  s.run (fun d => match m with
    | .memSpecRd _ => d
    | .unlisted => d.badM2s p l)

/-- MEMINV and MemInvNT (R135). -/
def execMeminv (p l tag dpa : Nat) (s : State) : Host.Outcome State Fault Refusal :=
  s.run (fun d => d.hostIntake p l tag dpa .hostInv)

/-- MEMCLNEVCT (R135). -/
def execMemclnevct (p l tag dpa : Nat) (s : State) : Host.Outcome State Fault Refusal :=
  s.run (fun d => d.hostIntake p l tag dpa .cleanEvict)

/-- BICONFLICT (R138). -/
def execBiconflict (p l tag dpa : Nat) (s : State) : Host.Outcome State Fault Refusal :=
  s.run (fun d => d.hostIntake p l tag dpa .biConflict)

/-- MEMWR (`full`) and MemWrPtl (R135); MetaField No-Op is MetaValue I, and MetaValue A is no encoding of a write (R371). -/
def execMemwr (p l tag dpa : Nat) (data : Line) (mask : BitVec 64) (full : Bool) (m : HostMeta) (s : State) :
    Host.Outcome State Fault Refusal :=
  s.run (fun d => match m with
    | .state .a | .other => d.badM2s p l
    | .state v => d.hostIntake p l tag dpa (.hostWrite data mask full v)
    | .noOp => d.hostIntake p l tag dpa (.hostWrite data mask full .i))

/-! ### Answers to snoops -/

/-- The late answer to an expired snoop: its entry leaves the stale list unless another snoop of the same host and line is late (R139). -/
def Device.lateAnswer (d : Device) (x : LateSnoop) : Device :=
  let late := d.coh.late.filter (fun y => y != x)
  let stale := if late.any (fun y => y.host == x.host && y.line == x.line) then d.coh.stale
    else d.coh.stale.filter (fun y => !(y.1 == x.host && y.2.1 == x.line))
  { d with coh := { d.coh with late := late, stale := stale } }

/-- The answer of a host to a snoop that another device asked for goes back to the home; the parts of a broadcast are answered once, when
the last of them here has ended, and a late answer names its host (R127, R128, R139). -/
def Device.remoteAnswer (d : Device) (x : RemoteSnoop) (ans : SnoopAnswer) : Device :=
  if x.part && !x.expired then d.partEnds x
  else
    let d := { d with coh := { d.coh with remote := d.coh.remote.filter (fun s => s.sid != x.sid) } }
    d.tellDev x.frm (d.lineOf x.qla) (.snoopAns x.frm x.home ans false x.host x.win (!x.expired))

/-- A BIRsp of a host link (R119, R135, R151, R372). -/
def Device.biRsp (d : Device) (p l sid : Nat) (ans : SnoopAnswer) : Device :=
  let host := d.hostId p l
  if (d.hostLink p l).state ≠ .upMem then d
  else if ans = .blk then d.protoErr p l 2
  else match d.coh.snoops.find? (fun s => s.sid == sid && s.target.arr == d.myArr && s.target.host == host) with
    | some _ => d.snoopAnswer sid ans
    | none =>
      match d.coh.remote.find? (fun s => s.sid == sid && s.host == host) with
      | some x => d.remoteAnswer x ans
      | none =>
        match d.coh.late.find? (fun x => x.sid == sid && x.host == host && x.arr == d.myArr) with
        | some x => d.lateAnswer x
        | none => d.protoErr p l 3

/-- Has the timer of a snoop expired: BI_TIMEOUT.US of the always-on clock have passed since it was sent (R146)? -/
def Device.timerOver (d : Device) (start : Nat) : Bool := decide (start + 1000 * d.reg COH.BI_TIMEOUT.US ≤ d.power.aon)

/-- What a home does where a snoop of a line to a host times out (R139, R147, R148): poison, BI_TIMEOUT, the stale list; where that is full, the link
is contained, by its own device if it is another's. The write of the poison is charged to SWEEP_CLASS, which the spec names for sweeps only (DESIGN
CHOICE, log entry 121). -/
def Device.snoopLate (d : Device) (sid line : Nat) (t : Ptr) : Device :=
  let d := d.countSat COH.BI_TIMEOUTS.COUNT
  let d := d.commitConflict line
  let d := d.poisonLine line (d.reg COH.DIR_CTL.SWEEP_CLASS)
  let d := d.raise COH.flag.BI_TIMEOUT 0 ([t.host, t.win, t.arr] ++ leBytes 6 (d.qlaOfLine line)) [t.host]
  if d.isStale t.host line then { d with coh := { d.coh with late := d.coh.late ++ [⟨sid, t.host, t.win, t.arr, line⟩] } }
  else if (d.coh.stale.filter (fun x => homeSlice x.2.1 == homeSlice line)).length < 64 then
    { d with coh := { d.coh with stale := d.coh.stale ++ [(t.host, line, t.arr)], late := d.coh.late ++ [⟨sid, t.host, t.win, t.arr, line⟩] } }
  else if t.arr = d.myArr then
    match d.linkOfHost t.host with
    | some (p, l) => d.contain p l 7
    | none => d
  else d.tellDev t.arr line (.snoopFwd t.arr d.myArr sid .inv t.host t.win (d.qlaOfLine line) .stale)

/-- A snoop ends at the home because its timer has expired: a named one loses its pointer (R147). -/
def Device.snoopExpires (d : Device) (s : Snoop) : Device :=
  let d := if s.broadcast then d else d.setEntry s.line ((d.entry s.line).unshare s.target)
  ((d.dropSnoop s).snoopLate s.sid s.line s.target).proceed

/-- A snoop's timer expires: of this home's own snoop, or of a part of another home's broadcast, whose home is told; the host 33 stands for a
part of a broadcast on another device, which runs its own timers (log entry 114). -/
def Device.biTimeout (d : Device) (sid : Nat) : Device :=
  match d.coh.snoops.find? (fun s => s.sid == sid && s.target.host != 33) with
  | some s => if d.timerOver s.start then d.snoopExpires s else d
  | none =>
    match d.coh.remote.find? (fun s => s.sid == sid && s.part && !s.expired) with
    | some x =>
      if d.timerOver x.start then
        let x' := { x with expired := true }
        let d := { d with coh := { d.coh with remote := d.coh.remote.map (fun (s : RemoteSnoop) => if s.sid = sid then x' else s) } }
        let last := !(d.coh.remote.any (fun s => s.home == x.home && s.frm == x.frm && !s.expired))
        d.tellDev x.frm (d.lineOf x.qla) (.snoopAns x.frm x.home .rspI true x.host x.win last)
      else d
    | none => d

/-! ### Sweeps -/

/-- A broadcast sweep of a set (R133): each logged line that this device homes is broadcast and leaves the log; one in no
region leaves it without a broadcast (R58). -/
def Device.broadcastSweep (d : Device) (set : Nat) : Device :=
  let ways := d.waysOf set
  if !(d.setOvf set) ∨ (ways.length = 16 ∧ ways.all (fun e => e.2.pin)) then d
  else
    let lines := d.coh.log.filter (fun l => dirSet l == set && d.homesLine l && !d.linePend l)
    (lines.foldl (fun (d : Device) l =>
      match d.regionOfLine l with
      | some (_, g) => d.broadcast l g .sweep none
      | none => d.logDrop l) d).proceed

/-- BROADCAST_SWEEP. -/
def execBroadcastSweep (set : Nat) (s : State) : Host.Outcome State Fault Refusal := s.run (fun d => d.broadcastSweep set)

/-- Put a line into a list that is in ascending order of sets. -/
def insertSet (line : Nat) : List Nat → List Nat
  | [] => [line]
  | x :: l => if dirSet line < dirSet x then line :: x :: l else x :: insertSet line l

/-- The end of a directory sweep (R139, R156): in ascending order of sets, every pointer to a lost link of a line that this device homes has been
handled; the stale entries of those links go, SWEEP_PEND clears. A follow's entries change with its lead's (R153). -/
def Device.sweepDone (d : Device) : Device :=
  if !d.coh.lossSweep then d
  else
    let lines := (d.coh.dir.map Prod.fst).foldl (fun l x => insertSet x l) []
    let d := (lines.filter (fun l => d.homesLine l)).foldl (fun (d : Device) l => d.purgeLost l) d
    let lost (h a : Nat) : Bool := d.isLost { host := h, win := 0, arr := a }
    let stale := d.coh.stale.filter (fun x => !lost x.1 x.2.2)
    let late := d.coh.late.filter (fun x => !lost x.host x.arr)
    let d := { d with coh := { d.coh with lostPtrs := [], lossSweep := false, lossRaised := false, stale := stale, late := late } }
    let d := { d with host := { d.host with links := d.host.links.map (fun (e : Nat × HostLink) => (e.1, { e.2 with sweepPend := false })) } }
    (d.evt COH.flag.SWEEP_DONE).proceed

/-- SWEEP_DONE. -/
def execSweepDone (s : State) : Host.Outcome State Fault Refusal := s.run Device.sweepDone

/-! ### Queries and markers -/

/-- QUERY_CMD.START (R159): the entry of the line named in QUERY_LLA. -/
def Device.dirQuery (d : Device) : Device :=
  let line := d.reg COH.QUERY_LLA_LO.LLA_LO + 2 ^ 26 * d.reg COH.QUERY_LLA_HI.LLA_HI
  let e := d.entry line; let pend := d.linePend line
  let found := (KMap.find d.coh.dir line).isSome && !(e.isFree && !pend)
  let w := if found then e.word line pend else 0
  let d := d.setReg COH.QUERY_CMD.FOUND (if found then 1 else 0)
  let d := d.setReg COH.QUERY_CMD.SET_OVF (if d.setOvf (dirSet line) then 1 else 0)
  let d := d.setReg COH.QUERY_CMD.LOGGED (if d.coh.log.contains line then 1 else 0)
  d.setPair COH.QUERY_ENTRY_LO.ENTRY_LO COH.QUERY_ENTRY_HI.ENTRY_HI w

/-- QUERY_CMD_START. -/
def execQueryCmdStart (s : State) : Host.Outcome State Fault Refusal := s.run Device.dirQuery

/-- A notice-flush marker arrives: it is awaited no longer, or, where this device has not yet seen the loss it belongs to, it is kept; requests for the
taken-over lines proceed when none is awaited (R155). -/
def Device.flushGot (d : Device) (arr : Nat) : Device :=
  if d.coh.flushWait.contains arr then
    let w := d.coh.flushWait.filter (fun a => a != arr)
    let d := { d with coh := { d.coh with flushWait := w } }
    if w.isEmpty then d.proceed else d
  else if d.coh.flushWait.isEmpty && !(d.coh.notices.contains arr) then
    { d with coh := { d.coh with notices := d.coh.notices ++ [arr] } }
  else d

end Sys2Proof.Machine
end

