-- ==== Sys2Proof/Machine/TierCmds.lean ====
section
/-! DEFINITION. Writebacks, the Baker and the pool audit (Tiers, Loaves and Slices, R91 to R113). -/

namespace Sys2Proof.Machine

/-! ### Layouts (R85, R87, R91, R440) -/

/-- The layout that a loaf is to take: ZERO, PLAIN, or a stream with its quarter ends. -/
inductive Plan where
  | zero
  | plain
  | baked (stream qend : List Nat)
  deriving DecidableEq, Repr

/-- What a writeback or the Baker has of one quarter: its lines, and its stored bytes where a bake carries them over undecoded (R91); whether
they do not decode. -/
structure QuarterSrc where
  lines : List (Line × Bool)
  raw : Option (List Nat) := none
  corrupt : Bool := false

/-- The encoding of a quarter in a bake. -/
def QuarterSrc.encode (q : QuarterSrc) : List Nat :=
  match q.raw with
  | some s => s
  | none => encodeQuarter (q.lines.flatMap (fun v => lineBytes v.1))

/-- Does a quarter hold a poisoned line, as far as a bake knows: a carried quarter only in mode 0xFE (R83, R440)? -/
def QuarterSrc.poisoned (q : QuarterSrc) : Bool :=
  match q.raw with
  | some s => s.head? == some 0xFE
  | none => q.lines.any (fun v => v.2)

/-- The layout of a page that is to be baked: ZERO where every quarter is, PLAIN where the stream is too long (R87). -/
def planBake (qs : List QuarterSrc) : Plan :=
  let es := qs.map QuarterSrc.encode
  let s := es.flatten
  let e1 := (es.getD 0 []).length; let e2 := e1 + (es.getD 1 []).length; let e3 := e2 + (es.getD 2 []).length
  if s = [0, 0, 0, 0] then .zero else if s.length ≤ 3584 then .baked s [e1, e2, e3] else .plain

/-- Does a writeback bake (R91, R82)? `tier` and `el` are its region's policy and capacity. -/
def bakes (r : LoafRec) (tier : Nat) (el : Bool) : Bool :=
  r.state != 4 && (if tier = 2 then true else if tier = 1 then false else r.baked || (!r.plain && el))

/-- The layout that a writeback gives a loaf (R91, R82, R440). -/
def planWriteback (r : LoafRec) (tier : Nat) (el : Bool) (qs : List QuarterSrc) : Plan :=
  if bakes r tier el && !(qs.any QuarterSrc.poisoned) then planBake qs else .plain

/-- The bytes of a stream as 64-byte bursts. -/
def streamBursts (s : List Nat) : List Line := (chunk 64 64 s).map lineOfBytes

/-- Write lines into the bursts of slices, from the first burst on. -/
def Device.writeSlices (d : Device) (lpn bin : Nat) (sl : List Nat) (l : List (Line × Bool)) : Device :=
  (l.zip (List.range l.length)).foldl (fun d e =>
    d.writeBurst (sliceAddr bin (sl.getD (e.2 / 8) 0) + 64 * (e.2 % 8)) e.1.1 e.1.2 (some lpn)) d

/-- Take new slices for a layout and write it: the device, the new record, the bursts written. Bursts of the slices that
hold none of it carry no poison mark from before. -/
def Device.storePlan (d : Device) (lpn : Nat) (p : Plan) (lines : List (Line × Bool)) : Device × LoafRec × Nat :=
  match p with
  | .zero => (d, { state := 1 }, 0)
  | .plain =>
    let (d, b, l) := d.allocSlices 8
    let ls := (lines.zip (List.range 64)).map (fun e => (e.1.1, e.1.2 || d.isToken (64 * lpn + e.2) e.1.1))
    (d.writeSlices lpn b l ls, { state := 2, nslice := 8, bin := b, slices := l }, 64)
  | .baked s e =>
    let n := (s.length + 511) / 512
    let (d, b, l) := d.allocSlices n
    let clean := d.tier.poisoned.filter (fun ra => !(l.any (fun i => sliceAddr b i == 512 * (ra / 512))))
    let d := { d with tier := { d.tier with poisoned := clean } }
    let bs := streamBursts s
    (d.writeSlices lpn b l (bs.map (fun v => (v, false))), { state := 3, nslice := n, bin := b, qend := e, slices := l }, bs.length)

/-- What is stored of a quarter that a writeback or a migration needs, for the lines that are not at hand, and the bursts of old slices read.
`carry` tells a bake of a quarter that no line was written in: its bytes are taken undecoded (R91). -/
def Device.oldQuarter (d : Device) (lpn cls : Nat) (r : LoafRec) (q : Nat) (have_ : List Bool) (carry : Bool) : Device × QuarterSrc × Nat :=
  let all := have_.all (fun x => x)
  if r.plain then
    let (d, ls, n) := (List.range 16).foldl (fun (st : Device × List (Line × Bool) × Nat) i =>
      let (d, ls, n) := st
      if have_.getD i false then (d, ls ++ [(0, false)], n)
      else
        let k := 16 * q + i
        let (d, v, p, dram) := d.readBurst (sliceAddr r.bin (r.slices.getD (k / 8) 0) + 64 * (k % 8)) cls
        (d, ls ++ [(v, p)], n + (if dram then 1 else 0))) (d, [], 0)
    (d, { lines := ls }, n)
  else if r.baked then
    if all && !carry then (d, { lines := List.replicate 16 (0, false) }, 0)
    else
      let (d, v, s, n, bad) := d.readQuarter r q cls
      let d := if bad then d.quarterLost lpn r q cls true else d
      (d, { lines := v.lines, raw := if carry && !bad then some s else none, corrupt := v == .corrupt && !bad }, n)
  else (d, { lines := List.replicate 16 (0, r.state == 4) }, 0)

/-- The four quarters of a loaf, from the lines at hand and the stored form, and the bursts of old slices read. `dirty` tells the
lines that were written, `bake` whether the loaf is to be baked. -/
def Device.gather (d : Device) (lpn cls : Nat) (r : LoafRec) (bake : Bool) (hand : Nat → Option T0Line) (dirty : Nat → Bool) :
    Device × List QuarterSrc × Nat :=
  (List.range 4).foldl (fun (st : Device × List QuarterSrc × Nat) q =>
    let (d, qs, n) := st
    let idx := (List.range 16).map (fun i => 16 * q + i)
    let carry := bake && r.baked && !(idx.any dirty)
    let (d, old, k) := d.oldQuarter lpn cls r q (idx.map (fun i => (hand i).isSome)) carry
    let mine := (idx.zip old.lines).map (fun e => match hand e.1 with | some t => (t.data, t.poison) | none => e.2)
    (d, qs ++ [{ old with lines := mine, corrupt := old.corrupt && (carry || idx.any (fun i => (hand i).isNone)) }], n + k)) (d, [], 0)

/-- The 64 lines of a loaf. -/
def allLines (qs : List QuarterSrc) : List (Line × Bool) := qs.flatMap QuarterSrc.lines

/-- Corrupt quarters whose lines a layout needs decoded become poison (R86). -/
def Device.lostQuarters (d : Device) (lpn cls : Nat) (r : LoafRec) (qs : List QuarterSrc) : Device :=
  (qs.zip (List.range 4)).foldl (fun (d : Device) e => if e.1.corrupt then d.quarterLost lpn r e.2 cls false else d) d

/-- Put a loaf's new record in place of the old one: the record changes in one update, the old slices are freed, the
Elastic charge follows (R91, R105). -/
def Device.changeRecord (d : Device) (lpn : Nat) (old new : LoafRec) : Device :=
  let d := d.writeRecord lpn new.word
  let c := channelOf (d.recordAddr lpn)
  let x := d.chan c
  let d := if d.chanOut c && !(x.pinned.contains lpn) then d.setChan c { x with pinned := x.pinned ++ [lpn] } else d
  let d := d.freeSlices old.bin old.slices
  let d := { d with tier := { d.tier with fetched := d.tier.fetched.keep (fun l _ => lpnOf l != lpn) } }
  (d.chargeChange lpn old new).capUpdate

/-- Does this device home a loaf now? -/
def Device.homesLoaf (d : Device) (lpn : Nat) : Bool := d.homesLine (64 * lpn)

/-- The home tells the follow of a record change: 64 bytes of the class (R101, R331). A follow's own writeback tells nobody (R474). -/
def Device.tellRecord (d : Device) (lpn cls : Nat) (new : LoafRec) (w : Waiter) : Device × Option (Nat × Nat) :=
  if d.mirrored lpn && d.homesLoaf lpn then
    let k := streamOf (64 * lpn)
    let (d, t) := (d.chargeTwin cls 64).twinSend k (.mirrorRec lpn new.layout)
    (d.awaitCs k t w, some (k, t))
  else (d, none)

/-! ### The check of a stream (R102) -/

/-- A stream of compression engine `e` fails its check: the engine is fenced. -/
def Device.verifyFail (d : Device) (e : Nat) : Device :=
  let e := e % 16
  let d := (d.countWrap BAKER.VERIFY_FAILS.COUNT).raise TIER.flag.VERIFY_FAIL 0 [e] [e]
  let w := d.reg TIER.ENGINE_FENCE.FENCED
  if bitOf w e then d
  else
    let w := w + 2 ^ e
    let d := (d.setReg TIER.ENGINE_FENCE.FENCED w).setReg TIER.CAP_STAT.ENGINES_IN_SERVICE (16 - onesIn w 16)
    let d := d.evt TIER.flag.ENGINE_FENCED
    if w = 65535 then d.raise TIER.flag.ENGINES_LOST 0 [] [] else d

/-! ### Evictions and writebacks (R91 to R93, R426, R427) -/

/-- FRAME_EVICT. -/
def execFrameEvict (lpn : Nat) (s : State) : Host.Outcome State Fault Refusal := s.run (fun d => d.evictFrame lpn)

/-- After a writeback: the lines of the snapshot that no later write wrote are clean; a frame without dirty lines leaves (R92). -/
def Frame.written (f : Frame) (snap : KMap T0Line) : Option Frame :=
  let ls : KMap T0Line := f.lines.map (fun e =>
    (e.1, if (KMap.find snap e.1).isSome && !(f.again.contains e.1) then { e.2 with dirty := false } else e.2))
  if ls.any (fun e => e.2.dirty) then some { f with lines := ls, snap := none, again := [] } else none

/-- The frame of a loaf after its writeback. -/
def Device.frameWritten (d : Device) (lpn : Nat) (snap : KMap T0Line) : Device :=
  match d.frame lpn with
  | none => d
  | some f =>
    let fs := match f.written snap with
      | some g => KMap.put d.tier.frames lpn g
      | none => KMap.drop d.tier.frames lpn
    let d := { d with tier := { d.tier with frames := fs } }
    if (d.frame lpn).isSome && decide (16 < d.t0Ways (t0Set lpn)) then d.makeRoom (t0Set lpn) else d

/-- The lines of a loaf that a writeback or the Baker must have and that the twin has to give: their channel is out of service, or their stored
form is corrupt or uncorrectable (R86, R426, R441). `carry` are the quarters whose bytes are taken undecoded. -/
def Device.outLines (d : Device) (lpn : Nat) (hand : Nat → Option T0Line) (carry : Nat → Bool) : List Nat :=
  let r := d.loaf lpn
  ((List.range 64).filter (fun i =>
    if r.baked && carry (i / 16) then
      let (a, b) := d.spanOf r (i / 16)
      !(d.atHand (64 * lpn + i)).isSome && ((r.bursts a b).any (fun ra => (d.wqFind ra).isNone && !((d.chan (channelOf ra)).inService))
        || d.quarterBad r (i / 16) || d.recordLost lpn)
    else (hand i).isNone && d.needsFetch (64 * lpn + i))).map (fun i => 64 * lpn + i)

/-- Fetch lines from the twin, each in its kind. -/
def Device.askFor (d : Device) (lines : List Nat) (cls : Nat) : Device :=
  lines.foldl (fun (d : Device) l => d.askTwin l (d.fetchKind l) cls) d

/-- Pinned records of all channels. -/
def Device.pinCount (d : Device) : Nat := d.chans.foldl (fun (n : Nat) e => n + e.2.pinned.length) 0

/-- Must the writeback wait: its record lies on a channel out of service and is not cached, or pins have reached their
limit, or an old burst lies on a RETRAINING channel with no twin in service (R426, R427)? -/
def Device.writebackWaits (d : Device) (lpn : Nat) (hand : Nat → Option T0Line) : Bool :=
  let c := channelOf (d.recordAddr lpn)
  let pins := d.pinCount
  (d.chanOut c && !(d.tier.recCache.contains lpn))
  || (d.chanOut c && !((d.chan c).pinned.contains lpn) && decide (786432 ≤ pins))
  || (!d.twinServes && (List.range 64).any (fun i => (hand i).isNone && d.chanWaits (64 * lpn + i)))

/-- RECPIN_FULL where a writeback waits for a pin (R426). -/
def Device.pinsFull (d : Device) (lpn : Nat) : Device :=
  let c := channelOf (d.recordAddr lpn)
  let pins := d.pinCount
  if d.chanOut c ∧ 786432 ≤ pins then d.evt DDRCH.flag.RECPIN_FULL c else d

/-- Write the dirty lines of a snapshot in place (R91). -/
def Device.writeInPlace (d : Device) (lpn : Nat) (r : LoafRec) (snap : KMap T0Line) : Device :=
  snap.foldl (fun d e =>
    d.writeBurst (sliceAddr r.bin (r.slices.getD (e.1 / 8) 0) + 64 * (e.1 % 8)) e.2.data
      (e.2.poison || d.isToken (64 * lpn + e.1) e.2.data) (some lpn)) d

/-- The lines of a loaf at hand for its writeback: its snapshot, further valid lines that were not written since, and what the twin sent. A line
first written after the snapshot belongs to a later eviction (R92). -/
def Device.handOf (d : Device) (lpn : Nat) (f : Frame) (snap : KMap T0Line) (i : Nat) : Option T0Line :=
  match KMap.find snap i with
  | some t => some t
  | none => if f.again.contains i then none
    else match KMap.find f.lines i with
      | some t => some t
      | none => KMap.find d.tier.fetched (64 * lpn + i)

/-- A new layout of a loaf is stored copy-on-write: `qs` are its quarters and `n` the bursts that were read for them (R91, R101, R331). -/
def Device.relayout (d : Device) (lpn cls : Nat) (r : LoafRec) (plan : Plan) (qs : List QuarterSrc) (n : Nat) : Device :=
  let d := match plan with | .plain => d.lostQuarters lpn cls r qs | _ => d
  let ls := (allLines qs).zip (List.range 64) |>.map (fun e =>
    if (qs.getD (e.2 / 16) { lines := [] }).corrupt then (match d.t0Line (64 * lpn + e.2) with | some t => (t.data, t.poison) | none => (0, true)) else e.1)
  let (d, new, w) := d.storePlan lpn plan ls
  let d := d.chargeDeq cls (64 * n + 64 * w + 64)
  let (d, _) := d.tellRecord lpn cls new (.writeback lpn)
  d.changeRecord lpn r new

/-- The tier policy of a loaf's region, and whether its capacity is Elastic. -/
def Device.loafPolicy (d : Device) (lpn : Nat) : Nat × Bool :=
  match d.regionOfLine (64 * lpn) with
  | some (_, g) => (g.tier, g.cap == 1)
  | none => (0, false)

/-- The lines of a snapshot are written in place and the frame follows. -/
def Device.writebackInPlace (d : Device) (lpn : Nat) (r : LoafRec) (cls : Nat) (snap : KMap T0Line) : Device :=
  ((d.writeInPlace lpn r snap).chargeDeq cls (64 * snap.length)).frameWritten lpn snap

/-- The snapshot of a frame is given up: its lines stay dirty (R102). -/
def Device.dropSnap (d : Device) (lpn : Nat) : Device :=
  match d.frame lpn with
  | some g => { d with tier := { d.tier with frames := KMap.put d.tier.frames lpn { g with snap := none, again := [] } } }
  | none => d

/-- Do the channels of a snapshot's slices serve? -/
def Device.snapServes (d : Device) (r : LoafRec) (snap : KMap T0Line) : Bool :=
  snap.all (fun e => !(d.chanOut (channelOf (sliceAddr r.bin (r.slices.getD (e.1 / 8) 0)))))

/-- The writeback of a snapshot whose quarters `qs` are gathered, by the layout of R91; `bad` is the engine whose stream fails its check (R102). -/
def Device.writebackLay (d : Device) (lpn : Nat) (r : LoafRec) (cls : Nat) (snap : KMap T0Line) (plan : Plan) (qs : List QuarterSrc) (n : Nat)
    (ok : Bool) (bad : Option Nat) : Device :=
  match plan with
  | .plain => if r.plain && ok then d.writebackInPlace lpn r cls snap else (d.relayout lpn cls r .plain qs n).frameWritten lpn snap
  | p => match bad with
    | some e => (d.verifyFail e).dropSnap lpn
    | none => (d.relayout lpn cls r p qs n).frameWritten lpn snap

/-- A writeback ends (R91, R82, R93, R106, R331). `bad` is the compression engine whose stream failed its check: then the
old layout stays and the lines stay dirty (R102). It counts as a write to a migration that began after the eviction (R100). -/
def Device.writebackDone (d : Device) (lpn : Nat) (bad : Option Nat) : Device :=
  match d.frame lpn with
  | none => d
  | some f =>
    match f.snap with
    | none => d
    | some snap =>
      let hand := d.handOf lpn f snap
      let p := d.loafPolicy lpn
      let dirty (i : Nat) : Bool := (KMap.find snap i).isSome
      let bake := bakes (d.loaf lpn) p.1 p.2 && !(snap.any (fun e => e.2.poison))
      let carry (q : Nat) : Bool := bake && !((List.range 16).any (fun i => dirty (16 * q + i)))
      if d.writebackWaits lpn hand then d.pinsFull lpn
      else if d.twinServes && !(d.outLines lpn hand carry).isEmpty then
        d.askFor (d.outLines lpn hand carry) f.cls
      else
        let d := (d.cancelMigration lpn).touchRecord lpn f.cls
        let r := d.loaf lpn
        let ok := d.snapServes r snap
        if r.plain && !bake && ok then d.writebackInPlace lpn r f.cls snap
        else
          let (d, qs, n) := d.gather lpn f.cls r bake hand dirty
          d.writebackLay lpn r f.cls snap (planWriteback r p.1 p.2 qs) qs n ok bad

/-- WRITEBACK_DONE. -/
def execWritebackDone (lpn : Nat) (bad : Option Nat) (s : State) : Host.Outcome State Fault Refusal :=
  s.run (fun d => d.writebackDone lpn bad)

/-! ### The Baker (R95 to R100, R110, R112) -/

/-- Lower every HEAT by 1. -/
def Device.coolDown (d : Device) : Device :=
  { d with tier := { d.tier with heat := (d.tier.heat.map (fun e => (e.1, e.2 - 1))).filter (fun e => e.2 != 0) } }

/-- A sweep starts (R95): a start that falls due while a sweep runs is kept until that one ends, and shows that it outlasts
its period. -/
def Device.sweepStart (d : Device) : Device :=
  if !(d.flagReg BAKER.BAKER_CTL.RUN) || d.paused then d
  else if d.tier.sweeping then
    let d := if d.tier.sweepDue then d else d.evt BAKER.flag.BUDGET_LIMITED
    { d with tier := { d.tier with sweepDue := true } }
  else { d with tier := { d.tier with sweeping := true, sweepSkip := [] } }.coolDown

/-- BAKER_SWEEP_START. -/
def execBakerSweepStart (s : State) : Host.Outcome State Fault Refusal := s.run Device.sweepStart

/-- A sweep ends; one that is due starts at once. -/
def Device.sweepEnd (d : Device) : Device :=
  if !d.tier.sweeping then d
  else
    let due := d.tier.sweepDue
    let d := { d with tier := { d.tier with sweeping := false, sweepDue := false } }.evt BAKER.flag.SWEEP_DONE
    if due then d.sweepStart else d

/-- BAKER_SWEEP_END. -/
def execBakerSweepEnd (s : State) : Host.Outcome State Fault Refusal := s.run Device.sweepEnd

/-- The Baker's mode by Elastic free capacity: 0 normal, 1 tight, 2 urgent (R98, R110). -/
def Device.bakerMode (d : Device) : Nat :=
  let free := 100 * d.elFree; let cap := d.elCapacity
  if d.flagReg TIER.CAP_STAT.BIN_FULL then 2
  else if cap * (d.reg BAKER.WATERMARK.HIGH_PCT : Int) ≤ free then 0
  else if cap * (d.reg BAKER.WATERMARK.LOW_PCT : Int) ≤ free then 1 else 2

/-- Does an open batch hold a line of a loaf? -/
def Device.loafPinned (d : Device) (lpn : Nat) : Bool :=
  d.batch.home.any (fun b => b.shadow.any (fun e => e.1 / 64 == lpn))

/-- Is a loaf a bake candidate now (R96, R98)? -/
def Device.bakeCandidate (d : Device) (lpn : Nat) (g : Region) : Bool :=
  let h := KMap.get d.tier.heat 0 lpn
  (d.loaf lpn).state == 2 && g.tier != 1 && (d.frame lpn).isNone && !d.loafPinned lpn
    && (if d.bakerMode = 2 then decide (h ≤ 1) && g.cap == 1 else h == 0)

/-- May a marked loaf be promoted now (R97, R98, R112, R172)? -/
def Device.promotable (d : Device) (lpn : Nat) : Bool :=
  match d.regionOfLine (64 * lpn) with
  | none => false
  | some (_, g) => (d.loaf lpn).state == 3 && g.tier == 0 && d.homesLoaf lpn && !d.loafPinned lpn
    && (if g.cap = 1 then d.bakerMode == 0 && decide ((8 - (d.loaf lpn).nslice : Nat) ≤ d.elFree) else true)

/-- Is a loaf the next to promote: the first in the order of marking that may be? -/
def Device.mayPromote (d : Device) (lpn : Nat) : Bool := d.tier.promotions.find? d.promotable == some lpn

/-- Is a BAKED loaf to be relocated: BIN_FULL is 1, and its bin is one of the fullest, which keep BIN_FULL at 1, and another has more room (R110;
log entry 107)? -/
def Device.mayRelocate (d : Device) (lpn : Nat) : Bool :=
  let r := d.loaf lpn
  r.state == 3 && d.flagReg TIER.CAP_STAT.BIN_FULL && !d.loafPinned lpn && decide (d.binFree r.bin < 64) && d.bestBin != r.bin

/-- A migration begins: the record becomes MIGRATING, the new slices are written and the follow is told (R100 steps 1 to 4,
R331). -/
def Device.beginMigration (d : Device) (lpn : Nat) (kind : MigKind) (plan : Plan) (qs : List QuarterSrc) (n : Nat) : Device :=
  let cls := d.reg BAKER.BAKER_CTL.CLASS
  let r := d.loaf lpn
  let d := d.writeRecord lpn { r with state := 5 }.word
  let (d, new, w) := d.storePlan lpn plan (allLines qs)
  let d := d.chargeDeq cls (64 * n + 64 * w + 64)
  let (d, wait) := d.tellRecord lpn cls new (.migration lpn)
  let m : Migration := { lpn := lpn, kind := kind, oldRec := r.word, newRec := new.word, newBytes := [], waiting := wait }
  { d with tier := { d.tier with migrations := d.tier.migrations ++ [m] } }

/-- A migration of the quarters `qs`, for which `n` bursts were read (R100 step 2, R87, R102): a loaf with a poisoned line stays as it is (R440). -/
def Device.migrateLay (d : Device) (lpn : Nat) (kind : MigKind) (bad : Option Nat) (qs : List QuarterSrc) (n : Nat) : Device :=
  let cls := d.reg BAKER.BAKER_CTL.CLASS
  if qs.any QuarterSrc.poisoned then d.chargeDeq cls (64 * n)
  else
    let plan := if kind = .promote then .plain else planBake qs
    match plan with
    | .plain =>
      if kind = .bake then { d.chargeDeq cls (64 * n) with tier := { d.tier with heat := KMap.put d.tier.heat lpn 3 } }
      else d.beginMigration lpn kind plan qs n
    | _ => match bad with
      | some e => (d.chargeDeq cls (64 * n)).verifyFail e
      | none => d.beginMigration lpn kind plan qs n

/-- Does a loaf hold a slice that cannot be corrected, or a quarter that cannot be read? -/
def Device.loafHurt (d : Device) (r : LoafRec) : Bool :=
  if r.baked then (List.range 4).any (d.quarterBad r) else (r.bursts 0 4096).any d.burstFails

/-- A migration of kind `kind` whose lines are all at hand or readable (R100 steps 1 and 2): one that meets an uncorrectable slice, or a corrupt
quarter that it must decode, is cancelled, and R86 applies to the quarters (R114). -/
def Device.migrate (d : Device) (lpn : Nat) (kind : MigKind) (r : LoafRec) (bad : Option Nat) : Device :=
  let cls := d.reg BAKER.BAKER_CTL.CLASS
  let hurt := d.loafHurt r
  let (d, qs, n) := d.gather lpn cls r (kind == .relocate) (fun i => KMap.find d.tier.fetched (64 * lpn + i)) (fun _ => false)
  if kind == .promote && qs.any QuarterSrc.corrupt then ((d.lostQuarters lpn cls r qs).chargeDeq cls (64 * n)).countWrap BAKER.CANCELS.COUNT
  else if hurt then (d.chargeDeq cls (64 * n)).countWrap BAKER.CANCELS.COUNT
  else d.migrateLay lpn kind bad qs n

/-- What the Baker does with a loaf whose record it has read: bake, promote, relocate, or nothing now. -/
def Device.migKind (d : Device) (lpn : Nat) (g : Region) : Option MigKind :=
  if d.bakeCandidate lpn g then some .bake else if d.mayPromote lpn then some .promote
  else if d.mayRelocate lpn then some .relocate else none

/-- The lines that a visit of the Baker needs of the twin. -/
def Device.migLines (d : Device) (lpn : Nat) (k : MigKind) : List Nat :=
  d.outLines lpn (fun i => KMap.find d.tier.fetched (64 * lpn + i)) (fun _ => k == .relocate)

/-- A loaf that fails the check is skipped for this sweep (R114); one that is no longer to be promoted loses its mark. -/
def Device.migSkip (d : Device) (lpn : Nat) (g : Region) : Device :=
  { d with tier := { d.tier with sweepSkip := d.tier.sweepSkip ++ [lpn],
                                 promotions := if (d.loaf lpn).state = 3 ∧ g.tier = 0 then d.tier.promotions
                                   else d.tier.promotions.filter (fun x => x != lpn) } }

/-- The Baker takes up a loaf (R100 step 1): a bake candidate, the loaf next in order of promotion, or, while BIN_FULL is 1, a
BAKED loaf to relocate. Lines that only the twin can give are asked for first (R86, R426).
`bad` is the engine whose stream fails its check. -/
def Device.migrationStart (d : Device) (lpn : Nat) (bad : Option Nat) : Device :=
  let busy := d.tier.migrations.any (fun m => m.lpn == lpn) || decide (32 ≤ d.tier.migrations.length) || d.tier.sweepSkip.contains lpn
  if !(d.flagReg BAKER.BAKER_CTL.RUN) || d.paused || busy || !(d.homesLoaf lpn) then d
  else match d.regionOfLine (64 * lpn) with
    | none => d
    | some (_, g) =>
      let cls := d.reg BAKER.BAKER_CTL.CLASS
      let d := d.touchRecord lpn cls
      match d.migKind lpn g with
      | none => d.migSkip lpn g
      | some k =>
        let out := d.migLines lpn k
        if d.twinServes && !out.isEmpty then
          { d.askFor out cls with tier := { (d.askFor out cls).tier with bakeAsk := lpn :: d.tier.bakeAsk.filter (fun x => x != lpn) } }
        else
          ({ d with tier := { d.tier with bakeAsk := d.tier.bakeAsk.filter (fun x => x != lpn),
                                          promotions := if k == MigKind.promote then d.tier.promotions.filter (fun x => x != lpn) else d.tier.promotions } }).migrate
            lpn k (d.loaf lpn) bad

/-- MIGRATION_START. -/
def execMigrationStart (lpn : Nat) (bad : Option Nat) (s : State) : Host.Outcome State Fault Refusal :=
  s.run (fun d => d.migrationStart lpn bad)

/-- A migration ends once its countersign has come (R100 step 5). -/
def Device.migrationFinish (d : Device) (lpn : Nat) : Device :=
  match d.tier.migrations.find? (fun m => m.lpn == lpn) with
  | none => d
  | some m =>
    if m.waiting.isSome && d.mirrored lpn then d
    else
      let d := { d with tier := { d.tier with migrations := d.tier.migrations.filter (fun x => x.lpn != lpn) } }
      let d := d.changeRecord lpn (LoafRec.ofWord m.oldRec) (LoafRec.ofWord m.newRec)
      match m.kind with
      | .bake => d.countWrap BAKER.BAKES.COUNT
      | .promote => d.countWrap BAKER.PROMOTES.COUNT
      | .relocate => d

/-- MIGRATION_FINISH. -/
def execMigrationFinish (lpn : Nat) (s : State) : Host.Outcome State Fault Refusal := s.run (fun d => d.migrationFinish lpn)

/-! ### The pool audit (R113) -/

/-- AUDIT_CMD.START. -/
def Device.auditStart (d : Device) : Device :=
  if d.flagReg TIER.AUDIT_CMD.BUSY then d
  else { (d.setReg TIER.AUDIT_CMD.START 1).setReg TIER.AUDIT_CMD.BUSY 1 with tier := { d.tier with auditUsed := [] } }

/-- AUDIT_CMD_START. -/
def execAuditCmdStart (s : State) : Host.Outcome State Fault Refusal := s.run Device.auditStart

/-- The slices that valid records and running migrations name. -/
def Device.namedSlices (d : Device) : List Nat :=
  let ofRec (r : LoafRec) : List Nat := r.slices.map (fun i => 2 ^ 25 * r.bin + i)
  d.knownPages.flatMap (fun p => let r := LoafRec.ofWord (d.recordWord p); if r.ok then ofRec r else [])
  ++ d.tier.migrations.flatMap (fun m => ofRec (LoafRec.ofWord m.newRec))

/-- The audit ends: every slice that is not marked is freed, and el_charge is the sum of R105 again where a corrupt record was lost (R81). -/
def Device.auditDone (d : Device) : Device :=
  if !(d.flagReg TIER.AUDIT_CMD.BUSY) then d
  else
    let marked := d.namedSlices ++ d.tier.auditUsed
    let kept := d.tier.used.filter (fun s => marked.contains s)
    let freed := d.tier.used.length - kept.length
    let charge := (d.knownPages.filter (fun p => d.elasticLine (64 * p))).foldl (fun (n : Nat) p => n + (d.loaf p).nslice) 0
    let d := { d with tier := { d.tier with used := kept, auditUsed := [], elCharge := charge } }
    let d := (d.setReg TIER.AUDIT_CMD.START 0).setReg TIER.AUDIT_CMD.BUSY 0
    ((d.countSat TIER.AUDIT_FREED.COUNT 0 freed).evt TIER.flag.AUDIT_DONE).capUpdate

/-- AUDIT_DONE. -/
def execAuditDone (s : State) : Host.Outcome State Fault Refusal := s.run Device.auditDone

end Sys2Proof.Machine
end

