-- ==== Sys2Proof/Machine/QosCmds.lean ====
section
/-! DEFINITION. Admission, demotion and the channel queues (Bandwidth, Deadlines and Admission, R330 to R357), and the class
of a site (Addresses, Regions and Class Windows, R65). -/

namespace Sys2Proof.Machine

/-! ### Deliverable bandwidth (R333, R334) -/

/-- The data rates of CH_STAT.RATE in MT/s. -/
def rateMts (code : Nat) : Nat := [8800, 8000, 7200, 6400, 5600, 4800].getD code 0

/-- The banks of a channel. -/
def Device.banksInstalled (d : Device) : Nat := 2 * d.hw.dimms * d.hw.ranks * 2 ^ d.hw.cidBits * 32

/-- The retired banks of a channel. -/
def Device.banksRetired (d : Device) (c : Nat) : Nat :=
  (d.tier.retiredBanks.filter (fun k => k / (2 * 2 * 2 * 4 * 8 * 4) == c)).length

/-- d_dram in units of 0.25 GB/s. -/
def Device.dDram (d : Device) : Nat :=
  let b := d.banksInstalled
  let sum := (List.range 16).foldl (fun (n : Nat) c =>
    if (d.chan c).inService then n + 9 * rateMts (d.chan c).rate * 8 * (b - d.banksRetired c) else n) 0
  sum / (250 * (10 * b))

/-- The payload rate of a peer link by width, in MB/s (R195). -/
def payloadRate (width : Nat) : Nat := if width = 16 then 99800 else if width = 8 then 49900 else if width = 4 then 24950 else 0

/-- d_twin: no resource while the device has no twin in service. -/
def Device.dTwin (d : Device) : Nat :=
  if d.twinServes then
    ([3, 4].foldl (fun (n : Nat) p =>
      let x := d.link (.peer p)
      if x.state = .active then n + payloadRate x.width else n) 0) / 250
  else 0

/-- d_t0: 512 GB/s for each Tier-0 die in service. -/
def Device.dT0 (d : Device) : Nat := 2048 * (4 - d.tier.diesOut.length)

/-- The three deliverable figures. -/
def Device.figures (d : Device) : List Nat := [d.dDram, d.dTwin, d.dT0]

/-- The rate of a site link in MB/s. -/
def Device.siteRate (d : Device) (s : Nat) : Nat := if (d.link (.site s)).rate = 1 then 776 else 1551

/-! ### The class table (R335, R336) -/

/-- The class at each place of the yield order. -/
def yieldOrder (lo hi : Nat) : List Nat :=
  (List.range 8).map (fun i => bitsOf lo (4 * i) 4) ++ (List.range 8).map (fun i => bitsOf hi (4 * i) 4)

/-- The staged class table. -/
def Device.stagedTable (d : Device) : ClassTable :=
  let col (f : Field) : List Nat := (List.range 16).map (fun c => d.reg f c)
  { gDeq := col QOS.CLS_G_DEQ.RATE, gTwin := col QOS.CLS_G_TWIN.RATE, gT0 := col QOS.CLS_G_T0.RATE,
    gSite := col QOS.CLS_G_SITE.MBPS, weight := col QOS.CLS_WEIGHT.WEIGHT,
    yields := yieldOrder (d.reg QOS.YIELD_LO.POS0_7) (d.reg QOS.YIELD_HI.POS8_15) }

/-- Load the staging registers from a table. -/
def Device.stageTable (d : Device) (t : ClassTable) : Device :=
  let d := (List.range 16).foldl (fun (d : Device) c =>
    let d := (d.setReg QOS.CLS_G_DEQ.RATE (t.gDeq.getD c 0) c).setReg QOS.CLS_G_TWIN.RATE (t.gTwin.getD c 0) c
    let d := (d.setReg QOS.CLS_G_T0.RATE (t.gT0.getD c 0) c).setReg QOS.CLS_G_SITE.MBPS (t.gSite.getD c 0) c
    d.setReg QOS.CLS_WEIGHT.WEIGHT (t.weight.getD c 1) c) d
  let word (l : List Nat) : Nat := (l.zip (List.range 8)).foldl (fun n e => n + e.1 * 2 ^ (4 * e.2)) 0
  (d.setReg QOS.YIELD_LO.POS0_7 (word (t.yields.take 8))).setReg QOS.YIELD_HI.POS8_15 (word (t.yields.drop 8))

/-- The sum of a list. -/
def sumOf (l : List Nat) : Nat := l.foldl (· + ·) 0

/-- Does a sum of guarantees fit under the fraction of a figure? -/
def fits (fraction sum fig : Nat) : Bool := decide (100 * sum ≤ fraction * fig)

/-- Does the site-link check hold for a site and a class? -/
def Device.siteFits (d : Device) (t : ClassTable) (fraction s c : Nat) : Bool := fits fraction (t.gSite.getD c 0) (d.siteRate s)

/-- The lowest site that fails the site-link check. -/
def Device.siteFails (d : Device) (t : ClassTable) (fraction : Nat) : Option Nat :=
  if d.hw.gradeH then none
  else (List.range 1024).find? (fun s => !(d.siteFits t fraction s (d.siteClass s)))

/-- The result of admission (R335, R339), and the site that failed. -/
def Device.admission (d : Device) (t : ClassTable) (figs : List Nat) : Nat × Nat :=
  let f := d.qos.fraction
  let twin := d.twinServes
  if !(fits f (sumOf t.gDeq) (figs.getD 0 0)) then (1, 0)
  else if twin && !(fits f (sumOf t.gTwin) (figs.getD 1 0)) then (2, 0)
  else if !(fits f (sumOf t.gT0) (figs.getD 2 0)) then (3, 0)
  else match d.siteFails t f with
    | some s => (4, s)
    | none =>
      if !((List.range 16).all (fun c => t.yields.contains c)) then (5, 0)
      else if d.flagReg QOS.ADMIT_CTL.COVER_TWIN && twin
          && !(fits f (sumOf t.gDeq + sumOf d.twin.twinGdeq) (figs.getD 0 0) && fits f (sumOf t.gT0 + sumOf d.twin.twinGt0) (figs.getD 2 0))
        then (6, 0)
      else (0, 0)

/-- APPLY (R335, R336): admission runs against the staged table and the figures of this moment. -/
def Device.apply (d : Device) : Device :=
  if d.qos.applying then d
  else
    let d := (d.setReg QOS.ADMIT_CMD.APPLY 1).setReg QOS.ADMIT_CMD.BUSY 1
    { d with qos := { d.qos with applying := true, applyFigs := d.figures, fraction := d.reg QOS.ADMIT_CTL.FRACTION_PCT } }

/-- APPLY. -/
def execApply (s : State) : Host.Outcome State Fault Refusal := s.run Device.apply

/-- REVERT (R336). -/
def Device.revert (d : Device) : Device := if d.qos.applying then d else d.stageTable d.qos.table

/-- REVERT. -/
def execRevert (s : State) : Host.Outcome State Fault Refusal := s.run Device.revert

/-! ### Demotion and restoration (R348 to R353) -/

/-- Set the demoted classes and their registers. -/
def Device.setDemoted (d : Device) (l : List Nat) : Device :=
  let d := { d with qos := { d.qos with demoted := l } }
  let d := d.setReg QOS.DEMOTED.CLASSES (l.foldl (fun (n : Nat) c => n + 2 ^ c) 0)
  (List.range 16).foldl (fun (d : Device) c => d.setReg QOS.CLS_STAT.DEMOTED (if l.contains c then 1 else 0) c) d

/-- The first resource whose guarantees do not fit, with some classes demoted. -/
def Device.shortOf (d : Device) (demoted figs : List Nat) : Option Nat :=
  (List.range 3).find? (fun r =>
    let sum := sumOf (((List.range 16).filter (fun c => !(demoted.contains c))).map (fun c => d.gEff c r))
    !(fits d.qos.fraction sum (figs.getD r 0)))

/-- A demotion or restoration: its flag, DEMOTED, and its ledger record (R353). -/
def Device.demoteNote (d : Device) (f : Flag) (l : List Nat) (c r old new : Nat) : Device :=
  let info := [c, r] ++ leBytes 2 old ++ leBytes 2 new
  (d.setDemoted l).evtRec f 0 info info

/-- Demote classes in yield order until the guarantees fit (R350). -/
def Device.demoteN (d : Device) (old new : List Nat) : List Nat → Device
  | [] => d
  | c :: rest =>
    match d.shortOf d.qos.demoted new with
    | none => d
    | some r =>
      if d.qos.demoted.contains c then d.demoteN old new rest
      else (d.demoteNote QOS.flag.DEMOTED (d.qos.demoted ++ [c]) c r (old.getD r 0) (new.getD r 0)).demoteN old new rest

/-- Restore classes in reverse order of demotion while they fit (R352). -/
def Device.restoreN (d : Device) (old new : List Nat) (r : Nat) : Nat → Device
  | 0 => d
  | fuel + 1 =>
    match d.qos.demoted.getLast? with
    | none => d
    | some c =>
      let l := d.qos.demoted.dropLast
      if (d.shortOf l new).isSome then d
      else (d.demoteNote QOS.flag.RESTORED l c r (old.getD r 0) (new.getD r 0)).restoreN old new r fuel

/-- Site links whose rate no longer fits the guarantee of their class (R350). -/
def Device.siteShorts (d : Device) : Device :=
  if d.hw.gradeH then d
  else
    let l := (List.range 1024).filter (fun s => !(d.siteFits d.qos.table d.qos.fraction s (d.siteClass s)))
    let new := l.any (fun s => !(d.qos.siteShort.contains s))
    let d := { d with qos := { d.qos with siteShort := l } }
    if new then d.evt QOS.flag.SITE_SHORT else d

/-- A recomputation (R348 to R353, R354): demotion first, then restoration where a figure rose. -/
def Device.recompute (d : Device) : Device :=
  if d.qos.applying then { d with qos := { d.qos with recompDue := true } }
  else
    let old := d.qos.figs; let new := d.figures
    let d := { d with qos := { d.qos with figs := new, fraction := d.reg QOS.ADMIT_CTL.FRACTION_PCT } }
    let d := d.demoteN old new d.qos.table.yields
    let d := match (List.range 3).find? (fun r => decide (old.getD r 0 < new.getD r 0)) with
      | some r => if d.flagReg QOS.ADMIT_CTL.AUTO_RESTORE then d.restoreN old new r 16 else d
      | none => d
    d.siteShorts

/-- RECOMPUTE. -/
def execRecompute (s : State) : Host.Outcome State Fault Refusal := s.run Device.recompute

/-! ### The class of a site (R65, R337) -/

/-- Form SITE_CLASS.PENDING of a site. -/
def Device.sitePending (d : Device) (s : Nat) : Device :=
  let on := d.qos.sitePend.any (fun e => e.1 == s) || d.qos.siteWait.any (fun e => e.1 == s) || d.qos.siteNext.any (fun e => e.1 == s)
  d.setReg SITE.SITE_CLASS.PENDING (if on then 1 else 0) s

/-- A write of SITE_CLASS.CLASS: its admission starts, or it waits behind the running one of its site, or behind an APPLY. -/
def Device.siteClassWrite (d : Device) (s c : Nat) : Device :=
  let q := d.qos
  let running := q.sitePend.any (fun e => e.1 == s) || q.siteWait.any (fun e => e.1 == s)
  let q := if running then { q with siteNext := q.siteNext.filter (fun e => e.1 != s) ++ [(s, c)] }
    else if q.applying then { q with siteWait := q.siteWait ++ [(s, c)] }
    else { q with sitePend := q.sitePend ++ [(s, c)] }
  ({ d with qos := q }).sitePending s

/-- SITE_CLASS_WRITE. -/
def execSiteClassWrite (s c : Nat) (st : State) : Host.Outcome State Fault Refusal :=
  st.run (fun d => if d.hw.gradeH ∨ 1024 ≤ s then d
    else d.rwl .site s (d.changes SITE.SITE_CLASS.CLASS c s) (fun d => d.siteClassWrite s (c % 16)))

/-- The admission of a SITE_CLASS write ends; the waiting write of the site starts its own. -/
def Device.siteAdmitEnd (d : Device) (s : Nat) : Device :=
  match d.qos.sitePend.find? (fun e => e.1 == s) with
  | none => d
  | some e =>
    let d := { d with qos := { d.qos with sitePend := d.qos.sitePend.filter (fun x => x.1 != s) } }
    let d := if d.siteFits d.qos.table d.qos.fraction s e.2 then d.setReg SITE.SITE_CLASS.CLASS e.2 s else d
    match d.qos.siteNext.find? (fun x => x.1 == s) with
    | some n =>
      let d := { d with qos := { d.qos with siteNext := d.qos.siteNext.filter (fun x => x.1 != s) } }
      d.siteClassWrite s n.2
    | none => d.sitePending s

/-- SITE_CLASS_ADMIT_END. -/
def execSiteClassAdmitEnd (s : Nat) (st : State) : Host.Outcome State Fault Refusal := st.run (fun d => d.siteAdmitEnd s)

/-! ### The end of an APPLY -/

/-- Report to the twin the guarantees of the table in force (R339). -/
def Device.tellGuarantees (d : Device) : Device :=
  match d.twinLink with
  | some p => d.peerSend p none (.state d.myInfo)
  | none => d

/-- ADMIT_DONE (R336, R337, R354). -/
def Device.admitDone (d : Device) : Device :=
  if !d.qos.applying then d
  else
    let t := d.stagedTable
    let (res, site) := d.admission t d.qos.applyFigs
    let d := (d.setReg QOS.ADMIT_STAT.RESULT res).setReg QOS.ADMIT_STAT.SITE site
    let d := (d.setReg QOS.ADMIT_CMD.APPLY 0).setReg QOS.ADMIT_CMD.BUSY 0
    let due := d.qos.recompDue
    let waits := d.qos.siteWait
    let d := { d with qos := { d.qos with applying := false, recompDue := false, siteWait := [], sitePend := d.qos.sitePend ++ waits } }
    let d := if res = 0 then (({ d with qos := { d.qos with table := t } }).setDemoted []).tellGuarantees else d
    let d := d.evt QOS.flag.ADMIT_DONE
    if due then d.recompute else d

/-- ADMIT_DONE. -/
def execAdmitDone (s : State) : Host.Outcome State Fault Refusal := s.run Device.admitDone

/-! ### Channel queues (R342, R343, R346) -/

/-- The place of a requester among equal deadlines and arrivals: sites by number, engines after them (R346). -/
def ChanEntry.rank (e : ChanEntry) : Nat := match e.frm with | .site s _ => s | _ => 1024

/-- Does an entry come before another: by deadline, arrival at the home slice, requester, and entry to the queue (R346)? -/
def ChanEntry.before (e x : ChanEntry) : Bool :=
  let k (e : ChanEntry) : List Nat := [e.deadline, e.arrival, e.rank, e.order]
  decide (k e < k x)

/-- The entry with the earliest deadline, then the earliest arrival. -/
def earliest (l : List ChanEntry) : Option ChanEntry :=
  l.foldl (fun (b : Option ChanEntry) e =>
    match b with
    | none => some e
    | some x => if e.before x then some e else b) none

/-- The next request of a list: deadline-carrying ones earliest deadline first, then the others in arrival order. -/
def nextOf (l : List ChanEntry) : Option ChanEntry :=
  match earliest (l.filter (fun e => e.deadline != 0)) with
  | some e => some e
  | none => earliest l

/-- The scheduler takes a request from a channel's queue (R346). -/
def Device.schedulerPick (d : Device) (c : Nat) : Device :=
  let q := d.chanQueue c
  let free := q.filter (fun e => !(q.any (fun x => x.ra == e.ra && decide (x.order < e.order))))
  let take (d : Device) (e : ChanEntry) : Device :=
    { d with qos := { d.qos with queues := KMap.put d.qos.queues c (q.filter (fun x => x.order != e.order)) } }
  match earliest (free.filter (fun e => d.urgent e.cls e.deadline)) with
  | some e => (take d e).countWrap QOS.URGENT.COUNT e.cls
  | none =>
    let (d, k) := d.drr c (fun k => (nextOf (free.filter (fun e => e.cls == k))).map (fun e => e.deq))
    match k with
    | some k => (match nextOf (free.filter (fun e => e.cls == k)) with
        | some e => take d e
        | none => d)
    | none => d

/-- SCHEDULER_PICK. -/
def execSchedulerPick (c : Nat) (s : State) : Host.Outcome State Fault Refusal := s.run (fun d => d.schedulerPick c)

/-- The requests that wait at their home slices for room in a channel's queue: reads, since only they take its entries (DESIGN CHOICE, log entry 142). -/
def Device.heldFor (d : Device) (c : Nat) : List (Request × Nat) :=
  (d.coh.queue.filter (fun r => r.held)).filterMap (fun r =>
    ((d.reqLines r).filterMap (fun l => match d.dramNeed l with
      | some ra => if channelOf ra = c then some (r, d.dramCost l) else none
      | none => none)).head?)

/-- The waiting urgent request for a channel with the earliest deadline. -/
def Device.urgentHeld (d : Device) (c : Nat) : Option Request :=
  ((d.heldFor c).filter (fun e => d.urgent e.1.cls e.1.deadline)).foldl (fun (b : Option Request) e =>
    match b with
    | none => some e.1
    | some r => if e.1.deadline < r.deadline then some e.1 else b) none

/-- Try one waiting request. -/
def Device.tryRequest (d : Device) (r : Request) : Device :=
  if d.blocked r (d.coh.queue.takeWhile (fun q => q != r)) then d
  else let (d, q) := d.serve r; d.tried r q

/-- The earliest urgent request that waits for a queue that was full (R343). -/
def Device.tryUrgent (d : Device) (c : Nat) : Device :=
  match d.urgentHeld c with
  | some r => if (d.chanQueue c).length = 127 then d.tryRequest r else d
  | none => d

/-- An entry of a channel's queue has become free (R342, R343). In a queue that was full it goes to the earliest urgent request; in amber one request
above its guarantee may enter, chosen by deficit round robin; then the waiting requests are tried. -/
def Device.entryFreed (d : Device) (c : Nat) : Device :=
  let d := d.tryUrgent c
  let (d, k) := d.drr (16 + c) (fun k => ((d.heldFor c).find? (fun e => e.1.cls == k)).map (fun e => e.2))
  let d := match k with
    | some k => { d with qos := { d.qos with amberToken := KMap.put d.qos.amberToken c (k + 1) } }
    | none => d
  d.pumpQueue

/-- QUEUE_ENTRY_FREED. -/
def execQueueEntryFreed (c : Nat) (s : State) : Host.Outcome State Fault Refusal := s.run (fun d => d.entryFreed c)

end Sys2Proof.Machine
end

