-- ==== Sys2Proof/Machine/ChanCmds.lean ====
section
/-! DEFINITION. The memory channels: reads, writes, drains, refresh, self-refresh and retrains (Memory Channels). -/

namespace Sys2Proof.Machine

/-! ### Page modes and activates (R413 to R419) -/

/-- Does a channel run in OPEN mode: not yet in service, or receiving a resync, or by MODE_OVR while not in service (R414)? In
service it is CLOSED. -/
def Device.openMode (d : Device) (c : Nat) : Bool :=
  match d.twin.svc with
  | .start | .resync => true
  | .join | .withdrawn => d.flagReg DDRCH.CH_CTL.MODE_OVR c
  | _ => false

/-- The page mode in force: a change takes effect when every bank of the channel is precharged (R415). -/
def Device.pageMode (d : Device) (c : Nat) : Bool :=
  let x := d.chan c
  if x.openRows.isEmpty then d.openMode c else x.openNow

/-- An access to a bank: in OPEN mode, and in the bank of a row under test, its row stays open (R415, R417); an access to a row that
is not open is an ACTIVATE, which counts towards refresh management (R419; DEDUCED, log entry 145). -/
def Device.bankAccess (d : Device) (ra : Nat) : Device :=
  let l := d.dramLoc ra; let c := l.ch; let b := l.bankKey
  let x := d.chan c
  let tested := match d.integ.test with | some t => t.row / 2 ^ 17 == b | none => false
  let hit := KMap.find x.openRows b == some l.row
  let mode := d.pageMode c
  let rows := if mode || tested then KMap.put x.openRows b l.row else x.openRows
  let x := { x with openNow := mode }
  let n := KMap.get x.raa 0 b + (if hit then 0 else 1)
  if 0 < d.hw.raaLimit ∧ d.hw.raaLimit ≤ n then
    (d.setChan c { x with openRows := rows, raa := KMap.drop x.raa b }).countSat DDRCH.RFM_CMDS.COUNT c
  else d.setChan c { x with openRows := rows, raa := if 0 < d.hw.raaLimit then KMap.put x.raa b n else x.raa }

/-- The lines of the loaf that owns a burst which the burst holds: one line, or the first line of each quarter with bytes in it. -/
def Device.linesOfBurst (d : Device) (ra : Nat) : List Nat :=
  match d.ownerOf ra with
  | none => []
  | some lpn =>
    let r := d.loaf lpn
    let k := r.slices.findIdx (fun i => sliceAddr r.bin i == 512 * (ra / 512))
    if r.plain then [64 * lpn + 8 * k + ra % 512 / 64]
    else (List.range 4).filterMap (fun q =>
      let (a, b) := d.spanOf r q
      if (r.bursts a b).contains (64 * (ra / 64)) then some (64 * lpn + 16 * q) else none)

/-- Read a burst for a requester that wants no line of it: the scrubber, the Proofer, a channel read. Its errors are handled as
those of a demand read (R449): a CODE_FAILURE is recovered from the twin where that is possible (R441). -/
def Device.checkBurst (d : Device) (ra cls : Nat) : Device :=
  let fails := d.burstFails ra && !(d.inPrivate ra)
  let lines := d.linesOfBurst ra
  let baked := match lines with | l :: _ => (d.loaf (lpnOf l)).baked | [] => false
  if fails && d.twinServes && d.inTable ra then (d.queueTest ra).askTwin (128 * ((ra - d.tableBase) / 64)) 3 cls
  else if fails && d.twinServes && !lines.isEmpty then lines.foldl (fun (d : Device) l => d.askTwin l (d.fetchKind l) cls) (d.queueTest ra)
  else if fails && baked then lines.foldl (fun (d : Device) l => (d.readLine l cls false).1) d
  else (d.readBurst ra cls baked).1

/-! ### Requests (R407 to R412) -/

/-- Does a channel serve requests? -/
def Device.chanServes (d : Device) (c : Nat) : Bool := (d.chan c).inService

/-- The bursts of a request: 1 to 8 of one slice. -/
def sliceBursts (ra n : Nat) : List Nat :=
  let a := 64 * (ra / 64)
  (List.range (min n ((512 - a % 512) / 64))).map (fun i => a + 64 * i)

/-- A read request: bursts in the write queue are served from it, the others join the read queue of their subchannel. A request for which the queue
has no room has not left the scheduler's queue (R408, R409). -/
def Device.channelRead (d : Device) (ra n : Nat) : Device :=
  let c := channelOf ra; let sub := targetOf ra % 2
  if !(d.chanServes c) || decide (d.rawBytes ≤ ra) then d
  else
    let bs := sliceBursts ra n
    let new := bs.filter (fun a => (d.wqFind a).isNone)
    let q := KMap.get (d.chan c).rq [] sub
    if 32 < q.length + new.length then d
    else
      let d := d.wakeChan c
      let d := (bs.filter (fun a => (d.wqFind a).isSome)).foldl (fun (d : Device) _ => d.countSat DDRCH.FWD_HITS.COUNT c) d
      if new.isEmpty then d else d.setChan c { d.chan c with rq := KMap.put (d.chan c).rq sub (q ++ new) }

/-- CHANNEL_READ. -/
def execChannelRead (ra n : Nat) (s : State) : Host.Outcome State Fault Refusal := s.run (fun d => d.channelRead ra n)

/-- A write request of full bursts (R407, R410). -/
def Device.channelWrite (d : Device) (ra : Nat) (bursts : List (Line × Bool)) : Device :=
  let c := channelOf ra
  if !(d.chanServes c) || decide (d.rawBytes ≤ ra) then d
  else ((sliceBursts ra bursts.length).zip bursts).foldl (fun (d : Device) e => d.writeBurst e.1 e.2.1 e.2.2) d

/-- CHANNEL_WRITE. -/
def execChannelWrite (ra : Nat) (bursts : List (Line × Bool)) (s : State) : Host.Outcome State Fault Refusal :=
  s.run (fun d => d.channelWrite ra bursts)

/-- Merge symbol errors that DRAM shows into those that a burst already has. -/
def Device.addErrors (d : Device) (ra : Nat) (err : List Nat) : Device :=
  let old := KMap.get d.integ.errs [] ra
  let e := (List.range 40).map (fun i => (old.getD i 0) ^^^ (err.getD i 0 % 65536))
  d.setInteg { d.integ with errs := if e.any (fun v => v != 0) then KMap.put d.integ.errs ra e else KMap.drop d.integ.errs ra }

/-- May a queued read issue before those ahead of it: no read of its bank is ahead, and none ahead has been passed 16 times (R412)? -/
def Device.mayPass (d : Device) (c ra : Nat) (ahead : List Nat) : Bool :=
  let b := (d.dramLoc ra).bankKey
  ahead.all (fun a => (d.dramLoc a).bankKey != b && decide (KMap.get (d.chan c).passed 0 a < 16))

/-- A read leaves the read queue; those ahead of it have been passed once more (R412). -/
def Device.readIssued (d : Device) (c sub ra : Nat) (ahead : List Nat) : Device :=
  let x := d.chan c
  let p := ahead.foldl (fun (m : KMap Nat) a => KMap.put m a (KMap.get m 0 a + 1)) (KMap.drop x.passed ra)
  d.setChan c { x with rq := KMap.put x.rq sub ((KMap.get x.rq [] sub).erase ra), passed := p }

/-- A burst returns from DRAM with symbol errors and is decoded (R436). It leaves the read queue, where no drain runs and no read that must come
first is ahead of it (R411, R412). -/
def Device.dramReturn (d : Device) (ra : Nat) (err : List Nat) (cls : Nat) : Device :=
  let ra := 64 * (ra / 64)
  let c := channelOf ra; let sub := targetOf ra % 2
  if !(d.chanServes c) || decide (d.rawBytes ≤ ra) then d
  else
    let q := KMap.get (d.chan c).rq [] sub
    let ahead := if q.contains ra then q.takeWhile (fun a => a != ra) else []
    if (d.chan c).draining.contains sub || !(d.mayPass c ra ahead) then d
    else
      let d := d.readIssued c sub ra ahead
      if (d.wqFind ra).isSome || d.underTest ra then d else ((d.bankAccess ra).addErrors ra err).checkBurst ra cls

/-- DRAM_READ_RETURN. -/
def execDramReadReturn (ra : Nat) (err : List Nat) (cls : Nat) (s : State) : Host.Outcome State Fault Refusal :=
  s.run (fun d => (d.dramReturn ra err cls).proceed)

/-- Write out entries until `n` are left (`fuel` bounds them). -/
def Device.drainTo (d : Device) (c sub n : Nat) : Nat → Device
  | 0 => d
  | fuel + 1 =>
    match KMap.get (d.chan c).wq [] sub with
    | [] => d
    | e :: _ =>
      if (KMap.get (d.chan c).wq [] sub).length ≤ n then d
      else ((d.bankAccess e.ra).drainOne c sub).drainTo c sub n fuel

/-- The write queue length of a subchannel. -/
def Device.wqLen (d : Device) (c sub : Nat) : Nat := (KMap.get (d.chan c).wq [] sub).length

/-- Is no read queued for a subchannel? -/
def Device.rqEmpty (d : Device) (c sub : Nat) : Bool := (KMap.get (d.chan c).rq [] sub).isEmpty

/-- A drain starts (R411) on level, with no read queued, or for an entry that waited 10 µs (`aged`). It writes entries while it
runs: down to LOW with a read queued, else all. -/
def Device.drainStart (d : Device) (c sub : Nat) (aged : Bool) : Device :=
  let n := d.wqLen c sub
  let due := decide (d.reg DDRCH.WDRAIN.HIGH c ≤ n) || (d.rqEmpty c sub && decide (0 < n)) || (aged && decide (0 < n))
  if !(d.chanServes c) || decide (2 ≤ sub) || !due then d
  else
    let d := d.drainTo c sub (if d.rqEmpty c sub then 0 else d.reg DDRCH.WDRAIN.LOW c) 64
    let x := d.chan c
    d.setChan c { x with draining := if d.wqLen c sub = 0 then x.draining.filter (fun i => i != sub)
                                     else if x.draining.contains sub then x.draining else x.draining ++ [sub] }

/-- WRITE_DRAIN_START. -/
def execWriteDrainStart (c sub : Nat) (aged : Bool) (s : State) : Host.Outcome State Fault Refusal :=
  s.run (fun d => d.drainStart c sub aged)

/-- A drain stops at LOW or fewer with a read queued (R411). -/
def Device.drainStop (d : Device) (c sub : Nat) : Device :=
  let x := d.chan c
  if d.wqLen c sub ≤ d.reg DDRCH.WDRAIN.LOW c ∧ d.rqEmpty c sub = false
  then d.setChan c { x with draining := x.draining.filter (fun i => i != sub) } else d

/-- WRITE_DRAIN_STOP. -/
def execWriteDrainStop (c sub : Nat) (s : State) : Host.Outcome State Fault Refusal := s.run (fun d => d.drainStop c sub)

/-- OPEN_IDLE_EXPIRY: the row of a bank closes (R415). -/
def execOpenIdleExpiry (c bank : Nat) (s : State) : Host.Outcome State Fault Refusal :=
  s.run (fun d => let x := d.chan c; d.setChan c { x with openRows := KMap.drop x.openRows bank })

/-! ### Refresh and command integrity (R418, R420) -/

/-- A rank's refresh falls due: it is postponed, at most 4 times, while its banks are busy; otherwise it and the postponed ones are
issued, and open rows of the rank close first (R415, R418). `rank` counts slot and chip select: 2 × slot + select. -/
def Device.refreshDue (d : Device) (c rank : Nat) (busy : Bool) : Device :=
  let x := d.chan c
  if !(x.state == .active) then d
  else
    let n := KMap.get x.postponed 0 rank
    if busy ∧ n < 4 then d.setChan c { x with postponed := KMap.put x.postponed rank (n + 1) }
    else d.setChan c { x with postponed := KMap.drop x.postponed rank,
                              openRows := x.openRows.keep (fun b _ => b / 128 % 4 != rank) }

/-- REFRESH_DUE. -/
def execRefreshDue (c rank : Nat) (busy : Bool) (s : State) : Host.Outcome State Fault Refusal :=
  s.run (fun d => d.refreshDue c rank busy)

/-- MR4_POLL: the rank is refreshed at double rate while a DRAM reports a temperature that calls for it (R418). -/
def execMr4Poll (c rank : Nat) (hot : Bool) (s : State) : Host.Outcome State Fault Refusal :=
  s.run (fun d =>
    let x := d.chan c; let l := x.hotRanks.filter (fun r => r != rank)
    d.setChan c { x with hotRanks := if hot then l ++ [rank] else l })

/-! ### Retrains (R424 to R429) -/

/-- A channel leaves service or returns: d_dram is formed again (R429) and requests that wait are tried. -/
def Device.chanChanged (d : Device) : Device := d.recompute.proceed

/-- A test on a channel that leaves service stops; its verdict is UNTESTED, and its copy is kept (R457). -/
def Device.stopTest (d : Device) (c : Nat) : Device :=
  match d.integ.test with
  | some t =>
    if channelOf t.ra = c then
      ((d.setInteg { d.integ with test := none, kept := d.integ.kept ++ [t] }).setReg INTEG.PROOF_STAT.BUSY 0).verdict t.ra 3 0 0
    else d
  | none => d

/-- The raw address of a column of a row: the map of R404 and R405 the other way. -/
def Device.rawOf (d : Device) (l : DramLoc) : Nat :=
  let h := d.hw
  let r := 14 + h.colBits; let k := r + h.rankBits; let w := k + h.cidBits; let m := w + h.rowBits
  let ta := 64 * (l.col / 16 % 8) + 2 ^ 9 * l.bg + 2 ^ 12 * l.bank + 2 ^ 14 * (l.col / 128) + l.rank * 2 ^ r + l.cid * 2 ^ k
    + l.row * 2 ^ w + l.dimm * 2 ^ m
  let hi := 2 ^ 14 * (ta / 512)
  hi + 512 * ((l.ch * 2 + l.sub) ^^^ targetOf hi) + ta % 512

/-- The raw addresses of the slices of a row. -/
def Device.rowSlices (d : Device) (l : DramLoc) : List Nat :=
  (List.range (2 ^ d.hw.colBits)).map (fun h => d.rawOf { l with col := 128 * h })

/-- The raw addresses of the bursts of a row. -/
def Device.rowBursts (d : Device) (l : DramLoc) : List Nat :=
  (d.rowSlices l).flatMap (fun a => (List.range 8).map (fun k => a + 64 * k))

/-- Add to a counter that stops at its maximum. -/
def Device.addCount (d : Device) (f : Field) (n i : Nat) : Device := d.setReg f (min (d.reg f i + n) (2 ^ f.width - 1)) i

/-- A row is written back from the Proofer's copy, so that it holds no symbol errors, and the two frames of the copy are free again. The frames are
taken in the order of their tests: those at `k` belong to this one. -/
def Device.restoreRow (d : Device) (t : ProofTest) (k : Nat) : Device :=
  let row := d.rowBursts (d.dramLoc t.ra)
  let d := d.addCount DDRCH.WRITES.COUNT row.length (channelOf t.ra)
  let d := { d with tier := { d.tier with scratch := d.tier.scratch.take (2 * k) ++ d.tier.scratch.drop (2 * k + 2) } }
  d.setInteg { d.integ with errs := d.integ.errs.keep (fun a _ => !(row.contains a)) }

/-- The copies kept of a channel's rows are restored when it is ACTIVE again (R457). -/
def Device.restoreKept (d : Device) (c : Nat) : Device :=
  d.integ.kept.foldl (fun (d : Device) t =>
    if channelOf t.ra = c then
      let d := d.restoreRow t (d.integ.kept.idxOf t)
      d.setInteg { d.integ with kept := d.integ.kept.erase t }
    else d) d

/-- A retrain starts. A channel in self-refresh first leaves it and drains its write queue (R431). -/
def Device.startRetrain (d : Device) (c : Nat) : Device :=
  let d := if (d.chan c).state = .selfRefresh then ((d.wakeChan c).drainTo c 0 0 64).drainTo c 1 0 64 else d
  let x := d.chan c
  let d := d.setChan c { x with state := .retraining, attempts := 0, openRows := [], draining := [] }
  ((((d.countSat DDRCH.RETRAINS.COUNT c).evt DDRCH.flag.OUT_OF_SERVICE c).stopTest c).chanChanged)

/-- An error on ALERT_n (R420): `wcrc` tells write CRC from command/address parity, `ok` whether the retries succeeded. -/
def Device.alertN (d : Device) (c : Nat) (wcrc ok : Bool) : Device :=
  if (d.chan c).inService = false then d
  else
    let d := d.wakeChan c
    let x := d.chan c
    let times := d.time :: x.alerts.filter (fun t => decide (d.time < t + 1000000))
    let d := (d.setChan c { x with alerts := times }).countSat (if wcrc then DDRCH.WCRC_ERRS.COUNT else DDRCH.CA_PARITY_ERRS.COUNT) c
    let d := d.raise DDRCH.flag.BUS_RETRAIN c [c, if wcrc then 1 else 0] [c]
    if ok && decide (times.length < 16) then d
    else
      let x := d.chan c
      (d.setChan c { x with alerts := [] }).startRetrain c

/-- ALERT_N. -/
def execAlertN (c : Nat) (wcrc ok : Bool) (s : State) : Host.Outcome State Fault Refusal := s.run (fun d => d.alertN c wcrc ok)

/-- A planned retrain (R429): only with the twin in service and no other channel out of service. CH_CTL.RETRAIN reads 0 again. -/
def Device.plannedRetrain (d : Device) (c : Nat) : Device × Bool :=
  let clear := (List.range 16).all (fun k => (d.chan k).inService)
  if d.twin.svc = .paired ∧ d.twinServes = true ∧ clear = true then (d.startRetrain c, true)
  else (d.raise DDRCH.flag.RETRAIN_REFUSED c [] [], false)

/-- CH_CTL_RETRAIN. -/
def execChCtlRetrain (c : Nat) (s : State) : Host.Outcome State Fault Refusal := s.run (fun d => (d.plannedRetrain c).1)

/-- The raw addresses of the device-private bursts of a channel that something was written to. -/
def Device.privateBursts (d : Device) (c : Nat) : List Nat :=
  let p := d.privateBase
  let cells := (d.mem.filter (fun e => decide (p ≤ e.1) && channelOf e.1 == c)).map (fun e => 64 * (e.1 / 64))
  let queued := (d.chan c).wq.flatMap (fun q => (q.2.filter (fun w => decide (p ≤ w.ra))).map (fun w => w.ra))
  (cells ++ queued).eraseDups

/-- A channel that returns rewrites its private-area bursts from their other copies (R426). -/
def Device.rewritePrivate (d : Device) (c : Nat) : Device :=
  let other := (c + 8) % 16
  if (d.chan other).inService then
    ((d.privateBursts other).map privateCopy ++ d.privateBursts c).eraseDups.foldl (fun (d : Device) a =>
      let b := privateCopy a
      let w := match d.wqFind b with | some e => (e.data, e.poison) | none => d.memLine b
      d.putBurst a w.1 w.2 none) d
  else d

/-- A channel becomes FAILED (R425, R428). -/
def Device.failChannel (d : Device) (c : Nat) : Device :=
  let x := d.chan c
  (d.setChan c { x with state := .failed }).raise DDRCH.flag.CH_FAILED c [c] [c]

/-- A retrain ends (R428): success returns the channel to ACTIVE, with its pinned records written; the third failure in a row leaves
it FAILED. -/
def Device.retrainDone (d : Device) (c : Nat) (ok : Bool) : Device :=
  let x := d.chan c
  if !(x.state == .retraining) then d
  else if ok then
    let d := d.setChan c { x with state := .active, attempts := 0, pinned := [], alerts := [] }
    ((((d.evt DDRCH.flag.IN_SERVICE c).rewritePrivate c).restoreKept c)).chanChanged
  else if x.attempts < 2 then d.setChan c { x with attempts := x.attempts + 1 }
  else (d.failChannel c).chanChanged

/-- RETRAIN_DONE. -/
def execRetrainDone (c : Nat) (ok : Bool) (s : State) : Host.Outcome State Fault Refusal := s.run (fun d => d.retrainDone c ok)

/-! ### Self-refresh (R421 to R423) -/

/-- A channel that has been idle for SR_IDLE_US enters self-refresh. A request in a queue means that it is not idle. -/
def Device.selfRefresh (d : Device) (c : Nat) : Device :=
  let x := d.chan c
  let idle := (d.chanQueue c).isEmpty && x.wq.all (fun q => q.2.isEmpty) && x.rq.all (fun q => q.2.isEmpty)
  if d.flagReg DDRCH.CH_CFG.SR_EN c && x.state == .active && idle then
    (d.setChan c { x with state := .selfRefresh, openRows := [], postponed := [] }).countSat DDRCH.SR_ENTRIES.COUNT c
  else d

/-- SELF_REFRESH_ENTRY. -/
def execSelfRefreshEntry (c : Nat) (s : State) : Host.Outcome State Fault Refusal := s.run (fun d => d.selfRefresh c)

/-- Read the scrubber's bursts that a channel holds. -/
def Device.readHeld (d : Device) (c : Nat) : Device :=
  let x := d.chan c
  let cls := d.reg INTEG.SCRUB_CTL.CLASS
  x.heldScrub.foldl (fun (d : Device) e => ((d.chargeDeq cls 64).addErrors e.1 e.2).checkBurst e.1 cls)
    (d.setChan c { x with heldScrub := [] })

/-- SR_DEFER_EXPIRY: the channel wakes for the scrubber reads that it holds (R423). -/
def execSrDeferExpiry (c : Nat) (s : State) : Host.Outcome State Fault Refusal :=
  s.run (fun d => if (d.chan c).heldScrub.isEmpty then d else ((d.wakeChan c).readHeld c).proceed)

end Sys2Proof.Machine
end

