-- ==== Sys2Proof/Machine/IntegCmds.lean ====
section
/-! DEFINITION. Error injection, the scrubber, the Proofer, the Tier-0 patrol and retirement (Memory Integrity). -/

namespace Sys2Proof.Machine

/-- ERR_INJ_ARM: a write of ERR_INJ of a channel page that arms an injection; ignored while the page is locked (R459). -/
def Device.armInjection (d : Device) (c pos mask value sub : Nat) : Device :=
  d.rwl .ddrch c true (fun d =>
    ((((d.store DDRCH.ERR_INJ.POS pos c).store DDRCH.ERR_INJ.CW_MASK mask c).store DDRCH.ERR_INJ.VALUE value c).store
      DDRCH.ERR_INJ.SUB sub c).setReg DDRCH.ERR_INJ.ARM 1 c)

/-- ERR_INJ_ARM. -/
def execErrInjArm (c pos mask value sub : Nat) (s : State) : Host.Outcome State Fault Refusal :=
  s.run (fun d => d.armInjection c pos mask value sub)

/-! ### The scrubber (R447 to R449) -/

/-- The next local page of the pass; after the last one the pass ends (R447). -/
def Device.scrubAdvance (d : Device) : Device :=
  let lpn := d.reg INTEG.SCRUB_POS.LPN + 1
  let d := d.setInteg { d.integ with scrubIdx := 0 }
  if d.nloaf ≤ lpn then ((d.setReg INTEG.SCRUB_POS.LPN 0).countSat INTEG.SCRUB_PASSES.COUNT).evt INTEG.flag.PASS_DONE
  else d.setReg INTEG.SCRUB_POS.LPN lpn

/-- The next burst of the table walk, and the device after it: the record burst of two loaves, then the bursts of each loaf's
slices. `fuel` bounds the loaves without bursts that are passed. -/
def Device.scrubNext (d : Device) : Nat → Device × Option Nat
  | 0 => (d, none)
  | fuel + 1 =>
    let lpn := d.reg INTEG.SCRUB_POS.LPN; let k := d.integ.scrubIdx
    let r := LoafRec.ofWord (d.recordWord lpn)
    if k = 0 then
      let d := d.setInteg { d.integ with scrubIdx := 1 }
      if lpn % 2 = 0 then (d, some (d.recordAddr lpn)) else d.scrubNext fuel
    else if r.ok && decide (k ≤ 8 * r.nslice) then
      (d.setInteg { d.integ with scrubIdx := k + 1 }, some (sliceAddr r.bin (r.slices.getD ((k - 1) / 8) 0) + 64 * ((k - 1) % 8)))
    else d.scrubAdvance.scrubNext fuel

/-- One read of the scrubber, with the symbol errors that the burst shows. A channel in self-refresh holds it, and wakes when it
holds 1,024 (R423); a channel out of service is passed over. -/
def Device.scrubRead (d : Device) (ra : Nat) (err : List Nat) : Device :=
  let c := channelOf ra; let cls := d.reg INTEG.SCRUB_CTL.CLASS
  let x := d.chan c
  if x.inService = false then d
  else if x.state = .selfRefresh then
    let d := d.setChan c { x with heldScrub := x.heldScrub ++ [(ra, err)] }
    if 1024 ≤ x.heldScrub.length + 1 then (d.wakeChan c).readHeld c else d
  else ((d.chargeDeq cls 64).addErrors ra err).checkBurst ra cls

/-- A step of the scrubber. `priv` tells that it takes the next burst of the device-private area. -/
def Device.scrubStep (d : Device) (priv : Bool) (err : List Nat) : Device :=
  if d.paused || !(d.flagReg INTEG.SCRUB_CTL.EN) || !(d.pageOn .integ) || d.twin.svc == .start then d
  else if priv then
    let k := d.integ.scrubPriv
    (d.setInteg { d.integ with scrubPriv := (k + 1) % 2 ^ 26 }).scrubRead (d.privateBase + 64 * k) err
  else
    match d.scrubNext 6 with
    | (d, some ra) => d.scrubRead ra err
    | (d, none) => d

/-- SCRUB_STEP. -/
def execScrubStep (priv : Bool) (err : List Nat) (s : State) : Host.Outcome State Fault Refusal :=
  s.run (fun d => (d.scrubStep priv err).proceed)

/-! ### The Proofer (R450 to R452) -/

/-- The Proofer takes a frame of the hot-data cache as scratch, evicting as usual; which set is a free value (R75; log entry 106). -/
def Device.takeScratch (d : Device) : Device :=
  let set := Config.freeNat d.fresh % 9216
  let d := d.nextFree.makeRoom set
  { d with tier := { d.tier with scratch := d.tier.scratch ++ [set] } }

/-- The next queued row is taken: two scratch frames, its bursts are copied into them, with their errors handled as the scrubber's, and the redirect starts
(R451, steps 1 and 2). -/
def Device.proofStart (d : Device) : Device :=
  match d.integ.queue with
  | [] => d
  | (row, ra) :: rest =>
    if d.paused || d.integ.test.isSome || !(d.flagReg INTEG.PROOF_CTL.EN) || !(d.chan (channelOf ra)).inService then d
    else
      let d := (d.setInteg { d.integ with queue := rest }).takeScratch.takeScratch
      let d := (d.rowBursts (d.dramLoc ra)).foldl (fun (d : Device) a =>
        d.checkBurst a (d.reg INTEG.SCRUB_CTL.CLASS)) d
      let q := d.integ.queue.filter (fun e => e.1 != row)
      (d.setInteg { d.integ with queue := q, test := some { row := row, ra := ra } }).setReg INTEG.PROOF_STAT.BUSY 1

/-- PROOF_START. -/
def execProofStart (s : State) : Host.Outcome State Fault Refusal := s.run Device.proofStart

/-- The hold time after a pattern ends and the row is read back: the lanes that failed join those of the test (R451, step 3). Each pattern is one
write of the row and two reads of it. -/
def Device.proofHold (d : Device) (lanes : Nat) : Device :=
  match d.integ.test with
  | some t =>
    if t.patterns < 4 then
      let n := 8 * 2 ^ d.hw.colBits; let c := channelOf t.ra
      ((d.setInteg { d.integ with test := some { t with patterns := t.patterns + 1, lanes := t.lanes ||| (lanes % 2 ^ 40) } }).addCount
        DDRCH.WRITES.COUNT n c).addCount DDRCH.READS.COUNT (2 * n) c
    else d
  | none => d

/-- PROOF_HOLD_EXPIRY. -/
def execProofHoldExpiry (lanes : Nat) (s : State) : Host.Outcome State Fault Refusal := s.run (fun d => d.proofHold lanes)

/-- The positions of failing lanes: lane 4i to 4i + 3 is position i (R434). -/
def lanePositions (lanes : Nat) : Nat :=
  (List.range 10).foldl (fun n i => if bitsOf lanes (4 * i) 4 = 0 then n else n + 2 ^ i) 0

/-- The test ends once the four patterns are done: the copy is written back with the code, so the row holds no symbol errors, and
the verdict of R452 is recorded. -/
def Device.proofDone (d : Device) : Device :=
  match d.integ.test with
  | none => d
  | some t =>
    if t.patterns < 4 then d
    else
      let within := 1000000000 * (86400 * d.reg INTEG.PROOF_CTL.WINDOW_D)
      let before := match d.integ.history.find? (fun e => e.1 == t.row) with
        | some e => decide (d.time ≤ e.2 + within)
        | none => false
      let d := d.restoreRow t d.integ.kept.length
      let d := d.setInteg { d.integ with test := none, tested := KMap.put d.integ.tested t.row d.time }
      ((d.setReg INTEG.PROOF_STAT.BUSY 0).countSat INTEG.PROOF_TESTS.COUNT).verdict t.ra
        (if t.lanes != 0 then 2 else if before then 1 else 0) (lanePositions t.lanes) t.lanes

/-- PROOF_DONE. -/
def execProofDone (s : State) : Host.Outcome State Fault Refusal := s.run Device.proofDone

/-! ### The Tier-0 patrol (R445, R446) -/

/-- A word that the patrol finds uncorrectable. `item` is the line of the hot-data cache, the local page of a cached record, the
shadow line, the address of a multicast block, or the line of a directory entry. A fetch from the twin of kind 4 is for a hot-data
line, of kind 5 for a shadow line. -/
def Device.t0Uncorr (d : Device) (area item : Nat) : Device :=
  let d := d.countSat INTEG.T0_UNCORRS.COUNT
  let info := area :: leBytes 6 item
  let fetch (d : Device) (kind : Nat) : Device :=
    let id := d.twin.nextFetch
    let d := { d with twin := { d.twin with fetches := d.twin.fetches ++ [(id, item, kind)], nextFetch := id + 1 } }
    d.sendFetch id item (d.reg INTEG.SCRUB_CTL.CLASS)
  if area = 0 then
    match d.t0Line item with
    | none => d
    | some t =>
      let cls := match d.frame (lpnOf item) with | some f => f.cls | none => 0
      let dropped := match d.frame (lpnOf item) with
        | some f => { d with tier := { d.tier with frames := KMap.put d.tier.frames (lpnOf item) { f with lines := KMap.drop f.lines (item % 64) } } }
        | none => d
      if !t.dirty then dropped.raise INTEG.flag.T0_REFETCH 0 info info
      else if d.twinServes then fetch dropped 4
      else (d.putT0 item { data := 0, poison := true, dirty := true } cls).raise INTEG.flag.T0_UNCORR 0 info info
  else if area = 1 then
    if d.chans.any (fun e => e.2.pinned.contains item) then
      let old := LoafRec.ofWord (d.recordWord item)
      ((d.chargeChange item (if old.ok then old else {}) { state := 4 }).writeRecord item 4).raise INTEG.flag.T0_UNCORR 0 info info
    else { d with tier := { d.tier with recCache := d.tier.recCache.filter (fun l => l != item) } }.raise INTEG.flag.T0_REFETCH 0 info info
  else if area = 2 then
    match d.batch.home.find? (fun b => (KMap.find b.shadow item).isSome) with
    | none => d
    | some b =>
      if !b.committing then d.abortBatch b 2
      else if !b.sent then d.abortCommit b 2
      else
        let d := d.setBatch { b with shadow := KMap.put b.shadow item { data := 0, poison := true, dirty := true } }
        if d.twinServes then fetch d 5 else d.raise INTEG.flag.T0_UNCORR 0 info info
  else if area = 3 then (d.dropBlocks item).raise INTEG.flag.T0_REFETCH 0 info info
  else d.raise INTEG.flag.T0_DIR 0 info info

/-- A corrected word: a frame whose words are corrected three times within 24 h is fenced: its loaf leaves it, and its way stays taken (R446). -/
def Device.t0Fixed (d : Device) (area item : Nat) : Device :=
  let d := (d.countSat INTEG.T0_CES.COUNT).raise INTEG.flag.T0_CE 0 (area :: leBytes 6 item) (area :: leBytes 6 item)
  if area ≠ 0 ∨ (d.frame (lpnOf item)).isNone then d
  else
    let f := lpnOf item
    let times := d.time :: (KMap.get d.integ.fixes [] f).filter (fun t => decide (d.time < t + 86400 * 1000000000))
    if 3 ≤ times.length then
      let d := ((d.setInteg { d.integ with fixes := KMap.drop d.integ.fixes f }).countSat INTEG.T0_FENCED.FRAMES).evt INTEG.flag.FENCED
      { d with tier := { d.tier with fenced := d.tier.fenced ++ [t0Set f] } }.evictFrame f
    else d.setInteg { d.integ with fixes := KMap.put d.integ.fixes f times }

/-- T0_PATROL: the patrol reads a word; `bad` tells whether it is good, correctable or not. -/
def execT0Patrol (area item bad : Nat) (s : State) : Host.Outcome State Fault Refusal :=
  s.run (fun d => if bad = 0 then d else if bad = 1 then d.t0Fixed area item else (d.t0Uncorr area item).proceed)

/-! ### Retirement (R453 to R455) -/

/-- The place that RETIRE_ADDR_A and RETIRE_ADDR_B name; a bank is named by its row 0. -/
def Device.retirePlace (d : Device) (bank : Bool) : DramLoc :=
  { ch := d.reg INTEG.RETIRE_ADDR_A.CH, sub := d.reg INTEG.RETIRE_ADDR_A.SUB, dimm := d.reg INTEG.RETIRE_ADDR_A.DIMM,
    rank := d.reg INTEG.RETIRE_ADDR_A.RANK, cid := d.reg INTEG.RETIRE_ADDR_A.CID, bg := d.reg INTEG.RETIRE_ADDR_A.BG,
    bank := d.reg INTEG.RETIRE_ADDR_A.BANK, row := if bank then 0 else d.reg INTEG.RETIRE_ADDR_B.ROW, col := 0 }

/-- Is a place installed? -/
def Hw.installed (h : Hw) (l : DramLoc) : Bool :=
  decide (l.dimm < h.dimms) && decide (l.rank < h.ranks) && decide (l.cid < h.stack) && decide (l.row < 2 ^ h.rowBits)

/-- The slices that a retirement removes. -/
def Device.retireSize (d : Device) (bank : Bool) : Nat := 2 ^ (d.hw.colBits + if bank then d.hw.rowBits else 0)

/-- The slices of a bank that retired rows of it have taken already. -/
def Device.retiredWithin (d : Device) (bank : Bool) (key : Nat) : Nat :=
  if bank then (d.tier.retiredRows.filter (fun k => k / 2 ^ 17 == key)).length * 2 ^ d.hw.colBits else 0

/-- Does the capacity allow a retirement (R109)? -/
def Device.retireFits (d : Device) (bank : Bool) (key : Nat) : Bool :=
  decide (d.tier.elCharge ≤ d.elCapacity - ((d.retireSize bank - d.retiredWithin bank key : Nat) : Int))

/-- The checks of R454. -/
def Device.retireResult (d : Device) (bank : Bool) : Nat :=
  let l := d.retirePlace bank
  let top := d.rawOf { l with row := if bank then 2 ^ d.hw.rowBits - 1 else l.row, col := 128 * (2 ^ d.hw.colBits - 1) }
  if !(d.hw.installed l) then 4
  else if d.tier.retiredBanks.contains l.bankKey || (!bank && d.tier.retiredRows.contains l.rowKey) then 5
  else if (if bank then 256 ≤ d.tier.retiredBanks.length else 4096 ≤ d.tier.retiredRows.length) then 3
  else if d.tableBase ≤ top then 2
  else if !(d.retireFits bank l.bankKey) then 1
  else 0

/-- RETIRE_CMD (R453): the lock of the page binds it, and it has no effect while a retirement runs. -/
def Device.retireStart (d : Device) (bank : Bool) : Device :=
  d.rwl .integ 0 true (fun d =>
    if d.flagReg INTEG.RETIRE_CMD.BUSY then d
    else
      let l := d.retirePlace bank
      let run : RetireRun := { op := if bank then 2 else 1, key := if bank then l.bankKey else l.rowKey, result := d.retireResult bank }
      (d.setInteg { d.integ with retire := some run }).setReg INTEG.RETIRE_CMD.BUSY 1)

/-- RETIRE_ROW. -/
def execRetireRow (s : State) : Host.Outcome State Fault Refusal := s.run (fun d => d.retireStart false)

/-- RETIRE_BANK. -/
def execRetireBank (s : State) : Host.Outcome State Fault Refusal := s.run (fun d => d.retireStart true)

/-- Copy a loaf to new slices, with NSLICE and QEND kept (R453). The follow is not told. -/
def Device.relocate (d : Device) (lpn : Nat) : Device :=
  let cls := d.reg INTEG.SCRUB_CTL.CLASS
  let d := d.cancelMigration lpn
  let r := d.loaf lpn
  let (d, b, l) := d.allocSlices r.nslice
  let d := (List.range (8 * r.nslice)).foldl (fun (d : Device) k =>
    let (d, v, p, _) := d.readBurst (sliceAddr r.bin (r.slices.getD (k / 8) 0) + 64 * (k % 8)) cls r.baked
    d.writeBurst (sliceAddr b (l.getD (k / 8) 0) + 64 * (k % 8)) v p (some lpn)) d
  (d.chargeDeq cls (2 * 512 * r.nslice + 64)).changeRecord lpn r { r with bin := b, slices := l }

/-- Does a retirement cover a slice of the pool? -/
def Device.retireHits (d : Device) (run : RetireRun) (s : Nat) : Bool :=
  let l := d.dramLoc (512 * s)
  if run.op = 2 then l.bankKey == run.key else l.rowKey == run.key

/-- The loaves whose records name slices of a range. -/
def Device.retireLoaves (d : Device) (run : RetireRun) : List Nat :=
  d.knownPages.filter (fun p =>
    let r := LoafRec.ofWord (d.recordWord p)
    r.ok && r.slices.any (fun i => d.retireHits run (2 ^ 25 * r.bin + i)))

/-- The lines of those loaves that the twin must supply first: their bursts cannot be read here (R426, R441). -/
def Device.retireFetches (d : Device) (run : RetireRun) : List Nat :=
  if d.twinServes then
    (d.retireLoaves run).flatMap (fun p => ((List.range 64).map (fun i => 64 * p + i)).filter (fun l => (d.t0Line l).isNone && d.needsFetch l))
  else []

/-- Put a range out of the pool: stored with the identity of its DIMM, its loaves relocated, and migrations into it cancelled. A row that lies in a
bank retired later is counted once. -/
def Device.retireApply (d : Device) (run : RetireRun) : Device :=
  let row := if run.op = 2 then 2 ^ 17 * run.key else run.key
  let slot := row / 2 ^ 25 % 2 + 2 * (row / 2 ^ 27)
  let n := d.retireSize (run.op == 2) - d.retiredWithin (run.op == 2) run.key
  let t := { d.tier with retiredRows := if run.op = 2 then d.tier.retiredRows else d.tier.retiredRows ++ [run.key],
                         retiredBanks := if run.op = 2 then d.tier.retiredBanks ++ [run.key] else d.tier.retiredBanks,
                         retiredSlices := d.tier.retiredSlices + n }
  let d := { d with tier := t }
  let d := d.setInteg { d.integ with retiredIds := d.integ.retiredIds ++ [(run.op, run.key, d.hw.dimmIds.getD slot 0)] }
  let into := d.tier.migrations.filter (fun m =>
    let n := LoafRec.ofWord m.newRec
    n.slices.any (fun i => d.retireHits run (2 ^ 25 * n.bin + i)))
  let d := into.foldl (fun (d : Device) m => d.cancelMigration m.lpn) d
  ((d.retireLoaves run).foldl (fun (d : Device) p => d.relocate p) d).capUpdate

/-- The bank of a retirement. -/
def RetireRun.bank (run : RetireRun) : Nat := if run.op = 2 then run.key else run.key / 2 ^ 17

/-- A retirement waits for a test of its row, a bank also for its channel (R431, R457). -/
def Device.retireWaits (d : Device) (run : RetireRun) : Bool :=
  let mine (row : Nat) : Bool := if run.op = 2 then row / 2 ^ 17 == run.key else row == run.key
  (match d.integ.test with | some t => mine t.row | none => false) || d.integ.queue.any (fun e => mine e.1)
  || (run.op == 2 && !(d.chan (run.bank / 2 ^ 10)).inService && run.result == 0)

/-- The result of a retirement when it starts after a wait: the capacity is checked again (R109). -/
def Device.retireAgain (d : Device) (run : RetireRun) : Nat :=
  if run.result = 0 ∧ d.retireFits (run.op == 2) run.bank = false then 1 else run.result

/-- A retirement ends (R453), once nothing of it waits and the twin has supplied the lines of its loaves that cannot be read here (R441). -/
def Device.retireDone (d : Device) : Device :=
  match d.integ.retire with
  | none => d
  | some run =>
    if d.retireWaits run then d
    else
      let x := d.retireAgain run
      if x = 0 ∧ (d.retireFetches run).isEmpty = false then
        (d.retireFetches run).foldl (fun (d : Device) l => d.askTwin l (d.fetchKind l) (d.reg INTEG.SCRUB_CTL.CLASS)) d
      else
        let d := if x = 0 then d.retireApply run else d
        let d := d.setInteg { d.integ with retire := none }
        let d := ((d.setReg INTEG.RETIRE_STAT.RESULT x).setReg INTEG.RETIRE_CMD.BUSY 0).evt INTEG.flag.RETIRE_DONE
        if x = 0 ∧ run.op = 2 then d.recompute else d

/-- RETIRE_DONE. -/
def execRetireDone (s : State) : Host.Outcome State Fault Refusal := s.run Device.retireDone

end Sys2Proof.Machine
end

