-- ==== Sys2Proof/Machine/HostCmds.lean ====
section
/-! DEFINITION. The commands of a host link: resets, bus mastering, completions, MSI-X, decoders, training, containment and
release (Host Ports, R358 to R400). -/

namespace Sys2Proof.Machine

/-! ### Resets of a host port and its links (R394, R396, R397) -/

/-- PERST_L of a port falls: both links go down and their functions are reset, pending configuration is applied. -/
def Device.perst (d : Device) (p : Nat) : Device :=
  if d.host.perst.contains p ∨ 4 ≤ p then d
  else
    let d := { d with host := { d.host with perst := d.host.perst ++ [p] } }
    let d := ((d.dropLink p 0 .inReset).dropLink p 1 .inReset).applyPortCfg p
    (d.noteReset 2 0 [p]).proceed

/-- PERST. -/
def execPerst (p : Nat) (s : State) : Host.Outcome State Fault Refusal := s.run (fun d => d.perst p)

/-- PERST_L of a port rises: the links that nothing else holds start to train (R398, R627). -/
def Device.perstRise (d : Device) (p : Nat) : Device :=
  if !(d.host.perst.contains p) then d
  else
    let d := { d with host := { d.host with perst := d.host.perst.filter (fun q => q != p) } }
    (List.range 2).foldl (fun (d : Device) l =>
      let h := d.hostLink p l
      if d.linkPresent p l && !h.contained then d.setHostLink p l { h with state := d.freeState p l } else d) d

/-- PERST_L_RISE. -/
def execPerstLRise (p : Nat) (s : State) : Host.Outcome State Fault Refusal := s.run (fun d => d.perstRise p)

/-- A hot reset (`kind` 0), a link disable (1), or the end of a link disable (2). -/
def Device.hotReset (d : Device) (p l kind : Nat) : Device :=
  let h := d.hostLink p l
  if h.contained ∨ d.host.perst.contains p ∨ !d.linkPresent p l then d
  else if kind = 2 then
    let d := d.setHostLink p l { h with held := false }
    if h.held then d.setHostLink p l { d.hostLink p l with state := d.freeState p l } else d
  else
    let d := d.setHostLink p l { h with held := h.held || kind == 1 }
    let d := d.dropLink p l (d.freeState p l)
    d.proceed

/-- HOT_RESET. -/
def execHotReset (p l kind : Nat) (s : State) : Host.Outcome State Fault Refusal := s.run (fun d => d.hotReset p l kind)

/-- Is a link up? -/
def HostLink.up (h : HostLink) : Bool := h.state == .upIo || h.state == .upMem

/-- A CXL Reset (R397): every line held through the link is taken back; the decoders are uncommitted once every answer or
timeout is in. -/
def Device.cxlReset (d : Device) (p l : Nat) : Device :=
  let h := d.hostLink p l
  if !h.up || h.resetting then d
  else
    let d := d.setHostLink p l { h with resetting := true }
    if d.hostValid p l then d.recallAll (d.hostId p l)
    else d.setHostLink p l { h with decoders := [], decErr := [], biEnable := false }

/-- CXL_RESET. -/
def execCxlReset (p l : Nat) (s : State) : Host.Outcome State Fault Refusal := s.run (fun d => d.cxlReset p l)

/-- An FLR (R394): outbound requests stop and drain, CXL.io state and MSI-X are reset, the link's batch windows close. -/
def Device.flr (d : Device) (p l : Nat) : Device :=
  let h := d.hostLink p l
  if !h.up || h.flr then d
  else
    let d := d.setHostLink p l { h with bme := false, flr := true, flrAt := d.time, msixEnable := false, msixFuncMask := false, msixOpen := [],
                                        msixPending := [], mrrs := 512, bar := 0, cto := 0, idoReq := false, idoCpl := false }
    (d.startDrain p l).closeWindows p l

/-- FLR. -/
def execFlr (p l : Nat) (s : State) : Host.Outcome State Fault Refusal := s.run (fun d => d.flr p l)

/-- 90 ms after an FLR was initiated: the tags still open are released and the FLR completes. -/
def Device.flrRelease (d : Device) (p l : Nat) : Device := if (d.hostLink p l).flr && decide ((d.hostLink p l).flrAt + 90000000 ≤ d.time) then d.flipGen p l else d

/-- FLR_FORCE_RELEASE. -/
def execFlrForceRelease (p l : Nat) (s : State) : Host.Outcome State Fault Refusal := s.run (fun d => d.flrRelease p l)

/-! ### Bus mastering and completions (R376 to R379, R393, R395) -/

/-- Bus Master Enable is cleared (R393). -/
def Device.bmeClear (d : Device) (p l : Nat) : Device :=
  let h := d.hostLink p l
  if h.up && h.bme then (d.setHostLink p l { h with bme := false }).startDrain p l else d

/-- BME_CLEAR. -/
def execBmeClear (p l : Nat) (s : State) : Host.Outcome State Fault Refusal := s.run (fun d => d.bmeClear p l)

/-- Send the pending MSI-X messages whose conditions have cleared (R379). -/
def Device.msixFlush (d : Device) (p l : Nat) : Device :=
  let h := d.hostLink p l
  let go := h.msixPending.filter (fun v => h.msixReady v)
  let d := d.setHostLink p l { h with msixPending := h.msixPending.filter (fun v => !(go.contains v)) }
  go.foldl (fun (d : Device) v => d.send (.msix p l v)) d

/-- The time of each Completion Timeout Value, in ns (R378). -/
def cplTimes : List (Nat × Nat) :=
  [(0, 40000000), (1, 80000), (2, 8000000), (5, 40000000), (6, 160000000), (9, 500000000), (10, 2000000000), (13, 8000000000), (14, 32000000000)]

/-- Bus Master Enable is set, and the function's Device Control is as the host left it (R363, R393). -/
def Device.bmeSet (d : Device) (p l : Nat) (c : PcieCtl) : Device :=
  let h := d.hostLink p l
  if h.up then
    (d.setHostLink p l { h with bme := true, mrrs := if [128, 256, 512, 1024, 2048, 4096].contains c.mrrs then c.mrrs else h.mrrs,
                                cto := if (KMap.find cplTimes c.cto).isSome then c.cto else h.cto, idoReq := c.idoReq, idoCpl := c.idoCpl }).msixFlush p l
  else d

/-- BME_SET. -/
def execBmeSet (p l : Nat) (c : PcieCtl) (s : State) : Host.Outcome State Fault Refusal := s.run (fun d => d.bmeSet p l c)

/-- MSIX_PENDING_SEND: the MSI-X enable, function mask and unmasked vectors as the host has left them. -/
def execMsixPendingSend (p l : Nat) (en fmask : Bool) (vectors : List Nat) (s : State) : Host.Outcome State Fault Refusal :=
  s.run (fun d => (d.setHostLink p l { d.hostLink p l with msixEnable := en, msixFuncMask := fmask, msixOpen := vectors }).msixFlush p l)

/-- A tag frees: an answer of an old tag is discarded, and the last old tag ends the drain (R393, R394); any other goes to the
engine that asked. Data of another length than asked for counts as an error status (log entry 128). Rings that waited for a tag fetch. -/
def Device.tagEnds (d : Device) (p l : Nat) (t : OutTag) (status : Nat) (data : List Nat) : Device :=
  let h := d.hostLink p l
  let rest := h.tags.filter (fun x => x.tag != t.tag)
  let d := d.setHostLink p l { h with tags := rest }
  if t.old then (if rest.any (fun x => x.old) then d else d.flipGen p l)
  else
    let ok := decide (1 < status) || data.length == t.len
    let a : EngineAnswer := { kind := t.kind, q := t.q, qla := t.off, status := if ok then status else 7, bytes := if ok then data else [] }
    let d := if t.kind = 8 ∧ d.eng.dma.all (fun x => x.id != t.q) = true then d
      else { d with eng := { d.eng with inbox := d.eng.inbox ++ [a] } }
    (allRings.filter (fun r => d.ringOn r p l && d.ringOnHost r)).foldl (fun (d : Device) r => d.ringFetch r) d

/-- A completion of an outbound read (R395); `status` 0 good, 1 poisoned, 2 an error status. -/
def Device.outCompletion (d : Device) (p l tag status : Nat) (data : List Nat) : Device :=
  match (d.hostLink p l).tags.find? (fun t => t.tag + (if t.gen then 2 ^ 13 else 0) == tag) with
  | some t => d.tagEnds p l t (if status ≤ 1 then status else 7) data
  | none => d.countSat (if l = 0 then HOST.LATE_CPL.COUNT 0 else HOST.LATE_CPL.COUNT 1) p

/-- OUTBOUND_COMPLETION. -/
def execOutboundCompletion (p l tag status : Nat) (data : List Nat) (s : State) : Host.Outcome State Fault Refusal :=
  s.run (fun d => d.outCompletion p l tag status data)

/-- A completion timer expires, the time of the function's Completion Timeout Value after the request left; AER notes it (R378). -/
def Device.cplTimeout (d : Device) (p l tag : Nat) : Device :=
  match (d.hostLink p l).tags.find? (fun t => t.tag == tag && decide (t.sent + KMap.get cplTimes 40000000 (d.hostLink p l).cto ≤ d.time)) with
  | some t =>
    let d := d.countSat (if l = 0 then HOST.CPL_TIMEOUTS.COUNT 0 else HOST.CPL_TIMEOUTS.COUNT 1) p
    (d.setHostLink p l { d.hostLink p l with aerCto := true }).tagEnds p l t 7 []
  | none => d

/-- COMPLETION_TIMEOUT. -/
def execCompletionTimeout (p l tag : Nat) (s : State) : Host.Outcome State Fault Refusal := s.run (fun d => d.cplTimeout p l tag)

/-! ### Decoders and BI Enable (R369, R370) -/

/-- The DPA at which decoder `n` starts: past the skips and sizes of the lower decoders, and its own skip. -/
def HostLink.decoderBase (h : HostLink) (n skip : Nat) : Nat :=
  (h.decoders.filter (fun e => decide (e.1 < n))).foldl (fun a e => a + e.2.dpaSkip + e.2.size) 0 + skip

/-- May a decoder commit (R369)? -/
def HostLink.mayCommit (h : HostLink) (n size skip iw : Nat) (bi : Bool) : Bool :=
  let a := h.decoderBase n skip
  n < 16 && iw == 0 && bi && size % 2 ^ 28 == 0 && skip % 2 ^ 28 == 0 && decide (a + size ≤ 16 * 2 ^ h.winLog2)
    && h.decoders.all (fun e => e.1 == n || decide (e.2.dpa + e.2.size ≤ a) || decide (a + size ≤ e.2.dpa))
    && h.decoders.all (fun e => e.1 != n || !e.2.locked)

/-- A host commits an HDM decoder, or the commit fails with Error Not Committed. -/
def Device.decoderCommit (d : Device) (p l n hpa size skip iw : Nat) (bi lock : Bool) : Device :=
  let h := d.hostLink p l
  if !h.up then d
  else if h.mayCommit n size skip iw bi then
    let x : Decoder := { hpa := hpa, size := size, dpaSkip := skip, dpa := h.decoderBase n skip, locked := lock }
    d.setHostLink p l { h with decoders := KMap.put h.decoders n x, decErr := h.decErr.filter (fun i => i != n) }
  else if h.decErr.contains n then d
  else d.setHostLink p l { h with decErr := h.decErr ++ [n] }

/-- HDM_DECODER_COMMIT. -/
def execHdmDecoderCommit (p l n hpa size skip iw : Nat) (bi lock : Bool) (s : State) : Host.Outcome State Fault Refusal :=
  s.run (fun d => d.decoderCommit p l n hpa size skip iw bi lock)

/-- A write of BI Enable; the MemInv requests that waited for it proceed. -/
def Device.biEnableWrite (d : Device) (p l : Nat) (v : Bool) : Device :=
  let h := d.hostLink p l
  if !h.up then d
  else if v then
    let d := d.setHostLink p l { h with biEnable := true, waitBi := [] }
    h.waitBi.foldl (fun (d : Device) r => d.route r) d
  else d.setHostLink p l { h with biEnable := false }

/-- BI_ENABLE_WRITE. -/
def execBiEnableWrite (p l : Nat) (v : Bool) (s : State) : Host.Outcome State Fault Refusal := s.run (fun d => d.biEnableWrite p l v)

/-! ### Training, going down, containment and release (R360, R389 to R392) -/

/-- A link finishes training (R360). `rate` and `width` are the best that the far end offers, `flit256` whether the link came up in
256 B flit mode. -/
def Device.hostLinkUp (d : Device) (p l rate width : Nat) (flit256 : Bool) : Device :=
  let h := d.hostLink p l
  if h.state ≠ .training ∨ !d.linkPresent p l then d
  else
    let w := min width (if h.split then 8 else 16)
    let d := d.setHostLink p l { h with state := if flit256 then .upMem else .upIo, rate := max rate (d.reg HOST.PORT_CFG.MAX_RATE p),
                                        width := w, flit256 := flit256 }
    d.evt (HOST.flag.LINK_UP l) p

/-- HOST_LINK_UP. -/
def execHostLinkUp (p l rate width : Nat) (flit256 : Bool) (s : State) : Host.Outcome State Fault Refusal :=
  s.run (fun d => d.hostLinkUp p l rate width flit256)

/-- SURPRISE_DOWN. -/
def execSurpriseDown (p l : Nat) (s : State) : Host.Outcome State Fault Refusal :=
  s.run (fun d => if (d.hostLink p l).up then (d.contain p l 1).proceed else d)

/-- LINK_UNCORR. -/
def execLinkUncorr (p l : Nat) (s : State) : Host.Outcome State Fault Refusal :=
  s.run (fun d => if (d.hostLink p l).up then (d.contain p l 2).proceed else d)

/-- CONTAIN, with the cause that R389 numbers. -/
def execContain (p l cause : Nat) (s : State) : Host.Outcome State Fault Refusal :=
  s.run (fun d => if 1 ≤ cause ∧ cause ≤ 7 then (d.contain p l cause).proceed else d)

/-- CONTAIN_WRITE. -/
def execContainWrite (p l : Nat) (s : State) : Host.Outcome State Fault Refusal := s.run (fun d => (d.contain p l 6).proceed)

/-- May an agent release a link: another host link with MGMT_EN, the endpoint, firmware, or the steward (R391)? -/
def Device.mayRelease (d : Device) (ag : Agent) (p l : Nat) : Bool :=
  match ag with
  | .host p' l' => !(p' == p && l' == l) && (if l' = 0 then d.flagReg HOST.PORT_CFG.MGMT_EN_L0 p' else d.flagReg HOST.PORT_CFG.MGMT_EN_L1 p')
  | .endpoint | .firmware | .steward => true
  | _ => false

/-- A write of 1 to RELEASE (R391). -/
def Device.release (d : Device) (ag : Agent) (p l : Nat) : Device :=
  let h := d.hostLink p l
  if !h.contained || !d.linkPresent p l || !d.mayRelease ag p l then d
  else if h.sweepPend then d.raise (HOST.flag.RELEASE_EARLY l) p [l] [l] false
  else d.releaseLink p l

/-- RELEASE. -/
def execRelease (ag : Agent) (p l : Nat) (s : State) : Host.Outcome State Fault Refusal := s.run (fun d => d.release ag p l)

end Sys2Proof.Machine
end

