-- ==== Sys2Proof/Machine/SecOps.lean ====
section
/-! DEFINITION. Firmware slots and images, signers, measurements and security records (Keys, Identity and Firmware). -/

namespace Sys2Proof.Machine

/-! ### Security records (R569) -/

/-- A SECURITY record: event code, master, reason, address or value. One record for each master and reason. -/
def Device.secEvent (d : Device) (source code master reason value : Nat) : Device :=
  d.securityRecord source ([code, master, reason, 0, 0, 0, 0, 0] ++ leBytes 8 value) [master, reason]

/-- A security fault: its flag, the ledger record of its class, and a SECURITY record (R569). -/
def Device.secFault (d : Device) (f : Flag) (code master reason value : Nat) : Device :=
  (d.raise f 0 [reason] [master, reason]).secEvent ((f.page.source 0 f.bit).getD 0xFF) code master reason value

/-- The event code of a security flag (R569). -/
def secCode (f : Flag) : Nat := if f.page = .mint then 0x10 + f.bit else f.bit + 1

/-- A blocked access (R568): `master` 0 debug port, 1 DMA engine; `range` as ALM_MASTER numbers it. -/
def Device.blockedAccess (d : Device) (master range addr : Nat) : Device :=
  let d := (d.setReg SECALM.ALM_MASTER.MASTER master).setReg SECALM.ALM_MASTER.RANGE range
  let d := (d.setReg SECALM.ALM_ADDR_LO.ADDR_LO addr).setReg SECALM.ALM_ADDR_HI.ADDR_HI (addr / 2 ^ 32)
  (d.countSat SECALM.ALM_COUNT.COUNT).secFault SECALM.flag.BLOCKED_ACCESS 1 master range addr

/-- The protected range that a raw address lies in while its range is blocked (R70): user data is open under the scope
USER_DATA; the whole private area counts as firmware and ledger mirror (log entry 15). -/
def Device.rawBlocked (d : Device) (ra : Nat) : Option Nat :=
  if d.privateBase ≤ ra then some 0
  else if bitOf (d.reg FWSEC.DBG_STAT.SCOPE) 1 then none else some 3

/-- Does the device's own firmware run (R498, R500, R563)? -/
def Device.fwAlive (d : Device) : Bool := !d.twin.mgmtLost && d.sec.run.isSome

/-- Is a Mint output available (R545)? -/
def Device.mintOk (d : Device) : Bool := d.sec.outOk

/-- `n` bytes drawn from the Mint: free values (R544). -/
def Device.draw (d : Device) (n : Nat) : Device × List Nat :=
  let v := Config.freeNat d.fresh
  (d.nextFree, leBytes n v)

/-! ### Signers (R556, R558) -/

/-- Is a signer slot usable: its keys hash to the OTP digest and it is not revoked? Slots 0 to 3 firmware, 4 to 7 debug. -/
def Device.signerUsable (d : Device) (i : Nat) : Bool :=
  let ed := d.hw.edKeys.getD i []; let ml := d.hw.mldsaKeys.getD i []
  decide (i < 8) && !(d.sec.revoked.contains i) && Config.sha384 (ed ++ ml) == d.hw.keyDigests.getD i [256]

/-- The context strings of R558 as bytes: firmware, debug tokens, attestation. -/
def ctxFw : List Nat := [0x4C, 0x58, 0x39, 0x34, 0x31, 0x36, 0x2D, 0x46, 0x57]
/-- The context string of debug tokens. -/
def ctxDbg : List Nat := [0x4C, 0x58, 0x39, 0x34, 0x31, 0x36, 0x2D, 0x44, 0x42, 0x47]
/-- The context string of attestation. -/
def ctxAtt : List Nat := [0x4C, 0x58, 0x39, 0x34, 0x31, 0x36, 0x2D, 0x41, 0x54, 0x54]

/-! ### Images (R559 to R562) -/

/-- The flash address of a slot. -/
def slotBase (slot : Nat) : Nat := 0x2000000 * (slot % 2)

/-- Bytes of an image in flash. -/
def Device.imageBytes (d : Device) (slot off n : Nat) : List Nat := Memory.bytes d.sec.flash (slotBase slot + off) n

/-- The length of the body. -/
def bodyLen (h : List Nat) : Nat := ofLe ((h.drop 12).take 4)

/-- Is the image in a slot valid under R561? -/
def Device.imageValid (d : Device) (slot : Nat) : Bool :=
  let h := d.imageBytes slot 0 4096
  let signer := h.getD 5 0; let n := bodyLen h
  let digest := Config.sha384 (h.take 112)
  decide (ofLe (h.take 4) = 0x4F5A4657) && h.getD 4 0 == 1 && decide (h.getD 7 0 < 16)
    && ((h.drop 20).take 44).all (fun b => b == 0) && (h.drop 3485).all (fun b => b == 0)
    && decide (1 ≤ n) && decide (n ≤ 33550336)
    && Config.sha384 (d.imageBytes slot 4096 n) == (h.drop 64).take 48
    && decide (signer < 4) && d.signerUsable signer
    && Config.edVerifies (d.hw.edKeys.getD signer []) digest ((h.drop 112).take 64)
    && Config.mldsaVerifies (d.hw.mldsaKeys.getD signer []) ctxFw digest ((h.drop 176).take 3309)
    && decide (d.sec.arbC ≤ h.getD 6 0) && !(bitOf (h.getD 7 0) signer)

/-- The security version of the running image. -/
def RunImage.secVer (r : RunImage) : Nat := r.header.getD 6 0
/-- The revoke mask of the running image. -/
def RunImage.revokeMask (r : RunImage) : Nat := r.header.getD 7 0 % 16
/-- The build of the running image. -/
def RunImage.build (r : RunImage) : Nat := ofLe ((r.header.drop 8).take 4)

/-- The slot that runs; 2 where none does. -/
def Device.runSlot (d : Device) : Nat := match d.sec.run with | some r => r.slot | none => 2

/-- The ROM starts the image of a slot. -/
def Device.runImage (d : Device) (slot : Nat) (trial fallback : Bool) : Device :=
  { d with sec := { d.sec with run := some { slot := slot, header := d.imageBytes slot 0 112, trial := trial, fallback := fallback } } }

/-- What the ROM boots at a device reset or cold start (R562, R563): the trial at most once, the other slot where the chosen image
is not valid, nothing where neither is. -/
def Device.bootRom (d : Device) : Device :=
  let was := match d.sec.run with | some r => r.trial | none => false
  let again := d.sec.trial && was
  let d := if again then { d with sec := { d.sec with trial := false } } else d
  let trial := d.sec.trial
  let slot := if trial then d.sec.nextSlot else d.sec.bootSlot
  if d.imageValid slot then d.runImage slot trial again
  else
    let d := d.secFault SECALM.flag.IMAGE_REJECT 4 0 slot 0
    if d.imageValid (1 - slot) then d.runImage (1 - slot) false true
    else { d with sec := { d.sec with run := none } }

/-- The events of a boot (R582). -/
def Device.bootEvents (d : Device) : Device :=
  match d.sec.run with
  | none => d
  | some r =>
    let d := if r.trial then d.evt FWSEC.flag.TRIAL_BOOT else d
    if r.fallback then d.evt FWSEC.flag.FALLBACK else d

/-- The BOOT record of a cold start: bytes 24 to 27 the security version, then the fields of R567. -/
def Device.bootRecord (d : Device) : Device :=
  match d.sec.run with
  | none => d
  | some r =>
    let info := [r.slot, (if r.trial then 1 else 0) + (if r.fallback then 2 else 0) + (if d.reg FWSEC.DBG_STAT.SCOPE = 0 then 0 else 4),
      d.sec.arbC, 0] ++ leBytes 4 r.build ++ (r.header.drop 64).take 24
    d.record { seq := 0, time := 0, type := 0x0031, source := 0xFF, cls := 0, pageId := 0,
               detail := leBytes 4 r.secVer ++ info } []

/-! ### Writing and activating images (R564) -/

/-- Write bytes into a slot: 0 OK, 1 REFUSED, 3 BAD_ARG. -/
def Device.fwWrite (d : Device) (slot off : Nat) (data : List Nat) : Device × Nat :=
  if 2 ≤ slot ∨ 0x2000000 < off + data.length then (d, 3)
  else if slot = d.runSlot then (d, 1)
  else ({ d with sec := { d.sec with flash := Memory.setBytes d.sec.flash (slotBase slot + off) data } }, 0)

/-- Activate a slot: the next trial where its image is valid, IMAGE_REJECT otherwise. -/
def Device.fwActivate (d : Device) (slot : Nat) : Device × Nat :=
  if 2 ≤ slot then (d, 3)
  else if d.imageValid slot then ({ d with sec := { d.sec with nextSlot := slot, trial := true } }, 0)
  else (d.secFault SECALM.flag.IMAGE_REJECT 4 0 slot 0, 1)

/-! ### Attestation (R555, R557, R575, R576) -/

/-- Do the identity records agree with their digests? A device whose records do not refuses attestation. -/
def Device.identityOk (d : Device) : Bool := d.hw.identity.all (fun e => Config.sha384 e.1 == e.2)

/-- The persistent configuration as bytes, its registers in key order, then the boot slots (R562) and the retirements (R454), without the calibration set and the ledger's sector table. -/
def Device.persistBytes (d : Device) : List Nat :=
  ((Page.all.flatMap Page.fields).filter (fun f => f.kept && f.page != .ledger && f.page != .cal)).flatMap (fun f =>
    (List.range (Page.count d.hw.gradeH f.page)).flatMap (fun i => leBytes 4 (d.reg f i)))
  ++ [d.sec.bootSlot, d.sec.nextSlot, if d.sec.trial then 1 else 0]
  ++ d.integ.retiredIds.flatMap (fun e => leBytes 8 e.1 ++ leBytes 8 e.2.1 ++ leBytes 8 e.2.2)

/-- The number of REVOKED bits as one byte. -/
def Device.revokedMask (d : Device) : Nat := (d.sec.revoked.eraseDups.filter (fun i => decide (i < 8))).foldl (fun n i => n + 2 ^ i) 0

/-- What measurement block `i` measures (R576). -/
def Device.measured (d : Device) (i : Nat) : List Nat :=
  match i with
  | 1 => d.hw.romVersions
  | 2 => match d.sec.run with | some r => r.header | none => []
  | 3 => match d.sec.run with | some r => (r.header.drop 64).take 48 | none => []
  | 4 => [d.sec.arbC, d.revokedMask, d.sec.bootSlot, if d.sec.trial then 1 else 0]
  | 5 => d.persistBytes
  | 6 => d.power.cal.words.flatMap (fun e => leBytes 4 e.1 ++ leBytes 4 e.2)
  | 7 => [d.sec.scopeSeen, d.reg FWSEC.DBG_STAT.LOCKOUT]
  | _ => d.hw.otpConfig

/-- The digest of block `i`; block 3 is BODY_HASH itself. -/
def Device.measurement (d : Device) (i : Nat) : List Nat := if i = 3 then d.measured 3 else Config.sha384 (d.measured i)

/-- The salt of the Alias keys: SHA-384 of blocks 1 to 4 (R557). -/
def Device.aliasSalt (d : Device) : List Nat := Config.sha384 ([1, 2, 3, 4].flatMap d.measurement)

end Sys2Proof.Machine
end

