-- ==== Sys2Proof/Machine/TwinOps.lean ====
section
/-! DEFINITION. Service states, the loss of the twin, withdrawal, handover and resync (Twins and Quartets). -/

namespace Sys2Proof.Machine

/-! ### Devices and links -/

/-- The arrival code of the twin. -/
def Device.twinArr (d : Device) : Nat := (1 - d.side) * 4 + d.qid

/-- Does a twin link carry twin traffic: ACTIVE, with every HELLO check passed (R463)? -/
def Device.twinLinkUp (d : Device) : Bool := d.twin.peerOk.contains 3 || d.twin.peerOk.contains 4

/-- Is the heartbeat driven: in service, with every confirmation (R478)? -/
def Device.heartbeatOut (d : Device) : Device :=
  { d with twin := { d.twin with hbOut := d.serving && d.twin.confirm } }

/-- Enter a service state: the heartbeat follows and the other devices are told. -/
def Device.setSvc (d : Device) (s : Svc) : Device :=
  let fresh := s.serving && !d.serving
  (({ d with twin := { d.twin with svc := s, confirm := d.twin.confirm || fresh } }).heartbeatOut).tellState []

/-- The host and site links of a device that enters service: containment of cause WITHDRAW clears, and disabled site links are
enabled (R392, R491). -/
def Device.openLinks (d : Device) : Device :=
  let d := (List.range 8).foldl (fun (d : Device) k =>
    let p := k / 2; let l := k % 2
    if (d.hostLink p l).contained && (d.hostLink p l).cause == 5 && d.linkPresent p l then d.releaseLink p l else d) d
  (d.links.filter (fun e => decide (e.1 < 1024) && e.2.state == .disabled && d.siteLive e.1)).foldl (fun (d : Device) e => d.detect (.site e.1)) d

/-- Enter SOLO from JOIN: home of every page of its position (R464, R465). -/
def Device.enterSolo (d : Device) : Device :=
  let d := { d with twin := { d.twin with leads := true, covers := true, cut := [], gained := [], gainAll := false, hand := none } }
  ((d.setSvc .solo).openLinks).recompute.proceed

/-- The transition of JOIN that needs no wait: the twin is in JOIN or START and this device is side A (R465). -/
def Device.joinStep (d : Device) : Device :=
  if d.twin.svc = .join ∧ d.twinLinkUp = true ∧ d.side = 0 ∧ (d.twin.twinSvc = .join ∨ d.twin.twinSvc = .start) then d.enterSolo else d

/-! ### A device that is gone (R155, R156, R190, R481) -/

/-- The outcome entry of a batch that had already aborted at this home keeps the cause it stored (R189, R190); the entry of a later batch of the
slot stays. -/
def Device.noteEnded (d : Device) (key bseq cause : Nat) : Device :=
  let e := KMap.get d.batch.outcomes {} key
  let dist := (e.bseq + 65536 - bseq) % 65536
  if e.outcome ≠ 0 ∧ 0 < dist ∧ dist < 32768 then d
  else { d with batch := { d.batch with outcomes := KMap.put d.batch.outcomes key { bseq := bseq, outcome := 2, cause := cause } } }

/-- The fate of batches homed here whose arrival device is gone: an OPEN batch aborts with RESET, an ABORTED one keeps its cause in its outcome
entry, a commit goes on (R190). -/
def Device.batchesOfArr (d : Device) (arr : Nat) : Device :=
  let ended := d.batch.ended.filter (fun e => e.1 / 2048 == arr)
  let d := ended.foldl (fun (d : Device) e => d.noteEnded e.1 e.2.1 e.2.2) d
  (d.batch.home.filter (fun b => b.arr == arr && !b.committing)).foldl (fun (d : Device) b => d.abortBatch b 5) d

/-- The fate of this device's batches whose home is gone: an OPEN batch aborts with TWIN_LOSS; for a commit the outcome is asked
of the new home (R190, R191). -/
def Device.batchesAtHome (d : Device) (arr : Nat) : Device :=
  d.batch.slots.foldl (fun (d : Device) e =>
    if e.2.home = some arr ∧ e.2.state = .opened then d.slotAborted e.1 6 else d) d

/-- A device leaves service as seen from here: its pointers are swept (R156), batches follow R190, and the marker of R155 goes to its
twin, which becomes home of its pages. Table commands no longer wait for it (R53); where it was their coordinator, those of this device without a
result go to the next one. -/
def Device.deviceGone (d : Device) (arr : Nat) : Device :=
  if !(d.twin.inService.contains arr) then d
  else
    let wait := d.coh.recallWait.filter (fun x => x.1 != arr)
    let before := d.coordinator
    let d := { d with twin := { d.twin with inService := d.twin.inService.filter (fun a => a != arr) },
                      coh := { d.coh with recallWait := wait, noGrant := d.coh.noGrant.filter (fun a => a != arr) },
                      regions := { d.regions with asks := d.regions.asks.filter (fun a => a.frm != arr) } }
    let heir := (arr + 4) % 8
    let d := if d.serving && heir != d.myArr then d.tellDev heir 0 (.noticeFlush heir d.myArr) else d
    let d := (((d.batchesOfArr arr).batchesAtHome arr).loseLink 32 arr).tableGot arr
    if before = some arr then d.askAgain else d

/-! ### Countersigns (R33, R101, R107) -/

/-- What a countersign that arrives, or is no longer awaited, lets go on. -/
def Device.csDone (d : Device) (c : CsWait) (l : Option Layout) : Device :=
  match c.waiter with
  | .request r a => d.deliver r a
  | .migration lpn =>
    match d.tier.migrations.find? (fun m => m.lpn == lpn) with
    | none => d
    | some m =>
      let mine := (LoafRec.ofWord m.newRec).layout
      let same := match l with
        | some x => x.nslice == mine.nslice && x.qend1 == mine.qend1 && x.qend2 == mine.qend2 && x.qend3 == mine.qend3
        | none => true
      if same then
        { d with tier := { d.tier with migrations := d.tier.migrations.map (fun x =>
          if x.lpn = lpn then { x with waiting := none } else x) } }
      else d.cancelMigration lpn
  | .commit slot arr bseq =>
    match d.batchOf slot arr bseq with
    | some b => d.commitFlip b
    | none => d
  | .writeback _ | .engine => d

/-- Every countersign still awaited is given up: the changes complete without it (R33, R183, R481). -/
def Device.csAll (d : Device) : Device :=
  let ws := d.coh.csWait
  ws.foldl (fun (d : Device) c => d.csDone c none) { d with coh := { d.coh with csWait := [] } }

/-- Fetches from the twin that will not be answered: a hot-data line without another source becomes poison, the others are
tried again without the twin (R442, R445, R457). -/
def Device.fetchesLost (d : Device) : Device :=
  let fs := d.twin.fetches
  fs.foldl (fun (d : Device) f =>
    let info := leBytes 6 f.2.1
    if f.2.2 = 4 then
      (d.putT0 f.2.1 { data := 0, poison := true, dirty := true } (d.reg INTEG.SCRUB_CTL.CLASS)).raise INTEG.flag.T0_UNCORR 0 (0 :: info) (0 :: info)
    else if f.2.2 = 5 then d.raise INTEG.flag.T0_UNCORR 0 (2 :: info) (2 :: info)
    else d) { d with twin := { d.twin with fetches := [], serveFetch := [], heldFetch := [] } }

/-! ### Withdrawal (R480) -/

/-- Site links go to DISABLED with LCTL DISABLE, each with DOWN_CAUSE 11. -/
def Device.sitesOff (d : Device) : Device :=
  let mine := d.links.filter (fun e => decide (e.1 < 1024) && e.2.state != .disabled)
  let d := mine.foldl (fun (d : Device) e =>
    let d := if e.2.state = .active then d.sendLctl (.site e.1) 5 else d
    d.linkDisable (.site e.1)) d
  { d with twin := { d.twin with sitesCut := true } }

/-- The device withdraws, with a cause of LAST_CAUSE; host links are contained with cause FATAL for cause 1, otherwise WITHDRAW (R480).
What waits at this home is for the new home to serve; the Assayer's jobs are lost (R322). The containment comes first, as R480 has it, so an OPEN batch
of a window bound here ends with RESET, the row of its link, and not with TWIN_LOSS, the row of its home (DESIGN CHOICE, log entry 122). -/
def Device.withdraw (d : Device) (cause : Nat) : Device :=
  if !d.serving then d
  else
    let d := d.containAll (if cause = 1 then 4 else 5)
    let d := [3, 4].foldl (fun (d : Device) p => if d.twin.peerOk.contains p then d.peerSend p none .withdraw else d) d
    let d := d.sitesOff
    let d := { d with twin := { d.twin with hand := none, leads := false, covers := false, cut := [], gained := [], forwards := [],
                                            resyncRun := false, fetches := [], serveFetch := [], heldFetch := [] },
                      coh := { d.coh with queue := [], withheld := [], conflicts := [], snoops := [], csWait := [], recalling := [],
                                          recallFor := [], recallWait := [], noGrant := [], notices := [] },
                      regions := { d.regions with asks := [], exec := none, await := [], owing := false },
                      batch := { d.batch with home := [] },
                      eng := { d.eng with jobs := [], inbox := d.eng.inbox.filter (fun a => a.kind != 1 && a.kind != 5) } }
    let d := d.setReg TWIN.RESYNC_STAT.RUN 0
    (d.setReg TWIN.PAIR_STAT.LAST_CAUSE cause).setSvc .withdrawn

/-- A device without management and without a steward holds still (R500). -/
def Device.holdStill (d : Device) : Device :=
  if d.twin.mgmtLost ∧ d.twin.stewarded = false ∧ d.twin.held500 = false then
    let d := ((d.containAll 4).sitesOff).setReg FC.ERRL_CFG.FORCED 1
    { d with twin := { d.twin with held500 := true, resyncRun := false } }
  else d

/-! ### Losing the twin (R479, R481) -/

/-- The twin is lost: SOLO, home of every page of the position, after the notice-flush markers of every other device in
service; none is awaited after a complete handover (R481, R493 step 5). -/
def Device.twinLost (d : Device) : Device :=
  match d.twin.svc with
  | .paired | .handingOver =>
    let whole := d.twin.gainAll && decide (32 ≤ d.twin.gained.length)
    let arr := d.twinArr
    let others := d.twin.inService.filter (fun a => a != arr)
    let d := d.deviceGone arr
    let d := { d with twin := { d.twin with twinSvc := .withdrawn, leads := true, covers := true, cut := [], gained := [], gainAll := false,
                                            hand := none, streams := [], hbIn := false, steward := false },
                      coh := { d.coh with flushWait := if whole then [] else others.filter (fun a => !(d.coh.notices.contains a)), notices := [],
                                          noGrant := [] },
                      regions := { d.regions with leaving := d.regions.leaving.map (fun (e : Nat × Leaving) =>
                        (e.1, { e.2 with taking := false, emptied := false, streams := [] })) } }
    let d := (d.setReg TWIN.PAIR_STAT.STEWARD 0).setSvc .solo
    let d := (d.countSat TWIN.WITHDRAWALS.COUNT).evtRec TWIN.flag.TWIN_LOST 0 [arr] []
    let d := d.csAll.fetchesLost.capUpdate
    let d := if d.twin.stewarded then { d with twin := { d.twin with stewarded := false } }.holdStill else d
    d.recompute.proceed
  | _ => d

/-- Decide on the twin after a twin link went down or the heartbeat stopped (R479). -/
def Device.twinWatch (d : Device) : Device :=
  match d.twin.svc with
  | .paired | .handingOver =>
    if d.twinLinkUp then d
    else if !d.twin.hbIn then d.twinLost
    else if d.side = 1 then d.withdraw 4
    else d
  | _ => d

/-! ### Handover of home slices (R493, R494) -/

/-- Does an open batch homed here hold a line of the slice (R494 step 2)? -/
def Device.handBatches (d : Device) (h : Hand) : List HomeBatch :=
  d.batch.home.filter (fun b => b.shadow.any (fun e => d.handsLine h e.1))

/-- Must the cut wait: requests of the slice are queued, snooped for or await a countersign (R494 step 3)? -/
def Device.handBusy (d : Device) (h : Hand) : Bool :=
  d.coh.queue.any (fun r => (d.reqLines r).any (d.handsLine h)) || d.coh.snoops.any (fun s => d.handsLine h s.line)
    || d.coh.csWait.any (fun c => c.stream == (if h.slice < 16 then 0 else 1))
    || !(d.handBatches h).isEmpty

/-- All slices have passed: a returned lead is complete; a withdrawal goes on with the host copies (R493 step 3). -/
def Device.slicesDone (d : Device) (h : Hand) : Device :=
  if h.withdraw then
    let d := { d with twin := { d.twin with hand := some { h with step := 1 } }, coh := { d.coh with noGrant := d.coh.noGrant ++ [d.myArr] } }
    d.recallAll 32
  else { d with twin := { d.twin with hand := none, cut := [], covers := false } }.evt TWIN.flag.HANDOVER_DONE

/-- Hand over slices while nothing holds them back (`fuel` bounds them). -/
def Device.handSlices (d : Device) : Nat → Device
  | 0 => d
  | fuel + 1 =>
    match d.twin.hand with
    | none => d
    | some h =>
      if h.step ≠ 0 then d
      else if 32 ≤ h.slice then d.slicesDone h
      else if d.handBusy h then d
      else
        let d := { d with twin := { d.twin with cut := d.twin.cut ++ [h.slice], hand := some { h with slice := h.slice + 1 } } }
        let k := if h.slice < 16 then 0 else 1
        ((d.twinSend k (.handover d.twinArr d.myArr 0 (h.slice + if h.withdraw then 32 else 0))).1).handSlices fuel

/-- The host copies are back: site requests are accepted no more; OPEN batches of sites abort with RESET (R493 steps 3 and 4). -/
def Device.handCopies (d : Device) : Device :=
  match d.twin.hand with
  | some h =>
    if h.step = 1 ∧ d.recallBusy d.myArr 32 = false ∧ d.coh.recallWait.any (fun x => x.2 == 32) = false then
      let d := { d with twin := { d.twin with hand := some { h with step := 2 } } }
      d.batch.slots.foldl (fun (d : Device) e => if e.1 < 1024 then d.resetSlot e.1 else d) d
    else d
  | none => d

/-- Take a handover as far as it goes. -/
def Device.handStep (d : Device) : Device := (d.handSlices 34).handCopies

/-- Let waiting work proceed, handovers and table commands included. -/
def Device.proceedAll (d : Device) : Device := d.proceed.handStep.tableStep

/-- A planned handover starts only while both twins are PAIRED (R492). -/
def Device.withdrawCmd (d : Device) : Device :=
  if d.twin.svc = .paired ∧ d.twin.twinSvc = .paired ∧ d.twin.hand.isNone = true ∧ d.twin.gained.isEmpty = true then
    ({ d with twin := { d.twin with hand := some { withdraw := true }, cut := [] } }.setSvc .handingOver).handStep
  else d.raise TWIN.flag.HANDOVER_REFUSED 0 [] []

/-- Ask the twin to hand back the regions of this side (R491). -/
def Device.retake (d : Device) : Device :=
  if d.twin.svc = .paired ∧ d.twin.twinSvc = .paired ∧ d.twin.leads = false ∧ d.twin.gained.isEmpty = true then
    (d.twinSend 0 (.handover d.twinArr d.myArr 3 0)).1
  else d

/-- The twin asks for its regions back: this device hands them over. -/
def Device.giveBack (d : Device) : Device :=
  if d.twin.svc = .paired ∧ d.twin.covers = true ∧ d.twin.hand.isNone = true then
    ({ d with twin := { d.twin with hand := some { withdraw := false }, cut := [] } }).handStep
  else d

/-- Both twins were told to withdraw: side A's request proceeds, and this device, on side B, takes its own back as refused (R492). -/
def Device.yieldHand (d : Device) : Device :=
  if d.side = 1 ∧ d.twin.svc = .handingOver then
    let d := { d with twin := { d.twin with hand := none, cut := [] },
                      coh := { d.coh with noGrant := d.coh.noGrant.filter (fun a => a != d.myArr), recallWait := d.coh.recallWait.filter (fun x => x.2 != 32) } }
    ((d.setSvc .paired).raise TWIN.flag.HANDOVER_REFUSED 0 [] []).proceed
  else d

/-- A home slice passes to this device (R494 step 4). Where both twins were told to withdraw, side A's request proceeds and gains nothing (R492). -/
def Device.gainSlice (d : Device) (arg : Nat) : Device :=
  if 32 ≤ arg ∧ d.twin.svc = .handingOver ∧ d.side = 0 then d
  else
  let k := arg % 32; let all := decide (32 ≤ arg)
  let g := if d.twin.gained.contains k then d.twin.gained else d.twin.gained ++ [k]
  let d := { d with twin := { d.twin with gained := g, gainAll := all } }
  let d := if !all && decide (32 ≤ g.length) then
      { d with twin := { d.twin with gained := [], leads := true } }.evt TWIN.flag.HANDOVER_DONE
    else d
  d.proceed

/-- The site requests have drained: the device withdraws, cause COMMAND (R493 steps 4 to 6). -/
def Device.handDone (d : Device) : Device :=
  match d.twin.hand with
  | some h =>
    let busy := d.site.ports.any (fun e => !e.2.reqs.isEmpty)
    if h.step ≠ 2 ∨ busy = true then d
    else
      let d := (d.withdraw 2).evt TWIN.flag.HANDOVER_DONE
      { d with twin := { d.twin with resetAfter := !(d.flagReg TWIN.HANDOVER_CTL.HOLD) } }
  | none => d

/-- BATCH_WAIT_US has passed: batches that hold the slice back abort with TWIN_LOSS (R494 step 2). A commit goes on. -/
def Device.handBatchWait (d : Device) : Device :=
  match d.twin.hand with
  | some h =>
    if h.step = 0 then
      (((d.handBatches h).filter (fun b => !b.committing)).foldl (fun (d : Device) b => d.abortBatch b 6) d).proceedAll
    else d
  | none => d

/-! ### Resync (R484 to R491) -/

/-- A page is emptied of everything it holds: frame, record, slices (R486, R490). -/
def Device.wipePages (d : Device) : Device :=
  { d with tier := { d.tier with frames := [], used := [], orphan := [], heat := [], elCharge := 0, followFree := none, promotions := [], fetched := [], bakeAsk := [],
                                 migrations := [], recCache := [], sweeping := false, sweepDue := false, sweepSkip := [] },
           coh := { d.coh with dir := [], log := [], untracked := [], ownLog := [], stale := [], late := [] } }

/-- Erase the loaf records that the receiver placed. -/
def Device.wipeRecords (d : Device) : Device :=
  d.knownPages.foldl (fun (d : Device) lpn => d.writeRecord lpn 0) d

/-- A resync is interrupted (R490): the receiver frees every slice that it placed, drops the tables and returns to JOIN. -/
def Device.resyncStop (d : Device) : Device :=
  if !d.twin.resyncRun then d
  else
    let d := { d with twin := { d.twin with resyncRun := false, resyncPos := 0, resyncBytes := 0 } }
    let d := ((d.setReg TWIN.RESYNC_STAT.RUN 0).setReg TWIN.RESYNC_POS.LPN 0).setReg TWIN.RESYNC_GIB.GIB 0
    let d := (d.countSat TWIN.RESYNCS_RESTARTED.COUNT).evt TWIN.flag.RESYNC_RESTART
    if d.twin.svc = .resync then
      let d := d.wipeRecords.wipePages
      let d := { d with regions := {}, fail := {}, batch := { d.batch with outcomes := [] }, site := { d.site with atomics := [] } }
      (d.setSvc .join).joinStep
    else d.csAll.proceed

/-- A new poison key from the Mint (R439, R484): a free value. -/
def Device.newPoisonKey (d : Device) : Device :=
  let k := Config.freeNat d.fresh
  { d.nextFree with twin := { d.twin with poisonKey := some (k % 2 ^ 448) } }

/-- The tables of RS_TABLE (R484). -/
def Device.resyncTables (d : Device) : PeerMsg :=
  .rsTable d.regions.table d.fail.geos d.fail.duts
    (d.batch.outcomes.map (fun e => (e.1, e.2.bseq, e.2.outcome, e.2.cause))) d.site.atomics d.qos.table.gDeq d.qos.table.gT0
    (d.twin.poisonKey.getD 0)

/-- A resync starts (R484): at the receiver, in JOIN with its twin SOLO; at the source, in SOLO with its twin in JOIN or RESYNC. -/
def Device.resyncStart (d : Device) : Device :=
  if d.twin.resyncRun ∨ d.twinLinkUp = false then d
  else
    let begin_ (d : Device) (src : Bool) : Device :=
      let d := { d with twin := { d.twin with resyncRun := true, resyncSource := src, resyncPos := 0, resyncBytes := 0, resyncCur := [] } }
      let d := (d.setReg TWIN.RESYNC_STAT.RUN 1).setReg TWIN.RESYNC_STAT.SOURCE (if src then 1 else 0)
      (d.setReg TWIN.RESYNC_POS.LPN 0).setReg TWIN.RESYNC_GIB.GIB 0
    if d.twin.svc = .join ∧ d.twin.twinSvc = .solo then (begin_ d false).setSvc .resync
    else if d.twin.svc = .solo ∧ (d.twin.twinSvc = .join ∨ d.twin.twinSvc = .resync) then
      let d := (begin_ d true).newPoisonKey
      (d.twinSend 0 d.resyncTables).1
    else d

/-- Bytes of the current resync (R504, RESYNC_GIB). -/
def Device.resyncCount (d : Device) (n : Nat) : Device :=
  let b := d.twin.resyncBytes + n
  { d with twin := { d.twin with resyncBytes := b } }.setReg TWIN.RESYNC_GIB.GIB (b / 2 ^ 30)

/-- The stored stream of a loaf as RS_LOAF carries it: a PLAIN page with its poisoned lines, or a BAKED stream in which a quarter
that cannot be decoded is sent as mode 0xFE (R86, R485). -/
def Device.resyncStream (d : Device) (lpn cls : Nat) : Device × Layout × List Nat × Nat :=
  let d := d.touchRecord lpn cls
  let r := d.loaf lpn
  if r.plain then
    let (d, bs, p) := (List.range 64).foldl (fun (st : Device × List Nat × Nat) k =>
      let (d, bs, p) := st
      let (d, v, bad, dram) := d.readBurst (sliceAddr r.bin (r.slices.getD (k / 8) 0) + 64 * (k % 8)) cls
      let d := if dram then d.chargeDeq cls 64 else d
      (d, bs ++ lineBytes v, if bad then p + 2 ^ k else p)) (d, [], 0)
    (d, { state := 2, nslice := 8 }, bs, p)
  else if r.baked then
    let (d, qs) := (List.range 4).foldl (fun (st : Device × List (List Nat)) q =>
      let (d, qs) := st
      let (d, v, s, n, bad) := d.readQuarter r q cls
      (d.chargeDeq cls (64 * n), qs ++ [if !bad && v != .corrupt then s else [0xFE]])) (d, [])
    let l (i : Nat) : Nat := (qs.getD i []).length
    let e1 := l 0; let e2 := e1 + l 1; let e3 := e2 + l 2; let n := e3 + l 3
    (d, { state := 3, nslice := (n + 511) / 512, qend1 := e1, qend2 := e2, qend3 := e3 }, qs.flatten, 0)
  else (d, { state := r.state, nslice := 0 }, [], 0)

/-- Copy one loaf in one step (R485): its stream, its dirty lines, its directory entries and log lines. -/
def Device.resyncLoaf (d : Device) (lpn : Nat) : Device :=
  let cls := d.reg TWIN.RESYNC_CTL.CLASS
  let k := streamOf (64 * lpn)
  let (d, l, s, p) := d.resyncStream lpn cls
  let bytes := 64 + 512 * l.nslice
  let d := (((d.chargeTwin cls bytes).resyncCount bytes).twinSend k (.rsLoaf lpn l s p)).1
  let dirty : KMap T0Line := match d.frame lpn with | some f => f.lines.keep (fun _ t => t.dirty) | none => []
  let wcls := match d.frame lpn with | some f => f.cls | none => cls
  let d := dirty.foldl (fun (d : Device) e =>
    (((d.chargeTwin cls 128).resyncCount 128).twinSend k (.rsLine (64 * lpn + e.1) (d.wireData (64 * lpn + e.1) e.2.data e.2.poison) e.2.poison wcls)).1) d
  let ents := d.coh.dir.filter (fun e => lpnOf e.1 == lpn && !e.2.isFree)
  let d := ents.foldl (fun (d : Device) e => (d.twinSend k (.rsDir (.entry e.1 e.2.state e.2.ptrs e.2.lovf))).1) d
  let logs := d.coh.log.filter (fun x => lpnOf x == lpn)
  logs.foldl (fun (d : Device) x => (d.twinSend k (.rsDir (.log x))).1) d

/-- Both twins are PAIRED (R489, R491): the source leads every page; the receiver opens its links and takes back the regions of
its side where AUTO_RETAKE is 1. -/
def Device.enterPaired (d : Device) (source : Bool) : Device :=
  let d := { d with twin := { d.twin with resyncRun := false, leads := source, covers := source, twinSvc := .paired, hbIn := true,
                                          inService := if d.twin.inService.contains d.twinArr then d.twin.inService else d.twin.inService ++ [d.twinArr] },
                    coh := { d.coh with notices := [] } }
  let d := ((d.setReg TWIN.RESYNC_STAT.RUN 0).countSat TWIN.RESYNCS_DONE.COUNT).evt TWIN.flag.RESYNC_DONE
  let d := (d.setSvc .paired).evt TWIN.flag.PAIRED
  let d := if source then d else d.openLinks
  let d := if !source && d.flagReg TWIN.TWIN_CTL.AUTO_RETAKE then d.retake else d
  d.recompute.proceed

/-- The lines of a loaf that a host owns in E and that a resync has not yet asked for: each is read with BISnpCur, as for a site READ
(R140); a pointer that no snoop reaches goes. -/
def Device.resyncSnoop (d : Device) (lpn : Nat) : Device :=
  let mine (d : Device) : List Nat := ((d.coh.dir.filter (fun e => lpnOf e.1 == lpn && e.2.state == 2)).map Prod.fst).filter (fun l =>
    d.homesLine l && !(d.twin.resyncCur.contains l) && !d.linePend l)
  let d := (mine d).foldl (fun (d : Device) l => d.purgeLost l) d
  (mine d).foldl (fun (d : Device) l =>
    let d := (d.entry l).ptrs.foldl (fun (d : Device) t => d.sendSnoop l .cur t false .copy) d
    if d.linePend l then d else d.dropPtrs l (fun _ => true)) d

/-- Does a snoop of a resync for a loaf still await its answer? -/
def Device.resyncAwaits (d : Device) (lpn : Nat) : Bool := d.coh.snoops.any (fun s => s.use == .copy && lpnOf s.line == lpn)

/-- The next loaf of a resync: the first one from RESYNC_POS on that is not UNMAPPED (R485). -/
def Device.resyncNext (d : Device) : Option Nat :=
  (d.knownPages.filter (fun p => decide (d.twin.resyncPos ≤ p) && ((d.loaf p).state != 0 || (d.frame p).isSome))).foldl
    (fun (m : Option Nat) p => match m with | some x => some (min x p) | none => some p) none

/-- Does a channel that a loaf's slices or its record are on retrain? -/
def Device.resyncWaits (d : Device) (lpn : Nat) : Bool :=
  let r := d.loaf lpn
  r.slices.any (fun i => (d.chan (channelOf (sliceAddr r.bin i))).state == .retraining) || (d.chan (channelOf (d.recordAddr lpn))).state == .retraining

/-- One step of the source (R485, R489): the next loaf that is not UNMAPPED; after the last one, and once every mirror is
countersigned, RS_DONE. A burst on a channel that retrains is waited for, and so are the answers of
the hosts that own lines of the loaf. -/
def Device.resyncStep (d : Device) : Device :=
  if !(d.twin.resyncRun && d.twin.resyncSource && d.twin.svc == .solo) then d
  else
    match d.resyncNext with
    | some lpn =>
      if d.resyncWaits lpn then d
      else
        let d := d.resyncSnoop lpn
        if d.resyncAwaits lpn then d
        else
          let d := d.resyncLoaf lpn
          ({ d with twin := { d.twin with resyncPos := lpn + 1, resyncCur := [] } }).setReg TWIN.RESYNC_POS.LPN (lpn + 1)
    | none =>
      let d := ({ d with twin := { d.twin with resyncPos := d.nloaf } }).setReg TWIN.RESYNC_POS.LPN d.nloaf
      if d.coh.csWait.isEmpty then (((d.twinSend 0 .rsDone).1.twinSend 1 .rsDone).1).enterPaired true else d

end Sys2Proof.Machine
end

