-- ==== Sys2Proof/Machine/ResetOps.lean ====
section
/-! DEFINITION. What the reset kinds leave, the start of the Hub, device reset and cold start (Blade Power, Insertion and Reset;
R628 to R634). -/

namespace Sys2Proof.Machine

/-! ### What is kept (R11, R632, R633) -/

/-- Is the stored value of this key kept across a device reset: a field marked kept, or, without an AUX start, any field of the HSW
page? -/
def keptKey (aux : Bool) (k : Nat) : Bool :=
  let p := Page.ofCode (k / 2 ^ 27)
  let f := k % 2 ^ 17
  (p == .hsw && !aux) || p.fields.any (fun x => x.kept && x.off * 32 + x.lo == f)

/-- Retirements as they are stored, without those whose DIMM has changed (R457, R632). -/
def Device.keptRetirements (d : Device) : List (Nat × Nat × Nat) :=
  d.integ.retiredIds.filter (fun e =>
    let row := if e.1 = 2 then 2 ^ 17 * e.2.1 else e.2.1
    d.hw.dimmIds.getD (row / 2 ^ 25 % 2 + 2 * (row / 2 ^ 27)) 0 == e.2.2)

/-- The tiers after a reset: only retirements stay. -/
def tiersAfter (h : Hw) (ids : List (Nat × Nat × Nat)) : Tiers :=
  let rows := (ids.filter (fun e => e.1 != 2)).map (fun e => e.2.1)
  let banks := (ids.filter (fun e => e.1 == 2)).map (fun e => e.2.1)
  let loose := rows.filter (fun k => !(banks.contains (k / 2 ^ 17)))
  { retiredRows := rows, retiredBanks := banks,
    retiredSlices := loose.length * 2 ^ h.colBits + banks.length * 2 ^ (h.colBits + h.rowBits) }

/-- The hot-swap controller, calibration set, references and always-on time outlive a device reset; throttle steps, dividers,
plans and measured degradations do not (R598, R602, R605, R633). -/
def Power.afterReset (p : Power) : Power :=
  { auxOk := p.auxOk, mainOn := p.mainOn, hubReset := p.hubReset, aon := p.aon, hsw := p.hsw, sensors := p.sensors,
    refsLost := p.refsLost, cal := { words := p.cal.words, torn := p.cal.torn, used := p.cal.used, usedTorn := p.cal.usedTorn } }

/-- Keys, identity and firmware after a reset: a fresh key in slot 0 (none yet, where the Mint has stopped, R545), slot 1 zeroised, every debug scope closed, nonce and sessions
gone; the TAP is not reset (R547, R553, R570, R573, R674). -/
def Security.afterReset (x : Security) : Security :=
  { flash := x.flash, run := x.run, bootSlot := x.bootSlot, nextSlot := x.nextSlot, trial := x.trial, arbC := x.arbC,
    revoked := x.revoked, outOk := x.outOk, key0 := if x.outOk then x.keysMade + 1 else 0, key1 := 0,
    keysMade := if x.outOk then x.keysMade + 1 else x.keysMade,
    tapInstr := x.tapInstr, tapAddr := x.tapAddr, tapData := x.tapData, tapCtl := x.tapCtl }

/-- A channel after a reset trains; training is fast where a result is stored for its DIMMs (R425). -/
def chansAfter (l : KMap Channel) : KMap Channel := l.map (fun e => (e.1, { fast := e.2.fast }))

/-- The host links after a reset: contained, cause WITHDRAW (R464, R632). -/
def HostPorts.afterReset (x : HostPorts) : HostPorts := { perst := x.perst }

/-- The SEQ of the last record programmed. -/
def Ledger.headSeq (g : Ledger) : Nat := ((KMap.vals g.recs).filter (fun r => !r.torn)).foldl (fun n r => max n r.seq) 0

/-- The device with everything lost that a device reset or cold start loses; `aux` tells an AUX start (R632, R633). -/
def Device.wiped (d : Device) (aux : Bool) : Device :=
  let ids := d.keptRetirements
  { hw := d.hw, time := 1000 * (d.power.aon / 1000), upAt := d.power.aon, fresh := d.fresh,
    regs := d.regs.keep (fun k _ => keptKey aux k),
    hdr := if aux then [] else d.hdr.keep (fun k _ => k / 1024 == Page.hsw.code),
    fc := if aux then {} else { snapshot := d.fc.snapshot, snapshotAt := d.fc.snapshotAt },
    ldg := if aux then { d.ldg with coal := [], lastWords := [], volatileSeq := 0, queue := [], nextSeq := d.ldg.headSeq + 1 } else d.ldg,
    tier := tiersAfter d.hw ids, integ := { retiredIds := ids }, chans := chansAfter d.chans, host := d.host.afterReset,
    power := d.power.afterReset, sec := d.sec.afterReset, out := d.out }

/-! ### The Hub leaves reset (R41, R42, R403, R456, R562, R601) -/

/-- Record the retirements that were dropped: one ledger record each. -/
def Device.dropRecords (d : Device) (gone : List (Nat × Nat × Nat)) : Device :=
  gone.foldl (fun (d : Device) e =>
    d.record { seq := 0, time := 0, type := 0x0020, source := 101, cls := 0, pageId := Page.idWord .integ 0,
               detail := 4 :: e.1 :: leBytes 5 e.2.1 } (e.1 :: leBytes 5 e.2.1)) d

/-- The address space, the straps and the port configuration take force (R41, R42, R62). -/
def Device.applyConfig (d : Device) : Device :=
  let m := d.reg REGION.SPACE_PEND.MEMBERS_NEXT
  let d := { d with space := (d.reg REGION.SPACE_PEND.LOGICAL_TIB_NEXT, m), qid := d.hw.strapQid, side := d.hw.strapSide }
  let d := (List.range 4).foldl (fun (d : Device) p => d.applyPortCfg p) d
  if d.hw.strapQid < 2 ^ m then d
  else { d with power := { d.power with hold := true } }.eventRecord .region 0 0x83 [d.hw.strapQid, m] [d.hw.strapQid, m]

/-- The rate code of the channels: the slowest of the speed bin, the population limit and every MAX_RATE (R402). A larger code is a
lower rate. -/
def Device.trainRate (d : Device) : Nat :=
  (List.range 16).foldl (fun n c => max n (d.reg DDRCH.CH_CFG.MAX_RATE c)) (max d.hw.speedBin (if d.hw.dimms = 2 then 3 else 0))

/-- The DIMM population and the codecs are checked (R403, R456). -/
def Device.checkParts (d : Device) : Device :=
  let d := d.hw.popBad.foldl (fun (d : Device) e =>
    { d with power := { d.power with hold := true } }.raise DDRCH.flag.POP_FAULT e.1 [e.1, e.2.1, e.2.2] [e.1, e.2.1, e.2.2]) d
  d.hw.codecBad.foldl (fun (d : Device) c =>
    let d := d.raise INTEG.flag.CODEC_FAIL 0 [c] [c]
    if c < 16 then d.failChannel c else { d with power := { d.power with hold := true } }) d

/-- The SPD of every channel is read: its geometry and its data rate are known from then on, except where the population breaks a rule
(R402, R403, R432). -/
def Device.readSpd (d : Device) : Device :=
  (List.range 16).foldl (fun (d : Device) c =>
    if d.hw.popBad.any (fun e => e.1 == c) then d else d.setChan c { d.chan c with spdRead := true, rate := d.trainRate }) d

/-- The sections of the calibration set are checked and the set is in use from now on; a channel whose seed is torn runs full training (R601, R602). -/
def Device.checkCal (d : Device) : Device :=
  let n := d.power.cal.torn.length
  let d := { d with power := { d.power with cal := { d.power.cal with used := d.power.cal.words, usedTorn := d.power.cal.torn } } }
  let d := (List.range 16).foldl (fun (d : Device) c =>
    if d.power.cal.torn.contains (Config.seedSection c % 256) then d.setChan c { d.chan c with fast := false } else d) d
  let d := d.setReg CAL.CAL_STAT.TORN n
  if n = 0 then d else d.raise CAL.flag.CAL_TORN 0 (leBytes 2 n) []

/-- The identity records are checked at every boot (R555). -/
def Device.checkIdentity (d : Device) : Device :=
  if d.identityOk then d else d.secFault MINT.flag.OTP_FAULT 0x11 0 0 0

/-- From "the Hub leaves reset" to the start of training. -/
def Device.hubStart (d : Device) : Device :=
  (d.applyConfig.bootRom.bootEvents.checkIdentity.readSpd.checkParts).checkCal

/-! ### A COMMIT that a reset or power loss meets (R602, R634) -/

/-- The sections of the calibration set that a staging area changes, in ascending order. -/
def Calibration.changed (x : Calibration) : List Nat :=
  match x.staging with
  | some st => (List.range 256).filter (fun k =>
      (st.filter (fun e => decide (e.1 / 1024 = k))) != (x.words.filter (fun e => decide (e.1 / 1024 = k))))
  | none => []

/-- The first `n` changed sections take their staged words. -/
def Calibration.programmed (x : Calibration) (n : Nat) : Calibration :=
  let ks := x.changed.take n
  match x.staging with
  | some st =>
    let keep := x.words.filter (fun e => !(ks.contains (e.1 / 1024)))
    let new := st.filter (fun e => ks.contains (e.1 / 1024))
    { x with words := new.foldl (fun (m : KMap Nat) e => KMap.put m e.1 e.2) keep, torn := x.torn.filter (fun k => !(ks.contains k)) }
  | none => x

/-- A COMMIT is cut short: how many sections were programmed, and whether the next one is torn, the spec leaves open (log entry 19). -/
def Device.calBroken (d : Device) : Device :=
  let x := d.power.cal
  if x.run = .committing then
    let f := Config.freeNat d.fresh
    let l := x.changed
    let n := f / 2 % (l.length + 1)
    let y := x.programmed n
    let torn := if f % 2 = 1 then (l.drop n).take 1 else []
    let y : Calibration := { y with torn := y.torn ++ torn, staging := none, run := .idle }
    { d.nextFree with power := { d.power with cal := y } }
  else { d with power := { d.power with cal := { x with staging := none, run := .idle } } }

/-! ### Device reset and cold start (R628 to R630) -/

/-- The number of a service state. -/
def Svc.code : Svc → Nat
  | .start => 0 | .join => 1 | .resync => 2 | .solo => 3 | .paired => 4 | .handingOver => 5 | .withdrawn => 6

/-- A device reset with a cause of R630: an in-service device withdraws first, with cause COMMAND unless the reaction to a fault or
another rule has withdrawn it (R629; log entry 18). It does nothing while main power is off. -/
def Device.deviceReset (d : Device) (cause : Nat) : Device :=
  if !d.power.mainOn then d
  else
    let before := d.twin.svc.code
    let d := (d.withdraw 2).calBroken
    let d := if cause = 1 then d.setReg TWIN.PAIR_STAT.LAST_CAUSE 1 else d
    let gone := d.integ.retiredIds.filter (fun e => !(d.keptRetirements.contains e))
    let d := d.wiped false
    let d := (d.countSat RST.DEV_RESETS.COUNT).noteReset 1 cause [d.reg TWIN.PAIR_STAT.LAST_CAUSE, before]
    (d.dropRecords gone).hubStart

/-- A cold start: main power turns on, or the AUX start that AUX_GOOD began (R628). The cause and the previous power-off are those the
hot-swap controller holds (R630). Nothing starts while AUX is lost. -/
def Device.coldStart (d : Device) : Device :=
  let aux := d.power.hsw.auxStart
  if !d.power.auxOk then d else
  let d := d.calBroken
  let gone := d.integ.retiredIds.filter (fun e => !(d.keptRetirements.contains e))
  let cause := if aux then 0 else d.power.hsw.startCause
  let info := [d.power.hsw.prevOff, d.reg HSW.HSW_STAT.TRIP_COUNT, d.reg HSW.HSW_STAT.LAST_TRIP, 0] ++ leBytes 2 (d.power.hsw.vin / 10)
  let d := d.wiped aux
  let d := (d.countSat RST.COLD_STARTS.COUNT).noteReset 0 cause info
  let d := { d with power := { d.power with hsw := { d.power.hsw with prevOff := 0, startCause := 0, auxStart := false } } }
  ((d.dropRecords gone).hubStart).bootRecord

/-- Main power turns off: everything on the Hub is lost, and the device serves nothing until a cold start. -/
def Device.mainOff (d : Device) : Device :=
  let d := d.calBroken.wiped false
  { d with power := { d.power with mainOn := false }, sec := { d.sec with tapInstr := 0, tapAddr := 0, tapData := 0, tapCtl := 0 } }

/-- Is the Hub running: main power on and DEV_RST_L high? -/
def Device.hubUp (d : Device) : Bool := d.power.mainOn && !d.power.hubReset

/-! ### Start-up (R402, R416, R425, R465) -/

/-- Training of a channel ends at start-up; the third failure makes it FAILED. -/
def Device.trained (d : Device) (c : Nat) (ok : Bool) : Device :=
  let x := d.chan c
  if !(d.hubUp) || !(x.state == .training) || 16 ≤ c then d
  else if ok then
    let d := d.setReg DDRCH.CH_STAT.FAST_TRAIN (if x.fast then 1 else 0) c
    let d := if x.fast then d else d.evt DDRCH.flag.FULL_TRAIN c
    let known := !(d.hw.popBad.any (fun e => e.1 == c))
    d.setChan c { x with state := .active, attempts := 0, rate := if x.spdRead then x.rate else d.trainRate, fast := true, spdRead := known }
  else if x.attempts < 2 then d.setChan c { x with attempts := x.attempts + 1 }
  else d.failChannel c

/-- May start-up end with a channel as it is: in service, or FAILED because its codec failed, which holds nothing up (R456; log entry 130)? -/
def Device.startsWith (d : Device) (c : Nat) : Bool := (d.chan c).inService || ((d.chan c).state == .failed && d.hw.codecBad.contains c)

/-- Start-up ends: every channel is ACTIVE, the loaf-record table holds UNMAPPED and the private area zeros, and the device enters
JOIN (R416, R465). It stays in START where R42, R403, R425, R456, R545 or R563 holds it. -/
def Device.startEnd (d : Device) : Device :=
  if !(d.hubUp) || d.twin.svc != .start || d.power.hold || d.sec.run.isNone || !((List.range 16).all d.startsWith) then d
  else if !d.mintOk then { d with power := { d.power with hold := true } }.secEvent 105 0x10 0 0 0
  else ((d.newPoisonKey.setSvc .join).recompute).joinStep

end Sys2Proof.Machine
end

