-- ==== Sys2Proof/Machine/HswOps.lean ====
section
/-! DEFINITION. The switched supply: turning the FET on and off, trips, retries and lockout (Blade Power, Insertion and Reset, R607 to
R626). -/

namespace Sys2Proof.Machine

/-- Change the hot-swap controller. -/
def Device.setHsw (d : Device) (h : HotSwap) : Device := { d with power := { d.power with hsw := h } }

/-- What HSW_STAT.STATE shows while the gate is off. -/
def HotSwap.idle (h : HotSwap) : HswState :=
  if h.locked then .lockout
  else if h.offHold then .offHold
  else if !h.prsnt then .off
  else if !h.recognised then .debounce
  else if h.retryAt.isSome then .retryWait
  else .off

/-- Does the loop hold the current at ILIM (R609)? The current is in units of 10 mA, ILIM in units of 0.25 A. -/
def Device.inLimit (d : Device) : Bool := d.power.hsw.gate && decide (25 * d.reg HSW.HSW_CFG.ILIM ≤ d.power.hsw.iout)

/-- Is the output within its window (R613)? -/
def Device.outputOk (d : Device) : Bool :=
  decide (100 * d.reg HSW.HSW_WIN.UV_V ≤ d.power.hsw.vout) && decide (d.power.hsw.vout ≤ 100 * d.reg HSW.HSW_WIN.OV_V)

/-- New measurements of the output current and voltage. -/
def Device.measured2 (d : Device) (iout vout : Nat) : Device := d.setHsw { d.power.hsw with iout := iout, vout := vout }

/-- The retry delay in ns: 2 s, or 60 s after a thermal trip (R618). -/
def Device.retryDelay (d : Device) : Nat := if d.reg HSW.HSW_STAT.LAST_TRIP = 8 then 60 * 10 ^ 9 else 2 * 10 ^ 9

/-- May the FET turn on (R608)? -/
def Device.mayTurnOn (d : Device) : Bool :=
  let h := d.power.hsw
  d.power.auxOk && h.prsnt && h.recognised && h.retryAt.isNone && !h.locked && !h.offHold && !h.gate
    && decide (4000 ≤ h.vin) && decide (h.vin ≤ 6000)

/-- Turn the FET on if R608 allows it, for the start cause the controller holds. A retry is told (R618). -/
def Device.turnOn (d : Device) : Device :=
  if d.mayTurnOn then
    let h := d.power.hsw
    let d := d.setHsw { h with gate := true, gateOff := false, state := .ramp, tModel := 1000000 * h.tMeas }
    if h.startCause = 1 then (d.evt HSW.flag.RETRY).powerRecord [0x02] [] else d
  else d.setHsw { d.power.hsw with state := if d.power.hsw.gate then d.power.hsw.state else d.power.hsw.idle }

/-- Turn HSW_GATE off; BLADE_PG falls and the rails with it. `why` is the previous power-off of R630. -/
def Device.gateDown (d : Device) (why : Nat) : Device :=
  let h := d.power.hsw
  if !h.gate then d.setHsw { h with gateOff := false, state := h.idle }
  else
    let d := if h.state = .pg then d.evt HSW.flag.PG_OFF else d
    let d := d.mainOff
    let h := { d.power.hsw with gate := false, gateOff := false, prevOff := why, iout := 0, vout := 0 }
    d.setHsw { h with state := h.idle }

/-- The supply trips (R615, R618): withdrawal while the rails still hold, the gate off, the trip counted and recorded, then the retry wait
or LOCKOUT. -/
def Device.trip (d : Device) (cause : Nat) : Device :=
  if !d.power.hsw.gate then d
  else
    let amps := d.power.hsw.iout / 10; let volts := d.power.hsw.vout / 10
    let d := (d.withdraw 3).gateDown 1
    let n := min (d.reg HSW.HSW_STAT.TRIP_COUNT + 1) 4
    let d := (d.setReg HSW.HSW_STAT.TRIP_COUNT n).setReg HSW.HSW_STAT.LAST_TRIP cause
    let d := (d.countSat HSW.TRIPS.COUNT).evt HSW.flag.TRIPPED
    let d := d.powerRecord ([0x01, cause] ++ leBytes 2 amps ++ leBytes 2 volts) [cause]
    let h := d.power.hsw
    let d := if n < 4 then d.setHsw { h with retryAt := some (d.power.aon + d.retryDelay) }
      else ((d.setHsw { h with locked := true, retryAt := none }).evt HSW.flag.LOCKOUT).powerRecord [0x03] []
    d.setHsw { d.power.hsw with state := d.power.hsw.idle }

/-- One always-on cycle of the FET model, in millionths of a degree: i_out × (v_in − v_out) × RTH is 10 mA × 10 mV × 0.01 °C/W (R612). The step is
rounded down (DESIGN CHOICE, log entry 138). A modelled 150 °C or more trips the supply at once. -/
def Device.fetCycle (d : Device) : Device :=
  let h := d.power.hsw
  let heat : Int := (h.iout : Int) * ((h.vin : Int) - h.vout) * d.reg HSW.FET_MODEL.RTH
  let t := h.tModel + (1000000 * h.tMeas + heat - h.tModel) / (1000 * d.reg HSW.FET_MODEL.TAU_MS)
  let d := d.setHsw { h with tModel := t }
  if 150000000 ≤ t then d.trip 4 else d

/-- HSW_TSNS reads outside its range, and 125 °C stands for it (R612). -/
def Device.tsnsFails (d : Device) : Device := (d.setHsw { d.power.hsw with tMeas := 125 }).raise HSW.flag.TSNS_FAULT 0 [] []

/-- The device withdraws for its blade and the gate turns off 100 µs later (R623, R624). -/
def Device.bladeGoes (d : Device) : Device :=
  let d := d.withdraw 3
  let h := d.power.hsw
  d.setHsw { h with gateOff := h.gate, gateOffFrom := d.power.aon, state := if h.gate then h.state else h.idle }

end Sys2Proof.Machine
end

