-- ==== Sys2Proof/Machine/FaultCmds.lean ====
section
/-! DEFINITION. Management pairs, escalation, the fatal reaction, the ledger writer and the ledger's readers (Faults and the Ledger). -/

namespace Sys2Proof.Machine

/-! ### Management pairs (R498 to R500, R522) -/

/-- Is the twin able to be steward: in RESYNC, PAIRED or HANDING_OVER, its own management working, and reachable (R499)? -/
def Device.stewardAble (d : Device) : Bool :=
  d.twinLinkUp && (d.twin.twinSvc == .resync || d.twin.twinSvc == .paired || d.twin.twinSvc == .handingOver) && !d.twin.steward

/-- Management is lost: the twin becomes the steward, or the device holds still (R498, R499, R500). A steward whose own management is
lost is steward no more. -/
def Device.mgmtGone (d : Device) (pair : Nat) : Device :=
  let able := d.stewardAble
  let d := { d with twin := { d.twin with mgmtLost := true, steward := false } }.setReg TWIN.PAIR_STAT.STEWARD 0
  let d := ((d.raise TWIN.flag.MGMT_LOST 0 [] [] false).mgmtRecord 1 pair).tellState []
  if able then (({ d with twin := { d.twin with stewarded := true } }.evt TWIN.flag.STEWARD_START).mgmtRecord 2 pair)
  else
    let d := d.holdStill
    if d.twin.resyncRun then d.resyncStop else d

/-- A lockstep pair stops (R522): its flag, a MGMT record, and the standby pair takes over; when both have stopped R498 applies. -/
def Device.pairStops (d : Device) (pair : Nat) : Device :=
  let runs := if pair = 0 then d.mgmt.run0 else d.mgmt.run1
  if 2 ≤ pair ∨ runs = false ∨ d.hubUp = false then d
  else
    let m : MgmtPairs := if pair = 0 then { d.mgmt with run0 := false } else { d.mgmt with run1 := false }
    let m := if m.active = pair && (m.run0 || m.run1) then { m with active := 1 - pair } else m
    let d := { d with mgmt := m }
    let d := (d.raise (if pair = 0 then MGMT.flag.PAIR0_STOP else MGMT.flag.PAIR1_STOP) 0 [] []).mgmtRecord 0 pair
    if m.run0 || m.run1 then d else d.mgmtGone pair

/-- LOCKSTEP_MISMATCH. -/
def execLockstepMismatch (pair : Nat) (s : State) : Host.Outcome State Fault Refusal := s.run (fun d => d.pairStops pair)

/-- MGMT_WATCHDOG_EXPIRY. -/
def execMgmtWatchdogExpiry (pair : Nat) (s : State) : Host.Outcome State Fault Refusal := s.run (fun d => d.pairStops pair)

/-! ### Escalation and the fatal reaction (R510 to R516) -/

/-- FC_SUMMARY as 16 bytes. -/
def Device.summaryBytes (d : Device) : List Nat := leBytes 16 d.fc.summary.toNat

/-- A timer reaches its end, ESC_MS of the always-on clock after its start: if the source has a UC fault, the fault becomes FT (R510 to R513). -/
def Device.escalate (d : Device) (s : Nat) : Device :=
  match KMap.find d.fc.timers s with
  | some (.running since flag) =>
    if d.sourceHas s .uc ∧ since + 1000000 * d.reg FC.FC_CTL.ESC_MS ≤ d.power.aon then
      let d := { d with fc := { d.fc with timers := KMap.put d.fc.timers s .expired, escalated := d.fc.escalated ++ [s] } }
      let d := d.countSat FC.ESCALATIONS.COUNT
      let d := d.record { seq := 0, time := 0, type := 0x0011, source := s, cls := 3, escalated := true,
                          detail := d.summaryBytes ++ [flag] } []
      d.raiseFatal s true
    else d
  | _ => d

/-- ESCALATION_EXPIRY. -/
def execEscalationExpiry (source : Nat) (s : State) : Host.Outcome State Fault Refusal := s.run (fun d => d.escalate source)

/-- Step 3 of R514: one FATAL record for each FT fault (R516). -/
def Device.fatalRecords (d : Device) (held : Bool) : Device :=
  let fs := d.fc.ftPending
  fs.foldl (fun (d : Device) f =>
    d.record { seq := 0, time := 0, type := 0x0012, source := f.1, cls := 3, escalated := f.2,
               detail := d.summaryBytes ++ [if f.2 then 1 else 0, if held then 1 else 0] } [])
    { d with fc := { d.fc with ftPending := [] } }

/-- The fatal reaction to the FT faults latched so far: containment, withdrawal, the records, then the reset, or R500 where management is
lost without a steward (R514, R515). After a THERM_TRIP main power turns off instead (R594). -/
def Device.fatalReaction (d : Device) : Device :=
  if d.fc.ftPending.isEmpty ∨ d.hubUp = false then d
  else
    let held := d.twin.mgmtLost && !d.twin.stewarded
    let hot := (d.page .pwr).err.getLsbD PWR.flag.THERM_TRIP.bit
    let d := ((d.containAll 4).withdraw 1).fatalRecords held
    if hot then d.trip 8
    else if held then
      let d := if d.twin.held500 then d else d.holdStill
      d.setReg FC.ERRL_CFG.FORCED 1
    else d.deviceReset 1

/-- FATAL_REACTION. -/
def execFatalReaction (s : State) : Host.Outcome State Fault Refusal := s.run Device.fatalReaction

/-- FC_PARITY: the collector rebuilds FC_SUMMARY from the error lines (R509). -/
def execFcParity (s : State) : Host.Outcome State Fault Refusal := s.run (fun d => d.raise FC.flag.FC_PARITY 0 [] [])

/-- A block raises a flag on its error line (R507); a security fault writes its SECURITY record too, its INFO being master, reason, and address or
value (R569). -/
def Device.errorLine (d : Device) (p : Page) (i bit : Nat) (info : List Nat) : Device :=
  match p.errFlags.find? (fun f => f.bit == bit) with
  | some f =>
    if Page.count d.hw.gradeH p ≤ i then d
    else if (p = .mint ∨ p = .secalm) ∧ f.cls ≠ .none then d.secFault f (secCode f) (info.headD 0) (info.getD 1 0) (ofLe (info.drop 2))
    else d.raise f i info info
  | none => d

/-- ERROR_LINE_CHANGE. -/
def execErrorLineChange (p : Page) (i bit : Nat) (info : List Nat) (s : State) : Host.Outcome State Fault Refusal :=
  s.run (fun d => d.errorLine p i bit info)

/-- A Tier-0 die stops responding (R543). -/
def Device.t0DieFails (d : Device) (t : Nat) : Device :=
  if 4 ≤ t ∨ d.tier.diesOut.contains t = true then d
  else { d with tier := { d.tier with diesOut := d.tier.diesOut ++ [t] } }.raise
    ([FC.flag.T0_DIE_FAIL_0, FC.flag.T0_DIE_FAIL_1, FC.flag.T0_DIE_FAIL_2].getD t FC.flag.T0_DIE_FAIL_3) 0 [t] [t]

/-- T0_DIE_FAIL. -/
def execT0DieFail (die : Nat) (s : State) : Host.Outcome State Fault Refusal := s.run (fun d => d.t0DieFails die)

/-! ### The writer (R523 to R536) -/

/-- COALESCE_EXPIRY: entry `n`, oldest first, closes COALESCE_MS after its first record (R530). -/
def Device.coalesceExpires (d : Device) (n : Nat) : Device :=
  match d.ldg.coal[n]? with
  | some e =>
    if e.opened + 1000000 * d.reg LEDGER.LDG_CTL.COALESCE_MS ≤ d.power.aon then
      { d with ldg := { d.ldg with coal := d.ldg.coal.eraseIdx n } }.closeCoalesce e
    else d
  | none => d

/-- COALESCE_EXPIRY. -/
def execCoalesceExpiry (n : Nat) (s : State) : Host.Outcome State Fault Refusal := s.run (fun d => d.coalesceExpires n)

/-- The sector at a place of the ring: the first 1,152 sectors at manufacture. -/
def Ledger.sectorAt (g : Ledger) (pos : Nat) : Nat := KMap.get g.ring pos pos

/-- The next place of the ring that holds a healthy sector, from a place on. -/
def Ledger.nextPos (g : Ledger) (pos : Nat) : Nat :=
  let order := (List.range 1152).map (fun k => (pos + k) % 1152)
  (order.find? (fun p => !(g.gone.contains p))).getD pos

/-- A LEDGER record: event, sector, its program count (R528). -/
def Device.ledgerRecord (d : Device) (ev sector : Nat) : Device :=
  d.record { seq := 0, time := 0, type := 0x0060, source := 108, cls := 0, pageId := Page.idWord .ledger 0,
             detail := ev :: (leBytes 2 sector ++ leBytes 5 (KMap.get d.ldg.counts 0 sector)) } []

/-- No healthy sector remains: WORN for the life of the device; what is queued goes to the last-words ring (R533). -/
def Device.ledgerWorn (d : Device) : Device :=
  let q := d.ldg.queue
  let d := (d.setReg LEDGER.LDG_STAT.WORN 1).evt LEDGER.flag.WORN
  { d with ldg := q.foldl (fun (g : Ledger) r => g.pushLast { r with volatileRec := true }) { d.ldg with queue := [] } }

/-- The ledger is sealed: what is still queued goes to the last-words ring, with the last SEQ (R535). -/
def Device.seals (d : Device) : Device :=
  let q := d.ldg.queue
  let d := (d.setReg LEDGER.LDG_STAT.SEALED 1).evt LEDGER.flag.SEALED
  { d with ldg := q.foldl (fun (g : Ledger) r => g.pushLast { r with seq := 2 ^ 64 - 1, volatileRec := true }) { d.ldg with queue := [] } }

/-- The sector at a place retires: a spare takes its place, or the ring shrinks (R532). -/
def Device.retireSector (d : Device) (pos : Nat) : Device :=
  let g := d.ldg
  let sec := g.sectorAt pos
  let d := { d with ldg := { g with retired := g.retired ++ [sec] } }
  let d := (d.countSat LEDGER.SECTORS_RETIRED.COUNT).evt LEDGER.flag.SECTOR_RETIRED
  if g.sparesUsed < 384 then
    let d := { d with ldg := { d.ldg with ring := KMap.put d.ldg.ring pos (1152 + g.sparesUsed), sparesUsed := g.sparesUsed + 1 } }
    let d := (d.setReg LEDGER.LDG_STAT.SPARES_LEFT (383 - g.sparesUsed)).ledgerRecord 0 sec
    if g.sparesUsed = 383 then (d.evt LEDGER.flag.SPARES_EXHAUSTED).ledgerRecord 1 sec else d
  else
    let gone := d.ldg.gone ++ [pos]
    let d := { d with ldg := { d.ldg with gone := gone } }
    let d := (d.setReg LEDGER.LDG_STAT.ACTIVE (1152 - gone.length)).ledgerRecord 0 sec
    if gone.length < 1152 then
      let p := d.ldg.nextPos (pos + 1)
      { d with ldg := { d.ldg with pos := p, slot := 0 } }
    else d.ledgerWorn

/-- The writer moves to the next slot, and after 64 records to the next healthy sector (R523). -/
def Ledger.advance (g : Ledger) : Ledger :=
  if g.slot < 63 then { g with slot := g.slot + 1 } else { g with slot := 0, pos := g.nextPos (g.pos + 1) }

/-- The writer programs and verifies the record at the front of its queue (R524, R525). A record whose verify fails stays in front, for the
sector that takes the place. A record with the last SEQ seals the ledger (R535). -/
def Device.programmed (d : Device) (ok : Bool) : Device :=
  match d.ldg.queue with
  | [] => d
  | r :: rest =>
    let g := d.ldg
    let pos := g.pos
    let sec := g.sectorAt pos
    let n := KMap.get g.counts 0 sec + 1
    let d := { d with ldg := { g with counts := KMap.put g.counts sec n } }
    if ok then
      let g := { d.ldg with queue := rest, recs := KMap.put d.ldg.recs (64 * pos + g.slot) r }
      let d := { d with ldg := (g.pushLast r).advance }
      let d := if r.seq = 2 ^ 64 - 1 then d.seals.ledgerRecord 2 sec else d
      if 10 ^ 9 ≤ n then d.retireSector pos else d
    else d.retireSector pos

/-- LEDGER_PROGRAM_DONE: `ok` is the outcome of the verify. -/
def execLedgerProgramDone (ok : Bool) (s : State) : Host.Outcome State Fault Refusal := s.run (fun d => d.programmed ok)

/-! ### Reading the ledger (R537 to R539) -/

/-- The record with a SEQ: 0 OK, 1 NOT_PRESENT, 2 TORN (R529, R539). -/
def Ledger.readSeq (g : Ledger) (seq : Nat) : Nat × Option Record :=
  match (KMap.vals g.recs).find? (fun r => r.seq == seq && !r.torn) with
  | some r => (0, some r)
  | none => if (KMap.vals g.recs).any (fun r => r.seq == seq) then (2, none) else (1, none)

/-- The SEQ of the oldest record held; 0 where none is. -/
def Ledger.oldestSeq (g : Ledger) : Nat :=
  match (KMap.vals g.recs).filter (fun r => !r.torn) with
  | [] => 0
  | r :: rs => rs.foldl (fun n x => min n x.seq) r.seq

/-- A record of the last-words ring, 0 the newest. -/
def Ledger.readLast (g : Ledger) (i : Nat) : Nat × Option Record :=
  match g.lastWords[i]? with
  | some r => (0, some r)
  | none => (1, none)

/-- The words RD_DATA0 to RD_DATA15. -/
def rdData : List Field :=
  [LEDGER.RD_DATA0.DATA, LEDGER.RD_DATA1.DATA, LEDGER.RD_DATA2.DATA, LEDGER.RD_DATA3.DATA, LEDGER.RD_DATA4.DATA, LEDGER.RD_DATA5.DATA,
   LEDGER.RD_DATA6.DATA, LEDGER.RD_DATA7.DATA, LEDGER.RD_DATA8.DATA, LEDGER.RD_DATA9.DATA, LEDGER.RD_DATA10.DATA, LEDGER.RD_DATA11.DATA,
   LEDGER.RD_DATA12.DATA, LEDGER.RD_DATA13.DATA, LEDGER.RD_DATA14.DATA, LEDGER.RD_DATA15.DATA]

/-- A write of RD_CMD with START 1 (R538): the record appears in RD_DATA and START reads 0 again. -/
def Device.rdStart (d : Device) (last : Bool) (index : Nat) : Device :=
  let d := (d.setReg LEDGER.RD_CMD.LAST_WORDS (if last then 1 else 0)).setReg LEDGER.RD_CMD.INDEX index
  let (st, r) := if last then d.ldg.readLast (index % 64) else d.ldg.readSeq (d.regPair LEDGER.RD_SEQ_LO.SEQ LEDGER.RD_SEQ_HI.SEQ)
  let d := d.setReg LEDGER.RD_CMD.RESULT st
  match r with
  | some r => (rdData.zip (chunk 4 16 r.bytes)).foldl (fun (d : Device) e => d.setReg e.1 (ofLe e.2)) d
  | none => d

/-- RD_CMD_START. -/
def execRdCmdStart (last : Bool) (index : Nat) (s : State) : Host.Outcome State Fault Refusal := s.run (fun d => d.rdStart last index)

/-- The words NOTE_DATA0 to NOTE_DATA8, which are bytes 24 to 59 of the note. -/
def noteData : List Field :=
  [LEDGER.NOTE_DATA0.DATA, LEDGER.NOTE_DATA1.DATA, LEDGER.NOTE_DATA2.DATA, LEDGER.NOTE_DATA3.DATA, LEDGER.NOTE_DATA4.DATA,
   LEDGER.NOTE_DATA5.DATA, LEDGER.NOTE_DATA6.DATA, LEDGER.NOTE_DATA7.DATA, LEDGER.NOTE_DATA8.DATA]

/-- A write of NOTE_CMD.APPEND: a NOTE record, at most 100 in one second of the always-on clock (R538). -/
def Device.noteAppend (d : Device) : Device :=
  let sec := d.power.aon / 10 ^ 9
  let g := if d.ldg.noteSecond = sec then d.ldg else { d.ldg with noteSecond := sec, notes := 0 }
  if 100 ≤ g.notes then { d with ldg := g }.countSat LEDGER.NOTES_DROPPED.COUNT
  else
    let d := { d with ldg := { g with notes := g.notes + 1 } }
    let det := noteData.flatMap (fun f => leBytes 4 (d.reg f))
    d.record { seq := 0, time := 0, type := 0x00F0, source := 0xFF, cls := 0, pageId := 0, detail := det } det

/-- NOTE_CMD_APPEND. -/
def execNoteCmdAppend (s : State) : Host.Outcome State Fault Refusal := s.run Device.noteAppend

/-- FT_STAT_ACK: only this clears PEND (R518). -/
def execFtStatAck (s : State) : Host.Outcome State Fault Refusal := s.run (fun d => d.setReg FC.FT_STAT.PEND 0)

/-- A write of FC_TEST with RAISE 1 (R541, R543). A locked page refuses it (R540). A flag raised with another class is a new fault. -/
def Device.fcTest (d : Device) (cls : Nat) : Device :=
  d.rwl .fc 0 true (fun d =>
    let d := d.store FC.FC_TEST.CLASS cls
    let c := FaultClass.ofCode (d.reg FC.FC_TEST.CLASS)
    let d := if d.fc.testCls = c then d else d.dropErr FC.flag.TEST
    { d with fc := { d.fc with testCls := c } }.raise FC.flag.TEST 0 [] [])

/-- FC_TEST_RAISE. -/
def execFcTestRaise (cls : Nat) (s : State) : Host.Outcome State Fault Refusal := s.run (fun d => d.fcTest cls)

/-! ### The management endpoint's ledger commands (R539): they need AUX only -/

/-- Answer an endpoint command. -/
def Device.answerEp (d : Device) (code status : Nat) (data : List Nat) : Device :=
  if d.power.auxOk then d.send (.endpoint code status data) else d

/-- LDG_STAT as a word. -/
def Device.ldgStat (d : Device) : Nat :=
  d.reg LEDGER.LDG_STAT.WORN + 2 * d.reg LEDGER.LDG_STAT.SEALED + 16 * d.reg LEDGER.LDG_STAT.SPARES_LEFT
    + 65536 * d.reg LEDGER.LDG_STAT.ACTIVE

/-- FT_STAT as a word. -/
def Device.ftStat (d : Device) : Nat :=
  d.reg FC.FT_STAT.PEND + 4 * d.reg FC.FT_STAT.ESCALATED + 256 * d.reg FC.FT_STAT.SOURCE

/-- LDG_INFO. -/
def execLdgInfo (s : State) : Host.Outcome State Fault Refusal :=
  s.run (fun d => d.answerEp 0x20 0 (leBytes 8 d.ldg.headSeq ++ leBytes 8 d.ldg.oldestSeq ++ leBytes 4 d.ldgStat ++ leBytes 4 d.ftStat
    ++ leBytes 4 (d.reg LEDGER.RECORDS_LOST.COUNT)))

/-- LDG_READ: up to 4 records over I3C, 3 over SMBus. The status is the worst of the records', and the records that are present follow. -/
def Device.ldgRead (d : Device) (smbus : Bool) (seq n : Nat) : Device :=
  if n = 0 ∨ (if smbus then 3 else 4) < n then d.answerEp 0x21 3 []
  else
    let rs := (List.range n).map (fun i => d.ldg.readSeq (seq + i))
    let st := if rs.any (fun r => r.1 == 2) then 2 else if rs.any (fun r => r.1 == 1) then 1 else 0
    d.answerEp 0x21 st (rs.flatMap (fun r => match r.2 with | some x => x.bytes | none => []))

/-- LDG_READ. -/
def execLdgRead (smbus : Bool) (seq n : Nat) (s : State) : Host.Outcome State Fault Refusal := s.run (fun d => d.ldgRead smbus seq n)

/-- LDG_LAST_WORDS. -/
def Device.ldgLast (d : Device) (i : Nat) : Device :=
  if 64 ≤ i then d.answerEp 0x22 3 []
  else
    let (st, r) := d.ldg.readLast i
    d.answerEp 0x22 st (match r with | some x => x.bytes | none => [])

/-- LDG_LAST_WORDS. -/
def execLdgLastWords (index : Nat) (s : State) : Host.Outcome State Fault Refusal := s.run (fun d => d.ldgLast index)

/-- FC_SNAPSHOT: the Strongbox copy of FC_SUMMARY, its age, and whether it is stale. -/
def Device.fcSnapshot (d : Device) : Device :=
  let stale := !d.strongboxSees
  d.answerEp 0x23 0 (leBytes 16 d.fc.snapshot.toNat ++ leBytes 4 (min ((d.power.aon - d.fc.snapshotAt) / 1000) (2 ^ 32 - 1))
    ++ [if stale then 1 else 0])

/-- FC_SNAPSHOT. -/
def execFcSnapshot (s : State) : Host.Outcome State Fault Refusal := s.run Device.fcSnapshot

/-- The state of a sector: 0 active, 1 spare, 2 retired. -/
def Ledger.sectorState (g : Ledger) (sec : Nat) : Nat :=
  if g.retired.contains sec then 2 else if sec < 1152 + g.sparesUsed then 0 else 1

/-- SECTOR_MAP: 32 sectors from FIRST; a map that passes the last sector is BAD_ARG. -/
def Device.sectorMap (d : Device) (first : Nat) : Device :=
  if 1536 < first + 32 then d.answerEp 0x24 3 []
  else d.answerEp 0x24 0 ((List.range 32).flatMap (fun i =>
    leBytes 8 (KMap.get d.ldg.counts 0 (first + i) % 2 ^ 40 + 2 ^ 40 * d.ldg.sectorState (first + i))))

/-- SECTOR_MAP. -/
def execSectorMap (first : Nat) (s : State) : Host.Outcome State Fault Refusal := s.run (fun d => d.sectorMap first)

end Sys2Proof.Machine
end

