-- ==== Sys2Proof/Machine/Mailbox.lean ====
section
/-! DEFINITION. The primary mailbox, DOE and SPDM (Host Ports, R373 to R375; Keys, Identity and Firmware, R564, R575 to
R577). -/

namespace Sys2Proof.Machine

/-! ### Mailbox commands (R373) -/

/-- Is a link one with management enabled (R365)? -/
def Device.mgmtLink (d : Device) (p l : Nat) : Bool :=
  if l = 0 then d.flagReg HOST.PORT_CFG.MGMT_EN_L0 p else d.flagReg HOST.PORT_CFG.MGMT_EN_L1 p

/-- Answer a mailbox command on a link that is up, while the device's firmware runs (R498). -/
def Device.mailbox (d : Device) (p l : Nat) (f : Device → Device × MboxCode × List Nat) : Device :=
  if (d.hostLink p l).up && d.fwAlive then
    let (d, c, data) := f d
    d.send (.mailbox p l c data)
  else d

/-- The same for a command of the management links: Unsupported on any other. -/
def Device.mgmtMailbox (d : Device) (p l : Nat) (f : Device → Device × MboxCode × List Nat) : Device :=
  d.mailbox p l (fun d => if d.mgmtLink p l then f d else (d, .unsupported, []))

/-- The capacity that a link shows: 16 × W. -/
def Device.linkCapacity (d : Device) (p l : Nat) : Nat := 16 * 2 ^ (d.hostLink p l).winLog2

/-- IDENTIFY_MEMORY_DEVICE: total, volatile and persistent capacity, poison list size. -/
def execIdentifyMemoryDevice (p l : Nat) (s : State) : Host.Outcome State Fault Refusal :=
  s.run (fun d => d.mailbox p l (fun d => (d, .success, [d.linkCapacity p l, d.linkCapacity p l, 0, 0])))

/-- GET_PARTITION_INFO: volatile and persistent capacity. -/
def execGetPartitionInfo (p l : Nat) (s : State) : Host.Outcome State Fault Refusal :=
  s.run (fun d => d.mailbox p l (fun d => (d, .success, [d.linkCapacity p l, 0])))

/-- The opcodes that CXL gives the mailbox commands of R373. -/
def mailboxOpcodes : List Nat :=
  [0x0100, 0x0101, 0x0102, 0x0103, 0x0300, 0x0301, 0x0400, 0x0401, 0x4000, 0x4100, 0x4200]

/-- The opcodes of the commands of the management links. -/
def mgmtOpcodes : List Nat := [0x0200, 0x0201, 0x0202]

/-- The opcodes that a link supports. -/
def Device.linkOpcodes (d : Device) (p l : Nat) : List Nat := if d.mgmtLink p l then mailboxOpcodes ++ mgmtOpcodes else mailboxOpcodes

/-- GET_SUPPORTED_LOGS: one log, the Command Effects Log, with its number of entries. -/
def execGetSupportedLogs (p l : Nat) (s : State) : Host.Outcome State Fault Refusal :=
  s.run (fun d => d.mailbox p l (fun d => (d, .success, [1, (d.linkOpcodes p l).length])))

/-- GET_LOG: the opcodes of the Command Effects Log (`cel`); no other log is there. -/
def execGetLog (p l : Nat) (cel : Bool) (s : State) : Host.Outcome State Fault Refusal :=
  s.run (fun d => d.mailbox p l (fun d => if cel then (d, .success, d.linkOpcodes p l) else (d, .invalidLog, [])))

/-! ### Event logs (R374) -/

/-- An event log of a link: 1 Warning, 2 Failure, 3 Fatal; 0, Information, is empty. -/
def Device.evLog (d : Device) (p l k : Nat) : EventLog := if k = 0 then {} else KMap.get d.host.evLogs {} (evLogKey p l (k - 1))

/-- Replace it. -/
def Device.setEvLog (d : Device) (p l k : Nat) (g : EventLog) : Device :=
  if k = 0 then d else { d with host := { d.host with evLogs := KMap.put d.host.evLogs (evLogKey p l (k - 1)) g } }

/-- The UUID of an event record that carries a ledger record, its bytes in the order written (PRESUMED for CXL's order, log entry 129). -/
def eventUuid : List Nat := [0x5c, 0x9e, 0x1f, 0x0e, 0x94, 0x16, 0x4c, 0x44, 0x8a, 0x52, 0x4c, 0x45, 0x44, 0x47, 0x45, 0x52]

/-- The event record of a ledger record. -/
def Record.event (r : Record) : CxlEvent := { uuid := eventUuid, data := r.bytes ++ List.replicate 16 0 }

/-- GET_EVENT_RECORDS: the oldest records of a log, at most the 15 that the mailbox payload holds. -/
def execGetEventRecords (p l k : Nat) (s : State) : Host.Outcome State Fault Refusal :=
  s.run (fun d =>
    if (d.hostLink p l).up && d.fwAlive then
      if 4 ≤ k then d.send (.mailbox p l .invalidInput [])
      else
        let g := d.evLog p l k
        d.send (.events p l k g.overflow (decide (15 < g.recs.length)) ((g.recs.take 15).map Record.event))
    else d)

/-- CLEAR_EVENT_RECORDS: every record of a log, or those named by SEQ, which must be its oldest in order. -/
def execClearEventRecords (p l k : Nat) (all : Bool) (seqs : List Nat) (s : State) : Host.Outcome State Fault Refusal :=
  s.run (fun d => d.mailbox p l (fun d =>
    let g := d.evLog p l k
    if 4 ≤ k then (d, .invalidInput, [])
    else if all then (d.setEvLog p l k { g with recs := [], overflow := 0 }, .success, [])
    else if (g.recs.take seqs.length).map (fun r => r.seq) = seqs then
      let rest := g.recs.drop seqs.length
      (d.setEvLog p l k { g with recs := rest, overflow := if rest.isEmpty then 0 else g.overflow }, .success, [])
    else (d, .invalidHandle, [])))

/-- GET_EVENT_INTERRUPT_POLICY: policy and vector of the four logs. -/
def execGetEventInterruptPolicy (p l : Nat) (s : State) : Host.Outcome State Fault Refusal :=
  s.run (fun d => d.mailbox p l (fun d =>
    (d, .success, (List.range 4).flatMap (fun k => [(d.evLog p l k).policy, (d.evLog p l k).vector]))))

/-- SET_EVENT_INTERRUPT_POLICY: for each log 1 to 3, whether it sends an MSI-X message, and its vector. -/
def execSetEventInterruptPolicy (p l : Nat) (pol : List (Bool × Nat)) (s : State) : Host.Outcome State Fault Refusal :=
  s.run (fun d => d.mailbox p l (fun d =>
    ((pol.take 3).zip [1, 2, 3] |>.foldl (fun (d : Device) e =>
      d.setEvLog p l e.2 { d.evLog p l e.2 with policy := if e.1.1 then 1 else 0, vector := e.1.2 % 256 }) d, .success, [])))

/-! ### Time, health, firmware -/

/-- GET_TIMESTAMP. -/
def execGetTimestamp (p l : Nat) (s : State) : Host.Outcome State Fault Refusal :=
  s.run (fun d => d.mailbox p l (fun d => (d, .success, [d.time])))

/-- SET_TIMESTAMP: accepted and ignored. -/
def execSetTimestamp (p l _ns : Nat) (s : State) : Host.Outcome State Fault Refusal :=
  s.run (fun d => d.mailbox p l (fun d => (d, .success, [])))

/-- GET_HEALTH_INFO: the highest fault class now (log entry 16), Tj, CE and UC counts. -/
def execGetHealthInfo (p l : Nat) (s : State) : Host.Outcome State Fault Refusal :=
  s.run (fun d => d.mailbox p l (fun d =>
    let c := d.hdr.foldl (fun (n : Nat) e => max n (pageClass d.fc.testCls (Page.ofCode (e.1 / 1024)) e.2.err).code) 0
    (d, .success, [c, d.reg PWR.THERM_STAT.TJ, d.reg FC.CE_COUNT.COUNT, d.reg FC.UC_COUNT.COUNT])))

/-- GET_FW_INFO: 2 slots, the running slot, the slot of the next trial (0: none), no online activation, the build. -/
def execGetFwInfo (p l : Nat) (s : State) : Host.Outcome State Fault Refusal :=
  s.run (fun d => d.mgmtMailbox p l (fun d =>
    let build := match d.sec.run with | some r => r.build | none => 0
    (d, .success, [2, d.runSlot + 1, if d.sec.trial then d.sec.nextSlot + 1 else 0, 0, build])))

/-- TRANSFER_FW: image data into slot 1 or 2, which must not be the running one. -/
def execTransferFw (p l slot off : Nat) (data : List Nat) (s : State) : Host.Outcome State Fault Refusal :=
  s.run (fun d => d.mgmtMailbox p l (fun d =>
    if slot = 0 then (d, .invalidSlot, [])
    else
      let (d, st) := d.fwWrite (slot - 1) off data
      (d, if st = 0 then .success else if st = 1 then .invalidSlot else .invalidInput, [])))

/-- ACTIVATE_FW; online activation is not supported. -/
def execActivateFw (p l slot : Nat) (online : Bool) (s : State) : Host.Outcome State Fault Refusal :=
  s.run (fun d => d.mgmtMailbox p l (fun d =>
    if online then (d, .invalidInput, [])
    else if slot = 0 ∨ 2 < slot then (d, .invalidSlot, [])
    else
      let (d, st) := d.fwActivate (slot - 1)
      (d, if st = 0 then .success else .authFailed, [])))

/-- UNSUPPORTED_MAILBOX_CMD. -/
def execUnsupportedMailboxCmd (p l _op : Nat) (s : State) : Host.Outcome State Fault Refusal :=
  s.run (fun d => d.mailbox p l (fun d => (d, .unsupported, [])))

/-! ### DOE (R375) -/

/-- The protocols of a DOE mailbox: vendor and type of each (instance numbers of R375). -/
def doeProtocols (inst : Nat) : List (Nat × Nat) :=
  if inst = 0 then [(0x0001, 0), (0x0001, 1), (0x0001, 2)] else if inst = 1 then [(0x0001, 0), (0x1E98, 2)] else []

/-- DOE_DISCOVERY: the protocol of an index and the next index, 0 after the last. -/
def execDoeDiscovery (p l inst index : Nat) (s : State) : Host.Outcome State Fault Refusal :=
  s.run (fun d =>
    if (d.hostLink p l).up && d.fwAlive then
      match (doeProtocols inst)[index]? with
      | some x => d.send (.doe p l inst [x.1, x.2, if index + 1 < (doeProtocols inst).length then index + 1 else 0])
      | none => d
    else d)

/-- CXL_TABLE_ACCESS: the CDAT: the DPA range, read and write latency in ns, read and write bandwidth in MB/s. -/
def execCxlTableAccess (p l : Nat) (s : State) : Host.Outcome State Fault Refusal :=
  s.run (fun d =>
    if (d.hostLink p l).up && d.fwAlive then
      let bw := if (d.hostLink p l).split then 50000 else 100000
      d.send (.doe p l 1 [0, d.linkCapacity p l, 48, 185, bw, bw])
    else d)

/-! ### SPDM (R575 to R577) -/

/-- The state of a connection: DOE on host link `c` below 8, MCTP over I3C 8, over SMBus 9. -/
def Device.conn (d : Device) (c : Nat) : SpdmConn := KMap.get d.sec.spdm {} c

/-- Replace it. -/
def Device.setConn (d : Device) (c : Nat) (x : SpdmConn) : Device := { d with sec := { d.sec with spdm := KMap.put d.sec.spdm c x } }

/-- May a connection carry requests now: its link is up, firmware runs, and the identity records are sound (R555)? -/
def Device.connOk (d : Device) (c : Nat) : Bool :=
  d.fwAlive && d.identityOk && (if c < 8 then (d.hostLink (c / 2) (c % 2)).up else decide (c < 10))

/-- The number that stands for a request in a transcript. -/
def spdmCode : SpdmReq → Nat
  | .getVersion => 0x84 | .getCapabilities _ => 0xE1 | .negotiateAlgorithms => 0xE3 | .getDigests => 0x81
  | .getCertificate .. => 0x82 | .challenge _ => 0x83 | .getMeasurements .. => 0xE0 | .keyExchange _ => 0xE4
  | .finish _ => 0xE5 | .heartbeat _ => 0xE8 | .keyUpdate _ => 0xE9 | .endSession _ => 0xEA | .chunk => 0x85 | .other => 0

/-- A signature over the transcript of a connection by the Alias Ed25519 key. -/
def Device.spdmSign (d : Device) (t : List Nat) : List Nat := Config.edSign d.aliasSalt (Config.sha384 t)

/-- Close the SPDM request: the transcript and the held hash follow, and the response is sent. -/
def Device.spdmAnswer (d : Device) (c : Nat) (x : SpdmConn) (held : Option (List Nat)) (r : SpdmRsp) (data : List Nat) : Device :=
  (d.setConn c { x with held := held }).send (.spdm c r data)

/-- The lowest free session of four. -/
def SpdmConn.freeSession (x : SpdmConn) : Option Nat := [0, 1, 2, 3].find? (fun i => !(x.sessions.contains i))

/-- Is the session open? -/
def SpdmConn.open_ (x : SpdmConn) (sid : Nat) : Bool := x.sessions.contains sid

/-- The responder (R575). Every request but GET_PQ_SIG discards the held hash. A signed response holds the transcript that it
covers. -/
def Device.spdmRequest (d : Device) (c : Nat) (q : SpdmReq) (nonce : List Nat) : Device :=
  let x := d.conn c
  let x := { x with log := if q = .getVersion then [spdmCode q] else x.log ++ spdmCode q :: nonce }
  match q with
  | .getVersion => d.spdmAnswer c { x with version := 0 } none .version [0x12, 0x13]
  | .getCapabilities v =>
    if v = 0x12 ∨ v = 0x13 then d.spdmAnswer c { x with version := v } none .capabilities [v] else d.spdmAnswer c x none .errInvalid []
  | .other => d.spdmAnswer c x none .errUnsupported []
  | _ =>
    if x.version = 0 then d.spdmAnswer c x none .errUnexpected []
    else match q with
      | .negotiateAlgorithms => d.spdmAnswer c x none .algorithms []
      | .getDigests => d.spdmAnswer c x none .digests (Config.sha384 d.hw.edChain)
      | .getCertificate slot off len =>
        if slot = 0 then d.spdmAnswer c x none .certificate ((d.hw.edChain.drop off).take len) else d.spdmAnswer c x none .errInvalid []
      | .challenge slot =>
        if slot = 0 then d.spdmAnswer c x (some x.log) .challengeAuth (d.spdmSign x.log) else d.spdmAnswer c x none .errInvalid []
      | .getMeasurements i signed =>
        let sel := if i = 0xFF then [1, 2, 3, 4, 5, 6, 7, 8] else [i]
        if i = 0 then d.spdmAnswer c x none .measurements [8]
        else if 8 < i ∧ i ≠ 0xFF then d.spdmAnswer c x none .errInvalid []
        else
          let m := sel.flatMap d.measurement
          let x := { x with log := x.log ++ m }
          if signed then d.spdmAnswer c x (some x.log) .measurements (m ++ d.spdmSign x.log) else d.spdmAnswer c x none .measurements m
      | .keyExchange slot =>
        if !d.mintOk then d.spdmAnswer c x none .errBusy []
        else if slot ≠ 0 then d.spdmAnswer c x none .errInvalid []
        else match x.freeSession with
          | some i => d.spdmAnswer c { x with sessions := x.sessions ++ [i] } (some x.log) .keyExchangeRsp (i :: d.spdmSign x.log)
          | none => d.spdmAnswer c x none .errSessionLimit []
      | .finish i => d.spdmAnswer c x none (if x.open_ i then .finishRsp else .errInvalid) []
      | .heartbeat i => d.spdmAnswer c x none (if x.open_ i then .heartbeatAck else .errInvalid) []
      | .keyUpdate i => d.spdmAnswer c x none (if x.open_ i then .keyUpdateAck else .errInvalid) []
      | .endSession i =>
        if x.open_ i then d.spdmAnswer c { x with sessions := x.sessions.filter (fun j => j != i) } none .endSessionAck []
        else d.spdmAnswer c x none .errInvalid []
      | _ => d.spdmAnswer c x none .chunkAck []

/-- SPDM_REQUEST; `nonce` is what the request adds to the transcript. -/
def execSpdmRequest (c : Nat) (q : SpdmReq) (nonce : List Nat) (s : State) : Host.Outcome State Fault Refusal :=
  s.run (fun d => if d.connOk c then d.spdmRequest c q nonce else d)

/-- GET_PQ_CERT: a chunk of the ML-DSA-65 chain. It discards the held hash. -/
def execGetPqCert (c off len : Nat) (s : State) : Host.Outcome State Fault Refusal :=
  s.run (fun d => if d.connOk c then d.spdmAnswer c (d.conn c) none .pqCert ((d.hw.mldsaChain.drop off).take len) else d)

/-- GET_PQ_SIG: the ML-DSA-65 signature over the held hash, or UnexpectedRequest. -/
def execGetPqSig (c : Nat) (s : State) : Host.Outcome State Fault Refusal :=
  s.run (fun d =>
    if d.connOk c then
      match (d.conn c).held with
      | some t => d.spdmAnswer c (d.conn c) none .pqSig (Config.mldsaSign d.aliasSalt ctxAtt (Config.sha384 t))
      | none => d.spdmAnswer c (d.conn c) none .errUnexpected []
    else d)

end Sys2Proof.Machine
end

