-- ==== Sys2Proof/Machine/TwinMsgs.lean ====
section
/-! DEFINITION. What each peer message does at the device that receives it, and the two twin streams (Twins and Quartets; R467 to
R500). -/

namespace Sys2Proof.Machine

/-! ### The follow's copy of the directory (R153, R154, R477, R683) -/

/-- Mark the set of a line UNTRACKED (R683). -/
def Device.markUntracked (d : Device) (line : Nat) : Device :=
  if d.coh.untracked.contains (dirSet line) then d
  else { d with coh := { d.coh with untracked := d.coh.untracked ++ [dirSet line] } }

/-- Put a line into the follow's own overflow log, or mark its set UNTRACKED where that is full (R683). -/
def Device.followLog (d : Device) (line : Nat) : Device :=
  if d.coh.log.contains line then d
  else if (d.logOf (homeSlice line)).length < 512 then
    let d := d.logPut line
    { d with coh := { d.coh with ownLog := d.coh.ownLog ++ [line] } }
  else d.markUntracked line

/-- Put an entry into the follow's directory: it evicts nothing. -/
def Device.followEntry (d : Device) (line : Nat) (e : DirEntry) : Device :=
  if (KMap.find d.coh.dir line).isSome || decide ((d.waysOf (dirSet line)).length < 16) then
    { d with coh := { d.coh with dir := KMap.put d.coh.dir line e } }
  else d.followLog line

/-- Apply a directory change of the lead: an entry without holders is free here, where nothing pins it. A line that this device logged itself keeps its
log place; the lead's log and this device's own lines share the 512 places of a slice (R123, R477, R683). -/
def Device.applyDir (d : Device) (c : DirChange) : Device :=
  match c with
  | .entry line st ptrs lovf =>
    let e : DirEntry := { d.entry line with state := st, ptrs := ptrs, lovf := lovf }
    if e.isFree then { d with coh := { d.coh with dir := KMap.drop d.coh.dir line } } else d.followEntry line e
  | .free line => { d with coh := { d.coh with dir := KMap.drop d.coh.dir line } }
  | .log line =>
    if d.coh.log.contains line then d
    else if (d.logOf (homeSlice line)).length < 512 then d.logPut line
    else d.markUntracked line
  | .unlog line =>
    if d.coh.ownLog.contains line then d else { d with coh := { d.coh with log := d.coh.log.filter (fun l => l != line) } }

/-- A pointer is added to an entry, whose other pointers stay (R153). -/
def DirEntry.addPtr (e : DirEntry) (t : Ptr) : DirEntry :=
  if e.ptrs.contains t then e else if e.ptrs.length < 3 then { e with ptrs := e.ptrs ++ [t] } else { e with lovf := true }

/-- Record a grant at the follow: the pointer is added; only the lead takes pointers away or lowers a state (R153, R154). -/
def Device.followGrant (d : Device) (line : Nat) (t : Ptr) (g : Grant) : Device :=
  let e := d.entry line
  match g with
  | .none => d
  | .shared => d.followEntry line { e.addPtr t with state := if e.state = 2 then 2 else 1 }
  | .exclusive => d.followEntry line { e.addPtr t with state := 2 }

/-! ### Mirrors (R471 to R477) -/

/-- Countersign a mirror, with this device's free Elastic capacity. -/
def Device.sign (d : Device) (k tseq : Nat) (l : Option Layout) : Device :=
  (d.twinSend k (.csign k tseq d.elFree l)).1

/-- A mirrored line lands dirty in the hot-data cache, with its atomic outcome entry; the poison token is stored as poison (R439). -/
def Device.mirrorLine (d : Device) (line : Nat) (v : Line) (p : Bool) (cls : Nat) (e : Option AtomicEntry) : Device :=
  let d := d.putT0 line { data := v, poison := p || d.isToken line v, dirty := true } cls
  match e with
  | some x => { d with site := { d.site with atomics := KMap.put d.site.atomics ((x.site * 4 + x.qid) * 16 + x.atag % 16) x } }
  | none => d

/-- A mirrored fail update: the same bits and counters. -/
def Device.mirrorBits (d : Device) (dut L : Nat) (mask : Line) (cls : Nat) : Device :=
  match d.dut dut with
  | none => d
  | some t =>
    let (d, v, p) := d.peekLine (d.bitmapAt t L).1 cls
    if p then d.markLost t cls false [L / (geoDims t.g).bl]
    else
      let new := newBits (geoDims t.g) L mask v
      if new = [] then d else d.applyBits t L v new cls false

/-- The four quarters of a loaf as this device has them, and the bursts read. -/
def Device.wholeLoaf (d : Device) (lpn cls : Nat) (bake : Bool) : Device × List QuarterSrc × Nat :=
  let hand (i : Nat) : Option T0Line := d.atHand (64 * lpn + i)
  d.gather lpn cls (d.loaf lpn) bake hand (fun i => (hand i).isSome)

/-- The lines of a loaf are clean: its stored form now holds them. -/
def Device.cleanLoaf (d : Device) (lpn : Nat) : Device :=
  match d.frame lpn with
  | some f =>
    let f := { f with lines := f.lines.map (fun e => (e.1, { e.2 with dirty := false })), snap := none, again := [] }
    { d with tier := { d.tier with frames := KMap.put d.tier.frames lpn f } }
  | none => d

/-- A mirrored change of a loaf record: this device forms its own layout of the told state (R101); a loaf with a poisoned line takes PLAIN
(R440). A layout that differs from the lead's raises MIRROR_DIVERGE (R476). `bad` is the engine whose stream fails its check: the old layout
stays (R102). -/
def Device.mirrorRec (d : Device) (lpn : Nat) (l : Layout) (bad : Option Nat) : Device × Layout :=
  let cls := match d.frame lpn with | some f => f.cls | none => d.reg BAKER.BAKER_CTL.CLASS
  let d := (d.cancelMigration lpn).touchRecord lpn cls
  let bake := l.state == 3 || l.state == 1
  let (d, qs, n) := d.wholeLoaf lpn cls bake
  let old := d.loaf lpn
  let plan : Plan := if !bake || qs.any QuarterSrc.poisoned then .plain else planBake qs
  let d := match plan with | .plain => d.lostQuarters lpn cls old qs | _ => d
  let (d, mine) : Device × Layout := match plan, bad with
    | .baked _ _, some e | .zero, some e => (d.verifyFail e, old.layout)
    | _, _ =>
      let (d, new, w) : Device × LoafRec × Nat := if bake || l.state == 2 then d.storePlan lpn plan (allLines qs) else (d, { state := l.state }, 0)
      ((((d.changeRecord lpn old new).cleanLoaf lpn).chargeDeq cls (64 * (n + w) + 64)), new.layout)
  (if mine = l then d else d.raise TWIN.flag.MIRROR_DIVERGE 0 (leBytes 4 lpn) (leBytes 4 lpn), mine)

/-- A commit record: every line in one step, and the outcome entry (R189). Lines of pages that a resync's sweep has not passed are discarded (R183). -/
def Device.mirrorCommit (d : Device) (r : CommitRec) : Device :=
  let d := (r.lines.filter (fun l => decide (lpnOf l.line < r.passed))).foldl (fun (d : Device) l =>
    d.putT0 l.line { data := l.data, poison := l.poison || d.isToken l.line l.data, dirty := true } r.cls) d
  d.setOutcome r.arr r.slot { bseq := r.bseq, outcome := 1 }

/-! ### Countersigns at the lead (R33, R107) -/

/-- A countersign: the follow's free capacity, and what waited for it. -/
def Device.csign (d : Device) (k tseq : Nat) (free : Int) (l : Option Layout) : Device :=
  let d := ({ d with tier := { d.tier with followFree := some free } }.capUpdate).countSat TWIN.CSIGNS.COUNT
  match d.coh.csWait.find? (fun c => c.stream == k && c.tseq == tseq) with
  | none => d
  | some c =>
    let d := { d with coh := { d.coh with csWait := d.coh.csWait.filter (fun x => !(x.stream == k && x.tseq == tseq)) } }
    (d.csDone c l).proceedAll

/-! ### Twin fetches that come back (R86, R426, R441, R445) -/

/-- Write a loaf's new layout copy-on-write (R91) from the lines at hand and the stored form; a further line that cannot be read is
fetched first. `bad` as for a writeback (R102). -/
def Device.relayLoaf (d : Device) (lpn cls : Nat) (bad : Option Nat) : Device :=
  let hand (i : Nat) : Option T0Line := d.atHand (64 * lpn + i)
  let (tier, el) := match d.regionOfLine (64 * lpn) with | some (_, g) => (g.tier, g.cap == 1) | none => (0, false)
  let bake := bakes (d.loaf lpn) tier el
  let carry (q : Nat) : Bool := bake && (List.range 16).all (fun i => (hand (16 * q + i)).isNone)
  let out := d.outLines lpn hand carry
  if d.twinServes && !out.isEmpty then d.askFor out cls
  else
    let d := (d.cancelMigration lpn).touchRecord lpn cls
    let r := d.loaf lpn
    let (d, qs, n) := d.wholeLoaf lpn cls bake
    let plan := planWriteback r tier el qs
    match plan, bad with
    | .baked _ _, some e | .zero, some e => d.verifyFail e
    | _, _ => (d.relayout lpn cls r plan qs n).cleanLoaf lpn

/-- The loaf of a lost record is written anew from its 64 fetched lines; its old slices stay allocated (R441). -/
def Device.remakeLoaf (d : Device) (lpn cls : Nat) : Device :=
  let lines := (List.range 64).map (fun i => match d.atHand (64 * lpn + i) with | some t => (t.data, t.poison) | none => (0, false))
  let zero := lines.all (fun v => v.1 == 0 && !v.2)
  let (d, new, w) := d.storePlan lpn (if zero then .zero else .plain) lines
  let d := (d.chargeDeq cls (64 * w + 64))
  let (d, _) := d.tellRecord lpn cls new (.writeback lpn)
  let old := LoafRec.ofWord (d.recordWord lpn)
  let d := (d.changeRecord lpn {} new).chargeChange lpn (if old.ok then old else {}) {}
  (d.cacheRecord lpn).cleanLoaf lpn

/-- The first burst of a line that fails, if one does. -/
def Device.failingBurst (d : Device) (line : Nat) : Option Nat :=
  let r := d.loaf (lpnOf line); let n := line % 64
  let bs := if r.plain then [sliceAddr r.bin (r.slices.getD (n / 8) 0) + 64 * (n % 8)] else if r.baked then d.quarterSlices r (n / 16) else []
  bs.find? d.burstFails

/-- A recovered CODE_FAILURE: counted, recorded, its row queued for a test (R443, R450). -/
def Device.recovered (d : Device) (ra : Nat) : Device :=
  ((d.countSat INTEG.MEM_RECOVERIES.COUNT).memEvent INTEG.flag.MEM_RECOVERED ra (positionsOf (d.errsOf ra) (d.memLine ra).2) 3).queueTest ra

/-- Lines that came back from the twin are kept while something here still waits for them: a request, a writeback, a Baker visit, or
another fetch for their loaf. -/
def Device.dropFetched (d : Device) : Device :=
  let wants (line : Nat) : Bool := d.coh.queue.any (fun r => (d.reqLines r).contains line)
    || (match d.frame (lpnOf line) with | some f => f.snap.isSome | none => false)
    || d.tier.bakeAsk.contains (lpnOf line) || d.twin.fetches.any (fun f => lpnOf f.2.1 == lpnOf line)
  { d with tier := { d.tier with fetched := d.tier.fetched.keep (fun l _ => wants l) } }

/-- Every line of a quarter is back from the twin: it is recovered, and the loaf takes a new layout; or the twin cannot give it either, and R86
takes its lines as poison. `f` is the burst of it that failed, if one did. -/
def Device.quarterBack (d : Device) (line cls : Nat) (f : Option Nat) (bad : Option Nat) : Device :=
  let lpn := lpnOf line; let q := line % 64 / 16
  let at_ := leBytes 6 (1024 * (line / 16))
  let r := d.loaf lpn
  let ls := if r.baked then (List.range 16).map (fun i => line / 16 * 16 + i) else [line]
  let lost := ls.any (fun l => match KMap.find d.tier.fetched l with | some t => t.poison | none => false)
  let d := if lost then { d with tier := { d.tier with fetched := d.tier.fetched.keep (fun l _ => !(ls.contains l)) } } else d
  if !lost then
    (match f with | some ra => d.recovered ra | none => d.raise TIER.flag.QUARTER_RECOVERED 0 at_ at_).relayLoaf lpn cls bad
  else match f with
    | some ra =>
      let d := (d.readBurst ra cls r.baked).1
      if r.baked then d.quarterLost lpn r q cls true else d
    | none => d.quarterLost lpn r q cls false

/-- The answer to a twin fetch, by its kind. The lines of kinds 0 to 3 are at hand for what waits for them, and allocate a frame only as a read
does (R75). -/
def Device.fetchData (d : Device) (id : Nat) (v : Line) (p : Bool) (bad : Option Nat) : Device :=
  match d.twin.fetches.find? (fun f => f.1 == id) with
  | none => d
  | some (_, line, kind) =>
    let rest := d.twin.fetches.filter (fun f => f.1 != id)
    let d := { d with twin := { d.twin with fetches := rest } }
    let cls := d.reg INTEG.SCRUB_CTL.CLASS
    let lpn := lpnOf line
    let info := leBytes 6 line
    let more (same : Nat → Bool) : Bool := rest.any (fun f => f.2.2 == kind && same f.2.1)
    let p := p || d.isToken line v
    let t : T0Line := { data := v, poison := p }
    let got (d : Device) : Device :=
      if (d.t0Line line).isSome then d else { d with tier := { d.tier with fetched := KMap.put d.tier.fetched line t } }
    let d :=
      if kind = 0 then got d
      else if kind = 1 ∨ kind = 2 then
        let f := if kind = 2 then d.failingBurst line else none
        let d := got d
        if more (fun l => l / 16 == line / 16) then d else d.quarterBack line cls f bad
      else if kind = 3 then
        let d := got d
        if more (fun l => lpnOf l == lpn) then d
        else
          let ra := 64 * (d.recordAddr lpn / 64)
          let d := if d.burstFails ra then d.recovered ra else d
          d.remakeLoaf lpn cls
      else if kind = 4 then
        let d := if (d.t0Line line).isSome then d else d.putT0 line { t with dirty := true } cls
        d.raise (if p then INTEG.flag.T0_UNCORR else INTEG.flag.T0_REFETCH) 0 (0 :: info) (0 :: info)
      else
        let t : T0Line := { t with dirty := true }
        let d := match d.batch.home.find? (fun b => (KMap.find b.shadow line).isSome) with
          | some b => d.setBatch { b with shadow := KMap.put b.shadow line t }
          | none => d.putT0 line t cls
        d.raise (if p then INTEG.flag.T0_UNCORR else INTEG.flag.T0_REFETCH) 0 (2 :: info) (2 :: info)
    d.proceedAll.dropFetched

/-! ### Forwarded requests and snoops (R45, R127, R152, R482, R483) -/

/-- Does this device follow the lines of an address: it is of their position, and its twin leads them? -/
def Device.follows (d : Device) (qla : Nat) : Bool :=
  (d.twin.svc == .paired || d.twin.svc == .handingOver) && homePosition d.membersLog2 (qla / 4096) == d.qid
    && (match d.regionOf qla with | some (_, g) => !(d.leadsSlice g (homeSlice (d.lineOf qla))) | none => false)

/-- What an arrival device or a device on the way notes of a grant, whose response came by `link`: a follow records it; an arrival device reports it
to the follow, unless it is on the follow's side and the response came through the follow (R154). -/
def Device.noteGrant (d : Device) (r : Request) (g : Grant) (link : Option Nat) : Device :=
  if g = .none ∨ Request.isHost r = false then d
  else if d.follows r.qla then d.followGrant (d.lineOf r.qla) (ptrOf r) g
  else
    let pos := homePosition d.membersLog2 (r.qla / 4096)
    match (match d.regionOf r.qla with | some (_, x) => d.homeArr r.qla x | none => none) with
    | some a =>
      let dest := (1 - a / 4) * 4 + pos
      if r.arr = d.myArr ∧ dest ≠ d.myArr ∧ (a / 4 = d.side ∨ link ≠ d.routeTo dest) then
        d.tellDev dest (d.lineOf r.qla) (.grantNotice dest (d.lineOf r.qla) r.who r.win r.arr g)
      else d
    | none => d

/-- A fail record or mask that its home refused as an access to no region shows on the page of the port it arrived at (R68, R295). -/
def Device.noteRefusal (d : Device) (r : Request) (a : Answer) : Device :=
  match r.op with
  | .failOr dut L mask => (match d.dut dut with
    | some t => if a.status = 3 ∧ L < (geoDims t.g).nb * (geoDims t.g).bl ∧ d.failMapped t L mask = false then d.refuse r 3 else d
    | none => d)
  | .failRec dut _ v => (match d.dut dut with
    | some t => if a.status = 3 ∧ cellOk t.g (failCell v) = true ∧ d.failMapped t (recordMask t.g v).1 (recordMask t.g v).2 = false then d.refuse r 3 else d
    | none => d)
  | _ => d

/-- The notice that a batch of this device's slot has aborted at its home, or of another device's, which is passed on (log entry 117). -/
def Device.abortTold (d : Device) (fid : Nat) (a : Answer) : Device :=
  let arr := (fid - 2 ^ 32) / 2048; let slot := (fid - 2 ^ 32) % 2048
  if arr ≠ d.myArr then d.tellDev arr 0 (.fwdRsp fid a)
  else if (d.slot slot).bseq = a.bseq then d.slotAborted slot a.cause
  else d

/-- The response to a forward (R483), or the notice of an abort. -/
def Device.fwdRsp (d : Device) (fid : Nat) (a : Answer) : Device :=
  if 2 ^ 32 ≤ fid then d.abortTold fid a
  else
    match d.twin.forwards.find? (fun f => f.fid == fid) with
    | none => d
    | some f =>
      let d := { d with twin := { d.twin with forwards := d.twin.forwards.filter (fun x => x.fid != fid) } }
      ((d.noteGrant f.req a.grant f.link).noteRefusal f.req a).deliver f.req a

/-- Does a forwarded request still have its way: the link it went by carries traffic and lies on the route, or its grace timer runs (R483)? -/
def Device.fwdGood (d : Device) (f : Forward) : Bool :=
  let along (p : Nat) : Bool := match d.regionOf f.req.qla with
    | some (_, g) => (match (d.homeArr f.req.qla g).bind d.routeTo with | some q => q == p || (decide (3 ≤ p) && decide (3 ≤ q)) | none => false)
    | none => true
  !f.lost && (match f.link with
    | none => false
    | some p => (if p < 3 then d.twin.peerOk.contains p else d.twinLinkUp) && along p || (decide (p < 3) && (d.link (.peer p)).graceRun))

/-- Is a forwarded request never sent twice: a commit, and an atomic once it was sent (R483)? -/
def Forward.once (f : Forward) : Bool := match f.req.op with | .batchCommit _ => true | .atomic .. => f.link.isSome | _ => false

/-- Send a forwarded request again: it counts in REFORWARDS where it had been sent and its line has a home (R483). -/
def Device.fwdAgain (d : Device) (f : Forward) : Device :=
  let has_ := match d.regionOf f.req.qla with | some (_, g) => (d.homeArr f.req.qla g).isSome | none => true
  (if has_ && f.link.isSome then d.countSat TWIN.REFORWARDS.COUNT else d).route f.req

/-- Forward again every request whose route or home is gone, where there is a new one; batch commits and site ATOMICs are not
(R483). A request on a mesh link is held through the link's grace period (R503); one in a twin stream goes with its stream (R470). -/
def Device.reforward (d : Device) : Device :=
  let again := d.twin.forwards.filter (fun f => !(d.fwdGood f) && !f.once)
  let keep := d.twin.forwards.filter (fun f => d.fwdGood f || f.once)
  again.foldl Device.fwdAgain { d with twin := { d.twin with forwards := keep } }

/-- A forwarded snoop at its arrival device (R127): on the host's link under a number of this device, or the local part of a broadcast (R128); an
answer goes back at once where no link takes it. `stale` contains the link of the host (R139). -/
def Device.snoopHere (d : Device) (frm sid : Nat) (kind : SnoopKind) (host win qla : Nat) (mode : SnoopMode) : Device :=
  match mode with
  | .stale => match d.linkOfHost host with | some (p, l) => d.contain p l 7 | none => d
  | _ =>
    let ts : List Ptr := match mode with
      | .broadcast mask acc skip => (d.broadcastTargets mask acc).filter (fun t => some t != skip)
      | _ => [{ host := host, win := win, arr := d.myArr }]
    let part : Bool := match mode with | .broadcast .. => true | _ => false
    let go := ts.filterMap (fun t => match d.linkOfHost t.host with
      | some (q, l) => if (d.hostLink q l).biEnable && (d.hostLink q l).state == .upMem then some (t, q, l) else none
      | none => none)
    if go.isEmpty then d.tellDev frm (d.lineOf qla) (.snoopAns frm sid .rspI false host win true)
    else go.foldl (fun (d : Device) x =>
      let mine := d.coh.nextSid
      let s : RemoteSnoop := { sid := mine, home := sid, frm := frm, kind := kind, host := x.1.host, win := x.1.win, qla := qla, part := part,
                               start := d.power.aon }
      let d := { d with coh := { d.coh with remote := d.coh.remote ++ [s], nextSid := mine + 1 } }
      let d := if part then d.countWrap COH.BI_SENT.COUNT else d
      d.send (.biSnp x.2.1 x.2.2 kind (d.dpaOf x.2.1 x.2.2 x.1.win qla) mine)) d

/-- A SNOOP_FWD: for a host of this device, or passed on (R482). -/
def Device.snoopFwd (d : Device) (dest frm sid : Nat) (kind : SnoopKind) (host win qla : Nat) (mode : SnoopMode) : Device :=
  if dest = d.myArr then d.snoopHere frm sid kind host win qla mode
  else d.tellDev dest (d.lineOf qla) (.snoopFwd dest frm sid kind host win qla mode)

/-- A SNOOP_ANS: passed on, or the end of a snoop of this home; a snoop of a broadcast that timed out on another device marks the line as one of
this device would (R147, R152), and a late answer is taken off the stale list (R139). The stream of a twin link that carries it is that of line 0. -/
def Device.snoopAns (d : Device) (dest sid : Nat) (ans : SnoopAnswer) (timedOut : Bool) (host win : Nat) (last : Bool) : Device :=
  if dest ≠ d.myArr then d.tellDev dest 0 (.snoopAns dest sid ans timedOut host win last)
  else match d.coh.snoops.find? (fun s => s.sid == sid), timedOut with
    | some s, true =>
      let d := if last then d.dropSnoop s else d
      (d.snoopLate sid s.line { host := host, win := win, arr := s.target.arr }).proceed
    | none, true => d
    | x, false =>
      if x.isSome && last then d.snoopAnswer sid ans
      else match d.coh.late.find? (fun y => y.sid == sid && y.host == host) with
        | some y => d.lateAnswer y
        | none => d

/-! ### HELLO and STATE (R339, R463 to R466, R499) -/

/-- The QID that the wiring of R462 puts at the far end of a mesh link. -/
def Device.meshPartner (d : Device) (p : Nat) : Option Nat :=
  if d.membersLog2 = 2 then some ((d.qid + p + 1) % 4)
  else if d.membersLog2 = 1 ∧ p = 0 then some (1 - d.qid) else none

/-- The first check of R463 that a HELLO fails: 1 sides, 2 QIDs, 3 configuration, 4 identity, 5 protocol; 0 none. -/
def Device.helloFails (d : Device) (p : Nat) (i : PeerInfo) : Nat :=
  let twin := decide (3 ≤ p)
  if (i.side == d.side) == twin then 1
  else if (if twin then i.qid != d.qid else d.meshPartner p != some i.qid) then 2
  else if i.logicalTib ≠ d.logicalTib ∨ i.members ≠ d.membersLog2 then 3
  else if twin && d.twin.peerOk.contains (7 - p) && d.twin.twinUid != i.uid then 4
  else if min i.versions.2 d.myInfo.versions.2 < max i.versions.1 d.myInfo.versions.1 then 5
  else 0

/-- The service state with a code. -/
def svcOf : Nat → Svc
  | 0 => .start | 1 => .join | 2 => .resync | 3 => .solo | 4 => .paired | 5 => .handingOver | _ => .withdrawn

/-- Begin or end the stewardship of the twin (R499). -/
def Device.stewardship (d : Device) (lost : Bool) : Device :=
  let able := (d.twin.svc == .resync || d.twin.svc == .paired || d.twin.svc == .handingOver) && !d.twin.mgmtLost
  if lost && able && !d.twin.steward then
    (({ d with twin := { d.twin with steward := true } }.setReg TWIN.PAIR_STAT.STEWARD 1).evt TWIN.flag.STEWARD_START).mgmtRecord 2 0
  else if !lost && d.twin.steward then
    ({ d with twin := { d.twin with steward := false } }.setReg TWIN.PAIR_STAT.STEWARD 0).mgmtRecord 3 0
  else d

/-- What the twin says of itself: a receiver that has left RESYNC interrupts the resync (R490); two handovers at once are decided by the side (R492). -/
def Device.noteTwin (d : Device) (i : PeerInfo) : Device :=
  let s := svcOf i.svc; let was := d.twin.twinSvc
  let d := { d with twin := { d.twin with twinSvc := s, twinGdeq := i.gdeq, twinGt0 := i.gt0, hbIn := s.serving } }
  let d := d.stewardship i.mgmtLost
  let stopped := d.twin.resyncRun && d.twin.resyncSource && was == .resync && (s == .start || s == .join || s == .withdrawn)
  let d := if stopped then d.resyncStop else d
  let d := if s = .handingOver then d.yieldHand else d
  match d.twin.svc, s with
  | .paired, .start | .paired, .join | .paired, .withdrawn | .handingOver, .start | .handingOver, .join | .handingOver, .withdrawn => d.twinLost
  | _, _ => d

/-- What a device says of itself: whether it serves, that a device in SOLO has no twin in service, and its lost host links. -/
def Device.noteInfo (d : Device) (i : PeerInfo) : Device :=
  let arr := i.side * 4 + i.qid
  let other := (1 - i.side) * 4 + i.qid
  if arr = d.myArr then d
  else
    let d := if arr = d.twinArr then d.noteTwin i else d
    let d := if (svcOf i.svc).serving then
        (if d.twin.inService.contains arr then d else { d with twin := { d.twin with inService := d.twin.inService ++ [arr] } })
      else d.deviceGone arr
    let d := if i.svc = 3 ∧ other ≠ d.myArr then d.deviceGone other else d
    let d := i.lost.foldl (fun (d : Device) h => d.loseLink h arr) d
    d.joinStep

/-- Two in-service devices of one pair meet, each without the other (R466). -/
def Device.splitStep (d : Device) (i : PeerInfo) : Device :=
  let mine := d.regions.table.isEmpty
  let me := if mine != i.empty then mine else d.side == 1
  if me then (((d.evt TWIN.flag.SPLIT).withdraw 5)).deviceReset 5 else d

/-- Messages of a stream that the link in use neither holds nor has delivered are sent on it again (R470). -/
def Device.resendStream (d : Device) (k : Nat) : Device :=
  let p := d.streamLink k
  let x := d.link (.peer p)
  let held (t : Nat) : Bool :=
    let hit (b : Body) : Bool := match b with | .msg (some q) m => q == t && (d.stream k).unacked.any (fun u => u.tseq == t && u.msg == m) | _ => false
    x.unacked.any (fun f => hit f.body) || x.txq.any (fun e => hit e.2)
  ((d.stream k).unacked.filter (fun u => !(held u.tseq))).foldl (fun (d : Device) u => d.peerSend p (some u.tseq) u.msg) d

/-- A stream returns to its own link once that link carries traffic and every message of the stream is acknowledged (R470). -/
def Device.streamHome (d : Device) (k : Nat) : Device :=
  let s := d.stream k
  if s.moved && s.unacked.isEmpty && d.twin.peerOk.contains (3 + k) && d.power.plan.armed != some (3 + k) then d.setStream k { s with moved := false } else d

/-- A HELLO passes its checks: the link carries traffic, in the highest version that both ends support (R463). -/
def Device.helloOk (d : Device) (p : Nat) (i : PeerInfo) : Device :=
  let first := !(d.twin.peerOk.contains p)
  let ok := if first then d.twin.peerOk ++ [p] else d.twin.peerOk
  let d := { d with twin := { d.twin with peerOk := ok, failed := d.twin.failed.filter (fun x => x.1 != p),
                                          proto := KMap.put d.twin.proto p (min i.versions.2 d.myInfo.versions.2) } }
  if p < 3 then (if first then d.recompute else d).noteInfo i
  else
    let d := { d with twin := { d.twin with twinUid := i.uid } }
    let d := (d.setReg TWIN.TWIN_ID_LO.ID_LO i.uid).setReg TWIN.TWIN_ID_HI.ID_HI (i.uid / 2 ^ 32)
    let mine := d.serving && (svcOf i.svc).serving && (d.twin.svc == .solo || i.svc == 3)
    if mine then d.splitStep i
    else
      let d := if first then (((d.resendStream 0).resendStream 1).streamHome (p - 3)).recompute else d
      d.noteInfo i

/-- A HELLO on a link: its checks, once for each link and cause (R463); a failure interrupts a resync (R490), and the stream of a twin
link moves to the other one (R470). -/
def Device.hello (d : Device) (p : Nat) (i : PeerInfo) : Device :=
  let c := d.helloFails p i
  if c = 0 then (d.helloOk p i).proceedAll
  else
    let was := d.twin.peerOk.contains p
    let d := { d with twin := { d.twin with peerOk := d.twin.peerOk.filter (fun q => q != p) } }
    let d := if was then d.failover p else d
    let d := if d.twin.failed.contains (p, c) then d
      else { d with twin := { d.twin with failed := d.twin.failed ++ [(p, c)] } }.raise
        (if c = 3 ∨ c = 5 then TWIN.flag.CFG_MISMATCH else TWIN.flag.WIRING) 0 [p, c] [p, c]
    if 3 ≤ p then d.resyncStop.twinWatch else d

/-- A STATE report: of the partner, or of a device behind it. Reports from the mesh go on to the twin. -/
def Device.stateMsg (d : Device) (p : Nat) (i : PeerInfo) : Device :=
  let d := d.noteInfo i
  let d := if p < 3 then
      (match d.twinLink with | some q => d.peerSend q none (.state i) | none => d)
    else d
  d.proceedAll

/-! ### Withdrawal, handover and resync -/

/-- A WITHDRAW on a twin link: the twin is lost at once; a resync with it is interrupted (R479, R490). -/
def Device.withdrawMsg (d : Device) : Device :=
  let d := { d with twin := { d.twin with twinSvc := .withdrawn, hbIn := false } }
  let d := if d.twin.svc = .resync ∨ d.twin.resyncRun then d.resyncStop else d
  (d.deviceGone d.twinArr).twinLost.joinStep

/-- A HANDOVER message by its step: 0 a home slice, 1 a recall asked of this home, 2 its end, 3 the twin asks for its regions. -/
def Device.handoverMsg (d : Device) (dest frm step arg : Nat) : Device :=
  if dest ≠ d.myArr then d.tellDev dest 0 (.handover dest frm step arg)
  else if step = 0 then d.gainSlice arg
  else if step = 1 then
    let ng := if arg = 32 ∧ !(d.coh.noGrant.contains frm) then d.coh.noGrant ++ [frm] else d.coh.noGrant
    (({ d with coh := { d.coh with recallFor := d.coh.recallFor ++ [(frm, arg)], noGrant := ng } }).recallHere frm arg).proceedAll
  else if step = 2 then
    { d with coh := { d.coh with recallWait := d.coh.recallWait.filter (fun x => x != (frm, arg)) } }.proceedAll
  else d.giveBack

/-- The tables of RS_TABLE at the receiver: they begin its resync where it has not begun, and what an earlier one placed is freed (R484, R490). -/
def Device.rsTable (d : Device) (regions : List (Nat × Region)) (geos : List (Nat × Geometry)) (duts : List (Nat × Dut))
    (outcomes : List (Nat × Nat × Nat × Nat)) (atomics : List (Nat × AtomicEntry)) (gdeq gt0 : List Nat) (key : Nat) : Device :=
  let d := if d.twin.svc = .join then d.resyncStart else d
  if d.twin.svc ≠ .resync then d
  else
    let d := d.wipeRecords.wipePages
    let outs := outcomes.foldl (fun (m : KMap OutcomeEntry) o => KMap.put m o.1 { bseq := o.2.1, outcome := o.2.2.1, cause := o.2.2.2 }) []
    { d with regions := { d.regions with table := regions }, fail := { d.fail with geos := geos, duts := duts },
             batch := { d.batch with outcomes := outs }, site := { d.site with atomics := atomics },
             twin := { d.twin with twinGdeq := gdeq, twinGt0 := gt0, poisonKey := some key } }

/-- A loaf of the resync is stored in this device's own pool, with its stream and quarter ends (R486). -/
def Device.rsLoaf (d : Device) (lpn : Nat) (l : Layout) (stream : List Nat) (poison : Nat) : Device :=
  if d.twin.svc ≠ .resync then d
  else
    let d := d.resyncCount (64 + 512 * l.nslice)
    let (d, b, sl) := d.allocSlices l.nslice
    let clean := d.tier.poisoned.filter (fun ra => !(sl.any (fun i => sliceAddr b i == 512 * (ra / 512))))
    let d := { d with tier := { d.tier with poisoned := clean } }
    let bs := streamBursts stream
    let d := d.writeSlices lpn b sl ((bs.zip (List.range bs.length)).map (fun e => (e.1, l.state == 2 && bitOf poison e.2)))
    let qend := if l.state = 3 then [l.qend1, l.qend2, l.qend3] else [0, 0, 0]
    let new : LoafRec := { state := l.state, nslice := l.nslice, bin := b, qend := qend, slices := sl }
    (((d.chargeDeq (d.reg TWIN.RESYNC_CTL.CLASS) (64 * bs.length + 64)).changeRecord lpn {} new).setReg TWIN.RESYNC_POS.LPN (lpn + 1))

/-- RS_DONE arrives on each stream; the second one ends the resync (R469, R489). -/
def Device.rsDone (d : Device) : Device :=
  if d.twin.svc ≠ .resync then d
  else if d.twin.resyncAcked then { d with twin := { d.twin with resyncAcked := false } }.enterPaired false
  else { d with twin := { d.twin with resyncAcked := true } }

/-! ### Time (R495 to R497) -/

/-- Does a peer link lead to the time master? -/
def Device.towardsMaster (d : Device) (p : Nat) : Bool :=
  match d.coordinator with
  | some a => a != d.myArr && d.routeTo a == some p
  | none => false

/-- Adjust the time base by a measured offset: forward at once, backward by running slow. An offset that 16 bits cannot show stands in OFFSET_NS as
the nearest one that they can (DESIGN CHOICE, log entry 132). -/
def Device.timeStep (d : Device) (off : Int) : Device :=
  let d := d.setReg TWIN.TIME_STAT.OFFSET_NS ((max (-32768) (min 32767 off) % 65536).toNat)
  let d := if 0 ≤ off then { d with time := d.time + off.toNat, twin := { d.twin with slew := 0 } }
    else { d with twin := { d.twin with slew := 1024 * off.natAbs } }
  let lock := decide (-20 ≤ off)
  let d := if d.twin.timeLocked && !lock then d.evt TWIN.flag.TIME_UNLOCK else d
  ({ d with twin := { d.twin with timeLocked := lock } }).setReg TWIN.TIME_STAT.LOCKED (if lock then 1 else 0)

/-- A TIME_SYNC message: a request is answered with the times of its arrival and of the answer; an answer on the route to the master
gives the offset. -/
def Device.timeSync (d : Device) (p t1 t2 t3 : Nat) (reply : Bool) : Device :=
  if !reply then d.peerSend p none (.timeSync t1 d.time d.time true)
  else if d.towardsMaster p then d.timeStep ((((t2 : Int) - t1) + ((t3 : Int) - d.time)) / 2)
  else d

/-- Every 1 ms: TIME_SYNC on every ACTIVE peer link; a device without a route to its master has lost lock. -/
def Device.timeTick (d : Device) : Device :=
  let d := [0, 1, 2, 3, 4].foldl (fun (d : Device) p =>
    if (d.link (.peer p)).state = .active ∧ d.twin.peerOk.contains p = true then d.peerSend p none (.timeSync d.time 0 0 false) else d) d
  let lone := match d.coordinator with | some a => a != d.myArr && (d.routeTo a).isNone | none => true
  if d.twin.timeLocked && lone then
    ((d.evt TWIN.flag.TIME_UNLOCK).setReg TWIN.TIME_STAT.LOCKED 0 |> fun d => { d with twin := { d.twin with timeLocked := false } })
  else d

end Sys2Proof.Machine
end

