-- ==== Sys2Proof/Machine/TwinCmds.lean ====
section
/-! DEFINITION. The commands of twins and quartets: the arrival of each peer message, and the events of service states (Twins and
Quartets). -/

namespace Sys2Proof.Machine

/-! ### The arrival of a peer message (R467 to R470) -/

/-- A TABLE_CMD for this device: a request to the coordinator, its result, the end of one elsewhere, the end of a destroyed region's changes, or a
command to carry out. -/
def Device.tableMsg (d : Device) (c : TableCmd) : Device :=
  match c with
  | .ask frm free busy c => d.takeAsk { frm := frm, free := free, busy := busy, cmd := c }
  | .result fail code id r => d.gotResult fail code id r
  | .done frm => d.tableGot frm
  | .drop rid stream => d.dropHere rid stream
  | c => d.applyTable c

/-- Is a message a mirror of the lead's change (R471)? -/
def isMirror : PeerMsg → Bool
  | .mirrorLine .. | .mirrorFail .. | .mirrorOr .. | .mirrorRec .. | .commitRec _ | .dirUpd _ => true
  | _ => false

/-- What a peer message does; a device that mirrors nothing takes no mirror (R464). `p` is the link it came by, `k` and `t` its stream and TSEQ, `bad` as in Via. -/
def Device.applyMsg (d : Device) (p k t : Nat) (m : PeerMsg) (bad : Option Nat := none) : Device :=
  if isMirror m && !(d.twin.svc == .resync || d.twin.svc == .paired || d.twin.svc == .handingOver) then d
  else match m with
  | .fwdReq fid r => d.route { r with origin := .forward p fid (Request.isHost r) }
  | .fwdRsp fid a => (d.fwdRsp fid a).proceedAll
  | .snoopFwd dest frm sid kind host win qla mode => d.snoopFwd dest frm sid kind host win qla mode
  | .snoopAns dest sid ans timedOut host win last => (d.snoopAns dest sid ans timedOut host win last).proceedAll
  | .mirrorLine line v bad cls e => (d.mirrorLine line v bad cls e).sign k t none
  | .mirrorFail dut v cls => (match d.dut dut with
    | some x => d.mirrorBits dut (recordMask x.g v).1 (recordMask x.g v).2 cls
    | none => d).sign k t none
  | .mirrorOr dut L mask cls => (d.mirrorBits dut L mask cls).sign k t none
  | .mirrorRec lpn l => let (d, mine) := d.mirrorRec lpn l bad; d.sign k t (some mine)
  | .commitRec r => (d.mirrorCommit r).sign k t none
  | .csign s q free l => d.csign s q free l
  | .dirUpd c => d.applyDir c
  | .grantNotice dest line host win arr g =>
    if dest = d.myArr then d.followGrant line { host := host, win := win, arr := arr } g
    else d.tellDev dest line (.grantNotice dest line host win arr g)
  | .noticeFlush dest arr => if dest = d.myArr then d.flushGot arr else d.tellDev dest 0 (.noticeFlush dest arr)
  | .twinFetch id line cls => d.serveFetchOne (id, line, cls)
  | .fetchData id v p => d.fetchData id v p bad
  | .hello i => d.hello p i
  | .state i => d.stateMsg p i
  | .withdraw => d.withdrawMsg
  | .handover dest frm stage arg => d.handoverMsg dest frm stage arg
  | .tableCmd dest c =>
    if dest ≠ d.myArr then d.tellDev dest 0 (.tableCmd dest c) else (d.tableMsg c).proceedAll
  | .rsTable r g u o a gd g0 key => d.rsTable r g u o a gd g0 key
  | .rsLoaf lpn l s bad => d.rsLoaf lpn l s bad
  | .rsLine line v bad cls =>
    if d.twin.svc = .resync then (d.resyncCount 128).putT0 line { data := v, poison := bad || d.isToken line v, dirty := true } cls else d
  | .rsDir c => if d.twin.svc = .resync then d.applyDir c else d
  | .rsDone => d.rsDone
  | .timeSync a b c reply => d.timeSync p a b c reply
  | .stewReq .. | .stewRsp .. => d

/-- The distance of two TSEQ numbers. -/
def tseqDist (a b : Nat) : Nat := (a + 65536 - b % 65536) % 65536

/-- Must a message wait for what the other stream carried before it (R469)? -/
def Device.streamHolds (d : Device) (k : Nat) (m : PeerMsg) : Bool :=
  match m with
  | .commitRec r => decide (0 < tseqDist r.after (d.stream (1 - k)).applied) && decide (tseqDist r.after (d.stream (1 - k)).applied < 32768)
  | _ => false

/-- Apply the messages of both streams in TSEQ order as far as they are here (`fuel` bounds them). -/
def Device.runStreams (d : Device) : Nat → Device
  | 0 => d
  | fuel + 1 =>
    let ready (k : Nat) : Option StreamMsg :=
      match (d.stream k).early.find? (fun m => m.tseq == (d.stream k).applied) with
      | some m => if d.streamHolds k m.msg then none else some m
      | none => none
    let run (k : Nat) (m : StreamMsg) : Device :=
      let s := d.stream k
      let d := d.setStream k { s with applied := (m.tseq + 1) % 65536, early := s.early.filter (fun e => e.tseq != m.tseq) }
      d.applyMsg (3 + k) k m.tseq m.msg m.bad
    match ready 0, ready 1 with
    | some m, _ => (run 0 m).runStreams fuel
    | none, some m => (run 1 m).runStreams fuel
    | none, none => d

/-- A message of a twin stream: one already applied is discarded, one ahead of its turn is kept. -/
def Device.recvStream (d : Device) (k t : Nat) (m : PeerMsg) (bad : Option Nat := none) : Device :=
  let s := d.stream k
  if 32768 ≤ tseqDist t s.applied ∨ s.early.any (fun e => e.tseq == t) = true then d
  else
    let d := d.setStream k { s with early := s.early ++ [{ tseq := t, msg := m, bad := bad }] }
    d.runStreams ((d.stream 0).early.length + (d.stream 1).early.length)

/-- The flits of a message leave the receive buffer. -/
def Device.consumeMsg (d : Device) (p : Nat) (m : PeerMsg) : Device :=
  (d.consume (.peer p) (msgPool m) 1 false).consume (.peer p) (if msgPool m = 2 then 2 else 1) (msgFlits m - 1) false

/-- May a message arrive on this link: it is ACTIVE, and its HELLO checks passed unless it is a HELLO (R463)? -/
def Device.mayArrive (d : Device) (p : Nat) (m : PeerMsg) : Bool :=
  decide (p < 5) && (d.link (.peer p)).state == .active
    && (d.twin.peerOk.contains p || (match m with | .hello _ => true | _ => false))

/-- A peer message arrives. -/
def Device.receive (d : Device) (v : Via) (m : PeerMsg) : Device :=
  if d.mayArrive v.p m then
    let d := d.consumeMsg v.p m
    match v.tseq with
    | some t => if 3 ≤ v.p then d.recvStream (v.k % 2) t m v.bad else d.applyMsg v.p 0 0 m v.bad
    | none => d.applyMsg v.p 0 0 m v.bad
  else d

/-! ### The messages (R467) -/

/-- TABLE_CMD arrives. -/
def execTableCmd (v : Via) (dest : Nat) (c : TableCmd) (s : State) : Host.Outcome State Fault Refusal :=
  s.run (fun d => d.receive v (.tableCmd dest c))

/-- GRANT_NOTICE arrives. -/
def execGrantNotice (v : Via) (dest line host win arr : Nat) (g : Grant) (s : State) : Host.Outcome State Fault Refusal :=
  s.run (fun d => d.receive v (.grantNotice dest line host win arr g))

/-- NOTICE_FLUSH arrives. -/
def execNoticeFlush (v : Via) (dest arr : Nat) (s : State) : Host.Outcome State Fault Refusal :=
  s.run (fun d => d.receive v (.noticeFlush dest arr))

/-- DIR_UPD arrives. -/
def execDirUpd (v : Via) (c : DirChange) (s : State) : Host.Outcome State Fault Refusal :=
  s.run (fun d => d.receive v (.dirUpd c))

/-- TWIN_FETCH arrives. -/
def execTwinFetch (v : Via) (id line cls : Nat) (s : State) : Host.Outcome State Fault Refusal :=
  s.run (fun d => d.receive v (.twinFetch id line cls))

/-- FETCH_DATA arrives. -/
def execFetchData (v : Via) (id : Nat) (data : Line) (poison : Bool) (s : State) : Host.Outcome State Fault Refusal :=
  s.run (fun d => d.receive v (.fetchData id data poison))

/-- FWD_REQ arrives. -/
def execFwdReq (v : Via) (fid : Nat) (r : Request) (s : State) : Host.Outcome State Fault Refusal :=
  s.run (fun d => d.receive v (.fwdReq fid r))

/-- FWD_RSP arrives. -/
def execFwdRsp (v : Via) (fid : Nat) (a : Answer) (s : State) : Host.Outcome State Fault Refusal :=
  s.run (fun d => d.receive v (.fwdRsp fid a))

/-- SNOOP_FWD arrives. -/
def execSnoopFwd (v : Via) (dest : Nat) (ref : SnoopRef) (kind : SnoopKind) (host win qla : Nat) (mode : SnoopMode) (s : State) :
    Host.Outcome State Fault Refusal :=
  s.run (fun d => d.receive v (.snoopFwd dest ref.dev ref.sid kind host win qla mode))

/-- SNOOP_ANS arrives. -/
def execSnoopAns (v : Via) (ref : SnoopRef) (ans : SnoopAnswer) (fin : SnoopEnd) (s : State) : Host.Outcome State Fault Refusal :=
  s.run (fun d => d.receive v (.snoopAns ref.dev ref.sid ans fin.timedOut fin.host fin.win fin.last))

/-- MIRROR_LINE arrives. -/
def execMirrorLine (v : Via) (line : Nat) (data : Line) (poison : Bool) (cls : Nat) (entry : Option AtomicEntry) (s : State) : Host.Outcome State Fault Refusal :=
  s.run (fun d => d.receive v (.mirrorLine line data poison cls entry))

/-- MIRROR_FAIL arrives. -/
def execMirrorFail (v : Via) (dut record cls : Nat) (s : State) : Host.Outcome State Fault Refusal :=
  s.run (fun d => d.receive v (.mirrorFail dut record cls))

/-- MIRROR_OR arrives. -/
def execMirrorOr (v : Via) (dut line : Nat) (mask : Line) (cls : Nat) (s : State) : Host.Outcome State Fault Refusal :=
  s.run (fun d => d.receive v (.mirrorOr dut line mask cls))

/-- MIRROR_REC arrives. -/
def execMirrorRec (v : Via) (lpn : Nat) (l : Layout) (s : State) : Host.Outcome State Fault Refusal :=
  s.run (fun d => d.receive v (.mirrorRec lpn l))

/-- COMMIT_REC arrives. -/
def execCommitRec (v : Via) (r : CommitRec) (s : State) : Host.Outcome State Fault Refusal :=
  s.run (fun d => d.receive v (.commitRec r))

/-- CSIGN arrives. -/
def execCsign (v : Via) (stream tseq : Nat) (elFree : Int) (l : Option Layout) (s : State) : Host.Outcome State Fault Refusal :=
  s.run (fun d => d.receive v (.csign stream tseq elFree l))

/-- HELLO arrives. -/
def execHello (v : Via) (i : PeerInfo) (s : State) : Host.Outcome State Fault Refusal :=
  s.run (fun d => d.receive v (.hello i))

/-- STATE arrives. -/
def execState (v : Via) (i : PeerInfo) (s : State) : Host.Outcome State Fault Refusal :=
  s.run (fun d => d.receive v (.state i))

/-- WITHDRAW arrives. -/
def execWithdraw (v : Via) (s : State) : Host.Outcome State Fault Refusal :=
  s.run (fun d => d.receive v .withdraw)

/-- HANDOVER arrives. -/
def execHandover (v : Via) (dest frm stage arg : Nat) (s : State) : Host.Outcome State Fault Refusal :=
  s.run (fun d => d.receive v (.handover dest frm stage arg))

/-- RS_TABLE arrives. -/
def execRsTable (v : Via) (regions : List (Nat × Region)) (geos : List (Nat × Geometry)) (duts : List (Nat × Dut)) (outcomes : List (Nat × Nat × Nat × Nat)) (atomics : List (Nat × AtomicEntry)) (gdeq gt0 : List Nat) (poisonKey : Nat) (s : State) : Host.Outcome State Fault Refusal :=
  s.run (fun d => d.receive v (.rsTable regions geos duts outcomes atomics gdeq gt0 poisonKey))

/-- RS_LOAF arrives. -/
def execRsLoaf (v : Via) (lpn : Nat) (l : Layout) (stream : List Nat) (poison : Nat) (s : State) : Host.Outcome State Fault Refusal :=
  s.run (fun d => d.receive v (.rsLoaf lpn l stream poison))

/-- RS_LINE arrives. -/
def execRsLine (v : Via) (line : Nat) (data : Line) (poison : Bool) (cls : Nat) (s : State) : Host.Outcome State Fault Refusal :=
  s.run (fun d => d.receive v (.rsLine line data poison cls))

/-- RS_DIR arrives. -/
def execRsDir (v : Via) (c : DirChange) (s : State) : Host.Outcome State Fault Refusal :=
  s.run (fun d => d.receive v (.rsDir c))

/-- RS_DONE arrives. -/
def execRsDone (v : Via) (s : State) : Host.Outcome State Fault Refusal :=
  s.run (fun d => d.receive v .rsDone)

/-- TIME_SYNC arrives. -/
def execTimeSync (v : Via) (t1 t2 t3 : Nat) (reply : Bool) (s : State) : Host.Outcome State Fault Refusal :=
  s.run (fun d => d.receive v (.timeSync t1 t2 t3 reply))

/-! ### Answers and timers that the other devices are told of -/

/-- BIRSP (R119, R135, R151). -/
def execBirsp (p l sid : Nat) (ans : SnoopAnswer) (s : State) : Host.Outcome State Fault Refusal :=
  s.run (fun d => (d.biRsp p l sid ans).proceedAll)

/-- BI_TIMEOUT (R146, R147). -/
def execBiTimeout (sid : Nat) (s : State) : Host.Outcome State Fault Refusal := s.run (fun d => (d.biTimeout sid).proceedAll)

/-- A marker has not arrived in time: its device counts as withdrawn (R155). -/
def Device.noticeLate (d : Device) (arr : Nat) : Device :=
  if d.coh.flushWait.contains arr then (((d.deviceGone arr).evt COH.flag.NOTICE_LATE).flushGot arr).proceedAll else d

/-- NOTICE_LATE. -/
def execNoticeLate (arr : Nat) (s : State) : Host.Outcome State Fault Refusal := s.run (fun d => d.noticeLate arr)

/-! ### Events of the service states -/

/-- RESYNC_START (R484). -/
def execResyncStart (s : State) : Host.Outcome State Fault Refusal := s.run Device.resyncStart

/-- RESYNC_STEP (R485). -/
def execResyncStep (s : State) : Host.Outcome State Fault Refusal := s.run Device.resyncStep

/-- RESYNC_INTERRUPT (R490): the receiver without a source returns to JOIN. -/
def execResyncInterrupt (s : State) : Host.Outcome State Fault Refusal := s.run (fun d => (d.resyncStop).joinStep)

/-- TIME_SYNC_TIMER (R496). -/
def execTimeSyncTimer (s : State) : Host.Outcome State Fault Refusal := s.run Device.timeTick

/-- The heartbeat of the twin is seen stopped (R478, R479). -/
def Device.heartbeatStopped (d : Device) : Device :=
  let d := { d with twin := { d.twin with hbIn := false } }
  if (d.twin.svc == .paired || d.twin.svc == .handingOver) && d.twinLinkUp then d.raise TWIN.flag.HB_FAULT 0 [] []
  else d.twinWatch

/-- HEARTBEAT_TIMEOUT. -/
def execHeartbeatTimeout (s : State) : Host.Outcome State Fault Refusal := s.run Device.heartbeatStopped

/-- HB_CONFIRM_MISSING (R478): the heartbeat stays off until the device enters service anew (DEDUCED, log entry 146). -/
def execHbConfirmMissing (s : State) : Host.Outcome State Fault Refusal :=
  s.run (fun d => ({ d with twin := { d.twin with confirm := false } }).heartbeatOut)

/-- Side A has waited 1 ms with both twin links down and the heartbeat running (R479). -/
def Device.linksWaitOver (d : Device) : Device :=
  if (d.twin.svc == .paired || d.twin.svc == .handingOver) && !d.twinLinkUp && d.twin.hbIn && d.side == 0 then
    (d.raise TWIN.flag.HB_FAULT 0 [] []).twinLost
  else d

/-- TWIN_LINKS_WAIT_EXPIRY. -/
def execTwinLinksWaitExpiry (s : State) : Host.Outcome State Fault Refusal := s.run Device.linksWaitOver

/-- SOLO_WAIT_MS has passed in JOIN (R465). A HELLO that fails its checks counts as none (DEDUCED, log entry 131). -/
def Device.soloWaitOver (d : Device) : Device :=
  if d.twin.svc = .join ∧ ((d.side = 1 ∧ d.twinServes = false) ∨ d.twinLinkUp = false) then d.enterSolo else d

/-- SOLO_WAIT_EXPIRY. -/
def execSoloWaitExpiry (s : State) : Host.Outcome State Fault Refusal := s.run Device.soloWaitOver

/-- WITHDRAW_CMD (R492). -/
def execWithdrawCmd (s : State) : Host.Outcome State Fault Refusal := s.run Device.withdrawCmd

/-- RETAKE (R491). -/
def execRetake (s : State) : Host.Outcome State Fault Refusal := s.run Device.retake

/-- BATCH_WAIT_EXPIRY (R494). -/
def execBatchWaitExpiry (s : State) : Host.Outcome State Fault Refusal := s.run Device.handBatchWait

/-- SITE_DRAIN_DONE (R493). -/
def execSiteDrainDone (s : State) : Host.Outcome State Fault Refusal := s.run Device.handDone

/-- HANDOVER_RESET_TIMER (R493): the device resets itself. -/
def execHandoverResetTimer (s : State) : Host.Outcome State Fault Refusal :=
  s.run (fun d => if d.twin.resetAfter then d.deviceReset 6 else d)

/-- REFORWARD (R483). -/
def execReforward (s : State) : Host.Outcome State Fault Refusal := s.run Device.reforward

end Sys2Proof.Machine
end

