-- ==== Sys2Proof/Machine/Ronlink.lean ====
section
/-! DEFINITION. The commands of the Ronlink link layer: training, received flits and frames, replay, sleep, going down and the flush
(Ronlink Physical and Link Layer). A flit's payload reaches the device as the command that the payload spells; TXN_FLIT is what the
link layer does with the flit that carries it. -/

namespace Sys2Proof.Machine

/-! ### Going down (R236, R245, R470, R479, R490) -/

/-- The other twin link goes down while a margin plan re-equalises one: the item aborts with ITEM_FAILED, and a link not yet reset stays ACTIVE
(R599, R604). -/
def Device.reeqAborts (d : Device) (p : Nat) : Device := if 3 ≤ p then d.reeqFails 1 (7 - p) else d

/-- What the device does when a peer link has gone down: both twin links down interrupt a resync and decide on the twin; the
deliverable bandwidth is formed again. -/
def Device.peerFell (d : Device) (k : LinkId) : Device :=
  match k with
  | .site _ => d
  | .peer p =>
    let d := d.reeqAborts p
    let d := if 3 ≤ p then (if d.twinLinkUp then d else d.resyncStop).twinWatch else d
    d.recompute

/-- A link goes down with a cause of LINK_STAT.DOWN_CAUSE, with all that follows. -/
def Device.linkFalls (d : Device) (k : LinkId) (cause : Nat) : Device :=
  let d := match k with | .site s => d.reeqFails 0 s | .peer p => d.reeqFails 1 p
  if (d.link k).state = .active then (d.linkDown k cause).peerFell k else d.linkDown k cause

/-- A replay starts; a link that goes down at the replay limit has all that follows. -/
def Device.replay (d : Device) (k : LinkId) : Device :=
  let d := d.startReplay k
  if (d.link k).state = .active then d else d.peerFell k

/-! ### The flush (R240, R242, R281) -/

/-- Sequence state is thrown away; the epoch advances. -/
def Link.flushed (x : Link) (epoch acked : Nat) : Link :=
  { x with unacked := [], resend := [], unpaid := [], next := 0, expect := 0, gotTxn := false, nakSent := false, nakDue := false, replays := 0,
           graceRun := false, kept := false, offerResume := false, epoch := epoch, notice := some ((x.expect + 4095) % 4096, acked, x.epoch) }

/-- Flush a link to an epoch. What was forwarded over a mesh link that did not resume is to be forwarded again (R503). -/
def Device.flush (d : Device) (k : LinkId) (epoch : Nat) : Device :=
  let d := match k with
    | .site s => d.siteFlush s
    | .peer p => if p < 3 then { d with twin := { d.twin with forwards := d.twin.forwards.map (fun (f : Forward) =>
        if f.link = some p then { f with lost := true } else f) } } else d
  let x := d.link k
  let x := match k with | .site _ => { x with txq := [] } | .peer _ => x
  (d.setLink k (x.flushed epoch (d.reg (lf k SITE.LINK_STAT.LAST_ACKED PEER.LINK_STAT.LAST_ACKED) (linkNo k)))).linkEvt k 3

/-- GRACE_EXPIRY: a link that is not ACTIVE in time is flushed, and in the TS2 phase offers NEW and counts its TS2 flits anew (R242). -/
def Device.graceExpires (d : Device) (k : LinkId) : Device :=
  let x := d.link k
  if !x.graceRun || x.state == .active || x.state == .sleep then d
  else
    let d := (d.linkEvt k 2).flush k ((x.epoch + 1) % 256)
    if x.state = .ts2 then d.setLink k { d.link k with trainCount := 0, ts2Sent := 0 } else d

/-- GRACE_EXPIRY. -/
def execGraceExpiry (k : LinkId) (s : State) : Host.Outcome State Fault Refusal := s.run (fun d => d.graceExpires k)

/-! ### Training (R212 to R218, R238 to R241) -/

/-- Has the device this link? -/
def Device.hasLink (d : Device) : LinkId → Bool
  | .site s => !d.hw.gradeH && decide (s < 1024)
  | .peer p => decide (p < 5)

/-- May a peer port be enabled: its page takes work and R462 gives it a partner? -/
def Device.peerLive (d : Device) (p : Nat) : Bool :=
  d.hubUp && d.pageOn .peer p && decide (p < 5) && (decide (3 ≤ p) || (d.meshPartner p).isSome)

/-- Send a TS2 flit; what it offers is what the session goes by (R239). -/
def Device.sendTs2 (d : Device) (k : LinkId) : Device :=
  let f := d.myTrain k
  let x := d.link k
  let force := d.flagReg (lf k SITE.LINK_CTL.FORCE_NEW PEER.LINK_CTL.FORCE_NEW) (linkNo k)
  (d.setLink k { x with offerResume := f.resume, forced := x.forced || force }).sendTrain k 1 f

/-- The LINK_ID of a training flit is noted, with the port or site number (R238). -/
def Device.hear (d : Device) (k : LinkId) (f : TrainFields) : Device := d.setLink k { d.link k with heard := some (f.linkId, f.port) }

/-- LINK_ENABLE: a DISABLED link that may be enabled enters DETECT (R213). -/
def Device.linkEnable (d : Device) (k : LinkId) : Device :=
  let live := match k with | .site s => d.siteLive s | .peer p => d.peerLive p
  if live && (d.link k).state == .disabled then d.detect k else d

/-- LINK_ENABLE. -/
def execLinkEnable (k : LinkId) (s : State) : Host.Outcome State Fault Refusal := s.run (fun d => d.linkEnable k)

/-- QUIET_EXPIRY. -/
def execQuietExpiry (k : LinkId) (s : State) : Host.Outcome State Fault Refusal :=
  s.run (fun d => if (d.link k).state = .quiet then d.detect k else d)

/-- LOCK_ACQUIRED: `lanes` are the receive lanes with lock. -/
def Device.lockAcquired (d : Device) (k : LinkId) (lanes : Nat) : Device :=
  let x := d.link k
  if x.state = .detect then d.setLink k { x with state := .ts1, trainCount := 0, lanes := lanes % 65536 } else d

/-- LOCK_ACQUIRED. -/
def execLockAcquired (k : LinkId) (lanes : Nat) (s : State) : Host.Outcome State Fault Refusal := s.run (fun d => d.lockAcquired k lanes)

/-- A good TS1 or TS2 flit in state TS1: the eighth leads to TS2. -/
def Device.countTs1 (d : Device) (k : LinkId) (f : TrainFields) : Device :=
  let d := d.hear k f
  let x := d.link k
  if x.trainCount < 7 then d.setLink k { x with trainCount := x.trainCount + 1 }
  else
    (d.setLink k { x with state := .ts2, trainCount := 0, ts2Sent := 0, lastTs2 := none }).sendTs2 k

/-- TS1: counted in state TS1; it breaks a run of TS2 flits; it takes an ACTIVE link down. -/
def Device.ts1 (d : Device) (k : LinkId) (f : TrainFields) : Device :=
  let x := d.link k
  match x.state with
  | .active => d.linkFalls k 5
  | .ts1 => d.countTs1 k f
  | .ts2 => d.setLink k { x with trainCount := 0 }
  | _ => d

/-- TS1. -/
def execTs1 (t : Ts1Flit) (s : State) : Host.Outcome State Fault Refusal := s.run (fun d => d.ts1 t.link t.fields)

/-- A training attempt fails: the link enters QUIET. -/
def Device.trainFails (d : Device) (k : LinkId) : Device :=
  (d.linkCount k SITE.TRAIN_FAILS.COUNT PEER.TRAIN_FAILS.COUNT).linkDown k 10

/-- Why a TS2 phase fails (R215): 4 ROLE_MISMATCH, 5 CREDIT_REJECT, 0 no width fits. -/
def Device.ts2Fails (d : Device) (k : LinkId) (f : TrainFields) : Option Nat :=
  if f.role ≠ (if isPeer k then 2 else 1) then some 4
  else if isPeer k then (if (laneGroup (d.link k).lanes f.lanes).isNone then some 0 else none)
  else if f.credits.getD 2 0 < 24 then some 5
  else none

/-- A TS2 flit in state TS2: eight with identical fields, and sixteen sent since the first one came, lead to END. The LANE, which differs from lane to lane,
is no part of the comparison. -/
def Device.countTs2 (d : Device) (k : LinkId) (f : TrainFields) : Device :=
  match d.ts2Fails k f with
  | some b => (if b = 0 then d else d.linkErr k b).trainFails k
  | none =>
    let f := { f with lane := 0 }
    let d := d.hear k f
    let x := d.link k
    let n := if x.lastTs2 = some f then x.trainCount + 1 else 1
    let x := { x with lastTs2 := some f, trainCount := n, ts2Sent := x.ts2Sent + 1 }
    let d := d.setLink k x
    if 8 ≤ n ∧ 16 ≤ x.ts2Sent then
      let d := d.setLink k { x with state := .ending, endSent := true }
      [3, 2, 1, 0].foldl (fun (d : Device) n => d.sendTrain k 2 { d.myTrain k with endCount := n }) d
    else d.sendTs2 k

/-- TS2. -/
def Device.ts2 (d : Device) (k : LinkId) (f : TrainFields) : Device :=
  match (d.link k).state with
  | .active => d.linkFalls k 5
  | .ts1 => d.countTs1 k f
  | .ts2 => d.countTs2 k f
  | _ => d

/-- TS2. -/
def execTs2 (k : LinkId) (f : TrainFields) (s : State) : Host.Outcome State Fault Refusal := s.run (fun d => d.ts2 k f)

/-- The epoch of a flush at the end of training: one more than this end's (R240). Two peer devices whose epochs a device reset has parted meet at one
more than the higher (DESIGN CHOICE, log entry 123): a partner that has flushed already shows this end's epoch plus 1. -/
def nextEpoch (peer : Bool) (mine theirs : Nat) : Nat :=
  let n := (mine + 1) % 256
  if !peer || n == theirs || n == (theirs + 1) % 256 then n else (max mine theirs + 1) % 256

/-- The session at the end of training: resumed where both ends have offered it and RX_NEXT lies between the oldest flit and the next; flushed
otherwise, unless this end has flushed since the last session (R239 to R242). -/
def Device.session (d : Device) (k : LinkId) (f : TrainFields) : Device :=
  let x := d.link k
  let mine := x.offerResume
  let fits := decide (seqDist f.rxNext x.oldest ≤ seqDist x.next x.oldest)
  if mine && f.resume && fits then
    let x := x.release ((f.rxNext + 4095) % 4096)
    d.setLink k { x with resend := x.unacked, unpaid := x.unacked.map (fun u => u.seq) }
  else if x.notice.isSome then d
  else d.flush k (nextEpoch (isPeer k) x.epoch f.epoch)

/-- The NOTICE that is the first TXN flit after a flush of a site link (R282). -/
def Link.notify (x : Link) (site : Bool) : Link :=
  match x.notice with
  | some (rx, acked, ep) =>
    let body : Body := .rrec 0x51 6 false 0 0 0 (leBytes 2 rx ++ leBytes 2 acked ++ [ep])
    { x with notice := none, txq := if site then (2, body) :: x.txq else x.txq }
  | none => x

/-- The link enters ACTIVE: the partner's credits, the width, the flags, both scramblers at all ones (R202, R204); waiting flits leave; a peer link
exchanges HELLO (R463). FORCE_NEW clears where this training offered NEW for it (R247). -/
def Device.goActive (d : Device) (k : LinkId) (f : TrainFields) : Device :=
  let d := d.session k f
  let n := linkNo k
  let d := if (d.link k).forced then d.setReg (lf k SITE.LINK_CTL.FORCE_NEW PEER.LINK_CTL.FORCE_NEW) 0 n else d
  let d := d.setReg (lf k SITE.CREDIT_ADV.ADV PEER.CREDIT_ADV.ADV) (ofLe f.credits) n
  let x := d.link k
  let g := if isPeer k then (laneGroup x.lanes f.lanes).getD (0, 0) else (1, 1)
  let x := { x with state := .active, adv := f.credits, avail := f.credits, seen := [0, 0, 0, 0], released := [0, 0, 0, 0],
                    owed := [0, 0, 0, 0], rxUsed := [0, 0, 0, 0], report := 0, graceRun := false, kept := false, partner := some (f.linkId, f.port),
                    trainCount := 0, ts2Sent := 0, lastTs2 := none, heard := none, forced := false, offerResume := false, endSent := false, endSeen := false,
                    rxScr := 2 ^ 58 - 1, txScr := 2 ^ 58 - 1, txFrame := [], txPos := 0, sinceSkip := 0, badFrames := 0,
                    frames := 0, width := g.2, group := g.1, nakSent := false, nakDue := false }
  let d := (d.setLink k (x.notify (!isPeer k))).linkEvt k 0
  match k with
  | .site _ => d.pump k
  | .peer p =>
    let d := (d.setReg PEER.WIDTH_STAT.WIDTH g.2 p).setReg PEER.WIDTH_STAT.LANES g.1 p
    let d := if g.2 < 16 then d.linkEvt k 5 else d
    let d := d.pump k
    d.peerSend p none (.hello d.myInfo)

/-- END ends: the link enters ACTIVE with the fields of the partner's TS2. -/
def Device.trainEnds (d : Device) (k : LinkId) : Device :=
  match (d.link k).lastTs2 with
  | some f => d.goActive k f
  | none => d

/-- TS_END completes END for its receiver, which may still count TS2 flits (R214). -/
def execTsEnd (k : LinkId) (s : State) : Host.Outcome State Fault Refusal :=
  s.run (fun d => match (d.link k).state with | .ts2 | .ending => d.trainEnds k | .active => d.linkFalls k 5 | _ => d)

/-- TS_END_SENT: the fourth TS_END flit has left. -/
def execTsEndSent (k : LinkId) (s : State) : Host.Outcome State Fault Refusal :=
  s.run (fun d => if (d.link k).state = .ending then d.trainEnds k else d)

/-- TRAIN_TIMEOUT (R214). -/
def Device.trainTimeout (d : Device) (k : LinkId) : Device :=
  match (d.link k).state with
  | .detect | .ts1 | .ts2 | .ending => (d.linkErr k 3).trainFails k
  | _ => d

/-- TRAIN_TIMEOUT. -/
def execTrainTimeout (k : LinkId) (s : State) : Host.Outcome State Fault Refusal := s.run (fun d => d.trainTimeout k)

/-! ### Received flits (R211, R223 to R226, R234, R235) -/

/-- Messages of a twin stream whose first flit the partner has acknowledged are done with (R470). -/
def Device.streamAcked (d : Device) (fs : List TxFlit) : Device :=
  let mine (u : StreamMsg) : Bool := fs.any (fun f => match f.body with | .msg (some t) m => t == u.tseq && m == u.msg | _ => false)
  let d := { d with twin := { d.twin with streams := d.twin.streams.map (fun (e : Nat × Stream) =>
      (e.1, { e.2 with unacked := e.2.unacked.filter (fun u => !(mine u)) })) } }
  (d.streamHome 0).streamHome 1

/-- Apply a valid acknowledgement of flits up to `a`. -/
def Device.acked (d : Device) (k : LinkId) (a : Nat) : Device :=
  let x := d.link k
  let n := seqDist (a + 1) x.oldest
  let d := (d.setLink k (x.release a)).setReg (lf k SITE.LINK_STAT.LAST_ACKED PEER.LINK_STAT.LAST_ACKED) a (linkNo k)
  if isPeer k then d.streamAcked (x.unacked.take n) else d

/-- Is a flit a protocol error by its header: wrong epoch, reserved FLIT_TYPE or ACK_TYPE, an acknowledgement of a flit never sent, more credits than the
partner may have released (R245)? -/
def Link.badHeader (x : Link) (h : FlitHdr) : Bool :=
  let a := if h.ackType = 2 then (h.ack + 4095) % 4096 else h.ack
  let last := (x.oldest + 4095) % 4096
  let unsent := (h.ackType == 1 || h.ackType == 2) && decide (seqDist x.next x.oldest < seqDist a last) && decide (2048 < seqDist last a)
  h.epoch != x.epoch || reservedType h.ftype || h.ackType == 3 || unsent || x.creditOverflow h

/-- The acknowledgement and the credits of a good flit. -/
def Device.takeHeader (d : Device) (k : LinkId) (h : FlitHdr) : Device :=
  let d := d.setLink k ((d.link k).credit h)
  let x := d.link k
  let a := if h.ackType = 2 then (h.ack + 4095) % 4096 else h.ack
  let valid := (h.ackType == 1 || h.ackType == 2) && decide (seqDist a ((x.oldest + 4095) % 4096) ≤ seqDist x.next x.oldest)
  let d := if h.ackType = 2 then d.linkCount k SITE.NAKS_RCVD.COUNT PEER.NAKS_RCVD.COUNT else d
  if valid then
    let d := d.acked k a
    if h.ackType = 2 then d.replay k else d
  else d

/-- A good flit arrives on an ACTIVE link: its header first, then what its type asks for. -/
def Device.flit (d : Device) (k : LinkId) (h : FlitHdr) (f : Device → Device) : Device :=
  if (d.link k).state ≠ .active then d
  else if (d.link k).badHeader h then d.linkFalls k 3
  else
    let d := d.takeHeader k h
    if (d.link k).state = .active then (f d).pump k else d

/-- The receiver owes a NAK with ACK = E, in exactly one flit (R223, R224). -/
def Device.nak (d : Device) (k : LinkId) : Device :=
  let x := d.link k
  if x.nakSent then d else (d.setLink k { x with nakSent := true, nakDue := true }).sendIdle k

/-- A TXN flit: accepted in its turn, discarded as a duplicate, or ahead of its turn (R223). One that was accepted, now or before, is acknowledged
(R225). -/
def Device.rxTxn (d : Device) (k : LinkId) (h : FlitHdr) : Device :=
  let x := d.link k
  if h.seq % 4096 = x.expect then
    if (ownCredits k).getD h.pool 0 ≤ x.rxUsed.getD h.pool 0 then d.linkFalls k 3
    else
      (d.setLink k { x with expect := (x.expect + 1) % 4096, nakSent := false, gotTxn := true,
                            rxUsed := setPool x.rxUsed h.pool (x.rxUsed.getD h.pool 0 + 1) }).sendIdle k
  else if seqDist x.expect h.seq ≤ 2048 then d.sendIdle k
  else d.nak k

/-- An IDLE flit whose SEQ is after the one expected shows a lost flit (R223). -/
def Device.rxIdle (d : Device) (k : LinkId) (h : FlitHdr) : Device :=
  let n := seqDist h.seq (d.link k).expect
  if 1 ≤ n ∧ n ≤ 2047 then d.nak k else d

/-- Invalid 64b/66b headers in a flit's blocks are counted (R201). -/
def Device.headerErrs (d : Device) (k : LinkId) (n : Nat) : Device :=
  match k with
  | .site s => if (d.link k).state = .active then d.countSat SITE.HDR_ERRS.COUNT s n else d
  | .peer _ => d

/-- TXN_FLIT. With FLIT_TYPE LCTL it stands for an LCTL flit of a reserved operation, a protocol error (R209, R245): those of the other operations are
commands of their own. -/
def execTxnFlit (k : LinkId) (h : FlitHdr) (hdrErrs : Nat) (s : State) : Host.Outcome State Fault Refusal :=
  s.run (fun d => (d.headerErrs k hdrErrs).flit k h (fun d => if h.ftype = 2 then d.linkFalls k 3 else d.rxTxn k h))

/-- IDLE_FLIT. -/
def execIdleFlit (k : LinkId) (h : FlitHdr) (hdrErrs : Nat) (s : State) : Host.Outcome State Fault Refusal :=
  s.run (fun d => (d.headerErrs k hdrErrs).flit k h (fun d => d.rxIdle k h))

/-- A flit with a bad CRC is discarded whole (R211, R223); in training it breaks a run of good flits (R213). -/
def Device.badCrc (d : Device) (k : LinkId) : Device :=
  let counted := d.linkCount k SITE.CRC_ERRS.COUNT PEER.CRC_ERRS.COUNT
  match (d.link k).state with
  | .active => counted.nak k
  | .ts1 | .ts2 => counted.setLink k { counted.link k with trainCount := 0 }
  | .ending => counted
  | _ => d

/-- BAD_CRC_FLIT. -/
def execBadCrcFlit (k : LinkId) (hdrErrs : Nat) (s : State) : Host.Outcome State Fault Refusal :=
  s.run (fun d => (d.headerErrs k hdrErrs).badCrc k)

/-! ### Link control and sleep (R209, R243, R244) -/

/-- RETRAIN: an LCTL RETRAIN takes the link down. -/
def execRetrain (k : LinkId) (h : LctlFlit) (s : State) : Host.Outcome State Fault Refusal :=
  s.run (fun d => (d.headerErrs k h.hdrErrs).flit k h.hdr (fun d => d.linkFalls k 6))

/-- DISABLE: the link goes down and waits in DETECT (R245). -/
def execDisable (k : LinkId) (h : LctlFlit) (s : State) : Host.Outcome State Fault Refusal :=
  s.run (fun d => (d.headerErrs k h.hdrErrs).flit k h.hdr (fun d => d.linkFalls k 8))

/-- May the link sleep as far as this end goes: a site link with SLEEP_EN, nothing unacknowledged and nothing queued? -/
def Device.maySleep (d : Device) (k : LinkId) : Bool :=
  match k with
  | .site s => d.flagReg SITE.LINK_CTL.SLEEP_EN s && (d.link k).unacked.isEmpty && (d.link k).txq.isEmpty
  | .peer _ => false

/-- Both ends agree: 16 IDLE flits, then SLEEP. What was queued meanwhile wakes the link (R244). -/
def Device.sleepNow (d : Device) (k : LinkId) : Device :=
  let d := (List.range 16).foldl (fun (d : Device) _ => d.sendIdle k) d
  let d := (d.setLink k { d.link k with state := .sleep, sleepSent := false, sleepSeen := false }).linkEvt k 4
  if (d.link k).txq.isEmpty then d else d.wake k

/-- This end asks to sleep: when a site link's block is idle (R585). -/
def Device.askSleep (d : Device) (k : LinkId) : Device :=
  let x := d.link k
  if x.state = .active ∧ x.sleepSent = false ∧ d.maySleep k = true then
    (d.setLink k { x with sleepSent := true, holdTxn := true }).sendLctl k 2
  else d

/-- A SLEEP_REQ arrives: it agrees with this end's own request, or it is answered. -/
def Device.sleepAsked (d : Device) (k : LinkId) : Device :=
  let x := d.link k
  if x.sleepSent then d.sleepNow k
  else if d.maySleep k then ((d.setLink k { x with holdTxn := true }).sendLctl k 3).sleepNow k
  else d.sendLctl k 4

/-- SLEEP_REQ. -/
def execSleepReq (k : LinkId) (h : LctlFlit) (s : State) : Host.Outcome State Fault Refusal :=
  s.run (fun d => (d.headerErrs k h.hdrErrs).flit k h.hdr (fun d => d.sleepAsked k))

/-- SLEEP_ACK. -/
def execSleepAck (k : LinkId) (h : LctlFlit) (s : State) : Host.Outcome State Fault Refusal :=
  s.run (fun d => (d.headerErrs k h.hdrErrs).flit k h.hdr (fun d => if (d.link k).sleepSent then d.sleepNow k else d))

/-- SLEEP_NAK: TXN traffic goes on. -/
def execSleepNak (k : LinkId) (h : LctlFlit) (s : State) : Host.Outcome State Fault Refusal :=
  s.run (fun d => (d.headerErrs k h.hdrErrs).flit k h.hdr (fun d =>
    if (d.link k).sleepSent then d.setLink k { d.link k with sleepSent := false, holdTxn := false } else d))

/-- WAKE_PATTERN. -/
def execWakePattern (k : LinkId) (s : State) : Host.Outcome State Fault Refusal :=
  s.run (fun d => d.wake k)

/-! ### Frames of Ronlink-P (R203 to R207) -/

/-- SKIP_FRAME: `adjusted` tells that the receiver drops or inserts one. -/
def Device.skipFrame (d : Device) (p : Nat) (adjusted : Bool) : Device :=
  let x := d.link (.peer p)
  if x.state ≠ .active then d
  else
    let d := d.setLink (.peer p) { x with frames := 0 }
    if adjusted then d.countSat PEER.SKIP_ADJ.COUNT p else d

/-- SKIP_FRAME. -/
def execSkipFrame (p : Nat) (adjusted : Bool) (s : State) : Host.Outcome State Fault Refusal := s.run (fun d => d.skipFrame p adjusted)

/-- One flit of a frame, by its type (R209); `op` is payload byte 0. -/
def Device.frameFlit (d : Device) (k : LinkId) (b : List Nat) : Device :=
  if (d.link k).state ≠ .active then d
  else match parseFlit b with
    | none => d.badCrc k
    | some h =>
      let op := b.getD 8 0
      if h.ftype = 1 then d.flit k h (fun d => d.rxTxn k h)
      else if h.ftype = 0 then d.flit k h (fun d => d.rxIdle k h)
      else if h.ftype = 8 ∨ h.ftype = 9 ∨ h.ftype = 10 then d.linkFalls k 5
      else if h.ftype = 2 then
        d.flit k h (fun d =>
          if op = 1 then d.linkFalls k 6
          else if op = 2 then d.sleepAsked k
          else if op = 5 then d.linkFalls k 8
          else if op = 3 ∨ op = 4 then d
          else d.linkFalls k 3)
      else d.linkFalls k 3

/-- A data frame, or a SKIP frame by its bytes (R206): FEC, descrambling, then its three flits; 8 uncorrectable frames in a row or 2,048 frames without a SKIP frame lose the
framing. -/
def Device.dataFrame (d : Device) (p : Nat) (fr : List Nat) : Device :=
  let k := LinkId.peer p
  let x := d.link k
  if x.state ≠ .active then d
  else if isSkip fr then d.skipFrame p false
  else
    let n := x.frames + 1
    match decodeFrame fr with
    | none =>
      let (_, scr) := scrambleBytes x.rxScr (fr.take 240)
      let d := (d.setLink k { x with rxScr := scr, badFrames := x.badFrames + 1, frames := n }).countSat PEER.FEC_UNCORR.COUNT p
      if 8 ≤ x.badFrames + 1 ∨ 2048 ≤ n then d.linkFalls k 1 else ((d.badCrc k).badCrc k).badCrc k
    | some (data, fixed) =>
      let (plain, scr) := scrambleBytes x.rxScr data
      let d := (d.setLink k { x with rxScr := scr, badFrames := 0, frames := n }).countSat PEER.FEC_CORR.COUNT p fixed
      if 2048 ≤ n then d.linkFalls k 1
      else (chunk 80 3 plain).foldl (fun (d : Device) b => d.frameFlit k b) d

/-- DATA_FRAME. -/
def execDataFrame (p : Nat) (bytes : List Nat) (s : State) : Host.Outcome State Fault Refusal := s.run (fun d => d.dataFrame p bytes)

/-- FRAMING_LOSS. -/
def execFramingLoss (k : LinkId) (s : State) : Host.Outcome State Fault Refusal :=
  s.run (fun d => if (d.link k).state = .active then d.linkFalls k 1 else d)

/-- REPLAY_TIMER_EXPIRY. -/
def execReplayTimerExpiry (k : LinkId) (s : State) : Host.Outcome State Fault Refusal :=
  s.run (fun d => if (d.link k).state = .active ∧ (d.link k).unacked.isEmpty = false then d.replay k else d)

/-- LOSS_OF_SIGNAL. -/
def execLossOfSignal (k : LinkId) (s : State) : Host.Outcome State Fault Refusal :=
  s.run (fun d => if (d.link k).state = .active then d.linkFalls k 4 else d)

/-- A write of LINK_CTL.RETRAIN: the device tells its partner and takes the link down; a link that is not trained starts over (R247). -/
def Device.retrainLink (d : Device) (k : LinkId) : Device :=
  match (d.link k).state with
  | .active => (d.sendLctl k 1).linkFalls k 7
  | .sleep | .detect | .ts1 | .ts2 | .ending => d.linkFalls k 7
  | .disabled | .quiet => if !(d.hasLink k) then d else d.setReg (lf k SITE.LINK_CTL.RETRAIN PEER.LINK_CTL.RETRAIN) 1 (linkNo k)

/-- LINK_CTL_RETRAIN. -/
def execLinkCtlRetrain (k : LinkId) (s : State) : Host.Outcome State Fault Refusal := s.run (fun d => d.retrainLink k)

/-- FORCE_NEW. -/
def execForceNew (k : LinkId) (s : State) : Host.Outcome State Fault Refusal :=
  s.run (fun d => if d.hasLink k then d.setReg (lf k SITE.LINK_CTL.FORCE_NEW PEER.LINK_CTL.FORCE_NEW) 1 (linkNo k) else d)

/-- RECEIVER_MARGINING: the eye of one receiver, kind 0 site, 1 peer, 2 host link (R596). -/
def execReceiverMargining (kind n height width : Nat) (s : State) : Host.Outcome State Fault Refusal :=
  s.run (fun d => { d with power := { d.power with eyes := KMap.put d.power.eyes (4096 * kind + n) (height, width) } })

end Sys2Proof.Machine
end

