-- ==== Sys2Proof/Machine/PowerCmds.lean ====
section
/-! DEFINITION. Droop, temperature, clock references, ageing, the margin plan, the calibration set and block power (Power, Clocks and
Ageing). -/

namespace Sys2Proof.Machine

/-- Change the power state. -/
def Device.setPower (d : Device) (p : Power) : Device := { d with power := p }

/-! ### Droop (R589 to R592) -/

/-- The number of detectors of a domain (R589). -/
def detectors (dom : Nat) : Nat := if dom = 0 then 12 else if dom < 8 then 4 else if dom = 8 then 2 else if dom < 15 then 1 else 0

/-- Does the clock of a droop domain run: main power is on, and the fail-services domain 7 of an LX9416-H never runs (R25)? -/
def Device.domainRuns (d : Device) (dom : Nat) : Bool := d.power.mainOn && !(d.hw.gradeH && dom == 7)

/-- A droop domain. -/
def Device.domain (d : Device) (dom : Nat) : Domain := KMap.get d.power.domains {} dom

/-- Replace a droop domain. -/
def Device.setDomain (d : Device) (dom : Nat) (x : Domain) : Device :=
  d.setPower { d.power with domains := KMap.put d.power.domains dom x }

/-- The throttle steps of a die. -/
def Device.throttleOf (d : Device) (die : Nat) : Nat := KMap.get d.power.throttle 0 die

/-- The dies that a domain's divider serves: a die-to-die domain both its dies. -/
def domainDies (dom : Nat) : List Nat :=
  if dom = 0 then [0] else if dom < 5 then [dom] else if dom < 9 then [0] else if dom < 13 then [0, dom - 4] else [0, dom - 4]

/-- The divider level of a domain: the lower of droop and throttle (R594, R604). -/
def Device.divLevel (d : Device) (dom : Nat) : Nat :=
  (domainDies dom).foldl (fun n die => max n (d.throttleOf die)) (d.domain dom).level

/-- A detector trips: every clock of the domain is stretched; each stretch counts 1 (R590). -/
def Device.droopTrip (d : Device) (dom det : Nat) : Device :=
  if detectors dom ≤ det ∨ d.domainRuns dom = false then d
  else
    let x := d.domain dom
    let d := if x.stretch then d else d.countSat PWR.STRETCHES.COUNT
    d.setDomain dom { x with tripped := if x.tripped.contains det then x.tripped else x.tripped ++ [det], stretch := true,
                             lastTrip := d.power.aon }

/-- DROOP_TRIP. -/
def execDroopTrip (dom det : Nat) (s : State) : Host.Outcome State Fault Refusal := s.run (fun d => d.droopTrip dom det)

/-- The last detector has been clear for 1 µs: the stretch ends. -/
def Device.stretchEnd (d : Device) (dom : Nat) : Device :=
  if dom < 15 then d.setDomain dom { d.domain dom with tripped := [], stretch := false } else d

/-- STRETCH_END. -/
def execStretchEnd (dom : Nat) (s : State) : Host.Outcome State Fault Refusal := s.run (fun d => d.stretchEnd dom)

/-- A trip has lasted longer than 10 µs: the divider steps down one level, not below 3/4, and the stretch ends (R591). Each step is a CE
with a POWER record; a sag at 3/4 is only counted, one under a throttle at 1/2 recorded (R604). -/
def Device.droopSag (d : Device) (dom det : Nat) : Device :=
  let x := d.domain dom
  if !(x.tripped.contains det) || 15 ≤ dom || !(d.domainRuns dom) then d
  else
    let d := d.countSat PWR.SAGS.COUNT
    let held := decide (d.divLevel dom = 3)
    let n := min 2 (x.level + 1)
    let d := d.setDomain dom { x with level := n, stretch := false, lastTrip := d.power.aon }
    let v := d.divLevel dom
    if n = x.level ∧ held = false then d
    else (d.raise PWR.flag.DROOP_SAG 0 [dom, det, v] [dom, det, v]).powerRecord [0x10, dom, det, v] [dom, det, v]

/-- DROOP_SAG. -/
def execDroopSag (dom det : Nat) (s : State) : Host.Outcome State Fault Refusal := s.run (fun d => d.droopSag dom det)

/-- HOLD_MS without a trip: the divider returns one level up (R591); the next level takes HOLD_MS more (DEDUCED, log entry 134). -/
def Device.divRestore (d : Device) (dom : Nat) : Device :=
  let x := d.domain dom
  if x.level = 0 ∨ x.tripped.isEmpty = false ∨ 15 ≤ dom ∨ d.power.aon < x.lastTrip + 1000000 * d.reg PWR.DROOP_CTL.HOLD_MS then d
  else (d.setDomain dom { x with level := x.level - 1, lastTrip := d.power.aon }).evt PWR.flag.DIV_RESTORE

/-- DIV_RESTORE. -/
def execDivRestore (dom : Nat) (s : State) : Host.Outcome State Fault Refusal := s.run (fun d => d.divRestore dom)

/-! ### Temperature (R593, R594) -/

/-- The die of a sensor: 0 Hub, 1 to 4 Tier 0, 5 to 8 SIO, 9 and 10 WIO. -/
def sensorDie (n : Nat) : Nat := if n < 12 then 0 else if n < 20 then 1 + (n - 12) / 2 else if n < 28 then 5 + (n - 20) / 2 else 9 + (n - 28) / 2

/-- A sensor's reading in °C. -/
def Device.sensor (d : Device) (n : Nat) : Int := KMap.get d.power.sensors 25 n

/-- The sensors of a die that are not excluded. -/
def Device.validSensors (d : Device) (die : Nat) : List Nat :=
  (List.range 32).filter (fun n => sensorDie n == die && !(d.power.excluded.contains n))

/-- Tj and the sensor that gives it: a die without a valid sensor counts as 105 °C (R593). -/
def Device.tj (d : Device) : Int × Nat :=
  (List.range 32).foldl (fun (m : Int × Nat) n =>
    let blind := (d.validSensors (sensorDie n)).isEmpty
    let v := if blind then 105 else d.sensor n
    if (blind || !(d.power.excluded.contains n)) && decide (m.1 < v) then (v, n) else m) (-1000, 0)

/-- A sensor out of −20 to 150 °C, or more than 15 °C from the others of its die, is excluded (R593), until the next reset (DESIGN CHOICE, log
entry 135). -/
def Device.checkSensor (d : Device) (n : Nat) : Device :=
  let t := d.sensor n
  let others := (d.validSensors (sensorDie n)).filter (fun k => k != n)
  let bad := decide (t < -20) || decide (150 < t) || (!others.isEmpty && others.all (fun k => decide (15 < (d.sensor k - t).natAbs)))
  if bad && !(d.power.excluded.contains n) then
    (d.setPower { d.power with excluded := d.power.excluded ++ [n] }).raise PWR.flag.SENSOR_FAULT 0 [n] [n]
  else d

/-- New readings of sensors, each checked; TJ_PEAK follows. -/
def Device.readSensors (d : Device) (l : List (Nat × Int)) : Device :=
  let ok := l.filter (fun e => decide (e.1 < 32))
  let d := d.setPower { d.power with sensors := ok.foldl (fun (m : KMap Int) e => KMap.put m e.1 e.2) d.power.sensors }
  let d := ok.foldl (fun (d : Device) e => d.checkSensor e.1) d
  d.setReg PWR.TJ_PEAK.TJ (max (d.reg PWR.TJ_PEAK.TJ) (min 255 d.tj.1.toNat))

/-- One throttle step on the hottest die, down to 1/2. -/
def Device.throttleMore (d : Device) : Device :=
  let die := sensorDie d.tj.2
  d.setPower { d.power with throttle := KMap.put d.power.throttle die (min 3 (d.throttleOf die + 1)) }

/-- One throttle step less, on the die with the most; THROTTLE_OFF with the last. -/
def Device.throttleLess (d : Device) : Device :=
  if !d.throttling then d
  else
    let die := (List.range 11).foldl (fun (m : Nat) n => if d.throttleOf m < d.throttleOf n then n else m) 0
    let d := d.setPower { d.power with throttle := KMap.put d.power.throttle die (d.throttleOf die - 1) }
    if d.throttling then d else d.evt PWR.flag.THROTTLE_OFF

/-- Tj reaches 105 °C. -/
def Device.throttleOn (d : Device) (l : List (Nat × Int)) : Device :=
  let d := d.readSensors l
  if 105 ≤ d.tj.1 then (d.evt PWR.flag.THROTTLE_ON).throttleMore else d

/-- THROTTLE_ON, with the readings that reach it. -/
def execThrottleOn (readings : List (Nat × Int)) (s : State) : Host.Outcome State Fault Refusal := s.run (fun d => d.throttleOn readings)

/-- Every 1 ms at 105 °C or more one step more; every 10 ms below 100 °C one less. -/
def Device.throttleStep (d : Device) (l : List (Nat × Int)) : Device :=
  let d := d.readSensors l
  if 105 ≤ d.tj.1 then d.throttleMore else if d.tj.1 < 100 then d.throttleLess else d

/-- THROTTLE_STEP_TIMER. -/
def execThrottleStepTimer (readings : List (Nat × Int)) (s : State) : Host.Outcome State Fault Refusal :=
  s.run (fun d => d.throttleStep readings)

/-- Tj has been 115 °C or more for 10 µs: an FT; the item of a margin plan that runs is dropped (R594, R604). -/
def Device.thermTrip (d : Device) (l : List (Nat × Int)) : Device :=
  let d := d.readSensors l
  if 115 ≤ d.tj.1 then
    (d.setPower { d.power with plan := { d.power.plan with current := none } }).raise PWR.flag.THERM_TRIP 0 [] []
  else d

/-- THERM_TRIP. -/
def execThermTrip (readings : List (Nat × Int)) (s : State) : Host.Outcome State Fault Refusal := s.run (fun d => d.thermTrip readings)

/-- SENSOR_FAULT. -/
def execSensorFault (n : Nat) (t : Int) (s : State) : Host.Outcome State Fault Refusal := s.run (fun d => d.readSensors [(n, t)])

/-! ### Ageing and the margin plan (R595 to R600) -/

/-- The degradation of a monitor in units of 0.01 %, rounded towards 0 (R595): 0 where its baseline is torn (R601). Where a count or ratio of 0, or a
result that 16 bits cannot show, leaves it open, it is the free value `free` (DESIGN CHOICE, log entry 137). -/
def Device.degradation (d : Device) (m fs fr free : Nat) : Nat :=
  let w := Config.baselineWord m % 2 ^ 18
  let (num, den) := Config.baselineRatio (KMap.get d.power.cal.used 0 w)
  let x : Int := 10000 - 10000 * (fs : Int) * den / ((fr : Int) * num)
  if d.power.cal.usedTorn.contains (w / 1024) then 0
  else if fr * num = 0 ∨ x < 0 ∨ 65536 ≤ x then free % 65536
  else x.toNat

/-- Every hour the oscillators of the monitors are counted, and the degradations follow (R595). -/
def Device.ageing (d : Device) (l : List (Nat × Nat × Nat)) : Device :=
  let ok := l.filter (fun e => decide (e.1 < 64))
  let d := ok.foldl (fun (d : Device) e =>
    let v := d.degradation e.1 e.2.1 e.2.2 (Config.freeNat d.fresh)
    d.nextFree.setPower { d.power with degr := KMap.put d.power.degr e.1 v }) d
  let w := d.power.degr.foldl (fun (m : Nat × Nat) e => if m.1 < e.2 then (e.2, e.1) else m) (0, 0)
  (d.setReg AGE.WORST.DEGR w.1).setReg AGE.WORST.MONITOR w.2

/-- AGEING_MEASURE. -/
def execAgeingMeasure (counts : List (Nat × Nat × Nat)) (s : State) : Host.Outcome State Fault Refusal := s.run (fun d => d.ageing counts)

/-- The bytes that name an item: kind 0 VCORE_UP, 1 PORT_REEQ, 2 CH_RETRAIN, 3 RATE_DOWN. -/
def itemBytes : PlanItem → List Nat
  | .vcoreUp m => [0, m, 0, 0]
  | .portReeq k n => [1, k] ++ leBytes 2 n
  | .chRetrain c => [2, c, 0, 0]
  | .rateDown => [3, 0, 0, 0]

/-- A plan is made; it replaces the items of the previous one that wait (R597, R604). It needs firmware. A RATE_DOWN item waits for the
system (R600). -/
def Device.makePlan (d : Device) (items : List PlanItem) : Device :=
  if !d.fwAlive || !d.hubUp then d
  else
    let d := d.setPower { d.power with plan := { d.power.plan with items := items } }
    let d := (d.setPair AGE.LAST_PLAN_LO.TIME AGE.LAST_PLAN_HI.TIME d.time).evt AGE.flag.PLAN_DONE
    if items.contains .rateDown then
      ((d.setReg AGE.PLAN_STAT.NEEDS_HANDOVER 1).evt AGE.flag.NEEDS_HANDOVER).powerRecord (0x13 :: itemBytes .rateDown) []
    else d.setReg AGE.PLAN_STAT.NEEDS_HANDOVER 0

/-- Is a plan due: PERIOD_D days have passed since the last one (R597)? -/
def Device.planIsDue (d : Device) : Bool :=
  let last := d.regPair AGE.LAST_PLAN_LO.TIME AGE.LAST_PLAN_HI.TIME
  decide (d.time < last) || decide (last + 86400 * 10 ^ 9 * d.reg AGE.PLAN_CTL.PERIOD_D ≤ d.time)

/-- PLAN_DUE: the items are those that the measurements call for. -/
def execPlanDue (items : List PlanItem) (s : State) : Host.Outcome State Fault Refusal :=
  s.run (fun d => if d.planIsDue then d.makePlan items else d)

/-- REPLAN. -/
def execReplan (items : List PlanItem) (s : State) : Host.Outcome State Fault Refusal := s.run (fun d => d.makePlan items)

/-- The next item: VCORE_UP before PORT_REEQ before CH_RETRAIN; RATE_DOWN is never applied (R599, R600). One that must wait holds back those after it
(DESIGN CHOICE, log entry 136). -/
def MarginPlan.next (x : MarginPlan) : Option PlanItem :=
  let isV (i : PlanItem) : Bool := match i with | .vcoreUp _ => true | _ => false
  let isP (i : PlanItem) : Bool := match i with | .portReeq .. => true | _ => false
  let isC (i : PlanItem) : Bool := match i with | .chRetrain _ => true | _ => false
  match x.items.find? isV with
  | some i => some i
  | none => match x.items.find? isP with
    | some i => some i
    | none => x.items.find? isC

/-- Can every other device of the quartet be reached without a mesh port? -/
def Device.meshSpare (d : Device) (p : Nat) : Bool :=
  let e := { d with twin := { d.twin with peerOk := d.twin.peerOk.filter (fun q => q != p) } }
  (d.twin.inService.filter (fun a => a / 4 == d.side && a != d.myArr)).all (fun a => (e.routeTo a).isSome)

/-- Do the conditions of R599 for an item hold? -/
def Device.itemReady (d : Device) (i : PlanItem) : Bool :=
  match i with
  | .vcoreUp _ => true
  | .portReeq 0 s => (d.link (.site s)).state == .active
  | .portReeq 1 p =>
    if 3 ≤ p then d.twin.peerOk.contains (7 - p) && !(d.stream (4 - p)).moved
    else d.meshSpare p
  | .portReeq _ n => (d.hostLink (n / 2) (n % 2)).up
  | .chRetrain _ => d.twin.svc == .paired && d.twinServes && (List.range 16).all (fun k => (d.chan k).inService)
  | .rateDown => false

/-- Take an item off the plan. -/
def Device.dropItem (d : Device) (i : PlanItem) : Device :=
  d.setPower { d.power with plan := { d.power.plan with items := d.power.plan.items.erase i } }

/-- An item starts (R597, R598). The stream of a twin link moves first, and the link is reset at the next tick. -/
def Device.startItem (d : Device) (i : PlanItem) : Device :=
  let mark (d : Device) : Device := d.setPower { d.power with plan := { d.power.plan with current := some i } }
  let run := mark (d.dropItem i)
  match i with
  | .vcoreUp m =>
    if 10 ≤ d.reg AGE.VCORE_OFS.STEPS then ((d.dropItem i).evt AGE.flag.AGE_LIMIT).powerRecord [0x11, m] [m] else run
  | .portReeq 0 s => mark ((d.dropItem i).retrainLink (.site s))
  | .portReeq 1 p => if 3 ≤ p then (run.setPower { run.power with plan := { run.power.plan with armed := some p } }).failover p
    else mark ((d.dropItem i).retrainLink (.peer p))
  | .portReeq _ _ => run
  | .chRetrain c => run.startRetrain c
  | .rateDown => d

/-- PLAN_ITEM_START: one item at a time, with AUTO_APPLY = 1 and firmware; an item whose conditions fail waits (R599). -/
def Device.itemStart (d : Device) : Device :=
  if !d.fwAlive || !d.hubUp || !(d.flagReg AGE.PLAN_CTL.AUTO_APPLY) || d.power.plan.current.isSome then d
  else match d.power.plan.next with
    | some i => if d.itemReady i then d.startItem i else d
    | none => d

/-- PLAN_ITEM_START. -/
def execPlanItemStart (s : State) : Host.Outcome State Fault Refusal := s.run Device.itemStart

/-- The twin link whose stream has moved for a margin plan is reset (R597). -/
def Device.reeqReset (d : Device) : Device :=
  match d.power.plan.armed with
  | some p =>
    let i := d.power.plan.current
    let d := (d.setPower { d.power with plan := { d.power.plan with current := none, armed := none } }).retrainLink (.peer p)
    d.setPower { d.power with plan := { d.power.plan with current := i } }
  | none => d

/-- The item that runs ends: applied, with a POWER record, or failed and dropped. -/
def Device.itemEnd (d : Device) (ok : Bool) : Device :=
  match d.power.plan.current with
  | none => d
  | some i =>
    let d := d.setPower { d.power with plan := { d.power.plan with current := none } }
    if ok then
      let d := match i with | .vcoreUp _ => d.setReg AGE.VCORE_OFS.STEPS (min 10 (d.reg AGE.VCORE_OFS.STEPS + 1)) | _ => d
      (d.evt AGE.flag.ITEM_APPLIED).powerRecord (0x12 :: itemBytes i) (itemBytes i)
    else d.raise AGE.flag.ITEM_FAILED 0 (itemBytes i) (itemBytes i)

/-- PLAN_ITEM_END. -/
def execPlanItemEnd (ok : Bool) (s : State) : Host.Outcome State Fault Refusal := s.run (fun d => d.itemEnd ok)

/-! ### Clock references (R588) -/

/-- The site links of a quadrant that are up. -/
def Device.quadrantSites (d : Device) (q : Nat) : List Nat :=
  (d.links.filter (fun e => decide (e.1 < 1024) && e.1 / 256 == q && (e.2.state == .active || e.2.state == .sleep))).map (fun e => e.1)

/-- The consequences of a lost reference: of an SIO its site links and channels, and a CH_RETRAIN of one of them fails (R604); of the host and peer ports their links. -/
def Device.refConsequence (d : Device) (r : Nat) : Device :=
  if r < 4 then
    let d := (d.quadrantSites r).foldl (fun (d : Device) s => d.linkFalls (.site s) 4) d
    let d := match d.power.plan.current with
      | some (.chRetrain c) => if c / 4 = r then d.itemEnd false else d
      | _ => d
    ((List.range 4).map (fun k => 4 * r + k)).foldl (fun (d : Device) c => if (d.chan c).inService then d.startRetrain c else d) d
  else
    let d := (List.range 8).foldl (fun (d : Device) k =>
      if (d.hostLink (k / 2) (k % 2)).up then (d.contain (k / 2) (k % 2) 1).proceed else d) d
    (List.range 5).foldl (fun (d : Device) p => if (d.link (.peer p)).state = .active then d.linkFalls (.peer p) 4 else d) d

/-- A reference is lost: 0 to 3 SIO, 4 host/peer. -/
def Device.refLoss (d : Device) (r : Nat) : Device :=
  if 5 ≤ r ∨ d.power.refsLost.contains r = true ∨ d.power.mainOn = false then d
  else ((d.setPower { d.power with refsLost := d.power.refsLost ++ [r] }).raise PWR.flag.REF_LOSS 0 [r] [r]).refConsequence r

/-- REF_LOSS. -/
def execRefLoss (r : Nat) (s : State) : Host.Outcome State Fault Refusal := s.run (fun d => d.refLoss r)

/-- XTAL_LOSS: the always-on clock switches to the RC oscillator. -/
def execXtalLoss (s : State) : Host.Outcome State Fault Refusal :=
  s.run (fun d => if d.power.refsLost.contains 5 then d
    else (d.setPower { d.power with refsLost := d.power.refsLost ++ [5] }).raise PWR.flag.XTAL_LOSS 0 [] [])

/-- REF_RETURN: a reference is used again; 5 is the crystal. -/
def execRefReturn (r : Nat) (s : State) : Host.Outcome State Fault Refusal :=
  s.run (fun d => d.setPower { d.power with refsLost := d.power.refsLost.filter (fun x => x != r) })

/-- An SIO reference has been absent for 100 ms: its channels are FAILED. -/
def Device.sioTimeout (d : Device) (q : Nat) : Device :=
  if q < 4 ∧ d.power.refsLost.contains q = true then
    (((List.range 4).map (fun k => 4 * q + k)).foldl (fun (d : Device) c =>
      if (d.chan c).state = .retraining then d.failChannel c else d) d).chanChanged
  else d

/-- SIO_REF_TIMEOUT. -/
def execSioRefTimeout (q : Nat) (s : State) : Host.Outcome State Fault Refusal := s.run (fun d => d.sioTimeout q)

/-- A main rail leaves its limits while BLADE_PG is asserted (R614), or the rails are not good 50 ms after it rose. -/
def Device.railsOut (d : Device) (iout vout : Nat) : Device :=
  if d.power.hsw.state = .pg then (d.measured2 iout vout).trip 7 else d

/-- VR_ALERT (R668). -/
def execVrAlert (iout vout : Nat) (s : State) : Host.Outcome State Fault Refusal := s.run (fun d => d.railsOut iout vout)

/-! ### The calibration set (R601 to R603, R605) -/

/-- Change the calibration set. -/
def Device.setCal (d : Device) (x : Calibration) : Device := d.setPower { d.power with cal := x }

/-- May an agent write the CAL registers: a host link with MGMT_EN, as which a DMA queue counts, or the endpoint (R603, R652)? -/
def Device.calAgent (d : Device) (ag : Agent) : Bool :=
  match ag with
  | .host p l => d.mgmtLink p l
  | .endpoint => d.power.mainOn && !d.power.hubReset
  | .dma _ => true
  | _ => false

/-- CAL_CMD.OPEN. -/
def Device.calOpen (d : Device) (ag : Agent) : Device :=
  let x := d.power.cal
  if !(d.calAgent ag) then d
  else if x.run != .idle || x.staging.isSome then d.setReg CAL.CAL_CMD.RESULT 1
  else (d.setCal { x with run := .opening }).setReg CAL.CAL_CMD.RESULT 0

/-- CAL_OPEN. -/
def execCalOpen (ag : Agent) (s : State) : Host.Outcome State Fault Refusal := s.run (fun d => d.calOpen ag)

/-- CAL_CMD.COMMIT. -/
def Device.calCommit (d : Device) (ag : Agent) : Device :=
  let x := d.power.cal
  if !(d.calAgent ag) then d
  else if x.run != .idle then d.setReg CAL.CAL_CMD.RESULT 1
  else if x.staging.isNone then d.setReg CAL.CAL_CMD.RESULT 2
  else (d.setCal { x with run := .committing }).setReg CAL.CAL_CMD.RESULT 0

/-- CAL_COMMIT. -/
def execCalCommit (ag : Agent) (s : State) : Host.Outcome State Fault Refusal := s.run (fun d => d.calCommit ag)

/-- CAL_CMD.ABORT: the staging is discarded; a COMMIT that runs goes on. -/
def Device.calAbort (d : Device) (ag : Agent) : Device :=
  let x := d.power.cal
  if !(d.calAgent ag) then d
  else if x.run = .committing then d.setReg CAL.CAL_CMD.RESULT 1
  else if x.run = .idle ∧ x.staging.isNone = true then d.setReg CAL.CAL_CMD.RESULT 2
  else (d.setCal { x with run := .idle, staging := none }).setReg CAL.CAL_CMD.RESULT 0

/-- CAL_ABORT. -/
def execCalAbort (ag : Agent) (s : State) : Host.Outcome State Fault Refusal := s.run (fun d => d.calAbort ag)

/-- A word of a section, with its CRC-32C as the last word (R601). -/
def withCrc (m : KMap Nat) (k : Nat) : KMap Nat :=
  let bytes := (List.range 1023).flatMap (fun i => leBytes 4 (KMap.get m 0 (1024 * k + i)))
  KMap.put m (1024 * k + 1023) (crc32c bytes)

/-- The OPEN copy or the COMMIT ends (R602). -/
def Device.calDone (d : Device) : Device :=
  let x := d.power.cal
  match x.run with
  | .idle => d
  | .opening => d.setCal { x with run := .idle, staging := some x.words }
  | .committing =>
    let ks := x.changed
    let st := match x.staging with | some m => some (ks.foldl withCrc m) | none => none
    let y := ({ x with staging := st } : Calibration).programmed 256
    let d := d.setCal { y with run := .idle, staging := none }
    ((d.setReg CAL.CAL_STAT.USER 1).evt CAL.flag.COMMITTED).powerRecord [0x14] []

/-- CAL_OPERATION_DONE. -/
def execCalOperationDone (s : State) : Host.Outcome State Fault Refusal := s.run Device.calDone

/-- The word at CAL_OFS: of the staging area while it is open, otherwise of the set. -/
def Device.calWord (d : Device) : Nat :=
  let m := match d.power.cal.staging with | some s => s | none => d.power.cal.words
  KMap.get m 0 (d.reg CAL.CAL_OFS.OFS)

/-- Each access to CAL_DATA adds 4 to CAL_OFS. -/
def Device.calStep (d : Device) : Device := d.setReg CAL.CAL_OFS.OFS (d.reg CAL.CAL_OFS.OFS + 1)

/-- A write of CAL_DATA: into the staging area; without one it has no effect but RESULT NOT_OPEN. -/
def Device.calWrite (d : Device) (ag : Agent) (v : Nat) : Device :=
  if !(d.calAgent ag) then d
  else
    let d := match d.power.cal.staging with
      | some s => d.setCal { d.power.cal with staging := some (KMap.put s (d.reg CAL.CAL_OFS.OFS) (v % 2 ^ 32)) }
      | none => d.setReg CAL.CAL_CMD.RESULT 2
    d.calStep

/-! ### Block power (R583 to R586) -/

/-- Pages whose blocks run whenever main power is on (R584). -/
def Page.alwaysRuns : Page → Bool
  | .dev | .fc | .evtsum | .region | .coh | .qos | .twin | .mint | .fwsec | .secalm | .ledger | .rst | .pwr | .hsw => true
  | _ => false

/-- Blocks that stop their clock and never gate their power (R584, R586). -/
def Page.notGated : Page → Bool
  | .mcast | .batch | .bwin | .baker | .integ | .dma | .host | .peer | .ddrch | .mgmt => true
  | _ => false

/-- Is a block idle as far as its links, channels and work tell (R585, R586)? -/
def Device.blockIdle (d : Device) (p : Page) (i : Nat) : Bool :=
  match p with
  | .site => (List.range 16).all (fun k => (d.link (.site (i / 16 * 16 + k))).state == .sleep || (d.link (.site (i / 16 * 16 + k))).state == .disabled)
  | .peer => (d.link (.peer i)).state == .disabled || (d.link (.peer i)).state == .quiet
  | .host => !(d.hostLink i 0).up && !(d.hostLink i 1).up
  | .ddrch => (d.chan i).state == .selfRefresh
  | .assay => !(d.eng.jobs.any (fun j => j.running))
  | .dma => d.eng.jobs.isEmpty && d.eng.held.isEmpty
  | .baker => d.tier.migrations.isEmpty && !d.tier.sweeping
  | .batch | .bwin => d.batch.home.isEmpty
  | _ => true

/-- The pages that share the clock of a page: the 16 links of a site group (R27), otherwise the page alone. -/
def clockPages (p : Page) (i : Nat) : List Nat := match p with | .site => (List.range 16).map (fun k => i / 16 * 16 + k) | _ => [i]

/-- The clock of a page stops and its power is gated as its policy tells. -/
def Device.gatePage (d : Device) (p : Page) (i : Nat) : Device :=
  let h := d.page p i
  d.setPage p i { h with clkOn := false, pwrOn := h.policy == 1 || p.notGated, stoppedAt := if h.clkOn then d.power.aon else h.stoppedAt }

/-- A block has been idle for 100 µs: its clock stops and its power is gated, as its policy allows. An idle site link first asks for
SLEEP; its clock is that of its group, so it stops for all 16 links once every one is idle and none is ALWAYS_RUN (R27). -/
def Device.powerGate (d : Device) (p : Page) (i : Nat) : Device :=
  if Page.count d.hw.gradeH p ≤ i ∨ d.hubUp = false then d
  else
    let d := match p with | .site => d.askSleep (.site i) | _ => d
    if p.alwaysRuns || (d.page p i).policy == 3 || (clockPages p i).any (fun k => (d.page p k).policy == 2) || !(d.blockIdle p i) then d
    else ((clockPages p i).filter (fun k => (d.page p k).policy != 3)).foldl (fun (d : Device) k => d.gatePage p k) d

/-- BLOCK_POWER_GATE. -/
def execBlockPowerGate (p : Page) (i : Nat) (s : State) : Host.Outcome State Fault Refusal := s.run (fun d => d.powerGate p i)

/-- The clock of a block runs again; a POWER_POLICY written while it was gated takes effect (R604). -/
def PageHdr.woken (h : PageHdr) (now : Nat) : PageHdr :=
  let h := { h with policy := h.policyNext.getD h.policy, policyNext := none }
  if h.policy = 3 then { h with clkOn := false, pwrOn := false }
  else if h.clkOn then { h with pwrOn := true } else { h with clkOn := true, pwrOn := true, stopped := h.stopped + (now - h.stoppedAt) }

end Sys2Proof.Machine
end

