-- ==== Sys2Proof/Machine/Board.lean ====
section
/-! DEFINITION. The blade supply, insertion and extraction, AUX, the endpoint's power commands, and block resets (Blade Power, Insertion
and Reset, R607 to R638). -/

namespace Sys2Proof.Machine

/-! ### Insertion and extraction (R622 to R624) -/

/-- PRSNT_L falls: the debounce starts. -/
def Device.seated (d : Device) : Device :=
  let h := { d.power.hsw with prsnt := true, prsntAt := if d.power.hsw.prsnt then d.power.hsw.prsntAt else d.power.aon }
  d.setHsw { h with state := if h.gate then h.state else h.idle }

/-- PRSNT_L_FALL. -/
def execPrsntLFall (s : State) : Host.Outcome State Fault Refusal := s.run Device.seated

/-- Insertion is recognised 100 ms after PRSNT_L fell or AUX became good: a pending retry starts its whole delay again, otherwise the FET may turn on (R619, R622). -/
def Device.inserted (d : Device) : Device :=
  let h := d.power.hsw
  if !h.prsnt || !d.power.auxOk || h.recognised || decide (d.power.aon < h.prsntAt + 100 * 10 ^ 6) then d
  else
    let retry := if h.retryAt.isSome then some (d.power.aon + d.retryDelay) else none
    let d := d.setHsw { h with recognised := true, retryAt := retry, startCause := 0 }
    (d.evt HSW.flag.INSERTED).turnOn

/-- INSERTION_RECOGNISED. -/
def execInsertionRecognised (s : State) : Host.Outcome State Fault Refusal := s.run Device.inserted

/-- PRSNT_L rises: no debounce; a pending retry stays pending (R619, R623). -/
def Device.extracted (d : Device) : Device :=
  let h := d.power.hsw
  if !h.prsnt then d
  else
    let d := d.setHsw { h with prsnt := false, recognised := false }
    let d := (d.bladeGoes).evt HSW.flag.EXTRACTED
    if d.power.auxOk then d.powerRecord [0x05] [] else d

/-- EXTRACTION. -/
def execExtraction (s : State) : Host.Outcome State Fault Refusal := s.run Device.extracted

/-- 100 µs after an extraction or an OFF the gate turns off. An off hold that was cleared meanwhile lets the FET turn on again. -/
def Device.gateTimer (d : Device) : Device :=
  if d.power.hsw.gateOff ∧ d.power.hsw.gateOffFrom + 100000 ≤ d.power.aon then (d.gateDown (if d.power.hsw.prsnt then 3 else 2)).turnOn else d

/-- GATE_OFF_TIMER. -/
def execGateOffTimer (s : State) : Host.Outcome State Fault Refusal := s.run Device.gateTimer

/-! ### The supply (R608 to R621) -/

/-- The ramp is complete: VIN − VOUT is 1.0 V or less. -/
def Device.rampEnds (d : Device) (iout vout : Nat) : Device :=
  let d := d.measured2 iout vout
  let h := d.power.hsw
  if h.state = .ramp ∧ h.vin ≤ vout + 100 then d.setHsw { h with state := .on } else d

/-- RAMP_COMPLETE: the measurements in units of 10 mA and 10 mV. -/
def execRampComplete (iout vout : Nat) (s : State) : Host.Outcome State Fault Refusal := s.run (fun d => d.rampEnds iout vout)

/-- The 64th good cycle: BLADE_PG rises, unless the cycle fails a condition (R616). -/
def Device.pgRises (d : Device) (iout vout : Nat) : Device :=
  let d := d.measured2 iout vout
  let h := d.power.hsw
  if h.state = .on ∧ d.outputOk = true ∧ d.inLimit = false then
    (d.setHsw { h with state := .pg, pgAt := d.power.aon }).evt HSW.flag.PG_ON
  else d

/-- PG_QUALIFIED. -/
def execPgQualified (iout vout : Nat) (s : State) : Host.Outcome State Fault Refusal := s.run (fun d => d.pgRises iout vout)

/-- BLADE_PG falls without a trip: the rails fall, and a new qualification leads to a cold start (R617). -/
def Device.windowLost (d : Device) (vout : Nat) : Device :=
  let d := d.measured2 d.power.hsw.iout vout
  if d.power.hsw.state = .pg ∧ d.outputOk = false then
    let d := (d.evt HSW.flag.PG_OFF).mainOff
    d.setHsw { d.power.hsw with state := .on, prevOff := 5, startCause := 4 }
  else d

/-- PG_WINDOW_LOSS. -/
def execPgWindowLoss (vout : Nat) (s : State) : Host.Outcome State Fault Refusal := s.run (fun d => d.windowLost vout)

/-- A trip on measurements, where its condition holds for them. -/
def Device.tripOn (d : Device) (iout vout cause : Nat) (cond : Device → Bool) : Device :=
  let d := d.measured2 iout vout
  if cond d then d.trip cause else d

/-- FAULT_TIMER: the fault timer reaches FAULT_US while in limit (R610). -/
def execFaultTimer (iout vout : Nat) (s : State) : Host.Outcome State Fault Refusal :=
  s.run (fun d => d.tripOn iout vout 1 Device.inLimit)

/-- FAST: at least twice ILIM for 1 µs (R611). -/
def execFast (iout vout : Nat) (s : State) : Host.Outcome State Fault Refusal :=
  s.run (fun d => d.tripOn iout vout 2 (fun d => decide (50 * d.reg HSW.HSW_CFG.ILIM ≤ d.power.hsw.iout)))

/-- FET_MEAS: the measured FET temperature in °C (R612). -/
def execFetMeas (t : Int) (s : State) : Host.Outcome State Fault Refusal :=
  s.run (fun d =>
    if t < -40 ∨ 200 < t then d.tsnsFails
    else
      let d := d.setHsw { d.power.hsw with tMeas := t }
      if 150 ≤ t then d.trip 3 else d)

/-- FET_MODEL: one cycle of the model with the input voltage measured in it (R612); the ticks run it with the last one. -/
def execFetModel (vin : Nat) (s : State) : Host.Outcome State Fault Refusal :=
  s.run (fun d => (d.setHsw { d.power.hsw with vin := vin }).fetCycle)

/-- OV: the output above OV_V for 1 µs (R613). -/
def execOv (iout vout : Nat) (s : State) : Host.Outcome State Fault Refusal :=
  s.run (fun d => d.tripOn iout vout 5 (fun d => decide (100 * d.reg HSW.HSW_WIN.OV_V < d.power.hsw.vout)))

/-- UV: the output below UV_V for 100 µs after the ramp (R613). -/
def execUv (iout vout : Nat) (s : State) : Host.Outcome State Fault Refusal :=
  s.run (fun d => d.tripOn iout vout 6 (fun d =>
    (d.power.hsw.state == .on || d.power.hsw.state == .pg) && decide (d.power.hsw.vout < 100 * d.reg HSW.HSW_WIN.UV_V)))

/-- RAILS (R614). -/
def execRails (iout vout : Nat) (s : State) : Host.Outcome State Fault Refusal := s.run (fun d => d.railsOut iout vout)

/-- The retry delay ends (R618): a retry waits for the blade to be recognised, and a lockout for its end (R619, R620). -/
def Device.retryDue (d : Device) : Device :=
  let h := d.power.hsw
  if (match h.retryAt with | some t => decide (t ≤ d.power.aon) | none => false) && h.recognised && !h.locked then (d.setHsw { h with retryAt := none, startCause := 1 }).turnOn else d

/-- RETRY_DELAY_EXPIRY. -/
def execRetryDelayExpiry (s : State) : Host.Outcome State Fault Refusal := s.run Device.retryDue

/-- TRIP_COUNT_CLEAR: BLADE_PG has stayed for 60 s (R621). -/
def execTripCountClear (s : State) : Host.Outcome State Fault Refusal :=
  s.run (fun d => if d.power.hsw.state = .pg ∧ d.power.hsw.pgAt + 60 * 10 ^ 9 ≤ d.power.aon then d.setReg HSW.HSW_STAT.TRIP_COUNT 0 else d)

/-- Main rails good after BLADE_PG: the Hub leaves reset. -/
def Device.railsGood (d : Device) : Device :=
  if d.power.hsw.state = .pg then { d with power := { d.power with mainOn := true } } else d

/-- MAIN_RAILS_GOOD. -/
def execMainRailsGood (s : State) : Host.Outcome State Fault Refusal := s.run Device.railsGood

/-- VIN_IN_RANGE: the measured VIN in units of 10 mV; within 40 to 60 V the FET may turn on (R608). -/
def execVinInRange (vin : Nat) (s : State) : Host.Outcome State Fault Refusal :=
  s.run (fun d => (d.setHsw { d.power.hsw with vin := vin }).turnOn)

/-- TSNS_FAULT (R612). -/
def execTsnsFault (s : State) : Host.Outcome State Fault Refusal := s.run Device.tsnsFails

/-! ### AUX (R625, R629, R633) -/

/-- AUX is lost: the gate, BLADE_PG and the heartbeat fall; the record that was being programmed is torn (R529). -/
def Device.auxLost (d : Device) : Device :=
  if !d.power.auxOk then d
  else
    let d := d.gateDown 4
    let h := d.power.hsw
    let d := d.setHsw { h with recognised := false, gateOff := false, prevOff := 4 }
    let g := d.ldg
    let g := match g.queue with
      | [] => g
      | r :: _ => ({ g with recs := KMap.put g.recs (64 * g.pos + g.slot) { r with torn := true } } : Ledger).advance
    { d with ldg := { g with queue := [] }, power := { d.power with auxOk := false } }

/-- AUX_LOST. -/
def execAuxLost (s : State) : Host.Outcome State Fault Refusal := s.run Device.auxLost

/-- The fields of a page that are not kept take their values at reset, in page `i` or in every page and bank of the type. -/
def Device.resetRegs (d : Device) (p : Page) (i : Option Nat) : Device :=
  { d with regs := d.regs.keep (fun k _ =>
      let mine := match i with | some i => k / 2 ^ 17 == p.pid i | none => k / 2 ^ 27 == p.code
      !mine || p.fields.any (fun x => x.kept && x.off * 32 + x.lo == k % 2 ^ 17)) }

/-- AUX is good: an AUX start begins. The Strongbox samples the straps, and the HSW page takes its values at reset (R625, R633, R671). -/
def Device.auxGood (d : Device) : Device :=
  if d.power.auxOk then d
  else
    let d := (d.resetRegs .hsw none).setPage .hsw 0 {}
    let h := d.power.hsw
    let h := { h with auxStart := true, recognised := false, gate := false, gateOff := false, prsntAt := d.power.aon }
    { d with qid := d.hw.strapQid, side := d.hw.strapSide, power := { d.power with auxOk := true, hsw := { h with state := h.idle } } }

/-- AUX_GOOD. -/
def execAuxGood (s : State) : Host.Outcome State Fault Refusal := s.run Device.auxGood

/-- AUX_LOW (R638). -/
def execAuxLow (s : State) : Host.Outcome State Fault Refusal := s.run (fun d => d.raise HSW.flag.AUX_LOW 0 [] [])

/-! ### HSW_CTL and the endpoint's power commands (R620, R624, R635) -/

/-- OFF: the off hold is set, the device withdraws, and the gate turns off 100 µs later. -/
def Device.hswOff (d : Device) : Device := (d.setHsw { d.power.hsw with offHold := true }).bladeGoes

/-- ON clears the off hold. -/
def Device.hswOn (d : Device) : Device :=
  let h := d.power.hsw
  if h.offHold then (d.setHsw { h with offHold := false, startCause := 3 }).turnOn else d

/-- HSW_CTL_OFF. -/
def execHswCtlOff (s : State) : Host.Outcome State Fault Refusal := s.run Device.hswOff

/-- HSW_CTL_ON. -/
def execHswCtlOn (s : State) : Host.Outcome State Fault Refusal := s.run Device.hswOn

/-- The code of HSW_STAT.STATE. -/
def HswState.code : HswState → Nat
  | .off => 0 | .debounce => 1 | .ramp => 2 | .on => 3 | .pg => 4 | .retryWait => 5 | .lockout => 6 | .offHold => 7

/-- A Boolean as a bit. -/
def bit (b : Bool) : Nat := if b then 1 else 0

/-- HSW_STAT as a word. -/
def Device.hswStat (d : Device) : Nat :=
  let h := d.power.hsw
  let ms := match h.retryAt with | some t => min ((t - d.power.aon) / 1000000) 65535 | none => 0
  h.state.code + 8 * bit (h.state == .pg) + 16 * bit h.prsnt + 32 * bit d.inLimit + 64 * bit d.inLimit
    + 256 * d.reg HSW.HSW_STAT.TRIP_COUNT + 4096 * d.reg HSW.HSW_STAT.LAST_TRIP + 65536 * ms

/-- HSW_MEAS1 as a word. -/
def Device.hswMeas1 (d : Device) : Nat := min d.power.hsw.iout 65535 + 65536 * min d.power.hsw.vout 65535

/-- A temperature as one byte: what the spec does not say of one below 0 °C is shown as two's complement (PRESUMED, log entry 138). -/
def tempByte (t : Int) : Nat := (min t 255 % 256).toNat

/-- HSW_MEAS2 as a word. -/
def Device.hswMeas2 (d : Device) : Nat :=
  min d.power.hsw.vin 65535 + 65536 * tempByte d.power.hsw.tMeas + 2 ^ 24 * tempByte (d.power.hsw.tModel / 1000000)

/-- RST_STAT as a word. -/
def Device.rstStat (d : Device) : Nat := d.reg RST.RST_STAT.LAST_KIND + 256 * d.reg RST.RST_STAT.LAST_CAUSE

/-- HSW_STATUS. -/
def execHswStatus (s : State) : Host.Outcome State Fault Refusal :=
  s.run (fun d => d.answerEp 0x40 0 (leBytes 4 d.hswStat ++ leBytes 4 d.hswMeas1 ++ leBytes 4 d.hswMeas2 ++ leBytes 4 d.rstStat))

/-- An endpoint command with its effect: nothing happens while AUX is lost. -/
def Device.epDo (d : Device) (code : Nat) (f : Device → Device) : Device := if d.power.auxOk then (f d).answerEp code 0 [] else d

/-- HSW_CLEAR: the count, LOCKOUT and the pending retry end, and the FET turns on where R608 lets it. -/
def Device.hswClear (d : Device) : Device :=
  let h := d.power.hsw
  let d := (d.setReg HSW.HSW_STAT.TRIP_COUNT 0).setHsw { h with locked := false, retryAt := none, startCause := if h.gate then h.startCause else 2 }
  ((d.evt HSW.flag.CLEARED).powerRecord [0x04] []).turnOn

/-- HSW_CLEAR. -/
def execHswClear (s : State) : Host.Outcome State Fault Refusal := s.run (fun d => d.epDo 0x41 Device.hswClear)

/-- HSW_OFF. -/
def execHswOff (s : State) : Host.Outcome State Fault Refusal := s.run (fun d => d.epDo 0x42 Device.hswOff)

/-- HSW_ON. -/
def execHswOn (s : State) : Host.Outcome State Fault Refusal := s.run (fun d => d.epDo 0x43 Device.hswOn)

/-- DEV_RESET: refused while main power is off. -/
def execDevReset (s : State) : Host.Outcome State Fault Refusal :=
  s.run (fun d => if d.power.mainOn then d.epDo 0x44 (fun d => d.deviceReset 3) else d.answerEp 0x44 1 [])

/-- A write of DEV_CMD.RESET: ignored and counted while the page is locked (R637, R643). -/
def Device.devCmdReset (d : Device) : Device := d.rwl .rst 0 true (fun d => d.deviceReset 2)

/-- DEV_CMD_RESET. -/
def execDevCmdReset (s : State) : Host.Outcome State Fault Refusal := s.run (fun d => if d.hubUp then d.devCmdReset else d)

/-! ### Block resets (R631, R632) -/

/-- The pages of a block: their type and numbers; none where the code or number is reserved. -/
def blockPages (code inst : Nat) : List (Page × List Nat) :=
  match code with
  | 1 => if inst < 64 then [(.site, (List.range 16).map (fun k => 16 * inst + k))] else []
  | 2 => if inst < 4 then [(.host, [inst])] else []
  | 3 => if inst < 5 then [(.peer, [inst])] else []
  | 4 => if inst < 16 then [(.ddrch, [inst])] else []
  | 5 => [(.batch, [0]), (.bwin, List.range 256)]
  | 6 => [(.mcast, [0])]
  | 7 => [(.fail, [0]), (.assay, [0])]
  | 8 => [(.baker, [0])]
  | _ => []

/-- Does a page hold banks of registers that one block owns (R284, R326)? -/
def Page.banked : Page → Bool
  | .mcast => true | .assay => true | _ => false

/-- The header of a page after a block reset: the lock stays (R643), AWAKE_TIME counts from 0. -/
def Device.hdrAfter (d : Device) (h : PageHdr) : PageHdr := { lock := h.lock, stopped := d.power.aon - d.upAt }

/-- A page takes its values at reset, but the fields marked kept. -/
def Device.pageReset (d : Device) (p : Page) (i : Nat) : Device :=
  (d.resetRegs p (if p.banked then none else some i)).setPage p i (d.hdrAfter (d.page p i))

/-- Reset the pages of a block. -/
def Device.pagesReset (d : Device) (code inst : Nat) : Device :=
  (blockPages code inst).foldl (fun (d : Device) e => e.2.foldl (fun (d : Device) i => d.pageReset e.1 i) d) d

/-- Is a page held by a block reset that runs (PAGE_STAT.IN_RESET)? -/
def Device.pageInReset (d : Device) (p : Page) (i : Nat) : Bool :=
  d.power.blk.any (fun b => (blockPages b.1 b.2).any (fun e => e.1 == p && e.2.contains i))

/-- A link of a block that resets loses its sequence state, and trains again where it may (R245). -/
def Device.relink (d : Device) (k : LinkId) (live : Bool) : Device := if live then d.detect k else d

/-- The links of a site group. -/
def Device.resetGroup (d : Device) (g : Nat) : Device :=
  (List.range 16).foldl (fun (d : Device) j =>
    let k := LinkId.site (16 * g + j)
    let was := (d.link k).state
    let d := ((d.linkFalls k 9).siteFlush (16 * g + j)).linkReset k
    d.relink k (was != .disabled)) d

/-- A host port (R396). -/
def Device.resetPort (d : Device) (p : Nat) : Device :=
  let d := ((d.dropLink p 0 .inReset).dropLink p 1 .inReset).applyPortCfg p
  let d := d.pageReset .host p
  let d := (List.range 2).foldl (fun (d : Device) l =>
    let d := d.setHostLink p l { d.hostLink p l with contained := false, cause := 0 }
    d.trainOrHold p l) d
  d.proceed

/-- A peer port: the link loses its sequence state, and the receiver's resync is interrupted (R490). -/
def Device.resetPeer (d : Device) (p : Nat) : Device :=
  let k := LinkId.peer p
  let was := (d.link k).state
  let d := (d.linkFalls k 9).linkReset k
  let d := if d.twin.svc = .resync then d.resyncStop.joinStep else d
  d.relink k (was != .disabled)

/-- The batch engine (R190): OPEN batches abort with RESET. -/
def Device.resetBatches (d : Device) : Device :=
  let open_ := (List.range 1280).filter (fun s => (d.slot s).state == .opened)
  let d := open_.foldl (fun (d : Device) s => d.resetSlot s) d
  let mine := d.batch.home.filter (fun b => !b.committing)
  (mine.foldl (fun (d : Device) b => d.abortBatch b 5) d).proceed

/-- The multicast engine: every group is disabled as R277 states. -/
def Device.resetMcast (d : Device) : Device :=
  let d := (List.range 64).foldl (fun (d : Device) g => d.groupDisable g) d
  let busy := (List.range 64).filter (fun g => d.flagReg MCAST.GRP_CTL.BUSY g)
  let d := d.pageReset .mcast 0
  busy.foldl (fun (d : Device) g => d.setReg MCAST.GRP_CTL.BUSY 1 g) d

/-- The fail-service cluster: jobs end RESET, those that run after their current block, and held completions are dropped (R319, R322).
Its pages reset when the reset ends. -/
def Device.resetFail (d : Device) : Device :=
  let d := (List.range 16).foldl (fun (d : Device) r => if (d.ring r).state = 0 then d else d.abortWork r 6) d
  { d with eng := { d.eng with held := d.eng.held.filter (fun h => isDma h.ring) } }

/-- The Baker: migrations are cancelled, the HEAT values kept. -/
def Device.resetBaker (d : Device) : Device :=
  let d := (d.tier.migrations.map (fun m => m.lpn)).foldl (fun (d : Device) lpn => d.cancelMigration lpn) d
  { d with tier := { d.tier with sweeping := false, sweepDue := false, sweepSkip := [] } }

/-- What a block reset does at once. -/
def Device.blockEffect (d : Device) (code inst : Nat) : Device :=
  match code with
  | 1 => (d.pagesReset 1 inst).resetGroup inst
  | 2 => d.resetPort inst
  | 3 => (d.pagesReset 3 inst).resetPeer inst
  | 4 => (((d.drainTo inst 0 0 64).drainTo inst 1 0 64).pagesReset 4 inst).startRetrain inst
  | 5 => (d.resetBatches).pagesReset 5 inst
  | 6 => d.resetMcast
  | 7 => d.resetFail
  | 8 => (d.resetBaker).pagesReset 8 inst
  | _ => d

/-- Does a batch that a block reset of a site group or of the batch engine reaches still commit? The reset takes effect only after it (R190). -/
def Device.commitsRun (d : Device) (code inst : Nat) : Bool :=
  let mine (s : Nat) : Bool := if code = 1 then decide (s < 1024) && s / 16 == inst else code == 5
  d.batch.slots.any (fun e => mine e.1 && e.2.state == .committing) || (code == 5 && d.batch.home.any (fun b => b.committing))

/-- A block reset starts: at once, or, behind commits, with its end (R190; DEDUCED, log entry 141). -/
def Device.blockStart (d : Device) (code inst : Nat) : Device :=
  if d.commitsRun code inst then
    let d := d.setPower { d.power with blkWait := d.power.blkWait ++ [(code, if 5 ≤ code then 0 else inst)] }
    if code = 5 then d.resetBatches else d
  else d.blockEffect code inst

/-- Does R429 hold for a channel? -/
def Device.mayRetrain (d : Device) : Bool :=
  d.twin.svc == .paired && d.twinServes && (List.range 16).all (fun k => (d.chan k).inService)

/-- BLK_RESET.GO: 0 OK, 1 REFUSED, 2 ABSENT, 3 BUSY. -/
def Device.blockReset (d : Device) (code inst : Nat) : Device :=
  if !d.hubUp then d
  else
    let absent := d.hw.gradeH && (code == 1 || code == 6 || code == 7)
    let result := if (blockPages code inst).isEmpty then 1 else if absent then 2
      else if d.power.blk.contains (code, if 5 ≤ code then 0 else inst) then 3
      else if code = 4 ∧ d.mayRetrain = false then 1 else 0
    let d := d.setReg RST.BLK_STAT.RESULT result
    if result = 0 then
      let d := d.noteReset 5 0 [code, inst]
      let d := d.setPower { d.power with blk := d.power.blk ++ [(code, if 5 ≤ code then 0 else inst)] }
      d.blockStart code inst
    else d

/-- BLK_RESET_GO. -/
def execBlkResetGo (code inst : Nat) (s : State) : Host.Outcome State Fault Refusal :=
  s.run (fun d => if d.hubUp then
    ((d.setReg RST.BLK_RESET.BLOCK code).setReg RST.BLK_RESET.INSTANCE inst).blockReset (code % 16) (inst % 64) else d)

end Sys2Proof.Machine
end

