-- ==== Sys2Proof/Machine/Security.lean ====
section
/-! DEFINITION. The Mint, the rekey sweep, firmware commands, debug unlock and the TAP (Keys, Identity and Firmware, R544 to R582). -/

namespace Sys2Proof.Machine

/-- Change keys, identity and firmware. -/
def Device.setSec (d : Device) (x : Security) : Device := { d with sec := x }

/-! ### The Mint (R545) -/

/-- TRNG_HEALTH: a health test fails and the output stops. -/
def execTrngHealth (s : State) : Host.Outcome State Fault Refusal :=
  s.run (fun d => ((d.setSec { d.sec with outOk := false }).countSat MINT.TRNG_FAILS.COUNT).secFault MINT.flag.TRNG_HEALTH 0x10 0 0 0)

/-- The Mint's output resumes; a reset that found it stopped gets its key in slot 0 now (R545, R547). -/
def Device.mintResumes (d : Device) : Device :=
  let d := d.setSec { d.sec with outOk := true }
  if d.reg MINT.KEY_STAT.CUR_SLOT = 0 ∧ d.sec.key0 = 0 then d.setSec { d.sec with key0 := d.sec.keysMade + 1, keysMade := d.sec.keysMade + 1 } else d

/-- TRNG_RECOVER: the output resumes; software may clear the flag. -/
def execTrngRecover (s : State) : Host.Outcome State Fault Refusal := s.run Device.mintResumes

/-! ### The rekey sweep (R547 to R553) -/

/-- Number the key of a slot. -/
def Security.withKey (x : Security) (slot n : Nat) : Security := if slot = 0 then { x with key0 := n } else { x with key1 := n }

/-- PTR. -/
def Device.rekeyPtr (d : Device) : Nat := d.regPair MINT.REKEY_PTR_LO.PTR_LO MINT.REKEY_PTR_HI.PTR_HI

/-- Store PTR. -/
def Device.setRekeyPtr (d : Device) (n : Nat) : Device := d.setPair MINT.REKEY_PTR_LO.PTR_LO MINT.REKEY_PTR_HI.PTR_HI n

/-- REKEY_CMD.START (R548). -/
def Device.rekeyStart (d : Device) : Device :=
  if d.serving && d.reg MINT.REKEY_STAT.PHASE == 0 && d.mintOk then
    let slot := 1 - d.reg MINT.KEY_STAT.CUR_SLOT
    let n := d.sec.keysMade + 1
    let d := d.setSec { (d.sec.withKey slot n) with keysMade := n }
    ((d.setRekeyPtr 0).setReg MINT.REKEY_STAT.PHASE 1).secEvent 105 0x20 0 0 0
  else d.raise MINT.flag.REKEY_REFUSED 0 [] [] false

/-- REKEY_START. -/
def execRekeyStart (s : State) : Host.Outcome State Fault Refusal := s.run Device.rekeyStart

/-- The bursts of a sweep unit with the loaf that owns them: a loaf's slices, and its record burst where its LPN is even; or a block of
the private area (R547, R550). -/
def Device.sweepBursts (d : Device) (unit : Nat) : List (Nat × Option Nat) :=
  if unit < d.nloaf then
    let r := LoafRec.ofWord (d.recordWord unit)
    let slices := if r.ok then (r.slices.take r.nslice).flatMap (fun i =>
      (List.range 8).map (fun k => (sliceAddr r.bin i + 64 * k, some unit))) else []
    slices ++ (if unit % 2 = 0 then [(d.recordAddr unit, none)] else [])
  else (List.range 64).map (fun k => (d.privateBase + 4096 * (unit - d.nloaf) + 64 * k, none))

/-- Rewrite one burst under the key in force; a burst on a channel out of service is left alone, one that cannot be decoded is left to
the recovery that its read starts (R442, R551). -/
def Device.rewriteBurst (d : Device) (ra cls : Nat) (owner : Option Nat) : Device :=
  if !(d.chan (channelOf ra)).inService then d
  else
    let d := if (d.errsOf ra).isEmpty then d else d.checkBurst ra cls
    if d.burstFails ra then d
    else
      let w := match d.wqFind ra with | some e => (e.data, e.poison) | none => d.memLine ra
      (d.putBurst ra w.1 w.2 owner).chargeDeq cls 128

/-- One unit of the sweep (R550); it waits while a channel is RETRAINING. After the last unit the rekey enters DRAIN and CUR_SLOT flips
(R551, R552). -/
def Device.rekeyStep (d : Device) : Device :=
  if d.reg MINT.REKEY_STAT.PHASE ≠ 1 ∨ (List.range 16).any (fun c => (d.chan c).state == .retraining) then d
  else
    let unit := d.rekeyPtr; let cls := d.reg MINT.REKEY_CTL.CLASS
    let l := d.sweepBursts unit
    let d := l.foldl (fun (d : Device) e => d.rewriteBurst e.1 cls e.2) (d.setRekeyPtr (unit + 1))
    if d.nloaf + 2 ^ 20 ≤ unit + 1 then
      ((d.setReg MINT.REKEY_STAT.PHASE 2).setReg MINT.KEY_STAT.CUR_SLOT (1 - d.reg MINT.KEY_STAT.CUR_SLOT)).secEvent 105 0x21 0 0 0
    else d

/-- REKEY_STEP. -/
def execRekeyStep (s : State) : Host.Outcome State Fault Refusal := s.run Device.rekeyStep

/-- Does a write queue hold an entry under a slot? -/
def Device.slotQueued (d : Device) (slot : Nat) : Bool := d.chans.any (fun e => e.2.wq.any (fun q => q.2.any (fun w => w.key == slot)))

/-- The old slot is zeroised and the rekey ends (R552). -/
def Device.rekeyEnd (d : Device) : Device :=
  let old := 1 - d.reg MINT.KEY_STAT.CUR_SLOT
  if d.reg MINT.REKEY_STAT.PHASE ≠ 2 ∨ d.slotQueued old = true then d
  else
    let d := (d.setSec (d.sec.withKey old 0)).setReg MINT.REKEY_STAT.PHASE 0
    let d := (d.countSat MINT.KEY_GEN.COUNT).countSat MINT.REKEYS.COUNT
    ((d.evt MINT.flag.REKEY_DONE).evt MINT.flag.KEY_ZEROISED).secEvent 105 0x22 0 0 0

/-- REKEY_DRAIN_END. -/
def execRekeyDrainEnd (s : State) : Host.Outcome State Fault Refusal := s.run Device.rekeyEnd

/-! ### Firmware commands (R562 to R566) -/

/-- FW_CMD.CONFIRM: the running slot becomes the boot slot (R562; it stands for the firmware's write, log entry 147). -/
def Device.fwConfirm (d : Device) : Device :=
  match d.sec.run with
  | some r => (d.setSec { d.sec with bootSlot := r.slot, trial := false, run := some { r with trial := false } }).setReg FWSEC.FW_CMD.RESULT 0
  | none => d

/-- CONFIRM. -/
def execConfirm (s : State) : Host.Outcome State Fault Refusal := s.run Device.fwConfirm

/-- The signer slots of a mask. -/
def maskSlots (m : Nat) : List Nat := (List.range 4).filter (fun i => bitOf m i)

/-- FW_CMD.COMMIT (R565). `ok` is the outcome of the blow verify; where it fails, how far the steps and bits were blown is a free value. -/
def Device.fwCommit (d : Device) (ok : Bool) : Device :=
  match d.sec.run with
  | none => d
  | some r =>
    if r.trial then d.setReg FWSEC.FW_CMD.RESULT 1
    else
      let need := r.secVer - d.sec.arbC; let slots := maskSlots r.revokeMask
      if ok then
        let d := d.setSec { d.sec with arbC := d.sec.arbC + need, revoked := (d.sec.revoked ++ slots).eraseDups }
        ((d.setReg FWSEC.FW_CMD.RESULT 0).evt FWSEC.flag.COMMITTED).secEvent 105 0x23 0 0 d.sec.arbC
      else
        let f := Config.freeNat d.fresh
        let some_ := slots.filter (fun i => bitOf (f / 256) i)
        let d := d.nextFree.setSec { d.sec with arbC := d.sec.arbC + f % (need + 1), revoked := (d.sec.revoked ++ some_).eraseDups }
        (d.setReg FWSEC.FW_CMD.RESULT 2).secFault MINT.flag.OTP_FAULT 0x11 0 0 0

/-- COMMIT. -/
def execCommit (ok : Bool) (s : State) : Host.Outcome State Fault Refusal := s.run (fun d => d.fwCommit ok)

/-- An endpoint command that needs the Hub: REFUSED while the Hub is not up. -/
def Device.epHub (d : Device) (code : Nat) (f : Device → Device) : Device := if d.hubUp then f d else d.answerEp code 1 []

/-- FW_WRITE of the endpoint (R564). -/
def Device.epWrite (d : Device) (slot off : Nat) (data : List Nat) : Device :=
  d.epHub 0x30 (fun d =>
    if 64 < data.length then d.answerEp 0x30 3 []
    else
      let (d, st) := d.fwWrite slot off data
      d.answerEp 0x30 st [])

/-- FW_WRITE. -/
def execFwWrite (slot off : Nat) (data : List Nat) (s : State) : Host.Outcome State Fault Refusal :=
  s.run (fun d => d.epWrite slot off data)

/-- FW_ACTIVATE. -/
def execFwActivate (slot : Nat) (s : State) : Host.Outcome State Fault Refusal :=
  s.run (fun d => d.epHub 0x31 (fun d =>
    let (d, st) := d.fwActivate slot
    d.answerEp 0x31 st []))

/-! ### Debug unlock (R570 to R573) -/

/-- May an agent write DBG_CMD: any but a steward and a host link without management (R365, R652)? -/
def Device.dbgAgent (d : Device) (ag : Agent) : Bool :=
  match ag with
  | .host p l => d.mgmtLink p l
  | .steward => false
  | _ => true

/-- May an agent submit a token: a host link with management, or the endpoint (R571)? A DMA queue reaches the registers as such a link
does. -/
def Device.tokenAgent (d : Device) (ag : Agent) : Bool :=
  match ag with
  | .host p l => d.mgmtLink p l
  | .endpoint => true
  | .dma _ => true
  | _ => false

/-- The words of DBG_NONCE. -/
def nonceWords : List Field := [FWSEC.DBG_NONCE0.NONCE, FWSEC.DBG_NONCE1.NONCE, FWSEC.DBG_NONCE2.NONCE, FWSEC.DBG_NONCE3.NONCE]

/-- Put a nonce in DBG_NONCE. -/
def Device.setNonce (d : Device) (b : List Nat) : Device :=
  ((List.range 4).zip nonceWords).foldl (fun (d : Device) e => d.setReg e.2 (ofLe ((b.drop (4 * e.1)).take 4))) d

/-- The bytes of DBG_NONCE. -/
def Device.nonce (d : Device) : List Nat := nonceWords.flatMap (fun f => leBytes 4 (d.reg f))

/-- The nonce is consumed or expires. -/
def Device.dropNonce (d : Device) : Device := (d.setNonce []).setReg FWSEC.DBG_STAT.NONCE_VALID 0

/-- Draw a nonce; refused while the Mint's output is stopped. -/
def Device.challenge (d : Device) : Device × Bool :=
  if d.mintOk then
    let (d, b) := d.draw 16
    (((d.setNonce b).setReg FWSEC.DBG_STAT.NONCE_VALID 1).setSec { d.sec with nonceAt := d.power.aon }, true)
  else (d, false)

/-- CHALLENGE: by a write of DBG_CMD, or, with no agent, by the endpoint command DBG_CHALLENGE. -/
def execChallenge (ag : Option Agent) (s : State) : Host.Outcome State Fault Refusal :=
  s.run (fun d => match ag with
    | some a => if d.dbgAgent a && d.hubUp then d.challenge.1 else d
    | none => d.epHub 0x32 (fun d =>
        let (d, ok) := d.challenge
        if ok then d.answerEp 0x32 0 d.nonce else d.answerEp 0x32 1 []))

/-- The bytes of TOKEN_BUF that hold a token. -/
def Device.tokenBytes (d : Device) : List Nat := (List.range 3421).map (fun i => KMap.get d.sec.token 0 i)

/-- The reason code of a token (R572): the first check that fails, 0 where it passes. LOCKOUT refuses every token. -/
def Device.tokenReason (d : Device) (t : List Nat) : Nat :=
  let signer := t.getD 6 0; let digest := Config.sha384 (t.take 48)
  if d.reg FWSEC.DBG_STAT.LOCKOUT = 1 then 7
  else if !(decide (ofLe (t.take 4) = 0x4F5A4454) && t.getD 4 0 == 1 && decide (t.getD 5 0 < 8) && t.getD 7 0 == 0
      && ((t.drop 40).take 8).all (fun b => b == 0)) then 1
  else if ofLe ((t.drop 8).take 16) ≠ d.hw.uid then 2
  else if !(d.nonceLive && (t.drop 24).take 16 == d.nonce) then 3
  else if !(decide (signer < 4) && d.signerUsable (4 + signer)) then 4
  else if !(Config.edVerifies (d.hw.edKeys.getD (4 + signer) []) digest ((t.drop 48).take 64)) then 5
  else if !(Config.mldsaVerifies (d.hw.mldsaKeys.getD (4 + signer) []) ctxDbg digest ((t.drop 112).take 3309)) then 6
  else 0

/-- Check the token in TOKEN_BUF, which is cleared. -/
def Device.submit (d : Device) : Device :=
  let t := d.tokenBytes
  let why := d.tokenReason t
  let d := ((d.setSec { d.sec with token := [] }).dropNonce).setReg FWSEC.DBG_STAT.REASON why
  if why = 0 then
    let scope := t.getD 5 0
    let d := d.setReg FWSEC.DBG_STAT.SCOPE (d.reg FWSEC.DBG_STAT.SCOPE ||| scope)
    let d := d.setSec { d.sec with scopeSeen := d.sec.scopeSeen ||| scope }
    (d.evt FWSEC.flag.DEBUG_UNLOCKED).secEvent 105 0x24 0 scope 0
  else
    let n := min (d.reg FWSEC.DBG_STAT.FAILS + 1) 8
    let d := d.setReg FWSEC.DBG_STAT.FAILS n
    let d := if n = 8 then d.setReg FWSEC.DBG_STAT.LOCKOUT 1 else d
    d.secFault SECALM.flag.TOKEN_REJECT 3 0 why 0

/-- SUBMIT: a write of DBG_CMD.SUBMIT by an agent. -/
def execSubmit (ag : Agent) (s : State) : Host.Outcome State Fault Refusal :=
  s.run (fun d => if d.tokenAgent ag && d.hubUp then d.submit else d)

/-- Store token bytes. -/
def Device.storeToken (d : Device) (off : Nat) (data : List Nat) : Device :=
  let l := (List.range data.length).zip data
  d.setSec { d.sec with token := l.foldl (fun (m : KMap Nat) e => KMap.put m (off + e.1) (e.2 % 256)) d.sec.token }

/-- DBG_TOKEN of the endpoint: a chunk of a token; the chunk with its last byte submits it. -/
def Device.tokenChunk (d : Device) (off : Nat) (data : List Nat) : Device :=
  d.epHub 0x33 (fun d =>
    if 64 < data.length ∨ 3421 < off + data.length then d.answerEp 0x33 3 []
    else
      let d := d.storeToken off data
      let d := if off + data.length = 3421 then d.submit else d
      d.answerEp 0x33 0 [d.reg FWSEC.DBG_STAT.REASON])

/-- DBG_TOKEN_CHUNK. -/
def execDbgTokenChunk (off : Nat) (data : List Nat) (s : State) : Host.Outcome State Fault Refusal :=
  s.run (fun d => d.tokenChunk off data)

/-- Every scope closes. -/
def Device.relock (d : Device) : Device := (d.setReg FWSEC.DBG_STAT.SCOPE 0).evt FWSEC.flag.DEBUG_RELOCKED

/-- RELOCK: a write of DBG_CMD.RELOCK by an agent. -/
def execRelock (ag : Agent) (s : State) : Host.Outcome State Fault Refusal :=
  s.run (fun d => if d.dbgAgent ag && d.hubUp then d.relock else d)

/-- NONCE_EXPIRY: the nonce is gone once its 600 s have passed (R570). -/
def execNonceExpiry (s : State) : Host.Outcome State Fault Refusal := s.run (fun d => if d.nonceLive then d else d.dropNonce)

/-! ### The TAP (R568, R574, R674) -/

/-- Is the JTAG scope open? -/
def Device.jtagOpen (d : Device) : Bool := bitOf (d.reg FWSEC.DBG_STAT.SCOPE) 0

/-- A debug instruction while the JTAG scope is locked: it acts as BYPASS and raises the alarm. -/
def Device.tapLocked (d : Device) : Device :=
  ((d.setSec { d.sec with tapInstr := 0 }).setReg SECALM.ALM_MASTER.MASTER 2).secFault SECALM.flag.JTAG_LOCKED 2 2 0 0

/-- A debug controller instruction is shifted in: 1 DBG_ADDR, 2 DBG_DATA, 3 DBG_CTL. -/
def Device.tapShift (d : Device) (instr : Nat) : Device :=
  if d.jtagOpen then (if 1 ≤ instr ∧ instr ≤ 3 then d.setSec { d.sec with tapInstr := instr } else d) else d.tapLocked

/-- JTAG_LOCKED. -/
def execJtagLocked (instr : Nat) (s : State) : Host.Outcome State Fault Refusal := s.run (fun d => d.tapShift instr)

/-- TRST. -/
def execTrst (s : State) : Host.Outcome State Fault Refusal := s.run (fun d => d.setSec { d.sec with tapInstr := 0 })

/-- The IDCODE of the TAP: version 0x1, part 0x9416, manufacturer 0x70E and bit 0 at 1, for stepping A1 (R674). -/
def tapIdcode : Nat := 2 ^ 28 * 0x1 + 2 ^ 12 * 0x9416 + 2 * 0x70E + 1

end Sys2Proof.Machine
end

