-- ==== Sys2Proof/Machine/Site.lean ====
section
/-! DEFINITION. The requests of site links (Site Transactions, R250 to R271). -/

namespace Sys2Proof.Machine

/-- Accept a request and act on it, if the site's link is ACTIVE. -/
def Device.onSite (d : Device) (s opcode tag dl : Nat) (sync : Bool) (lines pl n : Nat) (f : Device → Nat → Device) : Device :=
  if d.siteUp s then let (d, id) := d.siteAccept s opcode tag dl sync lines pl n; f d id else d

/-- READ (R263, R176 with the batch flag). -/
def Device.siteReadCmd (d : Device) (s tag dl : Nat) (sync batch : Bool) (size addr : Nat) : Device :=
  let n := sizeLines size
  d.onSite s 0x01 tag dl sync n cmdPool 0 (fun d id =>
    if 3 ≤ size ∨ addr % (64 * n) ≠ 0 ∨ 2 ^ 46 ≤ addr then d.answerSite s id { status := 3 }
    else
      let r := d.siteReq s id dl addr (.siteRead n batch)
      if batch then d.siteBatchOp s id r else d.route r)

/-- READ. -/
def execRead (s tag dl : Nat) (sync batch : Bool) (size addr : Nat) (st : State) : Host.Outcome State Fault Refusal :=
  st.run (fun d => d.siteReadCmd s tag dl sync batch size addr)

/-- WRITE (R263). SIZE 3 is a protocol error (R254). -/
def Device.siteWriteCmd (d : Device) (s tag dl : Nat) (batch : Bool) (size addr : Nat) (data : List Line) : Device :=
  let n := sizeLines size
  if d.siteUp s ∧ 3 ≤ size then d.siteProto s
  else d.onSite s 0x02 tag dl false 0 cmdPool n (fun d id =>
    if addr % (64 * n) ≠ 0 ∨ 2 ^ 46 ≤ addr then d.answerSite s id { status := 3 }
    else
      let ls := (data ++ List.replicate 16 0).take n
      let r := d.siteReq s id dl addr (.siteWrite ls batch)
      let d := d.chargeBytes r.cls (64 * n)
      if batch then d.siteBatchOp s id r else d.route r)

/-- WRITE. -/
def execWrite (s tag dl : Nat) (batch : Bool) (size addr : Nat) (data : List Line) (st : State) :
    Host.Outcome State Fault Refusal :=
  st.run (fun d => d.siteWriteCmd s tag dl batch size addr data)

/-- WRITE_MASKED (R263). -/
def Device.siteMaskedCmd (d : Device) (s tag dl : Nat) (batch : Bool) (addr : Nat) (mask : BitVec 64) (data : Line) : Device :=
  d.onSite s 0x03 tag dl false 0 cmdPool 1 (fun d id =>
    if addr % 64 ≠ 0 ∨ 2 ^ 46 ≤ addr then d.answerSite s id { status := 3 }
    else
      let r := d.siteReq s id dl addr (.siteWriteMasked data mask batch)
      let d := d.chargeBytes r.cls 64
      if batch then d.siteBatchOp s id r else d.route r)

/-- WRITE_MASKED. -/
def execWriteMasked (s tag dl : Nat) (batch : Bool) (addr : Nat) (mask : BitVec 64) (data : Line) (st : State) :
    Host.Outcome State Fault Refusal :=
  st.run (fun d => d.siteMaskedCmd s tag dl batch addr mask data)

/-- ATOMIC (R265, R266). -/
def Device.siteAtomicCmd (d : Device) (s tag dl addr : Nat) (op : AtomicOp) (wide : Bool) (op1 op2 atag : Nat) : Device :=
  d.onSite s 0x04 tag dl false 0 cmdPool 0 (fun d id =>
    if addr % (if wide then 8 else 4) ≠ 0 ∨ 2 ^ 46 ≤ addr then d.answerSite s id { status := 3 }
    else d.route (d.siteReq s id dl addr (.atomic op wide op1 op2 atag)))

/-- ATOMIC. -/
def execAtomic (s tag dl addr : Nat) (op : AtomicOp) (wide : Bool) (op1 op2 atag : Nat) (st : State) :
    Host.Outcome State Fault Refusal :=
  st.run (fun d => d.siteAtomicCmd s tag dl addr op wide op1 op2 atag)

/-- The DUT that a site's fail commands act on (R268, R295); none while the FAIL page takes no work (R642, R584). -/
def Device.siteDut (d : Device) (s : Nat) : Option DutCtx :=
  if d.pageOn .fail && d.flagReg SITE.SITE_DUT.VALID s then d.dut (d.reg SITE.SITE_DUT.DUT s) else none

/-- FAIL_OR (R268, R292). -/
def Device.siteFailOr (d : Device) (s tag dl line : Nat) (mask : Line) : Device :=
  d.onSite s 0x10 tag dl false 0 svcPool 1 (fun d id =>
    match d.siteDut s with
    | none => d.answerSite s id { status := 3 }
    | some t =>
      let q := geoDims t.g
      if q.nb * q.bl ≤ line then d.answerSite s id { status := 3 }
      else
        let r := d.siteReq s id dl (t.b.bmap + 64 * line) (.failOr t.id line mask)
        (d.chargeBytes r.cls 64).route r)

/-- FAIL_OR. -/
def execFailOr (s tag dl line : Nat) (mask : Line) (st : State) : Host.Outcome State Fault Refusal :=
  st.run (fun d => d.siteFailOr s tag dl line mask)

/-- FAIL_REC (R268, R291): each record is a part of the request; a record beyond the geometry is not applied. -/
def Device.siteFailRec (d : Device) (s tag dl : Nat) (recs : List Nat) : Device :=
  d.onSite s 0x11 tag dl false 0 svcPool 0 (fun d id =>
    if recs = [] ∨ 6 < recs.length ∨ recs.any (fun v => bitsOf v 56 8 != 0) then d.answerSite s id { status := 3 }
    else
      match d.siteDut s with
      | none => (d.countWrap FAIL.REC_REFUSED.COUNT 0 recs.length).answerSite s id { status := 3 }
      | some t =>
        let x := d.sitePort s
        let d := d.setSitePort s { x with reqs := x.reqs.map (fun q => if q.id = id then { q with parts := recs.length } else q) }
        (recs.zip (List.range 6)).foldl (fun (d : Device) e =>
          if cellOk t.g (failCell e.1) then
            let (L, _) := recordMask t.g e.1
            let r := d.siteReq s id dl (t.b.bmap + 64 * L) (.failRec t.id e.2 e.1)
            (d.chargeBytes r.cls 8).route r
          else (d.countWrap FAIL.REC_REFUSED.COUNT).answerSite s id { status := 3, result := [0, 0] }) d)

/-- FAIL_REC. -/
def execFailRec (s tag dl : Nat) (recs : List Nat) (st : State) : Host.Outcome State Fault Refusal :=
  st.run (fun d => d.siteFailRec s tag dl recs)

/-- May a site read the source of a group (R275)? -/
def Device.siteMayJoin (d : Device) (s g : Nat) : Bool :=
  match d.regionOf (d.blockAddr g 0) with
  | some (_, x) => x.pop == 1 && Region.siteMay x s false
  | none => false

/-- MCAST_JOIN (R275). A join that R50 or R51 forbids, or whose group lies in no region, is a refused access (R68). -/
def Device.siteJoin (d : Device) (s tag dl g : Nat) : Device :=
  d.onSite s 0x20 tag dl false 0 svcPool 0 (fun d id =>
    if g < 64 ∧ d.pageOn .mcast = true ∧ d.groupOn g = true ∧ d.siteMayJoin s g = true then
      let x := d.group g
      let d := if x.members.contains s then d else d.setGroup g { x with members := x.members ++ [s] }
      d.answerSite s id { result := leBytes 3 (d.groupLen g) ++ leBytes 3 x.low }
    else
      let r := d.siteReq s id dl (d.blockAddr g 0) (.siteRead 16 false)
      let d := if g < 64 ∧ d.pageOn .mcast = true ∧ d.groupOn g = true then d.refuse r (if (d.regionOf r.qla).isSome then 4 else 3) else d
      d.answerSite s id { status := 3 })

/-- MCAST_JOIN. -/
def execMcastJoin (s tag dl g : Nat) (st : State) : Host.Outcome State Fault Refusal :=
  st.run (fun d => d.siteJoin s tag dl g)

/-- MCAST_LEAVE (R275). -/
def Device.siteLeave (d : Device) (s tag dl g : Nat) : Device :=
  d.onSite s 0x21 tag dl false 0 svcPool 0 (fun d id =>
    let x := d.group g
    let d := if x.members.contains s then d.setGroup g { x with members := x.members.filter (fun m => m != s) } else d
    d.answerSite s id {})

/-- MCAST_LEAVE. -/
def execMcastLeave (s tag dl g : Nat) (st : State) : Host.Outcome State Fault Refusal :=
  st.run (fun d => d.siteLeave s tag dl g)

/-- MCAST_PULL (R273). -/
def execMcastPull (s tag dl : Nat) (sync : Bool) (g b : Nat) (st : State) : Host.Outcome State Fault Refusal :=
  st.run (fun d => d.onSite s 0x22 tag dl sync 16 svcPool 0 (fun d id => d.mcastPull s id dl g b))

/-- BATCH_OPEN (R176). -/
def Device.siteBatchOpen (d : Device) (s tag dl : Nat) : Device :=
  d.onSite s 0x30 tag dl false 0 svcPool 0 (fun d id =>
    if (d.slot s).state = .free then
      let d := d.openSlot s
      d.answerSite s id { bseq := (d.slot s).bseq }
    else d.answerSite s id { status := 3, bseq := (d.slot s).bseq })

/-- BATCH_OPEN. -/
def execBatchOpen (s tag dl : Nat) (st : State) : Host.Outcome State Fault Refusal := st.run (fun d => d.siteBatchOpen s tag dl)

/-- Close an ABORTED slot with the stored cause; another state is an access error (R176). -/
def Device.siteClose (d : Device) (s id : Nat) : Device :=
  let x := d.slot s
  if x.state = .aborted then (d.freeSlot s).answerSite s id { status := 5, cause := x.cause, bseq := x.bseq }
  else d.answerSite s id { status := 3, bseq := x.bseq }

/-- BATCH_COMMIT (R161, R176, R182). -/
def Device.siteBatchCommit (d : Device) (s tag dl : Nat) : Device :=
  d.onSite s 0x31 tag dl false 0 svcPool 0 (fun d id =>
    let x := d.slot s
    if x.state = .opened then
      match x.home with
      | none => ((d.freeSlot s).countWrap BATCH.COMMITS.COUNT).answerSite s id { bseq := x.bseq }
      | some h => d.sendCommit s (d.siteReq s id dl x.addr (.batchCommit s)) h
    else d.siteClose s id)

/-- BATCH_COMMIT. -/
def execBatchCommit (s tag dl : Nat) (st : State) : Host.Outcome State Fault Refusal := st.run (fun d => d.siteBatchCommit s tag dl)

/-- BATCH_ABORT (R176). -/
def Device.siteBatchAbort (d : Device) (s tag dl : Nat) : Device :=
  d.onSite s 0x32 tag dl false 0 svcPool 0 (fun d id =>
    let x := d.slot s
    if x.state = .opened then
      ((d.leaveHome s 1).freeSlot s).answerSite s id { status := 5, cause := 1, bseq := x.bseq }
    else d.siteClose s id)

/-- BATCH_ABORT. -/
def execBatchAbort (s tag dl : Nat) (st : State) : Host.Outcome State Fault Refusal := st.run (fun d => d.siteBatchAbort s tag dl)

/-- The code of a slot state. -/
def SlotState.code : SlotState → Nat
  | .free => 0 | .opened => 1 | .committing => 2 | .aborted => 3

/-- STATUS with SUBOP SITE (R259, R270). -/
def Device.siteStatus (d : Device) (s tag dl : Nat) : Device :=
  d.onSite s 0x40 tag dl false 0 svcPool 0 (fun d id =>
    let x := d.slot s
    let b (f : Bool) (n : Nat) : Nat := if f then n else 0
    let flags := b (d.flagReg TIER.CAP_STAT.EL_EXHAUSTED) 1 + b (d.flagReg TIER.CAP_STAT.BIN_FULL) 2
      + b (d.flagReg SITE.SITE_HOMING.DUAL s) 4 + 16 * x.state.code
    let dut := d.reg SITE.SITE_DUT.DUT s + b (d.flagReg SITE.SITE_DUT.VALID s) (2 ^ 15)
    let cause := if x.state = .aborted then x.cause else 0
    d.answerSite s id { result := [d.siteClass s] ++ leBytes 2 dut ++ [flags] ++ leBytes 2 x.bseq ++ [cause, 0] })

/-- STATUS_SITE. -/
def execStatusSite (s tag dl : Nat) (st : State) : Host.Outcome State Fault Refusal := st.run (fun d => d.siteStatus s tag dl)

/-- STATUS with SUBOP BATCH_OUTCOME (R270). -/
def execStatusBatchOutcome (s tag dl side q : Nat) (st : State) : Host.Outcome State Fault Refusal :=
  st.run (fun d => d.onSite s 0x40 tag dl false 0 svcPool 0 (fun d id =>
    let e := d.outcome (side % 2 * 4 + q % 4) s
    d.answerSite s id { result := [e.outcome, e.cause] ++ leBytes 2 e.bseq }))

/-- TIME (R270): the time at arrival; the time at formation joins it then. -/
def execTime (s tag dl : Nat) (st : State) : Host.Outcome State Fault Refusal :=
  st.run (fun d => d.onSite s 0x41 tag dl false 0 svcPool 0 (fun d id => d.answerSite s id { result := leBytes 8 d.time }))

/-- RESERVED_OPCODE: a malformed request receives ACCESS and has no effect (R254); a READ or pull is answered with its
data flits (R257). A request flit in the WDATA pool, as a WDATA flit for which no request waits, is a protocol error (R254). -/
def execReservedOpcode (s opcode tag dl : Nat) (sync : Bool) (size pl n : Nat) (st : State) : Host.Outcome State Fault Refusal :=
  st.run (fun d => if d.siteUp s ∧ pl = 1 then d.siteProto s else d.onSite s opcode tag dl sync (if opcode = 0x22 then 16 else if opcode = 0x01 then sizeLines size else 0) pl n
    (fun d id => d.answerSite s id { status := 3 }))

end Sys2Proof.Machine
end

