-- ==== Sys2Proof/Machine/RegRead.lean ====
section
/-! DEFINITION. Reading the register space: the page map, the live registers, the shadows of the RL words, and which agent reaches which
page (Register Map). -/

namespace Sys2Proof.Machine

/-! ### The page map (R639, R655) -/

/-- The single function pages in the order of their addresses from 0x0001_0000. -/
def functionPages : List Page :=
  [.region, .tier, .baker, .coh, .batch, .mcast, .fail, .assay, .qos, .integ, .twin, .ledger, .mgmt, .mint, .fwsec, .secalm,
   .pwr, .age, .cal, .hsw, .rst, .dma]

/-- The page type and number at an address, whether or not the part has it. -/
def pageMap (addr : Nat) : Option (Page × Nat) :=
  let n := addr / 4096
  if n < 3 then some ([Page.dev, .fc, .evtsum].getD n .dev, 0)
  else if 0x10 ≤ n ∧ n < 0x26 then some (functionPages.getD (n - 0x10) .dev, 0)
  else if 0x30 ≤ n ∧ n < 0x34 then some (.host, n - 0x30)
  else if 0x38 ≤ n ∧ n < 0x3D then some (.peer, n - 0x38)
  else if 0x100 ≤ n ∧ n < 0x110 then some (.ddrch, n - 0x100)
  else if 0x200 ≤ n ∧ n < 0x300 then some (.bwin, n - 0x200)
  else if 0x400 ≤ n ∧ n < 0x800 then some (.site, n - 0x400)
  else none

/-- The present page at an address; an absent one reads as R2 states. -/
def Device.pageAt (d : Device) (addr : Nat) : Option (Page × Nat) :=
  match pageMap addr with
  | some (p, i) => if i < Page.count d.hw.gradeH p then some (p, i) else none
  | none => none

/-- The offset in the field tables of a word that repeats: a queue's doorbells, a class block. -/
def wordOff (p : Page) (off : Nat) : Nat :=
  match p with
  | .assay => if 0x200 ≤ off ∧ off < 0x280 then 0x200 + off % 8 else off
  | .dma => if 0x200 ≤ off ∧ off < 0x220 then 0x200 + off % 8 else off
  | .qos => if 0x400 ≤ off ∧ off < 0x800 then 0x400 + off % 64 else off
  | _ => off

/-- The bank in which the fields of a word lie: the selected group or queue, the queue or class that the offset names, or the number of
the page. -/
def Device.bankOf (d : Device) (p : Page) (i off : Nat) : Nat :=
  match p with
  | .mcast => if 0x104 ≤ off ∧ off ≤ 0x12C then d.reg MCAST.GRP_SEL.GROUP else 0
  | .assay => if 0x104 ≤ off ∧ off ≤ 0x120 then d.reg ASSAY.Q_SEL.QUEUE else if 0x200 ≤ off ∧ off < 0x280 then (off - 0x200) / 8 else 0
  | .dma => if 0x104 ≤ off ∧ off ≤ 0x120 then d.reg DMA.Q_SEL.QUEUE else if 0x200 ≤ off ∧ off < 0x220 then (off - 0x200) / 8 else 0
  | .qos => if 0x400 ≤ off ∧ off < 0x800 then (off - 0x400) / 64 else 0
  | _ => i

/-- The fields of a word. -/
def Page.word (p : Page) (off : Nat) : List Field := p.fields.filter (fun f => f.off == wordOff p off)

/-! ### Live registers: formed from the state when they are read -/

/-- Word `k` of a value. -/
def part (v k : Nat) : Nat := v / 2 ^ (32 * k) % 2 ^ 32

/-- A signed count as 64 bits. -/
def signed64 (v : Int) : Nat := (v % (2 ^ 64 : Int)).toNat

/-- Every present page: its type and number. -/
def Device.allPages (d : Device) : List (Page × Nat) :=
  Page.all.flatMap (fun p => (List.range (Page.count d.hw.gradeH p)).map (fun i => (p, i)))

/-- The highest class of a source, an escalated one being FT, and the time left of its timer (R541). -/
def Device.srcStat (d : Device) (s : Nat) : List (Nat × Nat) :=
  let cls := if d.fc.escalated.contains s || d.sourceHas s .ft then 3 else if d.sourceHas s .uc then 2 else if d.sourceHas s .ce then 1 else 0
  let left := match KMap.find d.fc.timers s with
    | some (.running since _) => some (since + 1000000 * d.reg FC.FC_CTL.ESC_MS - d.power.aon)
    | _ => none
  [(0, cls), (2, bit left.isSome), (8, min (left.getD 0 / 1000) (2 ^ 24 - 1))]

/-- The slices that a region holds here (R115). -/
def Device.usage (d : Device) (rid : Nat) : Nat :=
  if (KMap.find d.regions.table rid).isNone then 0
  else (d.knownPages.filter (fun lpn => (d.regionOfLine (64 * lpn)).any (fun e => e.1 == rid))).foldl
    (fun (n : Nat) lpn => n + (LoafRec.ofWord (d.recordWord lpn)).nslice) 0

/-- The live fields of the DEV, FC, REGION, TIER, COH, BATCH and MCAST pages. -/
def Device.liveA (d : Device) (p : Page) (off b : Nat) : List (Nat × Nat) :=
  match p, off with
  | .dev, 0x104 => [(0, d.hw.stepping), (8, bit d.hw.gradeH)]
  | .dev, 0x108 => [(0, part d.hw.uid 0)]
  | .dev, 0x10C => [(0, part d.hw.uid 1)]
  | .dev, 0x110 => [(0, part d.hw.uid 2)]
  | .dev, 0x114 => [(0, part d.hw.uid 3)]
  | .dev, 0x130 => [(0, d.twin.svc.code), (3, d.qid), (5, d.side), (6, d.membersLog2), (8, d.reg FC.FT_STAT.PEND)]
  | .dev, 0x134 => [(31, bit (d.allPages.all (fun e => (d.page e.1 e.2).lock)))]
  | .fc, 0x124 => d.srcStat (d.reg FC.SRC_SEL.SOURCE)
  | .region, 0x100 => [(0, d.logicalTib), (8, d.membersLog2), (12, d.qid), (14, d.side)]
  | .region, 0x134 => [(31, bit d.regions.cmd.isSome)]
  | .region, 0x140 => [(0, d.regions.table.length)]
  | .tier, 0x110 => [(0, part d.pool 0)]
  | .tier, 0x114 => [(0, part d.pool 1)]
  | .tier, 0x118 => [(0, part d.gRes 0)]
  | .tier, 0x11C => [(0, part d.gRes 1)]
  | .tier, 0x120 => [(0, part d.tier.elCharge 0)]
  | .tier, 0x124 => [(0, part d.tier.elCharge 1)]
  | .tier, 0x128 => [(0, part (signed64 d.elCapacity) 0)]
  | .tier, 0x12C => [(0, part (signed64 d.elCapacity) 1)]
  | .tier, 0x154 => [(0, part (d.usage (d.reg TIER.USAGE_RID.RID)) 0)]
  | .tier, 0x158 => [(0, part (d.usage (d.reg TIER.USAGE_RID.RID)) 1)]
  | .coh, 0x14C => [(0, (d.coh.log.map dirSet).eraseDups.length)]
  | .coh, 0x150 => [(0, d.coh.log.length)]
  | .batch, 0x104 => [(0, 131072 - d.shadowUsed)]
  | .batch, 0x108 => [(0, (d.batch.slots.filter (fun e => e.2.state != .free)).length)]
  | .mcast, 0x114 => [(0, (d.group b).members.length)]
  | .mcast, 0x118 => [(0, (d.group b).low)]
  | _, _ => []

/-- Q_CTL.ABORT and Q_STAT of a ring (R326, R387); `jobs` are the jobs that run. -/
def Device.ringLive (d : Device) (r off jobs : Nat) : List (Nat × Nat) :=
  let x := d.ring r
  if off = 0x104 then [(1, bit x.aborting)]
  else if off = 0x120 then [(0, x.state), (2, bit x.aborting), (4, jobs), (8, x.last), (16, x.head)]
  else []

/-- The live fields of the FAIL, ASSAY, QOS, INTEG, LEDGER, MGMT, MINT, FWSEC and DMA pages. -/
def Device.liveB (d : Device) (p : Page) (off b : Nat) : List (Nat × Nat) :=
  match p, off with
  | .fail, 0x104 => [(31, bit d.fail.run.isSome)]
  | .assay, off => d.ringLive b off
      ((d.eng.jobs.filter (fun j => j.queue == b && j.running)).length + (d.eng.held.filter (fun h => h.ring == b)).length)
  | .dma, off => d.ringLive (100 + b) off 0
  | .qos, 0x10C => [(4, bit (d.stagedTable != d.qos.table))]
  | .qos, 0x110 => [(0, d.dDram)]
  | .qos, 0x114 => [(0, d.dTwin)]
  | .qos, 0x118 => [(0, d.dT0)]
  | .qos, 0x11C => [(0, ((List.range 16).filter (fun c => (d.chan c).inService)).foldl (fun (n : Nat) c => n + 2 ^ c) 0)]
  | .qos, 0x12C => [(0, (List.range 16).foldl (fun (n : Nat) c => n + levelOf (d.chanQueue c).length * 4 ^ c) 0)]
  | .integ, 0x110 => [(1, d.integ.queue.length)]
  | .integ, 0x124 => [(0, d.tier.retiredRows.length), (16, d.tier.retiredBanks.length)]
  | .ledger, 0x108 => [(0, part d.ldg.headSeq 0)]
  | .ledger, 0x10C => [(0, part d.ldg.headSeq 1)]
  | .ledger, 0x110 => [(0, part d.ldg.oldestSeq 0)]
  | .ledger, 0x114 => [(0, part d.ldg.oldestSeq 1)]
  | .mgmt, 0x100 => [(0, bit d.mgmt.run0), (1, bit d.mgmt.run1), (2, d.mgmt.active)]
  | .mint, 0x100 => [(1, bit d.sec.outOk)]
  | .mint, 0x10C => [(31, bit (d.reg MINT.REKEY_STAT.PHASE != 0))]
  | .fwsec, 0x100 =>
    let r := d.sec.run.getD {}
    [(0, r.slot), (1, bit r.trial), (2, bit r.fallback), (3, bit (d.imageValid (1 - r.slot))), (4, d.sec.nextSlot), (8, r.secVer),
     (16, d.sec.arbC), (24, d.revokedMask % 16), (28, d.revokedMask / 16)]
  | .fwsec, 0x110 => [(8, bit d.nonceLive)]
  | .fwsec, 0x104 => [(0, (d.sec.run.getD {}).build)]
  | _, _ => []

/-- The live fields of the TWIN, PWR, AGE, CAL, HSW and RST pages. -/
def Device.liveC (d : Device) (p : Page) (off : Nat) : List (Nat × Nat) :=
  match p, off with
  | .twin, 0x104 =>
    let up (k : Nat) := bit (d.twin.peerOk.contains k)
    [(0, d.twin.svc.code), (3, d.twin.twinSvc.code), (6, bit d.twin.hbIn), (7, up 3), (8, up 4), (9, bit d.twin.stewarded),
     (11, bit d.twin.mgmtLost), (12, up 0 + 2 * up 1 + 4 * up 2), (15, bit d.twin.leads)]
  | .twin, 0x120 => [(0, part d.time 0)]
  | .twin, 0x124 => [(0, part d.time 1)]
  | .twin, 0x128 => [(0, bit d.timeLock), (1, bit d.coordinates)]
  | .pwr, 0x100 => [(0, min 255 d.tj.1.toNat), (8, d.tj.2), (16, bit d.throttling)]
  | .pwr, 0x10C =>
    let n := d.reg PWR.SENSOR_SEL.SENSOR
    [(0, min 255 (d.sensor n).toNat), (8, bit (d.power.excluded.contains n))]
  | .pwr, 0x114 => [(0, (List.range 15).foldl (fun (n : Nat) k => n + d.divLevel k * 4 ^ k) 0)]
  | .pwr, 0x120 =>
    let ok (r : Nat) := bit (!(d.power.refsLost.contains r))
    [(0, ok 0 + 2 * ok 1 + 4 * ok 2 + 8 * ok 3), (4, ok 4), (5, ok 5)]
  | .age, 0x104 =>
    let n := d.power.plan.items.length + bit d.power.plan.current.isSome
    [(0, if d.power.plan.current.isSome then 2 else if n = 0 then 0 else 3), (4, min n 255)]
  | .age, 0x118 => [(0, KMap.get d.power.degr 0 (d.reg AGE.RO_SEL.MONITOR))]
  | .cal, 0x104 => [(31, bit (d.power.cal.run != .idle))]
  | .cal, 0x10C => [(0, d.calWord)]
  | .hsw, 0x114 => [(0, d.hswStat % 8), (3, d.hswStat / 8 % 2), (4, d.hswStat / 16 % 2), (5, d.hswStat / 32 % 2), (6, d.hswStat / 64 % 2),
                    (16, d.hswStat / 65536)]
  | .hsw, 0x118 => [(0, d.hswMeas1 % 65536), (16, d.hswMeas1 / 65536)]
  | .hsw, 0x11C => [(0, d.hswMeas2 % 65536), (16, d.hswMeas2 / 65536 % 256), (24, d.hswMeas2 / 2 ^ 24)]
  | .rst, 0x10C => [(31, bit !d.power.blk.isEmpty)]
  | _, _ => []

/-- The code of LSTAT.STATE. -/
def LState.code : LState → Nat
  | .down => 0 | .training => 1 | .upIo => 2 | .upMem => 3 | .contained => 4 | .inReset => 5

/-- The code of LINK_STAT.STATE. -/
def LinkState.code : LinkState → Nat
  | .disabled => 0 | .detect => 1 | .ts1 => 2 | .ts2 => 3 | .ending => 4 | .active => 5 | .quiet => 6 | .sleep => 7

/-- The code of CH_STAT.STATE. -/
def ChState.code : ChState → Nat
  | .training => 0 | .active => 1 | .selfRefresh => 2 | .retraining => 3 | .failed => 4

/-- LSTAT, CONTAIN and OUTB of a host link; an absent link reads DOWN and not contained (R359, R399). -/
def Device.liveHost (d : Device) (p off : Nat) : List (Nat × Nat) :=
  let at_ (base : Nat) : Option HostLink :=
    if off = base then some (d.hostLink p 0)
    else if off = base + 4 then some (if d.linkPresent p 1 then d.hostLink p 1 else { state := .down, contained := false, cause := 0 })
    else none
  match at_ 0x124 with
  | some h => [(0, h.state.code), (4, h.rate), (8, h.width), (13, bit h.flit256), (14, bit h.bme), (15, bit (h.state == .upMem)),
               (16, bit h.biEnable), (24, h.decoders.length)]
  | none => match at_ 0x130 with
    | some h => [(2, bit h.contained), (3, bit h.sweepPend), (8, h.cause)]
    | none => match at_ 0x150 with
      | some h => [(0, h.tags.length), (16, bit h.tagGen), (17, bit h.draining)]
      | none => []

/-- LINK_STAT, SEQ_STAT and CREDIT_AVAIL of a Ronlink link (R247). A site link that a withdrawal disabled reads DOWN_CAUSE 11. -/
def Device.liveLink (d : Device) (k : LinkId) (off : Nat) : List (Nat × Nat) :=
  let x := d.link k
  if off = 0x104 then
    let cut := !isPeer k && d.twin.sitesCut && (KMap.find d.links (linkKey k)).isNone
    [(0, x.state.code), (4, bit x.graceRun), (8, x.epoch)] ++ (if cut then [(28, 11)] else [])
  else if off = 0x108 then [(0, x.next), (16, x.expect)]
  else if off = 0x11C then [(0, (List.range 4).foldl (fun (n : Nat) j => n + x.avail.getD j 0 % 256 * 256 ^ j) 0)]
  else []

/-- The live fields of the pages with many instances. -/
def Device.liveD (d : Device) (p : Page) (off i : Nat) : List (Nat × Nat) :=
  match p with
  | .host => d.liveHost i off
  | .peer => d.liveLink (.peer i) off
  | .site =>
    if off = 0x14C then
      let x := d.slot i
      [(0, (d.sitePort i).reqs.length), (8, x.state.code), (10, if x.state = .aborted then x.cause else 0), (16, x.bseq)]
    else d.liveLink (.site i) off
  | .bwin =>
    if off = 0x114 then
      let x := d.slot (1024 + i)
      [(0, x.state.code), (4, if x.state = .aborted then x.cause else 0), (8, x.lines), (16, x.bseq)]
    else []
  | .ddrch =>
    let x := d.chan i
    if off = 0x108 then [(0, x.state.code), (3, bit (d.pageMode i)), (4, x.rate), (8, x.pinned.length / 4096)]
    else if off = 0x10C ∧ x.spdRead = true then
      [(0, d.hw.dimms - 1), (1, bit d.hw.x8), (2, d.hw.rankBits), (4, d.hw.cidBits), (8, d.hw.rowBits),
       (16, Nat.log2 (d.rawBytes / 32))]
    else []
  | _ => []

/-- The live fields of a word: lowest bit and value. -/
def Device.live (d : Device) (p : Page) (i off : Nat) : List (Nat × Nat) :=
  match p with
  | .host | .peer | .site | .bwin | .ddrch => d.liveD p off i
  | .twin | .pwr | .age | .cal | .hsw | .rst => d.liveC p off
  | .dev | .fc | .region | .tier | .coh | .batch | .mcast => d.liveA p off (d.bankOf p i off)
  | _ => d.liveB p off (d.bankOf p i off)

/-! ### Words -/

/-- The value of one field: the live one, or the one the table of registers holds; a page in a block reset shows its values at reset
(R659). -/
def Device.fieldNow (d : Device) (lv : List (Nat × Nat)) (p : Page) (i off : Nat) (f : Field) : Nat :=
  if d.pageInReset p i && !f.kept then f.reset
  else match lv.find? (fun e => e.1 == f.lo) with
    | some e => e.2 % 2 ^ f.width
    | none => d.reg f (d.bankOf p i off)

/-- Microseconds for which a page's clock has run since the reset (R585). -/
def Device.awake (d : Device) (p : Page) (i : Nat) : Nat :=
  let h := d.page p i
  (d.power.aon - d.upAt - h.stopped - (if h.clkOn then 0 else d.power.aon - h.stoppedAt)) / 1000

/-- POWER_POLICY as it reads: 2 in the pages whose blocks always run (R584). -/
def Device.policyOf (d : Device) (p : Page) (i : Nat) : Nat := if p.alwaysRuns then 2 else (d.page p i).policyNext.getD (d.page p i).policy

/-- The words of the common header (R640). -/
def Device.headerWord (d : Device) (p : Page) (i off : Nat) : Nat :=
  let h := d.page p i
  match off with
  | 0x000 => p.idWord i
  | 0x004 => bit h.enable + 2 * d.policyOf p i + 2 ^ 31 * bit h.lock
  | 0x008 => bit h.clkOn + 2 * bit h.pwrOn + 4 * bit (d.pageInReset p i) + 8 * bit h.accErr + 16 * bit h.accRefused
      + 256 * (pageClass d.fc.testCls p h.err).code + 65536 * h.lockedWrites
  | 0x00C => h.evt.toNat + 65536 * h.evtSeq.toNat
  | 0x010 => 65536 * h.evtSeq.toNat
  | 0x014 => h.evtEn.toNat
  | 0x018 => h.err.toNat
  | 0x01C => 65536 * h.errSeq.toNat
  | 0x024 => part (d.awake p i) 0
  | 0x028 => part (d.awake p i) 1
  | _ => 0

/-- A word of the token buffer. -/
def Device.tokenWord (d : Device) (off : Nat) : Nat :=
  ofLe ((List.range 4).map (fun k => KMap.get d.sec.token 0 (off - 0x200 + k)))

/-- A word of a block: the fields that lie in it; reserved bits and offsets without a register read 0 (R14). -/
def Device.blockWord (d : Device) (p : Page) (i off : Nat) : Nat :=
  let lv := d.live p i (if p = .qos then off else wordOff p off)
  (p.word off).foldl (fun (n : Nat) f => n + d.fieldNow lv p i off f * 2 ^ f.lo) 0

/-- The word at an offset of a page, without the shadows. -/
def Device.pageWord (d : Device) (p : Page) (i off : Nat) : Nat :=
  if off < 0x2C ∧ (p ≠ .ddrch ∨ off ≠ 0x20) then d.headerWord p i off
  else if p = .fwsec ∧ 0x200 ≤ off then d.tokenWord off
  else d.blockWord p i off

/-! ### The shadows of the summary pages (R650) -/

/-- The group of a word that an RL word latches: the offset of the RL word, the number of words, and the value now. -/
def Device.rlGroup (d : Device) (p : Page) (off : Nat) : Option (Nat × Nat × Nat) :=
  let g (base n v : Nat) := if base ≤ off ∧ off < base + 4 * n then some (base, n, v) else none
  match p with
  | .dev => (g 0x120 2 d.time).orElse (fun _ => (g 0x128 2 ((d.power.aon - d.upAt) / 1000)).orElse (fun _ => g 0x24 2 (d.awake .dev 0)))
  | .fc => (g 0x100 4 d.fc.summary.toNat).orElse (fun _ => g 0x24 2 (d.awake .fc 0))
  | .evtsum => (g 0x100 4 d.fc.evtSummary.toNat).orElse (fun _ => (g 0x110 4 d.fc.accSummary.toNat).orElse (fun _ => g 0x24 2 (d.awake .evtsum 0)))
  | _ => none

/-- The number of an agent, for its shadows. -/
def agentIndex : Agent → Nat
  | .host p l => 2 * p + l
  | .endpoint => 8 | .steward => 9 | .firmware => 10
  | .dma q => 11 + q
  | .debug => 15

/-- The key of an agent's shadow of a word. -/
def shadowKey (ag : Agent) (addr : Nat) : Nat := 2 ^ 24 * agentIndex ag + addr

/-- Read a word of a present page that the agent reaches. A read of an RL word latches the words of its group; each access to CAL_DATA
moves CAL_OFS on (R605). -/
def Device.readPage (d : Device) (ag : Agent) (p : Page) (i addr : Nat) : Device × Nat :=
  let off := addr % 4096
  match d.rlGroup p off with
  | some (base, n, v) =>
    let at0 := addr - off + base
    if off = base then
      let sh := (List.range (n - 1)).foldl (fun (m : KMap Nat) k => KMap.put m (shadowKey ag (at0 + 4 * (k + 1))) (part v (k + 1))) d.shadow
      ({ d with shadow := sh }, part v 0)
    else (d, KMap.get d.shadow 0 (shadowKey ag addr))
  | none =>
    let v := d.pageWord p i off
    (if p = .cal ∧ off = 0x10C then d.calStep else d, v)

/-! ### Agents (R365, R652) -/

/-- May an agent reach a window page: an unbound window's page by every management path, a bound one's only by its link (R178)? -/
def Device.reachesWin (d : Device) (n : Nat) (link : Option (Nat × Nat)) : Bool :=
  match link with
  | some (p, l) => d.winBound n p l || (!(d.flagReg BWIN.WIN_BIND.VALID n) && d.mgmtLink p l)
  | none => !(d.flagReg BWIN.WIN_BIND.VALID n)

/-- Does an agent reach a page? While main power is off or the Hub is in reset, only the endpoint reaches one, the HSW page. -/
def Device.reaches (d : Device) (ag : Agent) (p : Page) (i : Nat) : Bool :=
  match ag with
  | .endpoint => p != .bwin && (d.hubUp || p == .hsw)
  | .host q l => d.hubUp && (if p = .bwin then d.reachesWin i (some (q, l)) else d.mgmtLink q l)
  | .steward | .dma _ => d.hubUp && (p != .bwin || d.reachesWin i none)
  | .firmware | .debug => d.hubUp

/-- A 4 B read of the register space by an agent: 0 where it reaches no register. -/
def Device.readReg (d : Device) (ag : Agent) (addr : Nat) : Device × Nat :=
  match d.pageAt addr with
  | some (p, i) => if d.reaches ag p i then d.readPage ag p i addr else (d, 0)
  | none => (d, 0)

end Sys2Proof.Machine
end

