-- ==== Sys2Proof/Machine/RegWrite.lean ====
section
/-! DEFINITION. Writing the register space: the common header, plain fields with their lock and reserved encodings, and the words that start
work (Register Map, and the register tables of every chapter). -/

namespace Sys2Proof.Machine

/-! ### Plain fields (R10, R13, R643) -/

/-- The value that a written word gives a field. -/
def Field.of (f : Field) (v : Nat) : Nat := v / 2 ^ f.lo % 2 ^ f.width

/-- Count an ignored write of a locked page. -/
def Device.countLocked (d : Device) (p : Page) (i : Nat) : Device :=
  let h := d.page p i
  d.setPage p i { h with lockedWrites := min (h.lockedWrites + 1) 65535 }

/-- Store the RW fields of a word and, unless the page is locked, its RWL fields. A locked page counts the write once if it would have
changed an RWL field. A reserved encoding keeps the field. -/
def Device.plainWrite (d : Device) (p : Page) (i off v : Nat) : Device :=
  let b := d.bankOf p i off
  let fs := p.word off
  let lock := (d.page p i).lock
  let d := if lock && fs.any (fun f => f.acc == .rwl && f.of v != d.reg f b) then d.countLocked p i else d
  fs.foldl (fun (d : Device) f => match f.acc with
    | .rw => d.store f (f.of v) b
    | .rwl => if lock then d else d.store f (f.of v) b
    | _ => d) d

/-- A pair of fields of which the lower limit must stay below the upper: a write that does not leave it so keeps both (R116, R432). -/
def Device.pairWrite (d : Device) (p : Page) (i off v : Nat) (low high : Field) : Device :=
  let new (f : Field) := if f.minV ≤ f.of v ∧ f.of v ≤ f.maxV then f.of v else d.reg f i
  if (d.page p i).lock || decide (new low < new high) then d.plainWrite p i off v else d

/-! ### The common header (R640 to R647) -/

/-- Pages whose ENABLE is writable and which may be HELD_OFF (R583, R642). -/
def Page.mayHold : Page → Bool
  | .site | .host | .peer | .mcast | .fail | .assay => true
  | _ => false

/-- A block is turned off (R642). -/
def Device.blockHeld (d : Device) (p : Page) (i : Nat) : Device :=
  match p with
  | .site => let d := d.linkFalls (.site i) 11; d.setLink (.site i) { d.link (.site i) with state := .disabled }
  | .peer => let d := d.linkFalls (.peer i) 11; d.setLink (.peer i) { d.link (.peer i) with state := .disabled }
  | .host => ((d.dropLink i 0 .down).dropLink i 1 .down).proceed
  | .assay => { d with eng := { d.eng with jobs := d.eng.jobs.map (fun (j : Job) => if j.running ∧ j.stop = none then { j with stop := some 4 } else j) } }
  | _ => d

/-- A block is turned on again: normal operation from that point. -/
def Device.blockFreed (d : Device) (p : Page) (i : Nat) : Device :=
  match p with
  | .site => d.linkEnable (.site i)
  | .peer => d.linkEnable (.peer i)
  | .host => (List.range 2).foldl (fun (d : Device) l =>
      let h := d.hostLink i l
      if d.linkPresent i l && h.state == .down && !h.contained then d.setHostLink i l { h with state := d.freeState i l } else d) d
  | _ => d

/-- The clock and power of a page follow a new policy: HELD_OFF gates both, the end of HELD_OFF and ALWAYS_RUN start the clock (R583).
A write while the block is gated takes effect after the next wake (R604). -/
def PageHdr.withPolicy (h : PageHdr) (pol now : Nat) : PageHdr :=
  let h' := { h with policy := pol, policyNext := none }
  if !h.pwrOn && h.policy != 3 then { h with policyNext := some pol }
  else if pol = 3 then { h' with clkOn := false, pwrOn := false, stoppedAt := if h.clkOn then now else h.stoppedAt }
  else if pol = 2 ∨ h.policy = 3 then h'.woken now
  else h'

/-- A write of PAGE_CTL: the fields written with LOCK take effect, and the lock binds from the next write. -/
def Device.pageCtl (d : Device) (p : Page) (i v : Nat) : Device :=
  let h := d.page p i
  let en := if p.mayHold then bitOf v 0 else h.enable
  let w := bitsOf v 1 3
  let old := h.policyNext.getD h.policy
  let pol := if p.alwaysRuns then old else if w < 3 ∨ (w = 3 ∧ p.mayHold = true) then w else old
  if h.lock then (if en != h.enable || (!p.alwaysRuns && w != old) then d.countLocked p i else d)
  else
    let was := d.pageOn p i
    let d := d.setPage p i { h.withPolicy pol d.power.aon with enable := en, lock := bitOf v 31 }
    let is := d.pageOn p i
    if was && !is then d.blockHeld p i else if !was && is then d.blockFreed p i else d

/-- A write of 1 to bits of ERR_INJ raises their flags, with 0xFF in every INFO byte (R647). -/
def Device.inject (d : Device) (p : Page) (i v : Nat) : Device :=
  let ff := List.replicate 35 0xFF
  d.rwl p i (v % 2 ^ 32 != 0) (fun d =>
    (p.errFlags.filter (fun f => bitOf v f.bit)).foldl (fun (d : Device) f => d.raise f i ff ff) d)

/-- A write of EVT_EN. -/
def Device.evtEnable (d : Device) (p : Page) (i v : Nat) : Device :=
  let new := BitVec.ofNat 16 v
  d.rwl p i (new != (d.page p i).evtEn) (fun d => d.setPage p i { d.page p i with evtEn := new })

/-- A write of a header word. The summary pages DEV and EVTSUM hold no flags. -/
def Device.writeHeader (d : Device) (ag : Agent) (p : Page) (i off v : Nat) : Device :=
  match off with
  | 0x004 => d.pageCtl p i v
  | 0x010 => d.clearEvt p i (v / 65536)
  | 0x014 => d.evtEnable p i v
  | 0x01C => d.clearErr p i (v / 65536) ag
  | 0x020 => d.inject p i v
  | _ => d

/-! ### Words that start work -/

/-- LOCK_ALL: the lock of every present page (R657). -/
def Device.lockAll (d : Device) : Device :=
  d.allPages.foldl (fun (d : Device) e => d.setPage e.1 e.2 { d.page e.1 e.2 with lock := true }) d

/-- Draw a free number: a value that other devices or the part would supply. -/
def Device.drawNat (d : Device) : Device × Nat := (d.nextFree, Config.freeNat d.fresh)

/-- A write of RGN_CMD. What the other devices have free, and whether one uses the region, is not seen here: free values. -/
def Device.regionWord (d : Device) (v : Nat) : Device :=
  let rid := bitsOf v 16 12
  let (d, n) := d.drawNat
  match bitsOf v 0 3 with
  | 1 => d.create n
  | 2 => d.destroy rid (n % 2 == 1)
  | 3 => d.modifyRegion rid
  | 4 => d.readRegion rid
  | op => d.rwl .region 0 (op != 0 || rid != 0) (fun d => if d.regions.cmd.isSome then d.raise REGION.flag.CMD_BUSY 0 [] [] false else d)

/-- A write of FAIL.CMD. Whether a job of another device names the DUT is a free value. -/
def Device.failWord (d : Device) (v : Nat) : Device :=
  let id := bitsOf v 16 10
  let (d, n) := d.drawNat
  let busy := n % 2 == 1
  match bitsOf v 0 4 with
  | 1 => d.geoSet id
  | 2 => d.geoClear id
  | 3 => d.geoRead id
  | 4 => d.dutBind id
  | 5 => d.dutUnbind id busy
  | 6 => d.dutClear id busy
  | 7 => d.dutRebuild id busy
  | 8 => d.dutRead id
  | op => d.rwl .fail 0 (op != 0 || id != 0) (fun d => d)

/-- A write of GRP_CTL (R272, R277). -/
def Device.groupWord (d : Device) (v : Nat) : Device :=
  let g := d.reg MCAST.GRP_SEL.GROUP
  let en := bitOf v 0
  let change (f : Field) := d.changes f (f.of v) g
  d.rwl .mcast 0 (change MCAST.GRP_CTL.ENABLE || change MCAST.GRP_CTL.CLASS || change MCAST.GRP_CTL.PREFETCH) (fun d =>
    let d := (d.groupCfg g 3 (MCAST.GRP_CTL.CLASS.of v)).store MCAST.GRP_CTL.PREFETCH (MCAST.GRP_CTL.PREFETCH.of v) g
    if en = d.groupOn g then d else if en then d.groupEnable g else d.groupDisable g)

/-- A write of GRP_BASE_LO, GRP_BASE_HI or GRP_LEN. -/
def Device.groupCfgWord (d : Device) (k v : Nat) : Device :=
  let g := d.reg MCAST.GRP_SEL.GROUP
  let w := (groupField k).of v
  d.rwl .mcast 0 (d.changes (groupField k) w g) (fun d => d.groupCfg g k w)

/-- A write of Q_CTL of a ring (R320, R326, R387): CFG_BUSY where it would change a field that the queue freezes. -/
def Device.ringWord (d : Device) (r v : Nat) : Device :=
  let b := r % 100
  let en := ringF r ASSAY.Q_CTL.ENABLE DMA.Q_CTL.ENABLE
  let irq := ringF r ASSAY.Q_CTL.IRQ_EN DMA.Q_CTL.IRQ_EN
  let vec := ringF r ASSAY.Q_CTL.VECTOR DMA.Q_CTL.VECTOR
  let cfg := (List.range 5).map (ringField r)
  let put (d : Device) (f : Field) := d.store f (f.of v) b
  let change (f : Field) := d.changes f (f.of v) b
  let d := d.rwl en.page 0 (change en || change irq || change vec || cfg.any change) (fun d =>
    let frozen := (d.ring r).disabling || d.flagReg en b
    let d := if !frozen then cfg.foldl put d else if cfg.any change then d.cfgBusy r else d
    let d := put (put d irq) vec
    if !change en then d else if en.of v = 1 then d.ringEnable r else d.ringDisable r)
  if bitOf v 1 then d.ringAbort r else d

/-- The fields of a ring that a word at an offset writes, by their number in `ringField`. -/
def ringCfgAt (off : Nat) : List Nat :=
  match off with
  | 0x108 => [5] | 0x10C => [6] | 0x110 => [7] | 0x114 => [8] | 0x118 => [9, 10]
  | _ => []

/-- A write of a ring base or of Q_SIZE. -/
def Device.ringCfgWord (d : Device) (r off v : Nat) : Device :=
  let fs := (ringCfgAt off).map (ringField r)
  let b := r % 100
  d.rwl (ringF r ASSAY.Q_CTL.ENABLE DMA.Q_CTL.ENABLE).page 0 (fs.any (fun f => d.changes f (f.of v) b)) (fun d =>
    if (d.ring r).disabling || d.ringReg r ASSAY.Q_CTL.ENABLE DMA.Q_CTL.ENABLE == 1 then d.cfgBusy r
    else fs.foldl (fun (d : Device) f => d.store f (f.of v) b) d)

/-- A write to the ASSAY or DMA page; `base` is 0 or 100, `n` the number of queues. -/
def Device.writeRings (d : Device) (p : Page) (base n off v : Nat) : Device :=
  let r := base + d.bankOf p 0 off
  if off = 0x104 then d.ringWord r v
  else if !(ringCfgAt off).isEmpty then d.ringCfgWord r off v
  else if 0x200 ≤ off ∧ off < 0x200 + 8 * n then
    (if off % 8 = 0 then d.sqTail r (v % 4096) else d.cqHeadWrite r (v % 4096))
  else d.plainWrite p 0 off v

/-- A write of ADMIT_CMD: with both bits 1 it has no effect (R355). -/
def Device.admitWord (d : Device) (v : Nat) : Device :=
  if bitOf v 0 && bitOf v 1 then d else if bitOf v 0 then d.apply else if bitOf v 1 then d.revert else d

/-- A write of WIN_CMD; an unbound window discards it (R178, R193). -/
def Device.winWord (d : Device) (n v : Nat) : Device :=
  if !(d.flagReg BWIN.WIN_BIND.VALID n) then d
  else if bitOf v 0 && bitOf v 1 then d.winCmdState n
  else if bitOf v 0 then d.winCommit n else if bitOf v 1 then d.winAbort n else d

/-- A write of CONTAIN of a link. -/
def Device.containWord (d : Device) (ag : Agent) (p l v : Nat) : Device :=
  let d := if bitOf v 0 then (d.contain p l 6).proceed else d
  if bitOf v 1 then d.release ag p l else d

/-- A write of LINK_CTL of a link: its rate and preset count from the next DETECT on (R217, R247). -/
def Device.linkWord (d : Device) (k : LinkId) (v : Nat) : Device :=
  let d := if (d.link k).state = .detect then d.setLink k (d.link k) else d
  let d := d.plainWrite (linkPage k) (linkNo k) 0x100 v
  let d := if bitOf v 3 then d.setReg (lf k SITE.LINK_CTL.FORCE_NEW PEER.LINK_CTL.FORCE_NEW) 1 (linkNo k) else d
  if bitOf v 1 then d.retrainLink k else d

/-- A write of CAL_CMD: the lowest bit that is 1 acts. -/
def Device.calWord1 (d : Device) (ag : Agent) (v : Nat) : Device :=
  if bitOf v 0 then d.calOpen ag else if bitOf v 1 then d.calCommit ag else if bitOf v 2 then d.calAbort ag else d

/-- A write of FW_CMD. Whether the OTP takes a COMMIT is a free value. -/
def Device.fwWord (d : Device) (v : Nat) : Device :=
  let d := if bitOf v 0 then d.fwConfirm else d
  if bitOf v 1 then
    let (d, n) := d.drawNat
    d.fwCommit (n % 2 == 1)
  else d

/-- A write of DBG_CMD. -/
def Device.dbgWord (d : Device) (ag : Agent) (v : Nat) : Device :=
  let d := if bitOf v 0 && d.dbgAgent ag then d.challenge.1 else d
  let d := if bitOf v 1 && d.tokenAgent ag then d.submit else d
  if bitOf v 2 && d.dbgAgent ag then d.relock else d

/-- Words of the DEV, FC, REGION, TIER, BAKER, COH, BATCH, MCAST and FAIL pages. -/
def Device.writeA (d : Device) (p : Page) (i off v : Nat) : Device :=
  match p, off with
  | .dev, 0x134 => if bitOf v 0 then d.lockAll else d
  | .fc, 0x118 => if bitOf v 1 then d.setReg FC.FT_STAT.PEND 0 else d
  | .fc, 0x140 => if bitOf v 2 then d.fcTest (v % 4) else d.plainWrite p i off v
  | .region, 0x130 => d.regionWord v
  | .tier, 0x140 => if bitOf v 0 then d.auditStart else d
  | .baker, 0x10C => (d.pairWrite p i off v BAKER.WATERMARK.LOW_PCT BAKER.WATERMARK.HIGH_PCT).capUpdate
  | .coh, 0x118 => if bitOf v 0 then d.dirQuery else d
  | .batch, 0x130 => let d := d.plainWrite p i off v; if bitOf v 16 then d.outcomeQuery else d
  | .mcast, 0x104 => d.groupWord v
  | .mcast, 0x108 => d.groupCfgWord 0 v
  | .mcast, 0x10C => d.groupCfgWord 1 v
  | .mcast, 0x110 => d.groupCfgWord 2 v
  | .fail, 0x100 => d.failWord v
  | .fail, 0x110 | .fail, 0x114 | .fail, 0x118 => if (d.page p i).lock then d.plainWrite p i off v else (d.plainWrite p i off v).geoSizes
  | _, _ => d.plainWrite p i off v

/-- Is a word of the QOS page a staging register of the class table (R335, R355)? -/
def qosStaging (off : Nat) : Bool := off == 0x120 || off == 0x124 || (decide (0x400 ≤ off) && decide (off % 0x40 ≤ 0x10))

/-- Words of the QOS, INTEG, TWIN, LEDGER, MINT, FWSEC, AGE, CAL, HSW and RST pages. -/
def Device.writeB (d : Device) (ag : Agent) (p : Page) (i off v : Nat) : Device :=
  match p, off with
  | .qos, 0x108 => d.admitWord v
  | .qos, off => if qosStaging off && d.qos.applying then d else d.plainWrite p i off v
  | .integ, 0x11C =>
    if v % 4 = 1 then d.retireStart false else if v % 4 = 2 then d.retireStart true else d.rwl .integ 0 (v % 4 != 0) (fun d => d)
  | .twin, 0x100 =>
    let d := d.plainWrite p i off v
    let d := if bitOf v 0 then d.withdrawCmd else d
    if bitOf v 1 then d.retake else d
  | .ledger, 0x120 => if bitOf v 0 then d.rdStart (bitOf v 1) (bitsOf v 4 6) else d.plainWrite p i off v
  | .ledger, 0x180 => if bitOf v 0 then d.noteAppend else d
  | .mint, 0x10C => if bitOf v 0 then d.rekeyStart else d
  | .fwsec, 0x108 => d.fwWord v
  | .fwsec, 0x114 => d.dbgWord ag v
  | .fwsec, off => if 0x200 ≤ off then d.storeToken (off - 0x200) (leBytes 4 v) else d.plainWrite p i off v
  | .age, 0x100 =>
    let d := d.plainWrite p i off v
    if bitOf v 10 then d.nextFree.makePlan (Config.freeItems d.fresh) else d
  | .cal, 0x104 => d.calWord1 ag v
  | .cal, 0x108 => if d.calAgent ag then d.plainWrite p i off v else d
  | .cal, 0x10C => d.calWrite ag v
  | .hsw, 0x110 =>
    let d := if bitOf v 0 then d.hswOff else d
    if bitOf v 1 then d.hswOn else d
  | .rst, 0x104 => if bitOf v 0 then d.devCmdReset else d
  | .rst, 0x108 =>
    let d := d.plainWrite p i off v
    if bitOf v 31 then d.blockReset (v % 16) (bitsOf v 8 6) else d
  | _, _ => d.plainWrite p i off v

/-- Words of the pages with many instances. -/
def Device.writeC (d : Device) (ag : Agent) (p : Page) (i off v : Nat) : Device :=
  match p, off with
  | .host, 0x110 => d.winCfg i 0 (v % 65536) (bitsOf v 16 6)
  | .host, 0x114 => d.winLbase i 0 (v % 1024)
  | .host, 0x118 => d.winCfg i 1 (v % 65536) (bitsOf v 16 6)
  | .host, 0x11C => d.winLbase i 1 (v % 1024)
  | .host, 0x130 => d.containWord ag i 0 v
  | .host, 0x134 => d.containWord ag i 1 v
  | .peer, 0x100 => d.linkWord (.peer i) v
  | .site, 0x100 => d.linkWord (.site i) v
  | .site, 0x140 => d.rwl .site i (d.changes SITE.SITE_CLASS.CLASS v i) (fun d => d.siteClassWrite i (v % 16))
  | .bwin, 0x108 => d.winBaseWrite i false v
  | .bwin, 0x10C => d.winBaseWrite i true v
  | .bwin, 0x110 => d.winWord i v
  | .ddrch, 0x104 => let d := d.plainWrite p i off v; if bitOf v 0 then (d.plannedRetrain i).1 else d
  | .ddrch, 0x110 => d.pairWrite p i off v DDRCH.WDRAIN.LOW DDRCH.WDRAIN.HIGH
  | _, _ => d.plainWrite p i off v

/-- The first request to a stopped block wakes it, with every page on its clock; a sleeping site link enters DETECT, and a HELD_OFF
written while the block was gated takes its effect (R27, R244, R586, R604). -/
def Device.blockWake (d : Device) (p : Page) (i : Nat) : Device :=
  if Page.count d.hw.gradeH p ≤ i ∨ (d.page p i).policy = 3 then d
  else
    let on (k : Nat) : Bool := d.pageOn p k
    let d := ((clockPages p i).filter (fun k => (d.page p k).policy != 3)).foldl (fun (d : Device) k =>
      d.setPage p k ((d.page p k).woken d.power.aon)) d
    let d := ((clockPages p i).filter (fun k => on k && !(d.pageOn p k))).foldl (fun (d : Device) k => d.blockHeld p k) d
    match p with
    | .site => d.wake (.site i)
    | .ddrch => d.wakeChan i
    | _ => d

/-- A write of 1 to a W1S field that starts work wakes a stopped block (R586, R641). FORCE_NEW starts none: it is an offer for the next session
(DEDUCED, log entry 149). -/
def Device.wakeForWork (d : Device) (p : Page) (i off v : Nat) : Device :=
  let h := d.page p i
  if !(h.clkOn && h.pwrOn) && (p.word off).any (fun f => f.acc == .w1s && f.of v == 1 && f != SITE.LINK_CTL.FORCE_NEW && f != PEER.LINK_CTL.FORCE_NEW)
  then d.blockWake p i else d

/-- A write of a word of a block. -/
def Device.writeBlock (d : Device) (ag : Agent) (p : Page) (i off v : Nat) : Device :=
  match p with
  | .assay => d.writeRings p 0 16 off v
  | .dma => d.writeRings p 100 4 off v
  | .host | .peer | .site | .bwin | .ddrch => d.writeC ag p i off v
  | .dev | .fc | .region | .tier | .baker | .coh | .batch | .mcast | .fail => d.writeA p i off v
  | _ => d.writeB ag p i off v

/-- A write that reaches a page. -/
def Device.writePage (d : Device) (ag : Agent) (p : Page) (i off v : Nat) : Device :=
  if off < 0x2C ∧ (p ≠ .ddrch ∨ off ≠ 0x20) then d.writeHeader ag p i off v
  else (d.wakeForWork p i off v).writeBlock ag p i off v

/-! ### Writes of an agent -/

/-- Words that the steward may not reach (R499, R571, R603). -/
def stewardBarred (p : Page) (off : Nat) : Bool :=
  (p == .cal && (off == 0x104 || off == 0x108 || off == 0x10C)) || (p == .fwsec && (off == 0x108 || off == 0x114 || decide (0x200 ≤ off)))

/-- A 4 B write of the register space by an agent. A write to a page in a block reset waits for its end (R659). -/
def Device.writeReg (d : Device) (ag : Agent) (addr v : Nat) : Device :=
  match d.pageAt addr with
  | some (p, i) =>
    if !(d.reaches ag p i) then d
    else if d.pageInReset p i then { d with power := { d.power with late := d.power.late ++ [(ag, addr, v % 2 ^ 32)] } }
    else d.writePage ag p i (addr % 4096) (v % 2 ^ 32)
  | none => d

/-- BLOCK_WAKE. -/
def execBlockWake (p : Page) (i : Nat) (s : State) : Host.Outcome State Fault Refusal := s.run (fun d => d.blockWake p i)

end Sys2Proof.Machine
end

