-- ==== Sys2Proof/Machine/Dma.lean ====
section
/-! DEFINITION. The DMA engine: descriptors, copies and fills between address spaces, and its commands (Host Ports, R380 to R388). -/

namespace Sys2Proof.Machine

/-! ### Descriptors (R381, R383) -/

/-- The unit of an address space: 0 QLA, 1 HOST, 2 RAW, 3 REG. -/
def spaceUnit (space : Nat) : Nat := if space = 1 ∨ space = 3 then 4 else 64

/-- Is a range of an address space well formed? A raw range must be installed (log entry 20). -/
def Device.rangeOk (d : Device) (space addr len : Nat) : Bool :=
  addr % spaceUnit space == 0 && len % spaceUnit space == 0 &&
  match space with
  | 0 => decide (addr < 2 ^ 46)
  | 2 => decide (addr < 2 ^ 43) && decide (addr + len ≤ d.rawBytes)
  | 3 => decide (addr + len ≤ 0x800000) && addr / 4096 == (addr + len - 1) / 4096
  | _ => true

/-- Is a descriptor a FILL? -/
def DmaRun.fill (x : DmaRun) : Bool := descField x.desc 0 2 == 2
/-- SRC_SPACE. -/
def DmaRun.srcSpace (x : DmaRun) : Nat := descField x.desc 4 1 % 4
/-- DST_SPACE. -/
def DmaRun.dstSpace (x : DmaRun) : Nat := descField x.desc 4 1 / 4 % 4
/-- SRC. -/
def DmaRun.src (x : DmaRun) : Nat := descField x.desc 8 8
/-- DST. -/
def DmaRun.dst (x : DmaRun) : Nat := descField x.desc 16 8
/-- LENGTH. -/
def DmaRun.length (x : DmaRun) : Nat := descField x.desc 24 4

/-- Does a descriptor keep to the table of R383? -/
def Device.dmaOk (d : Device) (x : DmaRun) : Bool :=
  let op := descField x.desc 0 2
  (op == 1 || op == 2) && decide (descField x.desc 4 1 < 16) && descField x.desc 5 3 == 0 && descField x.desc 28 4 == 0
    && decide (4 ≤ x.length) && decide (x.length ≤ 2 ^ 24) && d.rangeOk x.dstSpace x.dst x.length
    && (x.fill || d.rangeOk x.srcSpace x.src x.length)

/-- A fetch of a DMA descriptor ends: it waits for its turn, or ends at once by its checks; one that could not be read ends
DESC_UNREADABLE and stops the queue (R318, R384). -/
def Device.dmaFetched (d : Device) (r : Nat) : Device :=
  let (d, as) := d.takeInbox 2 r
  let q := d.ring r
  match as with
  | [] => d
  | a :: _ =>
    if q.state ≠ 1 then d.setRing r { q with fetching := false }
    else
      let x : DmaRun := { id := d.eng.nextJob, ring := r, desc := d.entryOf r a }
      let d := d.setRing r { q with fetching := false, head := (q.head + 1) % d.sqSize r }
      let d := { d with eng := { d.eng with nextJob := d.eng.nextJob + 1 } }
      if readStatus a ≠ 0 then
        let d := d.setRing r { d.ring r with stopping := true }
        (d.complete r 10 (dmaCpl { x with desc := List.replicate 32 0 } 10)).ringSettle r
      else if q.aborting ∨ q.disabling then (d.complete r 6 (dmaCpl x 6)).ringSettle r
      else if d.dmaOk x then { d with eng := { d.eng with dma := d.eng.dma ++ [x] } }.ringFetch r
      else (d.complete r 1 (dmaCpl x 1)).ringFetch r

/-! ### Moving data (R382, R385) -/

/-- Replace a descriptor by its number. -/
def Device.setDma (d : Device) (x : DmaRun) : Device :=
  { d with eng := { d.eng with dma := d.eng.dma.map (fun (y : DmaRun) => if y.id = x.id then x else y) } }

/-- The descriptor that a ring serves now. -/
def Device.dmaFront (d : Device) (r : Nat) : Option DmaRun := d.eng.dma.find? (fun x => x.ring == r)

/-- A descriptor stops at the first byte that it cannot move. -/
def Device.dmaFail (d : Device) (x : DmaRun) (status : Nat) : Device :=
  d.setDma { x with phase := 0, got := [], stop := some (x.stop.getD status) }

/-- `n` bytes have been moved; the descriptor ends with its last. -/
def Device.dmaMoved (d : Device) (x : DmaRun) (n : Nat) : Device :=
  let rest := x.got.drop n
  let y : DmaRun := { x with moved := x.moved + n, got := rest, phase := 0, poison := x.poison || x.bad, bad := x.bad && !rest.isEmpty }
  let stop := if y.moved = y.length then some (y.stop.getD (if y.poison then 8 else 0)) else y.stop
  (d.setDma { y with stop := stop }).countPair DMA.BYTES_LO.BYTES_LO DMA.BYTES_HI.BYTES_HI n

/-- The bytes of a chunk: one unit of the register space where both ends lie there, otherwise up to a line. -/
def DmaRun.chunk (x : DmaRun) : Nat :=
  if x.dstSpace = 3 ∧ (x.srcSpace = 3 ∨ x.fill = true) then 4 else min 64 (x.length - x.moved)

/-- Is a raw address reachable now: its channel serves? -/
def Device.rawServes (d : Device) (ra : Nat) : Bool :=
  let s := (d.chan (channelOf ra)).state
  s == .active || s == .selfRefresh || s == .failed

/-- Read a raw burst for the engine's class. -/
def Device.dmaRaw (d : Device) (cls ra : Nat) : Device × Line × Bool :=
  let (d, v, p, dram) := d.readBurst ra cls
  ((if dram then d.chargeDeq cls 64 else d).chargeBytes cls 64, v, p)

/-- A piece of the host source that holds its next byte. -/
def DmaRun.partAt (x : DmaRun) (pos : Nat) : Option HostPart :=
  x.parts.find? (fun h => h.off == pos || (decide (h.off ≤ pos) && decide (pos < h.off + h.bytes.length)))

/-- Has the next piece of a host source ended in error: what is in hand before it can still be moved (R385)? -/
def DmaRun.endsShort (x : DmaRun) : Bool :=
  x.srcSpace == 1 && !x.fill && (match x.partAt (x.moved + x.got.length) with | some h => h.status == 7 | none => false)

/-- Take the next bytes of a host source from what has arrived, or ask for a further piece while a tag is free (R376, R385). -/
def Device.dmaHost (d : Device) (x : DmaRun) : Device :=
  let r := x.ring; let p := d.ringPort r; let l := d.ringLink r
  let pos := x.moved + x.got.length
  match x.partAt pos with
  | some h =>
    if h.status = 7 then d.dmaFail x 7
    else
      let bs := (h.bytes.drop (pos - h.off)).take (x.chunk - x.got.length)
      let used := decide (h.off + h.bytes.length ≤ pos + bs.length)
      d.setDma { x with got := x.got ++ bs, bad := x.bad || h.status == 1, parts := if used then x.parts.erase h else x.parts }
  | none =>
    if !(d.ringBound r && d.outUsable p l) then d.dmaFail x 5
    else if x.length ≤ x.asked then d.setDma x
    else
      let addr := x.src + x.asked
      let n := (d.hostLink p l).pieceLen addr (x.length - x.asked)
      let (d, ok) := d.outPiece p l addr n 8 x.id x.asked
      d.setDma (if ok then { x with asked := x.asked + n } else x)

/-- Read the next bytes of the source into the chunk in hand. -/
def Device.dmaRead (d : Device) (x : DmaRun) : Device :=
  let addr := x.src + x.moved + x.got.length
  let r := x.ring
  if x.fill then
    d.setDma { x with got := (List.range x.chunk).map (fun k => x.desc.getD (8 + (x.moved + k) % 8) 0) }
  else match x.srcSpace with
  | 0 => (d.setDma { x with phase := 1 }).engRead 3 x.id (d.ringClass r) (addr % 2 ^ 64) 1
  | 1 => d.dmaHost x
  | 2 =>
    match d.rawBlocked addr with
    | some range => (d.blockedAccess 1 range addr).dmaFail x 4
    | none =>
      if !(d.rawServes addr) then d
      else
        let (d, v, p) := d.dmaRaw (d.ringClass r) addr
        d.setDma { x with got := lineBytes v, bad := p }
  | _ =>
    let (d, v) := d.readReg (.dma (r % 100)) addr
    d.setDma { x with got := x.got ++ leBytes 4 v }

/-- Write bytes to host memory, cut at 4 KiB boundaries. -/
def Device.hostPut (d : Device) (p l addr : Nat) (bytes : List Nat) (poison : Bool) : Device × Bool :=
  let n := 4096 - addr % 4096
  let (d, ok) := d.outWrite p l addr (bytes.take n) poison
  if bytes.length ≤ n ∨ ok = false then (d, ok) else d.outWrite p l (addr + n) (bytes.drop n) poison

/-- Write the chunk in hand to the destination. Poisoned data gives a register a free value: the spec states no other (log entry 21). -/
def Device.dmaWrite (d : Device) (x : DmaRun) : Device :=
  let addr := x.dst + x.moved
  let r := x.ring
  let cls := d.ringClass r
  match x.dstSpace with
  | 0 =>
    let d := d.setDma { x with phase := 2 }
    if x.bad then (d.chargeBytes cls 64).route (engineReq d 3 x.id cls (addr % 2 ^ 64) .poisonWrite) else d.engWrite 3 x.id cls addr x.got
  | 1 =>
    let (e, ok) := if d.ringBound r then d.hostPut (d.ringPort r) (d.ringLink r) addr x.got x.bad else (d, false)
    if ok then e.dmaMoved x x.got.length else d.dmaFail x 5
  | 2 =>
    match d.rawBlocked addr with
    | some range => (d.blockedAccess 1 range addr).dmaFail x 4
    | none =>
      if !(d.rawServes addr) then d
      else (((d.writeBurst addr (lineOfBytes x.got) x.bad).chargeDeq cls 64).chargeBytes cls 64).dmaMoved x 64
  | _ =>
    let (d, f) := if x.bad then d.drawNat else (d, 0)
    let v := if x.bad then f else ofLe (x.got.take 4)
    (d.dmaMoved x 4).writeReg (.dma (r % 100)) addr v

/-- What the descriptor waits for has come back. -/
def Device.dmaAnswer (d : Device) (x : DmaRun) (a : EngineAnswer) : Device :=
  if x.phase = 2 then
    if a.status = 0 then d.dmaMoved x x.got.length else d.dmaFail x (if a.status = 2 then 3 else 2)
  else if a.status ≠ 0 then d.dmaFail x 2
  else
    let v := a.data.headD (0, true)
    d.setDma { x with phase := 0, got := lineBytes v.1, bad := v.2 }

/-- Note the pieces of host sources that have arrived for a ring's descriptor. -/
def Device.dmaArrivals (d : Device) (r : Nat) : Device :=
  match d.dmaFront r with
  | none => d
  | some x =>
    let (d, as) := d.takeInbox 8 x.id
    if as.isEmpty then d
    else d.setDma { x with parts := x.parts ++ as.map (fun a => { off := a.qla, bytes := a.bytes, status := a.status }) }

/-- One step of the descriptor that a ring serves: an answer is taken, the source is read, or the destination written. -/
def Device.dmaStep (d : Device) (r : Nat) : Device :=
  let d := d.dmaArrivals r
  match d.dmaFront r with
  | none => d
  | some x =>
    if x.phase ≠ 0 then
      let (d, as) := d.takeInbox 3 x.id
      match as with
      | a :: _ => d.dmaAnswer x a
      | [] => d
    else if x.stop.isSome ∧ x.got = [] then d
    else
      let x := { x with busy := true }
      let short := decide (x.dstSpace ≠ 3) && decide (x.got.length < x.chunk) && !(x.dstSpace == 1 && x.endsShort)
      if x.got = [] ∨ short then d.dmaRead x else d.dmaWrite x

/-- Several steps. -/
def Device.dmaSteps (d : Device) (r : Nat) : Nat → Device
  | 0 => d
  | n + 1 => (d.dmaStep r).dmaSteps r n

/-- Is it a queue's turn to have its next descriptor taken up: the first queue in rotation whose descriptor waits (R382; DEDUCED, log entry 144)? -/
def Device.dmaTurn (d : Device) (q : Nat) : Bool :=
  ((List.range 4).map (fun i => (d.eng.dmaTurn + i) % 4)).find? (fun k =>
    match d.dmaFront (100 + k) with | some x => !x.busy | none => false) == some q

/-- The engine moves the data of a queue's descriptor, if it is of the kind named, and the engines run (R500). The queues take turns, one descriptor of
each at a time (R382). -/
def Device.dmaRun (d : Device) (q n : Nat) (fill : Bool) : Device :=
  if 4 ≤ q ∨ d.enginesHeld = true ∨ d.hubUp = false ∨ n = 0 then d
  else match d.dmaFront (100 + q) with
    | some x =>
      if x.fill ≠ fill then d
      else if x.busy then d.dmaSteps (100 + q) n
      else if d.dmaTurn q then { d with eng := { d.eng with dmaTurn := (q + 1) % 4 } }.dmaSteps (100 + q) n
      else d
    | none => d

/-- Before a descriptor ends it takes the answer that it waits for. -/
def Device.descAnswer (d : Device) (r : Nat) : Device :=
  match d.dmaFront r with
  | some x => if x.phase = 0 then d else d.dmaStep r
  | none => d

/-- A descriptor ends: all of it is moved, or it has stopped, and nothing of it is in flight (R384). -/
def Device.descDone (d : Device) (r : Nat) : Device :=
  let d := d.descAnswer r
  match d.dmaFront r with
  | none => d
  | some x =>
    match x.stop with
    | some st => if x.phase = 0 ∧ x.got = [] then (d.endDma x st).ringFetch r else d
    | none => d

/-! ### The commands -/

/-- A command of a DMA queue. -/
def Device.onDma (d : Device) (q : Nat) (f : Device → Device) : Device := if q < 4 ∧ d.hubUp = true then f d else d

/-- DMA_SQ_TAIL. -/
def execDmaSqTail (q v : Nat) (s : State) : Host.Outcome State Fault Refusal := s.run (fun d => d.onDma q (fun d => d.sqTail (100 + q) v))

/-- DMA_CQ_HEAD. -/
def execDmaCqHead (q v : Nat) (s : State) : Host.Outcome State Fault Refusal := s.run (fun d => d.onDma q (fun d => d.cqHeadWrite (100 + q) v))

/-- DMA_ENABLE. -/
def execDmaEnable (q : Nat) (s : State) : Host.Outcome State Fault Refusal :=
  s.run (fun d => d.onDma q (fun d => d.rwl .dma 0 (d.changes DMA.Q_CTL.ENABLE 1 q) (fun d => d.ringEnable (100 + q))))

/-- DMA_DISABLE. -/
def execDmaDisable (q : Nat) (s : State) : Host.Outcome State Fault Refusal :=
  s.run (fun d => d.onDma q (fun d => d.rwl .dma 0 (d.changes DMA.Q_CTL.ENABLE 0 q) (fun d => d.ringDisable (100 + q))))

/-- DMA_ABORT. -/
def execDmaAbort (q : Nat) (s : State) : Host.Outcome State Fault Refusal := s.run (fun d => d.onDma q (fun d => d.ringAbort (100 + q)))

/-- DMA_CFG_WRITE. -/
def execDmaCfgWrite (q k v : Nat) (s : State) : Host.Outcome State Fault Refusal :=
  s.run (fun d => d.onDma q (fun d => d.ringCfg (100 + q) k v))

/-- DMA_DESC_FETCHED. -/
def execDmaDescFetched (q : Nat) (s : State) : Host.Outcome State Fault Refusal := s.run (fun d => d.onDma q (fun d => d.dmaFetched (100 + q)))

/-- COPY: `n` steps of the COPY descriptor that a queue serves. -/
def execCopy (q n : Nat) (s : State) : Host.Outcome State Fault Refusal := s.run (fun d => d.dmaRun q n false)

/-- FILL: `n` steps of the FILL descriptor that a queue serves. -/
def execFill (q n : Nat) (s : State) : Host.Outcome State Fault Refusal := s.run (fun d => d.dmaRun q n true)

/-- DESC_DONE. -/
def execDescDone (q : Nat) (s : State) : Host.Outcome State Fault Refusal := s.run (fun d => d.onDma q (fun d => d.descDone (100 + q)))

end Sys2Proof.Machine
end

