-- ==== Sys2Proof/Machine/ConfigSpace.lean ====
section
/-! DEFINITION. The configuration space of a host link's function (Host Ports, R362, R363, R367, R368), and its BAR0 above the register pages (Register Map, R654). -/

namespace Sys2Proof.Machine

/-- The capabilities of a function (R363). -/
inductive Capability where
  | powerManagement | msix | pciExpress
  | advancedErrorReporting | deviceSerialNumber | secondaryPciExpress | dataLinkFeature
  | physicalLayer16 | physicalLayer32 | physicalLayer64 | laneMargining
  | doe (instance_ : Nat) | dvsecCxlDevice | dvsecFlexBus | dvsecRegisterLocator | dvsecLinkIdentity | device3
  deriving DecidableEq, Repr

/-- The capabilities at their configuration offsets (R363). -/
def capabilityLayout : List (Nat × Capability) :=
  [(0x040, .powerManagement), (0x050, .msix), (0x060, .pciExpress), (0x100, .advancedErrorReporting), (0x150, .deviceSerialNumber),
   (0x160, .secondaryPciExpress), (0x190, .dataLinkFeature), (0x1A0, .physicalLayer16), (0x1D0, .physicalLayer32), (0x200, .physicalLayer64),
   (0x220, .laneMargining), (0x270, .doe 0), (0x290, .doe 1), (0x2B0, .dvsecCxlDevice), (0x2F0, .dvsecFlexBus), (0x310, .dvsecRegisterLocator),
   (0x340, .dvsecLinkIdentity), (0x360, .device3)]

/-- The capability ID that PCIe gives a capability (PRESUMED from PCI Express, log entry 125). -/
def Capability.id : Capability → Nat
  | .powerManagement => 0x01 | .msix => 0x11 | .pciExpress => 0x10
  | .advancedErrorReporting => 0x0001 | .deviceSerialNumber => 0x0003 | .secondaryPciExpress => 0x0019 | .dataLinkFeature => 0x0025
  | .physicalLayer16 => 0x0026 | .physicalLayer32 => 0x002A | .physicalLayer64 => 0x0031 | .laneMargining => 0x0027
  | .doe _ => 0x002E | .dvsecCxlDevice | .dvsecFlexBus | .dvsecRegisterLocator | .dvsecLinkIdentity => 0x0023 | .device3 => 0x002F

/-- The offset of the next capability of the same list, 0 at its end. -/
def nextCapability (off : Nat) : Nat :=
  match (capabilityLayout.filter (fun e => decide (off < e.1) && (decide (e.1 < 0x100) == decide (off < 0x100)))).head? with
  | some e => e.1
  | none => 0

/-- The device ID, the vendor ID and the class code (R362). -/
def vendorId : Nat := 0x1F0E
/-- The device ID, on both grades. -/
def deviceId : Nat := 0x9416
/-- CXL memory device. -/
def classCode : Nat := 0x050210

/-- The fields of the link identity DVSEC (R367). -/
structure LinkIdentity where
  port : Nat
  link : Nat
  qid : Nat
  side : Nat
  members : Nat
  hostId : Nat
  hostIdValid : Bool
  winSizeLog2 : Nat
  winEn : Nat
  lbase : Nat
  deriving DecidableEq, Repr

/-- The link identity of a link. -/
def Device.linkIdentity (d : Device) (p l : Nat) : LinkIdentity :=
  let h := d.hostLink p l
  { port := p, link := l, qid := d.qid, side := d.side, members := d.membersLog2, hostId := d.hostId p l, hostIdValid := d.hostValid p l,
    winSizeLog2 := h.winLog2, winEn := d.reg (HOST.WIN_CFG.WIN_EN l) p, lbase := h.lbase }

/-- Its register at an offset into the DVSEC (R367). -/
def LinkIdentity.word (x : LinkIdentity) (off : Nat) : Nat :=
  match off with
  | 0x0C => x.port % 4 + 4 * (x.link % 2) + 8 * (x.qid % 4) + 32 * (x.side % 2) + 64 * (x.members % 4) + 256 * (x.hostId % 32)
      + (if x.hostIdValid then 8192 else 0)
  | 0x10 => x.winSizeLog2 % 64 + 65536 * (x.winEn % 65536)
  | 0x14 => x.lbase % 1024
  | _ => 0

/-- What the CXL PCIe DVSEC for CXL devices reports (R360, R368). -/
structure CxlDeviceDvsec where
  cacheCapable : Bool := false
  memCapable : Bool := true
  hdmCount : Nat := 1
  memHwInitMode : Bool := false
  memEnableSettable : Bool
  range1Size : Nat
  volatile : Bool := true
  memoryActiveTimeout : Nat := 3
  range2Size : Nat := 0
  memoryActive : Bool
  memClrCapable : Bool := false
  deriving DecidableEq, Repr

/-- The CXL PCIe DVSEC of a link's function. Memory_Active is 1 while the device is in service; a link that is not in 256 B flit mode cannot have
Mem_Enable set. -/
def Device.cxlDvsec (d : Device) (p l : Nat) : CxlDeviceDvsec :=
  let h := d.hostLink p l
  { memEnableSettable := h.flit256, range1Size := 16 * 2 ^ h.winLog2, memoryActive := d.serving }

/-- The registers of the configuration header (R362): its words at the offsets that PCIe gives its fields; `free` supplies the fields that the host
programs or PCIe defines. -/
def Device.cfgHeader (d : Device) (p l off free : Nat) : Nat :=
  let h := d.hostLink p l
  match off with
  | 0x00 => vendorId + 65536 * deviceId
  | 0x04 => free - bitsOf free 2 1 * 4 + (if h.bme then 4 else 0)
  | 0x08 => d.hw.stepping % 256 + 256 * classCode
  | 0x0C => free - bitsOf free 16 8 * 65536
  | 0x10 => h.bar / 2 ^ 26 % 64 * 2 ^ 26 + 4
  | 0x14 => h.bar / 2 ^ 32 % 2 ^ 32
  | 0x18 | 0x1C | 0x20 | 0x24 | 0x30 => 0
  | 0x2C => vendorId + 65536 * (d.hw.subsystem % 65536)
  | 0x34 => 0x40
  | 0x3C => free % 256
  | _ => free

/-- A 4-byte register of the configuration space of a link's function, at an offset that is a multiple of 4. What CXL and PCIe define for it is a free
value, but for the Completion Timeout bit of AER's Uncorrectable Error Status (PRESUMED from PCI Express, log entry 125). -/
def Device.configWord (d : Device) (p l off : Nat) : Nat :=
  let free := Config.cfgWord (2 * p + l) off % 2 ^ 32
  if off < 0x40 then d.cfgHeader p l off free
  else match KMap.find capabilityLayout off with
    | some c =>
      if off < 0x100 then c.id + 256 * nextCapability off + free / 65536 * 65536
      else c.id + 65536 * (bitsOf free 16 4) + 2 ^ 20 * nextCapability off
    | none =>
      if off = 0x104 then free - bitsOf free 14 1 * 2 ^ 14 + (if (d.hostLink p l).aerCto then 2 ^ 14 else 0)
      else if off = 0x154 then d.hw.uid % 2 ^ 32
      else if off = 0x158 then d.hw.uid / 2 ^ 32 % 2 ^ 32
      else if off = 0x344 then vendorId + 2 ^ 20 * 0x18
      else if off = 0x348 then 0x0001 + free / 65536 * 65536
      else if 0x34C ≤ off ∧ off < 0x358 then (d.linkIdentity p l).word (off - 0x340)
      else free

/-- The answer to a configuration read: Request Retry Status (none) until firmware runs (R627). -/
def Device.configAnswer (d : Device) (p l off : Nat) : Option Nat :=
  if d.power.mainOn && !d.power.hubReset && d.sec.run.isSome then some (d.configWord p l off) else none

/-! ### BAR0 (R654) -/

/-- The parts of BAR0 of a host function. -/
inductive BarPart where
  | summary | blocks | ddrChannels | windowControl | windowAperture | sitePages
  | component | devCapabilities | devStatus | mailbox | memStatus | msixTable | msixPba | reserved
  deriving DecidableEq, Repr

/-- The part in which an offset into BAR0 lies. -/
def barPart (off : Nat) : BarPart :=
  if off < 0x10000 then .summary else if off < 0x100000 then .blocks else if off < 0x110000 then .ddrChannels
  else if off < 0x200000 then .reserved else if off < 0x300000 then .windowControl else if off < 0x400000 then .windowAperture
  else if off < 0x800000 then .sitePages else if off < 0x810000 then .component else if off < 0x811000 then .devCapabilities
  else if off < 0x812000 then .devStatus else if off < 0x813000 then .mailbox else if off < 0x814000 then .memStatus
  else if off < 0x820000 then .reserved else if off < 0x821000 then .msixTable else if off < 0x822000 then .msixPba
  else .reserved

/-- The word of the MSI-X pending bits: bit v % 32 of word v / 32 for vector v; the first 32 B are used. -/
def HostLink.pbaWord (h : HostLink) (off : Nat) : Nat :=
  if off < 32 then ((List.range 32).filter (fun k => h.msixPending.contains (8 * (off / 4 * 4) + k))).foldl (fun n k => n + 2 ^ k) 0 else 0

/-- The word of an MSI-X table entry at an offset into the table: the mask bit of Vector Control, and a free value for what the host programs. -/
def HostLink.msixWord (h : HostLink) (off free : Nat) : Nat :=
  if off % 16 = 12 then free / 2 % 2 ^ 31 * 2 + (if h.msixOpen.contains (off / 16) then 0 else 1) else free % 2 ^ 32

/-- A 4 B read of BAR0 of a link's function above the register pages: the CXL structures are free values, a reserved range reads 0. -/
def Device.barWord (d : Device) (p l off : Nat) : Nat :=
  let free := Config.barWord (2 * p + l) off % 2 ^ 32
  match barPart off with
  | .component | .devCapabilities | .devStatus | .mailbox | .memStatus => free
  | .msixTable => (d.hostLink p l).msixWord (off - 0x820000) free
  | .msixPba => (d.hostLink p l).pbaWord (off - 0x821000)
  | _ => 0

/-- A 4 B read by an agent: above the register pages, what a host reads is its function's own (R654). -/
def Device.readWord (d : Device) (ag : Agent) (addr : Nat) : Device × Nat :=
  match ag with
  | .host p l => if 0x800000 ≤ addr then (d, if d.hubUp && d.linkPresent p l then d.barWord p l addr else 0) else d.readReg ag addr
  | _ => d.readReg ag addr

end Sys2Proof.Machine
end

