-- ==== Sys2Proof/Machine/RegCmds.lean ====
section
/-! DEFINITION. The commands of the register space: accesses of the agents, the endpoint's register commands, stewardship, the debug
memory-access port, and the end of a block reset (Register Map, R641 to R659; R499, R574, R605, R631). -/

namespace Sys2Proof.Machine

/-! ### Accesses of the management links and the device's firmware (R14, R366) -/

/-- An access of the wrong size or alignment: it has no effect, and raises the access error of a page that the agent reaches. -/
def Device.badAccess (d : Device) (ag : Agent) (addr size : Nat) : Device :=
  match d.pageAt addr with
  | some (p, i) => if d.reaches ag p i then d.accErr p i (leBytes 2 (addr % 4096) ++ [size % 256, agentIndex ag]) else d
  | none => d

/-- Is an access to the register space naturally aligned, of 4 or 8 bytes? -/
def accessOk (addr size : Nat) : Bool := (size == 4 || size == 8) && addr % size == 0

/-- A write of 4 B, or of 8 B as two of 4 B with the lower address first. -/
def Device.regWrite (d : Device) (ag : Agent) (addr size v : Nat) : Device :=
  if accessOk addr size then
    let d := d.writeReg ag addr (v % 2 ^ 32)
    if size = 8 then d.writeReg ag (addr + 4) (v / 2 ^ 32 % 2 ^ 32) else d
  else d.badAccess ag addr size

/-- A read of 4 B, or of 8 B as two of 4 B with the lower address first; the value goes back to the agent. -/
def Device.regRead (d : Device) (ag : Agent) (addr size : Nat) : Device :=
  if accessOk addr size then
    let (d, v) := d.readWord ag addr
    let (d, w) := if size = 8 then d.readWord ag (addr + 4) else (d, 0)
    d.send (.regValue ag addr (v + 2 ^ 32 * w))
  else (d.badAccess ag addr size).send (.regValue ag addr 0)

/-- REGISTER_WRITE. -/
def execRegisterWrite (ag : Agent) (addr size v : Nat) (s : State) : Host.Outcome State Fault Refusal :=
  s.run (fun d => d.regWrite ag addr size v)

/-- RL_READ. -/
def execRlRead (ag : Agent) (addr size : Nat) (s : State) : Host.Outcome State Fault Refusal := s.run (fun d => d.regRead ag addr size)

/-- EVT_CLR_WRITE. -/
def execEvtClrWrite (ag : Agent) (page v : Nat) (s : State) : Host.Outcome State Fault Refusal :=
  s.run (fun d => d.writeReg ag (4096 * page + 0x010) v)

/-- ERR_CLR_WRITE. -/
def execErrClrWrite (ag : Agent) (page v : Nat) (s : State) : Host.Outcome State Fault Refusal :=
  s.run (fun d => d.writeReg ag (4096 * page + 0x01C) v)

/-- ERR_INJ_WRITE. -/
def execErrInjWrite (ag : Agent) (page v : Nat) (s : State) : Host.Outcome State Fault Refusal :=
  s.run (fun d => d.writeReg ag (4096 * page + 0x020) v)

/-- PAGE_CTL_WRITE. -/
def execPageCtlWrite (ag : Agent) (page v : Nat) (s : State) : Host.Outcome State Fault Refusal :=
  s.run (fun d => d.writeReg ag (4096 * page + 0x004) v)

/-- LOCK_ALL. -/
def execLockAll (ag : Agent) (s : State) : Host.Outcome State Fault Refusal := s.run (fun d => d.writeReg ag 0x134 1)

/-- The address of CAL_DATA. -/
def calDataAddr : Nat := 0x2210C

/-- CAL_DATA_ACCESS. -/
def execCalDataAccess (ag : Agent) (write : Option Nat) (s : State) : Host.Outcome State Fault Refusal :=
  s.run (fun d => match write with
    | some v => d.writeReg ag calDataAddr v
    | none => d.regRead ag calDataAddr 4)

/-! ### Register commands of the management endpoint (R653) -/

/-- A register command of the endpoint: BAD_ARG for an address that is not aligned or lies outside the space, REFUSED for a page that the
endpoint does not reach. -/
def Device.epReg (d : Device) (code addr : Nat) (f : Device → Device × List Nat) : Device :=
  if !d.power.auxOk then d
  else if addr % 4 ≠ 0 ∨ 0x800000 ≤ addr then d.answerEp code 3 []
  else
    let seen := match d.pageAt addr with
      | some (p, i) => d.reaches .endpoint p i
      | none => d.hubUp && decide (addr / 4096 < 0x200 ∨ 0x400 ≤ addr / 4096)
    if seen then
      let (d, data) := f d
      d.answerEp code 0 data
    else d.answerEp code 1 []

/-- REG_READ. -/
def execRegRead (addr : Nat) (s : State) : Host.Outcome State Fault Refusal :=
  s.run (fun d => d.epReg 0x10 addr (fun d => let (d, v) := d.readReg .endpoint addr; (d, leBytes 4 v)))

/-- REG_WRITE. -/
def execRegWrite (addr v : Nat) (s : State) : Host.Outcome State Fault Refusal :=
  s.run (fun d => d.epReg 0x11 addr (fun d => (d.writeReg .endpoint addr v, [])))

/-! ### Stewardship (R499) -/

/-- Does an address lie in a word that the steward may not reach (R499)? -/
def Device.stewBarred (d : Device) (addr : Nat) : Bool :=
  match d.pageAt addr with
  | some (pg, _) => stewardBarred pg (addr % 4096)
  | none => false

/-- The steward's access to a register of this device, which answers it. -/
def Device.stewServe (d : Device) (p id addr : Nat) (write : Option Nat) : Device :=
  if !d.twin.stewarded || d.stewBarred addr then d.peerSend p none (.stewRsp id false 0)
  else if addr % 4 ≠ 0 then (d.badAccess .steward addr 4).peerSend p none (.stewRsp id true 0)
  else match write with
    | some v => (d.writeReg .steward addr v).peerSend p none (.stewRsp id true 0)
    | none =>
      let (d, v) := d.readReg .steward addr
      d.peerSend p none (.stewRsp id true v)

/-- A STEW_REQ arrives on the twin link. -/
def Device.stewReq (d : Device) (v : Via) (id addr : Nat) (write : Option Nat) : Device :=
  let m : PeerMsg := .stewReq id addr write
  if d.mayArrive v.p m && decide (3 ≤ v.p) then (d.consumeMsg v.p m).stewServe v.p id addr write else d

/-- STEW_REQ. -/
def execStewReq (v : Via) (id addr : Nat) (write : Option Nat) (s : State) : Host.Outcome State Fault Refusal :=
  s.run (fun d => d.stewReq v id addr write)

/-- A STEW_RSP arrives at the steward: the result goes back to its management. -/
def Device.stewRsp (d : Device) (v : Via) (id : Nat) (ok : Bool) (value : Nat) : Device :=
  let m : PeerMsg := .stewRsp id ok value
  if d.mayArrive v.p m && decide (3 ≤ v.p) then (d.consumeMsg v.p m).send (.regValue .steward id (if ok then value else 0)) else d

/-- STEW_RSP. -/
def execStewRsp (v : Via) (id : Nat) (ok : Bool) (value : Nat) (s : State) : Host.Outcome State Fault Refusal :=
  s.run (fun d => d.stewRsp v id ok value)

/-! ### The debug memory-access port (R568, R574) -/

/-- DBG_CTL after a GO: GO and BUSY read 0. -/
def Device.dbgEnd (d : Device) (write : Bool) (result : Nat) : Device :=
  d.setSec { d.sec with tapCtl := 2 * bit write + 8 * result }

/-- A GO in the RAW space: the burst is read under its key, and a write merges its 4 B into it. -/
def Device.dbgRaw (d : Device) (ra data : Nat) (write : Bool) : Device :=
  if d.rawBytes ≤ ra then d.dbgEnd write 2
  else match d.rawBlocked ra with
    | some range => (d.blockedAccess 0 range ra).dbgEnd write 1
    | none =>
      let base := 64 * (ra / 64)
      let (d, v, bad, _) := d.readBurst base 0
      if bad then d.dbgEnd write 3
      else
        let bs := lineBytes v; let o := ra % 64
        if write then (d.writeBurst base (lineOfBytes (bs.take o ++ leBytes 4 data ++ bs.drop (o + 4))) false).dbgEnd write 0
        else (d.setSec { d.sec with tapData := ofLe ((bs.drop o).take 4) }).dbgEnd write 0

/-- A GO in the REG space, as an agent of R652. -/
def Device.dbgReg (d : Device) (addr data : Nat) (write : Bool) : Device :=
  if 0x800000 ≤ addr then d.dbgEnd write 2
  else if write then (d.writeReg .debug addr data).dbgEnd write 0
  else
    let (d, v) := d.readReg .debug addr
    (d.setSec { d.sec with tapData := v }).dbgEnd write 0

/-- DBG_CTL.GO with the values of DBG_ADDR and DBG_DATA; while the JTAG scope is locked the instruction acts as BYPASS. -/
def Device.dbgGo (d : Device) (addr data : Nat) (write : Bool) : Device :=
  if !d.hubUp then d
  else if !d.jtagOpen then d.tapLocked
  else
    let a := addr % 2 ^ 48; let v := data % 2 ^ 32
    let d := d.setSec { d.sec with tapInstr := 3, tapAddr := a, tapData := v }
    match a % 4 with
    | 2 => d.dbgRaw (a - 2) v write
    | 3 => d.dbgReg (a - 3) v write
    | _ => d.dbgEnd write 2

/-- DBG_GO. -/
def execDbgGo (addr data : Nat) (write : Bool) (s : State) : Host.Outcome State Fault Refusal := s.run (fun d => d.dbgGo addr data write)

/-! ### The end of a block reset (R319, R322, R631, R659) -/

/-- The fail-service cluster's reset ends: jobs that remain end RESET, held completions are dropped, and the pages and queues reset. -/
def Device.failResetEnds (d : Device) : Device :=
  let d := d.eng.jobs.foldl (fun (d : Device) j => d.endJob j 6) d
  let d := d.pagesReset 7 0
  { d with eng := { d.eng with held := d.eng.held.filter (fun h => isDma h.ring), rings := d.eng.rings.filter (fun e => isDma e.1) } }

/-- The register writes that waited for the end of a reset take effect, in order. -/
def Device.lateWrites (d : Device) : Device :=
  let l := d.power.late
  l.foldl (fun (d : Device) e => d.writeReg e.1 e.2.1 e.2.2) { d with power := { d.power with late := [] } }

/-- A block reset that waited for commits takes effect (R190). -/
def Device.blockLate (d : Device) (code inst : Nat) : Device :=
  if d.power.blkWait.contains (code, inst) then
    (d.setPower { d.power with blkWait := d.power.blkWait.filter (fun b => b != (code, inst)) }).blockEffect code inst
  else d

/-- A block reset ends; one that waits for commits to complete does not yet (R190). -/
def Device.blkDone (d : Device) (code inst : Nat) : Device :=
  if d.power.blk.contains (code, inst) && !(d.power.blkWait.contains (code, inst) && d.commitsRun code inst) then
    let d := d.blockLate code inst
    let d := if code = 7 then d.failResetEnds else d
    let d := { d with power := { d.power with blk := d.power.blk.filter (fun b => b != (code, inst)) } }
    ((d.evt RST.flag.BLK_DONE).lateWrites).proceed
  else d

/-- BLK_RESET_DONE. -/
def execBlkResetDone (code inst : Nat) (s : State) : Host.Outcome State Fault Refusal := s.run (fun d => d.blkDone code inst)

end Sys2Proof.Machine
end

