-- ==== Sys2Proof/Machine/Reset.lean ====
section
/-! DEFINITION. The commands of start-up and reset, and the links inside the package (Blade Power, Insertion and Reset; How the LX9416
Is Built, R22, R23). -/

namespace Sys2Proof.Machine

/-- COLD_START. -/
def execColdStart (s : State) : Host.Outcome State Fault Refusal := s.run Device.coldStart

/-- CHANNEL_TRAINING_DONE. -/
def execChannelTrainingDone (c : Nat) (ok : Bool) (s : State) : Host.Outcome State Fault Refusal := s.run (fun d => d.trained c ok)

/-- START_END. -/
def execStartEnd (s : State) : Host.Outcome State Fault Refusal := s.run Device.startEnd

/-- DEVICE_RESET. -/
def execDeviceReset (cause : Nat) (s : State) : Host.Outcome State Fault Refusal :=
  s.run (fun d => if cause ≤ 6 then d.deviceReset cause else d)

/-- DEV_RST_L falls: a device reset, and the Hub stays in reset while the pin is low (R629). -/
def Device.rstLow (d : Device) : Device :=
  if d.power.hubReset then d
  else
    let d := d.deviceReset 0
    { d with power := { d.power with hubReset := true } }

/-- DEV_RST_L_ASSERT. -/
def execDevRstLAssert (s : State) : Host.Outcome State Fault Refusal := s.run Device.rstLow

/-- DEV_RST_L_RELEASE: the start-up timeline runs from here. -/
def execDevRstLRelease (s : State) : Host.Outcome State Fault Refusal :=
  s.run (fun d => { d with power := { d.power with hubReset := false } })

/-! ### Links inside the package (R22, R23, R638) -/

/-- The flag of a replay on a die-to-die link. -/
def d2dReplay (n : Nat) : Flag :=
  [FC.flag.D2D_REPLAY_0, FC.flag.D2D_REPLAY_1, FC.flag.D2D_REPLAY_2, FC.flag.D2D_REPLAY_3, FC.flag.D2D_REPLAY_4].getD n FC.flag.D2D_REPLAY_5

/-- The flag of a die-to-die link that fails. -/
def d2dFail (n : Nat) : Flag :=
  [FC.flag.D2D_FAIL_0, FC.flag.D2D_FAIL_1, FC.flag.D2D_FAIL_2, FC.flag.D2D_FAIL_3, FC.flag.D2D_FAIL_4].getD n FC.flag.D2D_FAIL_5

/-- A die-to-die link could not deliver a flit within 16 replays. -/
def Device.d2dLost (d : Device) (n : Nat) : Device :=
  if n < 6 then { d with power := { d.power with d2d := KMap.drop d.power.d2d n } }.raise (d2dFail n) 0 [n] [n] else d

/-- A flit on a die-to-die link: one whose CRC is bad is replayed; every replay raises a CE (R22). -/
def Device.d2dFlit (d : Device) (n : Nat) (good : Bool) : Device :=
  if 6 ≤ n then d
  else if good then { d with power := { d.power with d2d := KMap.drop d.power.d2d n } }
  else
    let k := KMap.get d.power.d2d 0 n
    if 16 ≤ k then d.d2dLost n
    else { d with power := { d.power with d2d := KMap.put d.power.d2d n (k + 1) } }.raise (d2dReplay n) 0 [n] [n]

/-- D2D_FLIT_RECEIVE. -/
def execD2dFlitReceive (n : Nat) (good : Bool) (s : State) : Host.Outcome State Fault Refusal := s.run (fun d => d.d2dFlit n good)

/-- D2D_REPLAY_LIMIT. -/
def execD2dReplayLimit (n : Nat) (s : State) : Host.Outcome State Fault Refusal := s.run (fun d => d.d2dLost n)

/-- The sideband could not deliver a frame within 16 replays. -/
def Device.sbLost (d : Device) : Device := { d with power := { d.power with sbTries := 0 } }.raise RST.flag.SB_FAIL 0 [] []

/-- A sideband frame: one that fails its CRC is replayed. -/
def Device.sbFrame (d : Device) (good : Bool) : Device :=
  if good then { d with power := { d.power with sbTries := 0 } }
  else if 16 ≤ d.power.sbTries then d.sbLost
  else { d with power := { d.power with sbTries := d.power.sbTries + 1 } }.raise RST.flag.SB_RETRY 0 [] []

/-- SB_FRAME_RECEIVE. -/
def execSbFrameReceive (good : Bool) (s : State) : Host.Outcome State Fault Refusal := s.run (fun d => d.sbFrame good)

/-- SB_FAIL. -/
def execSbFail (s : State) : Host.Outcome State Fault Refusal := s.run Device.sbLost

end Sys2Proof.Machine
end

