-- ==== Sys2Proof/Machine/Dispatch.lean ====
section
/-! DEFINITION. One arm for each command: a direct call of its meaning. -/

namespace Sys2Proof.Machine

/-- The effect of a command on everything but the queue of waiting commands. -/
def exec (i : Instr) (s : State) : Host.Outcome State Fault Refusal :=
  match i with
  | .coldStart => Sys2Proof.Machine.execColdStart s
  | .channelTrainingDone c ok => Sys2Proof.Machine.execChannelTrainingDone c ok s
  | .startEnd => Sys2Proof.Machine.execStartEnd s
  | .deviceReset cause => Sys2Proof.Machine.execDeviceReset cause s
  | .devRstLAssert => Sys2Proof.Machine.execDevRstLAssert s
  | .devRstLRelease => Sys2Proof.Machine.execDevRstLRelease s
  | .d2dFlitReceive n good => Sys2Proof.Machine.execD2dFlitReceive n good s
  | .d2dReplayLimit n => Sys2Proof.Machine.execD2dReplayLimit n s
  | .sbFrameReceive good => Sys2Proof.Machine.execSbFrameReceive good s
  | .sbFail => Sys2Proof.Machine.execSbFail s
  | .spacePendWrite tib members => Sys2Proof.Machine.execSpacePendWrite tib members s
  | .create others => Sys2Proof.Machine.execCreate others s
  | .destroy rid busy => Sys2Proof.Machine.execDestroy rid busy s
  | .modify rid => Sys2Proof.Machine.execModify rid s
  | .rgnRead rid => Sys2Proof.Machine.execRgnRead rid s
  | .regionCmdDone => Sys2Proof.Machine.execRegionCmdDone s
  | .tableCmd v dest c => Sys2Proof.Machine.execTableCmd v dest c s
  | .winCfgWrite p l en log2 => Sys2Proof.Machine.execWinCfgWrite p l en log2 s
  | .winLbaseWrite p l v => Sys2Proof.Machine.execWinLbaseWrite p l v s
  | .siteClassWrite site c => Sys2Proof.Machine.execSiteClassWrite site c s
  | .siteClassAdmitEnd site => Sys2Proof.Machine.execSiteClassAdmitEnd site s
  | .memrd p l tag dpa m => Sys2Proof.Machine.execMemrd p l tag dpa m s
  | .memrddata p l tag dpa => Sys2Proof.Machine.execMemrddata p l tag dpa s
  | .memspecrd p l m => Sys2Proof.Machine.execMemspecrd p l m s
  | .meminv p l tag dpa => Sys2Proof.Machine.execMeminv p l tag dpa s
  | .memclnevct p l tag dpa => Sys2Proof.Machine.execMemclnevct p l tag dpa s
  | .biconflict p l tag dpa => Sys2Proof.Machine.execBiconflict p l tag dpa s
  | .memwr p l tag dpa data mask full m => Sys2Proof.Machine.execMemwr p l tag dpa data mask full m s
  | .birsp p l sid ans => Sys2Proof.Machine.execBirsp p l sid ans s
  | .biTimeout sid => Sys2Proof.Machine.execBiTimeout sid s
  | .broadcastSweep set => Sys2Proof.Machine.execBroadcastSweep set s
  | .sweepDone => Sys2Proof.Machine.execSweepDone s
  | .queryCmdStart => Sys2Proof.Machine.execQueryCmdStart s
  | .noticeLate arr => Sys2Proof.Machine.execNoticeLate arr s
  | .grantNotice v dest line host win arr g => Sys2Proof.Machine.execGrantNotice v dest line host win arr g s
  | .noticeFlush v dest arr => Sys2Proof.Machine.execNoticeFlush v dest arr s
  | .dirUpd v c => Sys2Proof.Machine.execDirUpd v c s
  | .frameEvict lpn => Sys2Proof.Machine.execFrameEvict lpn s
  | .writebackDone lpn bad => Sys2Proof.Machine.execWritebackDone lpn bad s
  | .bakerSweepStart => Sys2Proof.Machine.execBakerSweepStart s
  | .bakerSweepEnd => Sys2Proof.Machine.execBakerSweepEnd s
  | .migrationStart lpn bad => Sys2Proof.Machine.execMigrationStart lpn bad s
  | .migrationFinish lpn => Sys2Proof.Machine.execMigrationFinish lpn s
  | .auditCmdStart => Sys2Proof.Machine.execAuditCmdStart s
  | .auditDone => Sys2Proof.Machine.execAuditDone s
  | .apertureWrite n p l off bytes => Sys2Proof.Machine.execApertureWrite n p l off bytes s
  | .apertureRead n p l tag off len => Sys2Proof.Machine.execApertureRead n p l tag off len s
  | .winCmdCommit n p l => Sys2Proof.Machine.execWinCmdCommit n p l s
  | .winCmdAbort n p l => Sys2Proof.Machine.execWinCmdAbort n p l s
  | .winBaseWrite n p l hi v => Sys2Proof.Machine.execWinBaseWrite n p l hi v s
  | .batchTimeout slot => Sys2Proof.Machine.execBatchTimeout slot s
  | .commitSend slot arr => Sys2Proof.Machine.execCommitSend slot arr s
  | .outcomeQueryStart => Sys2Proof.Machine.execOutcomeQueryStart s
  | .outcomeAsk slot bseq home heir arr => Sys2Proof.Machine.execOutcomeAsk slot bseq home heir arr s
  | .read site tag dl sync batch size addr => Sys2Proof.Machine.execRead site tag dl sync batch size addr s
  | .write site tag dl batch size addr data => Sys2Proof.Machine.execWrite site tag dl batch size addr data s
  | .writeMasked site tag dl batch addr mask data => Sys2Proof.Machine.execWriteMasked site tag dl batch addr mask data s
  | .atomic site tag dl addr op wide op1 op2 atag => Sys2Proof.Machine.execAtomic site tag dl addr op wide op1 op2 atag s
  | .failOr site tag dl line mask => Sys2Proof.Machine.execFailOr site tag dl line mask s
  | .failRec site tag dl recs => Sys2Proof.Machine.execFailRec site tag dl recs s
  | .mcastJoin site tag dl g => Sys2Proof.Machine.execMcastJoin site tag dl g s
  | .mcastLeave site tag dl g => Sys2Proof.Machine.execMcastLeave site tag dl g s
  | .mcastPull site tag dl sync g b => Sys2Proof.Machine.execMcastPull site tag dl sync g b s
  | .batchOpen site tag dl => Sys2Proof.Machine.execBatchOpen site tag dl s
  | .batchCommit site tag dl => Sys2Proof.Machine.execBatchCommit site tag dl s
  | .batchAbort site tag dl => Sys2Proof.Machine.execBatchAbort site tag dl s
  | .statusSite site tag dl => Sys2Proof.Machine.execStatusSite site tag dl s
  | .statusBatchOutcome site tag dl side q => Sys2Proof.Machine.execStatusBatchOutcome site tag dl side q s
  | .time site tag dl => Sys2Proof.Machine.execTime site tag dl s
  | .reservedOpcode site opcode tag dl sync size pl n => Sys2Proof.Machine.execReservedOpcode site opcode tag dl sync size pl n s
  | .mcastFillDone g b => Sys2Proof.Machine.execMcastFillDone g b s
  | .grpEnable g => Sys2Proof.Machine.execGrpEnable g s
  | .grpDisable g => Sys2Proof.Machine.execGrpDisable g s
  | .grpCfgWrite g k v => Sys2Proof.Machine.execGrpCfgWrite g k v s
  | .geoSet id => Sys2Proof.Machine.execGeoSet id s
  | .geoClear id => Sys2Proof.Machine.execGeoClear id s
  | .geoRead id => Sys2Proof.Machine.execGeoRead id s
  | .dutBind id => Sys2Proof.Machine.execDutBind id s
  | .dutUnbind id busy => Sys2Proof.Machine.execDutUnbind id busy s
  | .dutClear id busy => Sys2Proof.Machine.execDutClear id busy s
  | .dutRebuild id busy => Sys2Proof.Machine.execDutRebuild id busy s
  | .dutRead id => Sys2Proof.Machine.execDutRead id s
  | .failCmdDone => Sys2Proof.Machine.execFailCmdDone s
  | .assaySqTail q v => Sys2Proof.Machine.execAssaySqTail q v s
  | .assayCqHead q v => Sys2Proof.Machine.execAssayCqHead q v s
  | .assayEnable q => Sys2Proof.Machine.execAssayEnable q s
  | .assayDisable q => Sys2Proof.Machine.execAssayDisable q s
  | .assayAbort q => Sys2Proof.Machine.execAssayAbort q s
  | .assayCfgWrite q k v => Sys2Proof.Machine.execAssayCfgWrite q k v s
  | .assayDescFetched q => Sys2Proof.Machine.execAssayDescFetched q s
  | .analyse => Sys2Proof.Machine.execAnalyse s
  | .assayBlockDone job => Sys2Proof.Machine.execAssayBlockDone job s
  | .apply => Sys2Proof.Machine.execApply s
  | .revert => Sys2Proof.Machine.execRevert s
  | .admitDone => Sys2Proof.Machine.execAdmitDone s
  | .recompute => Sys2Proof.Machine.execRecompute s
  | .queueEntryFreed c => Sys2Proof.Machine.execQueueEntryFreed c s
  | .schedulerPick c => Sys2Proof.Machine.execSchedulerPick c s
  | .perst p => Sys2Proof.Machine.execPerst p s
  | .hotReset p l kind => Sys2Proof.Machine.execHotReset p l kind s
  | .cxlReset p l => Sys2Proof.Machine.execCxlReset p l s
  | .flr p l => Sys2Proof.Machine.execFlr p l s
  | .flrForceRelease p l => Sys2Proof.Machine.execFlrForceRelease p l s
  | .bmeClear p l => Sys2Proof.Machine.execBmeClear p l s
  | .bmeSet p l c => Sys2Proof.Machine.execBmeSet p l c s
  | .outboundCompletion p l tag status data => Sys2Proof.Machine.execOutboundCompletion p l tag status data s
  | .completionTimeout p l tag => Sys2Proof.Machine.execCompletionTimeout p l tag s
  | .msixPendingSend p l en fmask vectors => Sys2Proof.Machine.execMsixPendingSend p l en fmask vectors s
  | .hdmDecoderCommit p l n hpa size skip iw bi lock => Sys2Proof.Machine.execHdmDecoderCommit p l n hpa size skip iw bi lock s
  | .biEnableWrite p l v => Sys2Proof.Machine.execBiEnableWrite p l v s
  | .hostLinkUp p l rate width flit256 => Sys2Proof.Machine.execHostLinkUp p l rate width flit256 s
  | .surpriseDown p l => Sys2Proof.Machine.execSurpriseDown p l s
  | .linkUncorr p l => Sys2Proof.Machine.execLinkUncorr p l s
  | .contain p l cause => Sys2Proof.Machine.execContain p l cause s
  | .containWrite p l => Sys2Proof.Machine.execContainWrite p l s
  | .release ag p l => Sys2Proof.Machine.execRelease ag p l s
  | .identifyMemoryDevice p l => Sys2Proof.Machine.execIdentifyMemoryDevice p l s
  | .getPartitionInfo p l => Sys2Proof.Machine.execGetPartitionInfo p l s
  | .getSupportedLogs p l => Sys2Proof.Machine.execGetSupportedLogs p l s
  | .getLog p l cel => Sys2Proof.Machine.execGetLog p l cel s
  | .getEventRecords p l k => Sys2Proof.Machine.execGetEventRecords p l k s
  | .clearEventRecords p l k all seqs => Sys2Proof.Machine.execClearEventRecords p l k all seqs s
  | .getEventInterruptPolicy p l => Sys2Proof.Machine.execGetEventInterruptPolicy p l s
  | .setEventInterruptPolicy p l pol => Sys2Proof.Machine.execSetEventInterruptPolicy p l pol s
  | .getTimestamp p l => Sys2Proof.Machine.execGetTimestamp p l s
  | .setTimestamp p l ns => Sys2Proof.Machine.execSetTimestamp p l ns s
  | .getHealthInfo p l => Sys2Proof.Machine.execGetHealthInfo p l s
  | .getFwInfo p l => Sys2Proof.Machine.execGetFwInfo p l s
  | .transferFw p l slot off data => Sys2Proof.Machine.execTransferFw p l slot off data s
  | .activateFw p l slot online => Sys2Proof.Machine.execActivateFw p l slot online s
  | .unsupportedMailboxCmd p l op => Sys2Proof.Machine.execUnsupportedMailboxCmd p l op s
  | .doeDiscovery p l inst index => Sys2Proof.Machine.execDoeDiscovery p l inst index s
  | .cxlTableAccess p l => Sys2Proof.Machine.execCxlTableAccess p l s
  | .spdmRequest c q nonce => Sys2Proof.Machine.execSpdmRequest c q nonce s
  | .getPqCert c off len => Sys2Proof.Machine.execGetPqCert c off len s
  | .getPqSig c => Sys2Proof.Machine.execGetPqSig c s
  | .dmaSqTail q value => Sys2Proof.Machine.execDmaSqTail q value s
  | .dmaCqHead q value => Sys2Proof.Machine.execDmaCqHead q value s
  | .dmaEnable q => Sys2Proof.Machine.execDmaEnable q s
  | .dmaDisable q => Sys2Proof.Machine.execDmaDisable q s
  | .dmaAbort q => Sys2Proof.Machine.execDmaAbort q s
  | .dmaCfgWrite q field value => Sys2Proof.Machine.execDmaCfgWrite q field value s
  | .dmaDescFetched q => Sys2Proof.Machine.execDmaDescFetched q s
  | .copy q steps => Sys2Proof.Machine.execCopy q steps s
  | .fill q steps => Sys2Proof.Machine.execFill q steps s
  | .descDone q => Sys2Proof.Machine.execDescDone q s
  | .channelRead ra n => Sys2Proof.Machine.execChannelRead ra n s
  | .channelWrite ra bursts => Sys2Proof.Machine.execChannelWrite ra bursts s
  | .dramReadReturn ra err cls => Sys2Proof.Machine.execDramReadReturn ra err cls s
  | .writeDrainStart c sub aged => Sys2Proof.Machine.execWriteDrainStart c sub aged s
  | .writeDrainStop c sub => Sys2Proof.Machine.execWriteDrainStop c sub s
  | .openIdleExpiry c bank => Sys2Proof.Machine.execOpenIdleExpiry c bank s
  | .refreshDue c rank busy => Sys2Proof.Machine.execRefreshDue c rank busy s
  | .mr4Poll c rank hot => Sys2Proof.Machine.execMr4Poll c rank hot s
  | .alertN c wcrc ok => Sys2Proof.Machine.execAlertN c wcrc ok s
  | .selfRefreshEntry c => Sys2Proof.Machine.execSelfRefreshEntry c s
  | .srDeferExpiry c => Sys2Proof.Machine.execSrDeferExpiry c s
  | .chCtlRetrain c => Sys2Proof.Machine.execChCtlRetrain c s
  | .retrainDone c ok => Sys2Proof.Machine.execRetrainDone c ok s
  | .twinFetch v id line cls => Sys2Proof.Machine.execTwinFetch v id line cls s
  | .fetchData v id data poison => Sys2Proof.Machine.execFetchData v id data poison s
  | .errInjArm c pos mask value sub => Sys2Proof.Machine.execErrInjArm c pos mask value sub s
  | .scrubStep priv err => Sys2Proof.Machine.execScrubStep priv err s
  | .proofStart => Sys2Proof.Machine.execProofStart s
  | .proofHoldExpiry lanes => Sys2Proof.Machine.execProofHoldExpiry lanes s
  | .proofDone => Sys2Proof.Machine.execProofDone s
  | .t0Patrol area item bad => Sys2Proof.Machine.execT0Patrol area item bad s
  | .retireRow => Sys2Proof.Machine.execRetireRow s
  | .retireBank => Sys2Proof.Machine.execRetireBank s
  | .retireDone => Sys2Proof.Machine.execRetireDone s
  | .fwdReq v fid r => Sys2Proof.Machine.execFwdReq v fid r s
  | .fwdRsp v fid a => Sys2Proof.Machine.execFwdRsp v fid a s
  | .snoopFwd v dest ref kind host win qla mode => Sys2Proof.Machine.execSnoopFwd v dest ref kind host win qla mode s
  | .snoopAns v ref ans fin => Sys2Proof.Machine.execSnoopAns v ref ans fin s
  | .mirrorLine v line data poison cls entry => Sys2Proof.Machine.execMirrorLine v line data poison cls entry s
  | .mirrorFail v dut record cls => Sys2Proof.Machine.execMirrorFail v dut record cls s
  | .mirrorOr v dut line mask cls => Sys2Proof.Machine.execMirrorOr v dut line mask cls s
  | .mirrorRec v lpn l => Sys2Proof.Machine.execMirrorRec v lpn l s
  | .commitRec v r => Sys2Proof.Machine.execCommitRec v r s
  | .csign v stream tseq elFree l => Sys2Proof.Machine.execCsign v stream tseq elFree l s
  | .hello v info => Sys2Proof.Machine.execHello v info s
  | .state v info => Sys2Proof.Machine.execState v info s
  | .withdraw v => Sys2Proof.Machine.execWithdraw v s
  | .handover v dest frm stage arg => Sys2Proof.Machine.execHandover v dest frm stage arg s
  | .rsTable v regions geos duts outcomes atomics gdeq gt0 poisonKey => Sys2Proof.Machine.execRsTable v regions geos duts outcomes atomics gdeq gt0 poisonKey s
  | .rsLoaf v lpn l stream poison => Sys2Proof.Machine.execRsLoaf v lpn l stream poison s
  | .rsLine v line data poison cls => Sys2Proof.Machine.execRsLine v line data poison cls s
  | .rsDir v c => Sys2Proof.Machine.execRsDir v c s
  | .rsDone v => Sys2Proof.Machine.execRsDone v s
  | .resyncStart => Sys2Proof.Machine.execResyncStart s
  | .resyncStep => Sys2Proof.Machine.execResyncStep s
  | .resyncInterrupt => Sys2Proof.Machine.execResyncInterrupt s
  | .timeSync v t1 t2 t3 reply => Sys2Proof.Machine.execTimeSync v t1 t2 t3 reply s
  | .timeSyncTimer => Sys2Proof.Machine.execTimeSyncTimer s
  | .stewReq v id addr write => Sys2Proof.Machine.execStewReq v id addr write s
  | .stewRsp v id ok value => Sys2Proof.Machine.execStewRsp v id ok value s
  | .heartbeatTimeout => Sys2Proof.Machine.execHeartbeatTimeout s
  | .hbConfirmMissing => Sys2Proof.Machine.execHbConfirmMissing s
  | .twinLinksWaitExpiry => Sys2Proof.Machine.execTwinLinksWaitExpiry s
  | .soloWaitExpiry => Sys2Proof.Machine.execSoloWaitExpiry s
  | .withdrawCmd => Sys2Proof.Machine.execWithdrawCmd s
  | .retake => Sys2Proof.Machine.execRetake s
  | .batchWaitExpiry => Sys2Proof.Machine.execBatchWaitExpiry s
  | .siteDrainDone => Sys2Proof.Machine.execSiteDrainDone s
  | .handoverResetTimer => Sys2Proof.Machine.execHandoverResetTimer s
  | .reforward => Sys2Proof.Machine.execReforward s
  | .lockstepMismatch pair => Sys2Proof.Machine.execLockstepMismatch pair s
  | .mgmtWatchdogExpiry pair => Sys2Proof.Machine.execMgmtWatchdogExpiry pair s
  | .escalationExpiry source => Sys2Proof.Machine.execEscalationExpiry source s
  | .fatalReaction => Sys2Proof.Machine.execFatalReaction s
  | .fcParity => Sys2Proof.Machine.execFcParity s
  | .errorLineChange p inst bit info => Sys2Proof.Machine.execErrorLineChange p inst bit info s
  | .coalesceExpiry n => Sys2Proof.Machine.execCoalesceExpiry n s
  | .ledgerProgramDone ok => Sys2Proof.Machine.execLedgerProgramDone ok s
  | .rdCmdStart last index => Sys2Proof.Machine.execRdCmdStart last index s
  | .noteCmdAppend => Sys2Proof.Machine.execNoteCmdAppend s
  | .ftStatAck => Sys2Proof.Machine.execFtStatAck s
  | .fcTestRaise cls => Sys2Proof.Machine.execFcTestRaise cls s
  | .ldgInfo => Sys2Proof.Machine.execLdgInfo s
  | .ldgRead smbus seq n => Sys2Proof.Machine.execLdgRead smbus seq n s
  | .ldgLastWords index => Sys2Proof.Machine.execLdgLastWords index s
  | .fcSnapshot => Sys2Proof.Machine.execFcSnapshot s
  | .sectorMap first => Sys2Proof.Machine.execSectorMap first s
  | .trngHealth => Sys2Proof.Machine.execTrngHealth s
  | .trngRecover => Sys2Proof.Machine.execTrngRecover s
  | .rekeyStart => Sys2Proof.Machine.execRekeyStart s
  | .rekeyStep => Sys2Proof.Machine.execRekeyStep s
  | .rekeyDrainEnd => Sys2Proof.Machine.execRekeyDrainEnd s
  | .confirm => Sys2Proof.Machine.execConfirm s
  | .commit ok => Sys2Proof.Machine.execCommit ok s
  | .fwWrite slot off data => Sys2Proof.Machine.execFwWrite slot off data s
  | .fwActivate slot => Sys2Proof.Machine.execFwActivate slot s
  | .challenge ag => Sys2Proof.Machine.execChallenge ag s
  | .submit ag => Sys2Proof.Machine.execSubmit ag s
  | .dbgTokenChunk off data => Sys2Proof.Machine.execDbgTokenChunk off data s
  | .relock ag => Sys2Proof.Machine.execRelock ag s
  | .nonceExpiry => Sys2Proof.Machine.execNonceExpiry s
  | .dbgGo addr data write => Sys2Proof.Machine.execDbgGo addr data write s
  | .jtagLocked instr => Sys2Proof.Machine.execJtagLocked instr s
  | .trst => Sys2Proof.Machine.execTrst s
  | .droopTrip dom det => Sys2Proof.Machine.execDroopTrip dom det s
  | .stretchEnd dom => Sys2Proof.Machine.execStretchEnd dom s
  | .droopSag dom det => Sys2Proof.Machine.execDroopSag dom det s
  | .divRestore dom => Sys2Proof.Machine.execDivRestore dom s
  | .throttleOn readings => Sys2Proof.Machine.execThrottleOn readings s
  | .throttleStepTimer readings => Sys2Proof.Machine.execThrottleStepTimer readings s
  | .thermTrip readings => Sys2Proof.Machine.execThermTrip readings s
  | .sensorFault n t => Sys2Proof.Machine.execSensorFault n t s
  | .refLoss r => Sys2Proof.Machine.execRefLoss r s
  | .xtalLoss => Sys2Proof.Machine.execXtalLoss s
  | .refReturn r => Sys2Proof.Machine.execRefReturn r s
  | .sioRefTimeout q => Sys2Proof.Machine.execSioRefTimeout q s
  | .ageingMeasure counts => Sys2Proof.Machine.execAgeingMeasure counts s
  | .planDue items => Sys2Proof.Machine.execPlanDue items s
  | .replan items => Sys2Proof.Machine.execReplan items s
  | .planItemStart => Sys2Proof.Machine.execPlanItemStart s
  | .planItemEnd ok => Sys2Proof.Machine.execPlanItemEnd ok s
  | .vrAlert iout vout => Sys2Proof.Machine.execVrAlert iout vout s
  | .calOpen ag => Sys2Proof.Machine.execCalOpen ag s
  | .calCommit ag => Sys2Proof.Machine.execCalCommit ag s
  | .calAbort ag => Sys2Proof.Machine.execCalAbort ag s
  | .calDataAccess ag write => Sys2Proof.Machine.execCalDataAccess ag write s
  | .calOperationDone => Sys2Proof.Machine.execCalOperationDone s
  | .blockPowerGate p inst => Sys2Proof.Machine.execBlockPowerGate p inst s
  | .blockWake p inst => Sys2Proof.Machine.execBlockWake p inst s
  | .prsntLFall => Sys2Proof.Machine.execPrsntLFall s
  | .insertionRecognised => Sys2Proof.Machine.execInsertionRecognised s
  | .extraction => Sys2Proof.Machine.execExtraction s
  | .gateOffTimer => Sys2Proof.Machine.execGateOffTimer s
  | .rampComplete iout vout => Sys2Proof.Machine.execRampComplete iout vout s
  | .pgQualified iout vout => Sys2Proof.Machine.execPgQualified iout vout s
  | .pgWindowLoss vout => Sys2Proof.Machine.execPgWindowLoss vout s
  | .faultTimer iout vout => Sys2Proof.Machine.execFaultTimer iout vout s
  | .fast iout vout => Sys2Proof.Machine.execFast iout vout s
  | .fetMeas t => Sys2Proof.Machine.execFetMeas t s
  | .fetModel vin => Sys2Proof.Machine.execFetModel vin s
  | .ov iout vout => Sys2Proof.Machine.execOv iout vout s
  | .uv iout vout => Sys2Proof.Machine.execUv iout vout s
  | .rails iout vout => Sys2Proof.Machine.execRails iout vout s
  | .retryDelayExpiry => Sys2Proof.Machine.execRetryDelayExpiry s
  | .tripCountClear => Sys2Proof.Machine.execTripCountClear s
  | .auxLost => Sys2Proof.Machine.execAuxLost s
  | .auxGood => Sys2Proof.Machine.execAuxGood s
  | .auxLow => Sys2Proof.Machine.execAuxLow s
  | .hswCtlOff => Sys2Proof.Machine.execHswCtlOff s
  | .hswCtlOn => Sys2Proof.Machine.execHswCtlOn s
  | .hswStatus => Sys2Proof.Machine.execHswStatus s
  | .hswClear => Sys2Proof.Machine.execHswClear s
  | .hswOff => Sys2Proof.Machine.execHswOff s
  | .hswOn => Sys2Proof.Machine.execHswOn s
  | .devReset => Sys2Proof.Machine.execDevReset s
  | .devCmdReset => Sys2Proof.Machine.execDevCmdReset s
  | .blkResetGo code inst => Sys2Proof.Machine.execBlkResetGo code inst s
  | .blkResetDone code inst => Sys2Proof.Machine.execBlkResetDone code inst s
  | .regRead addr => Sys2Proof.Machine.execRegRead addr s
  | .regWrite addr value => Sys2Proof.Machine.execRegWrite addr value s
  | .evtClrWrite ag page value => Sys2Proof.Machine.execEvtClrWrite ag page value s
  | .errClrWrite ag page value => Sys2Proof.Machine.execErrClrWrite ag page value s
  | .errInjWrite ag page value => Sys2Proof.Machine.execErrInjWrite ag page value s
  | .pageCtlWrite ag page value => Sys2Proof.Machine.execPageCtlWrite ag page value s
  | .lockAll ag => Sys2Proof.Machine.execLockAll ag s
  | .rlRead ag addr size => Sys2Proof.Machine.execRlRead ag addr size s
  | .registerWrite ag addr size value => Sys2Proof.Machine.execRegisterWrite ag addr size value s
  | .txnFlit k h hdrErrs => Sys2Proof.Machine.execTxnFlit k h hdrErrs s
  | .idleFlit k h hdrErrs => Sys2Proof.Machine.execIdleFlit k h hdrErrs s
  | .badCrcFlit k hdrErrs => Sys2Proof.Machine.execBadCrcFlit k hdrErrs s
  | .retrain k h => Sys2Proof.Machine.execRetrain k h s
  | .sleepReq k h => Sys2Proof.Machine.execSleepReq k h s
  | .sleepAck k h => Sys2Proof.Machine.execSleepAck k h s
  | .sleepNak k h => Sys2Proof.Machine.execSleepNak k h s
  | .disable k h => Sys2Proof.Machine.execDisable k h s
  | .ts1 t => Sys2Proof.Machine.execTs1 t s
  | .ts2 k f => Sys2Proof.Machine.execTs2 k f s
  | .tsEnd k => Sys2Proof.Machine.execTsEnd k s
  | .lockAcquired k lanes => Sys2Proof.Machine.execLockAcquired k lanes s
  | .skipFrame p adjusted => Sys2Proof.Machine.execSkipFrame p adjusted s
  | .dataFrame p bytes => Sys2Proof.Machine.execDataFrame p bytes s
  | .framingLoss k => Sys2Proof.Machine.execFramingLoss k s
  | .replayTimerExpiry k => Sys2Proof.Machine.execReplayTimerExpiry k s
  | .trainTimeout k => Sys2Proof.Machine.execTrainTimeout k s
  | .quietExpiry k => Sys2Proof.Machine.execQuietExpiry k s
  | .graceExpiry k => Sys2Proof.Machine.execGraceExpiry k s
  | .lossOfSignal k => Sys2Proof.Machine.execLossOfSignal k s
  | .linkEnable k => Sys2Proof.Machine.execLinkEnable k s
  | .wakePattern k => Sys2Proof.Machine.execWakePattern k s
  | .linkCtlRetrain k => Sys2Proof.Machine.execLinkCtlRetrain k s
  | .forceNew k => Sys2Proof.Machine.execForceNew k s
  | .mainRailsGood => Sys2Proof.Machine.execMainRailsGood s
  | .vinInRange vin => Sys2Proof.Machine.execVinInRange vin s
  | .tsnsFault => Sys2Proof.Machine.execTsnsFault s
  | .t0DieFail die => Sys2Proof.Machine.execT0DieFail die s
  | .receiverMargining kind n height width => Sys2Proof.Machine.execReceiverMargining kind n height width s
  | .tsEndSent k => Sys2Proof.Machine.execTsEndSent k s
  | .perstLRise p => Sys2Proof.Machine.execPerstLRise p s

end Sys2Proof.Machine
end

