-- ==== Sys2Proof/Machine/Tick.lean ====
section
/-! DEFINITION. What happens while no command waits: one tick of 1 ns of the time base and of the always-on counter, and the fill of the
guarantee buckets, the IDLE flits that complete frames, and the link reset of a margin-plan item (Twins and Quartets, R495, R497; Bandwidth, R340; Ronlink, R203, R209;
Power, R597). -/

namespace Sys2Proof.Machine

/-- The always-on counter runs while AUX power is good (R630, R633). -/
def Device.tickAon (d : Device) : Device := if d.power.auxOk then { d with power := { d.power with aon := d.power.aon + 1 } } else d

/-- The device time base: a backward offset is removed at 1,023/1,024 of its rate (R497). -/
def Device.tickTime (d : Device) : Device :=
  let n := d.twin.slew
  let time := if n % 1024 = 1 then d.time else (d.time + 1) % 2 ^ 64
  { d with time := time, twin := { d.twin with slew := n - 1 } }

/-- The guarantee buckets of the classes fill at their guarantees, up to their depths (R340, R345). -/
def Device.tickBuckets (d : Device) : Device :=
  { d with qos := { d.qos with buckets := d.qos.buckets.map (fun e => (e.1, min (d.bucketDepth (e.1 / 16) (e.1 % 16) : Int) (e.2 + (d.rateOf (e.1 / 16) (e.1 % 16) : Int)))) } }

/-- IDLE flits complete the frame that a peer link has in hand: nothing else is due (R203, R209). -/
def Device.fillFrame (d : Device) (p : Nat) : Device :=
  let x := d.link (.peer p)
  if x.state = .active ∧ x.txFrame ≠ [] then
    (List.range (3 - x.txFrame.length / 80)).foldl (fun (d : Device) _ => d.sendIdle (.peer p)) d
  else d

/-- The frames in hand of the peer links leave. -/
def Device.tickFrames (d : Device) : Device := [0, 1, 2, 3, 4].foldl (fun (d : Device) p => d.fillFrame p) d

/-- The FET model runs once in every cycle of the 1.000 MHz always-on clock (R612). -/
def Device.tickFet (d : Device) : Device := if d.power.auxOk && d.power.aon % 1000 == 0 then d.fetCycle else d

/-- One tick. Without the Hub only the always-on counter runs. -/
def Device.tick (d : Device) : Device :=
  let d := d.tickAon.tickFet
  if d.power.mainOn && !d.power.hubReset then d.tickTime.tickBuckets.tickFrames.reeqReset else d

/-- A step with no command waiting (log entry 1). -/
def State.idle (s : State) : Host.Outcome State Fault Refusal := s.run Device.tick

end Sys2Proof.Machine
end

