-- ==== Sys2Proof/Safety.lean ====
section
/-! DEFINITION. What a safe run keeps: the fault collector shows exactly the flags of the pages (R507, R508, R510, R517, R658),
memory keeps its canonical form, and a run takes its commands one at a time from the front of the queue. -/

namespace Sys2Proof

open Sys2Proof.Machine

/-- Some ERR_STAT flag that is 1 reports to a source and has a fault class that passes a test (R507, R508). -/
def HasFault (d : Device) (s : Nat) (test : FaultClass → Bool) : Prop :=
  ∃ e ∈ d.hdr, ∃ f ∈ (Page.ofCode (e.1 / 1024)).errFlags,
    e.2.err.getLsbD f.bit = true ∧ test (flagClass d.fc.testCls (Page.ofCode (e.1 / 1024)) f.bit) = true
      ∧ (Page.ofCode (e.1 / 1024)).source (e.1 % 1024) f.bit = some s

/-- Some page that reports to a source has a header that passes a test (R658). -/
def HasPage (d : Device) (s : Nat) (test : PageHdr → Bool) : Prop :=
  ∃ e ∈ d.hdr, test e.2 = true ∧ (Page.ofCode (e.1 / 1024)).source (e.1 % 1024) 0 = some s

/-- The collector shows the flags: FC_SUMMARY, the sources with a UC fault and their timers, the summary pages, and ERR_L. -/
structure Collected (d : Device) : Prop where
  summary : ∀ s < 112, d.fc.summary.getLsbD s = true ↔ HasFault d s (fun c => c ≠ .none) ∨ s ∈ d.fc.escalated
  uc : ∀ s < 112, d.fc.ucSources.getLsbD s = true ↔ HasFault d s (fun c => c = .uc)
  timers : ∀ s < 112, (KMap.find d.fc.timers s).isSome = true ↔ HasFault d s (fun c => c = .uc)
  events : ∀ s < 112, d.fc.evtSummary.getLsbD s = true ↔ HasPage d s (fun h => h.evt != 0)
  accesses : ∀ s < 112, d.fc.accSummary.getLsbD s = true ↔ HasPage d s (fun h => h.accErr || h.accRefused)
  line : d.fc.errL = errLine d

/-- A run of `n` steps that ends in a next state. -/
def Runs (n : Nat) (s t : State) : Prop := Host.Core.run core n s = .next t

end Sys2Proof
end

