-- ==== Sys2Proof/WellFormed.lean ====
section
/-! DEFINITION. Which commands are well formed: each operand lies in the range that its field or pin has. Nothing
else is asked: what the spec calls malformed, reserved or refused as a request is well formed here and has the effect
the spec gives it (R254, R260, R653). -/

namespace Sys2Proof

/-- Every entry is a byte. -/
def wfBytes (l : List Nat) : Bool := l.all (fun b => decide (b < 256))

/-- An agent that exists. -/
def wfAgent : Agent → Bool
  | .host p l => decide (p < 4) && decide (l < 2)
  | .dma q => decide (q < 4)
  | .endpoint | .steward | .firmware | .debug => true

/-- A Ronlink link that exists: 1,024 sites and five peer ports. -/
def wfLink : LinkId → Bool
  | .site s => decide (s < 1024)
  | .peer p => decide (p < 5)

/-- A peer link, its stream and a TSEQ of 32 bits (R468). -/
def wfVia (v : Via) : Bool := decide (v.p < 5) && decide (v.k < 2) && v.tseq.all (fun t => decide (t < 2 ^ 32))

/-- The fields of a flit header fit (R208). -/
def wfHdr (h : FlitHdr) : Bool :=
  decide (h.seq < 4096) && decide (h.ack < 4096) && decide (h.ackType < 4) && decide (h.creditClass < 4) &&
  decide (h.creditCount < 256) && decide (h.ftype < 16) && decide (h.pool < 4) && decide (h.epoch < 256)

/-- The fields of a training flit fit (R212). -/
def wfTrain (f : TrainFields) : Bool :=
  decide (f.role < 256) && decide (f.rate < 256) && decide (f.lanes < 65536) && decide (f.epoch < 256) &&
  decide (f.rxNext < 4096) && decide (f.credits.length = 4) && f.credits.all (fun c => decide (c < 256)) &&
  decide (f.linkId < 2 ^ 48) && decide (f.port < 65536) && decide (f.lane < 256) && decide (f.endCount < 256)

/-- The layout of a loaf fits its record (R77). -/
def wfLayout (l : Layout) : Bool :=
  decide (l.state < 16) && decide (l.nslice ≤ 8) && decide (l.qend1 < 4096) && decide (l.qend2 < 4096) && decide (l.qend3 < 4096)

/-- An atomic outcome entry (R266). -/
def wfAtomic (e : AtomicEntry) : Bool :=
  decide (e.site < 1024) && decide (e.qid < 4) && decide (e.atag < 65536) && decide (e.old < 2 ^ 64)

/-- A directory pointer (R120). -/
def wfPtr (t : Ptr) : Bool := decide (t.host < 32) && decide (t.win < 16) && decide (t.arr < 8)

/-- A directory change (R153). -/
def wfDir : DirChange → Bool
  | .entry _ st ps _ => decide (st < 4) && decide (ps.length ≤ 3) && ps.all wfPtr
  | .free _ | .log _ | .unlog _ => true

/-- A request that another device forwards. -/
def wfRequest (r : Request) : Bool :=
  decide (r.who ≤ 4096) && decide (r.arr < 8) && decide (r.cls < 16) && decide (r.qla < 2 ^ 46)

/-- What a device says of itself (R462, R463). -/
def wfPeer (i : PeerInfo) : Bool :=
  decide (i.side < 2) && decide (i.qid < 4) && decide (i.members = 1 ∨ i.members = 2 ∨ i.members = 4) && decide (i.svc < 8)

/-- A commit record names a slot of an arrival device (R186). -/
def wfCommit (r : CommitRec) : Bool :=
  decide (r.slot < 1280) && decide (r.arr < 8) && decide (r.cls < 16) && decide (r.bseq < 65536) && decide (r.lines.length ≤ 64)

/-- The identifiers of a table command fit (R47, R286, R294). -/
def wfTable : TableCmd → Bool
  | .ask frm _ _ c => decide (frm < 8) && wfTable c
  | .result _ code _ _ => decide (code < 16)
  | .done frm => decide (frm < 8)
  | .drop rid stream => decide (rid < 4096) && decide (stream < 2)
  | .read rid => decide (rid < 4096)
  | .create rid _ | .destroy rid | .modify rid _ _ _ _ _ => decide (rid < 4096)
  | .geoSet id _ | .geoClear id => decide (id < 1024)
  | .dutBind id _ | .dutUnbind id | .dutClear id | .dutRebuild id => decide (id < 1024)

/-- A forwarded snoop names a HOST_MASK, a HOST_ACC and a requester that fit (R51, R120). -/
def wfMode : SnoopMode → Bool
  | .broadcast mask acc skip => decide (mask < 2 ^ 32) && decide (acc < 4) && skip.all wfPtr
  | .named | .stale => true

/-- The device of a forwarded snoop exists. -/
def wfRef (r : SnoopRef) : Bool := decide (r.dev < 8)

/-- A snoop's end names a host and window, or 33 for none. -/
def wfEnd (e : SnoopEnd) : Bool := decide (e.host < 34) && decide (e.win < 16)

/-- The header of an LCTL flit fits, and at most its ten block headers were invalid (R199). -/
def wfLctl (h : LctlFlit) : Bool := wfHdr h.hdr && decide (h.hdrErrs < 11)

/-- A MemSpecRd's DPA has 50 bits (R60). -/
def wfSpec : SpecMsg → Bool
  | .memSpecRd dpa => decide (dpa < 2 ^ 50)
  | .unlisted => true

/-- A function's Device Control holds a read request size and a Completion Timeout Value (R363, R378). -/
def wfPcie (c : PcieCtl) : Bool :=
  decide (c.cto < 16) && decide (c.mrrs = 128 ∨ c.mrrs = 256 ∨ c.mrrs = 512 ∨ c.mrrs = 1024 ∨ c.mrrs = 2048 ∨ c.mrrs = 4096)

/-- A plan item names a monitor, port or channel (R597). -/
def wfItem : PlanItem → Bool
  | .vcoreUp m => decide (m < 256)
  | .portReeq k n => decide (k < 3) && decide (n < 1024)
  | .chRetrain c => decide (c < 16)
  | .rateDown => true

/-- A well-formed command. -/
def Instr.wf : Instr → Bool
  | .memrd p l tag dpa _ => decide (p < 4) && decide (l < 2) && decide (tag < 65536) && decide (dpa < 2 ^ 50)
  | .memrddata p l tag dpa => decide (p < 4) && decide (l < 2) && decide (tag < 65536) && decide (dpa < 2 ^ 50)
  | .memspecrd p l m => decide (p < 4) && decide (l < 2) && wfSpec m
  | .meminv p l tag dpa => decide (p < 4) && decide (l < 2) && decide (tag < 65536) && decide (dpa < 2 ^ 50)
  | .memclnevct p l tag dpa => decide (p < 4) && decide (l < 2) && decide (tag < 65536) && decide (dpa < 2 ^ 50)
  | .biconflict p l tag dpa => decide (p < 4) && decide (l < 2) && decide (tag < 65536) && decide (dpa < 2 ^ 50)
  | .memwr p l tag dpa _ _ _ _ => decide (p < 4) && decide (l < 2) && decide (tag < 65536) && decide (dpa < 2 ^ 50)
  | .birsp p l _ _ => decide (p < 4) && decide (l < 2)
  | .biTimeout _ => true
  | .broadcastSweep set => decide (set < 2 ^ 20)
  | .sweepDone => true
  | .queryCmdStart => true
  | .noticeLate arr => decide (arr < 8)
  | .apertureWrite n p l off bytes => decide (n < 256) && decide (p < 4) && decide (l < 2) && decide (off < 2 ^ 32) && bytes.all (fun e => decide (e.1 < 256))
  | .apertureRead n p l tag off len => decide (n < 256) && decide (p < 4) && decide (l < 2) && decide (tag < 1024) && decide (off < 2 ^ 32) && decide (len < 4097)
  | .winCmdCommit n p l => decide (n < 256) && decide (p < 4) && decide (l < 2)
  | .winCmdAbort n p l => decide (n < 256) && decide (p < 4) && decide (l < 2)
  | .winBaseWrite n p l _ v => decide (n < 256) && decide (p < 4) && decide (l < 2) && decide (v < 2 ^ 32)
  | .batchTimeout slot => decide (slot < 1280)
  | .commitSend slot arr => decide (slot < 1280) && decide (arr < 8)
  | .outcomeQueryStart => true
  | .outcomeAsk slot bseq home heir arr => decide (slot < 1280) && decide (bseq < 65536) && decide (home < 8) && decide (heir < 8) && decide (arr < 8)
  | .read site tag dl _ _ size addr => decide (site < 1024) && decide (tag < 65536) && decide (dl < 65536) && decide (size < 4) && decide (addr < 2 ^ 48)
  | .write site tag dl _ size addr data => decide (site < 1024) && decide (tag < 65536) && decide (dl < 65536) && decide (size < 4) && decide (addr < 2 ^ 48) && decide (data.length = if size < 3 then 4 ^ size else data.length)
  | .writeMasked site tag dl _ addr _ _ => decide (site < 1024) && decide (tag < 65536) && decide (dl < 65536) && decide (addr < 2 ^ 48)
  | .atomic site tag dl addr _ _ op1 op2 atag => decide (site < 1024) && decide (tag < 65536) && decide (dl < 65536) && decide (addr < 2 ^ 48) && decide (op1 < 2 ^ 64) && decide (op2 < 2 ^ 64) && decide (atag < 65536)
  | .failOr site tag dl line _ => decide (site < 1024) && decide (tag < 65536) && decide (dl < 65536) && decide (line < 2 ^ 32)
  | .failRec site tag dl recs => decide (site < 1024) && decide (tag < 65536) && decide (dl < 65536) && decide (recs.length < 256) && recs.all (fun r => decide (r < 2 ^ 64))
  | .mcastJoin site tag dl g => decide (site < 1024) && decide (tag < 65536) && decide (dl < 65536) && decide (g < 64)
  | .mcastLeave site tag dl g => decide (site < 1024) && decide (tag < 65536) && decide (dl < 65536) && decide (g < 64)
  | .mcastPull site tag dl _ g b => decide (site < 1024) && decide (tag < 65536) && decide (dl < 65536) && decide (g < 64) && decide (b < 2 ^ 24)
  | .batchOpen site tag dl => decide (site < 1024) && decide (tag < 65536) && decide (dl < 65536)
  | .batchCommit site tag dl => decide (site < 1024) && decide (tag < 65536) && decide (dl < 65536)
  | .batchAbort site tag dl => decide (site < 1024) && decide (tag < 65536) && decide (dl < 65536)
  | .statusSite site tag dl => decide (site < 1024) && decide (tag < 65536) && decide (dl < 65536)
  | .statusBatchOutcome site tag dl side q => decide (site < 1024) && decide (tag < 65536) && decide (dl < 65536) && decide (side < 2) && decide (q < 4)
  | .time site tag dl => decide (site < 1024) && decide (tag < 65536) && decide (dl < 65536)
  | .reservedOpcode site opcode tag dl _ size pl n => decide (site < 1024) && decide (opcode < 256) && decide (tag < 65536) && decide (dl < 65536) && decide (size < 4) && decide (pl < 4) && decide (n < 17)
  | .mcastFillDone g b => decide (g < 64) && decide (b < 2 ^ 24)
  | .grpEnable g => decide (g < 64)
  | .grpDisable g => decide (g < 64)
  | .grpCfgWrite g k v => decide (g < 64) && decide (k < 4) && decide (v < 2 ^ 32)
  | .spacePendWrite tib members => decide (tib < 32) && decide (members < 4)
  | .create _ => true
  | .destroy rid _ => decide (rid < 4096)
  | .modify rid => decide (rid < 4096)
  | .rgnRead rid => decide (rid < 4096)
  | .regionCmdDone => true
  | .winCfgWrite p l en log2 => decide (p < 4) && decide (l < 2) && decide (en < 65536) && decide (log2 < 64)
  | .winLbaseWrite p l v => decide (p < 4) && decide (l < 2) && decide (v < 1024)
  | .geoSet id => decide (id < 1024)
  | .geoClear id => decide (id < 1024)
  | .geoRead id => decide (id < 1024)
  | .dutBind id => decide (id < 1024)
  | .dutUnbind id _ => decide (id < 1024)
  | .dutClear id _ => decide (id < 1024)
  | .dutRebuild id _ => decide (id < 1024)
  | .dutRead id => decide (id < 1024)
  | .failCmdDone => true
  | .assaySqTail q v => decide (q < 16) && decide (v < 2 ^ 32)
  | .assayCqHead q v => decide (q < 16) && decide (v < 2 ^ 32)
  | .assayEnable q => decide (q < 16)
  | .assayDisable q => decide (q < 16)
  | .assayAbort q => decide (q < 16)
  | .assayCfgWrite q k v => decide (q < 16) && decide (k < 11) && decide (v < 2 ^ 32)
  | .assayDescFetched q => decide (q < 16)
  | .analyse => true
  | .assayBlockDone _ => true
  | .frameEvict lpn => decide (lpn < 2 ^ 32)
  | .writebackDone lpn bad => decide (lpn < 2 ^ 32) && bad.all (fun e => decide (e < 16))
  | .bakerSweepStart => true
  | .bakerSweepEnd => true
  | .migrationStart lpn bad => decide (lpn < 2 ^ 32) && bad.all (fun e => decide (e < 16))
  | .migrationFinish lpn => decide (lpn < 2 ^ 32)
  | .auditCmdStart => true
  | .auditDone => true
  | .siteClassWrite site c => decide (site < 1024) && decide (c < 16)
  | .siteClassAdmitEnd site => decide (site < 1024)
  | .apply => true
  | .revert => true
  | .admitDone => true
  | .recompute => true
  | .queueEntryFreed c => decide (c < 16)
  | .schedulerPick c => decide (c < 16)
  | .perst p => decide (p < 4)
  | .hotReset p l kind => decide (p < 4) && decide (l < 2) && decide (kind < 3)
  | .cxlReset p l => decide (p < 4) && decide (l < 2)
  | .flr p l => decide (p < 4) && decide (l < 2)
  | .flrForceRelease p l => decide (p < 4) && decide (l < 2)
  | .bmeClear p l => decide (p < 4) && decide (l < 2)
  | .bmeSet p l c => decide (p < 4) && decide (l < 2) && wfPcie c
  | .outboundCompletion p l tag status data => decide (p < 4) && decide (l < 2) && decide (tag < 2 ^ 14) && decide (status < 3) && wfBytes data
  | .completionTimeout p l tag => decide (p < 4) && decide (l < 2) && decide (tag < 1024)
  | .msixPendingSend p l _ _ _ => decide (p < 4) && decide (l < 2)
  | .hdmDecoderCommit p l n hpa size skip iw _ _ => decide (p < 4) && decide (l < 2) && decide (n < 16) && decide (hpa < 2 ^ 52) && decide (size < 2 ^ 52) && decide (skip < 2 ^ 52) && decide (iw < 16)
  | .biEnableWrite p l _ => decide (p < 4) && decide (l < 2)
  | .hostLinkUp p l rate width _ => decide (p < 4) && decide (l < 2) && decide (rate < 7) && decide (width < 17)
  | .surpriseDown p l => decide (p < 4) && decide (l < 2)
  | .linkUncorr p l => decide (p < 4) && decide (l < 2)
  | .contain p l cause => decide (p < 4) && decide (l < 2) && decide (1 ≤ cause) && decide (cause ≤ 7)
  | .containWrite p l => decide (p < 4) && decide (l < 2)
  | .release ag p l => wfAgent ag && decide (p < 4) && decide (l < 2)
  | .perstLRise p => decide (p < 4)
  | .identifyMemoryDevice p l => decide (p < 4) && decide (l < 2)
  | .getPartitionInfo p l => decide (p < 4) && decide (l < 2)
  | .getSupportedLogs p l => decide (p < 4) && decide (l < 2)
  | .getLog p l _ => decide (p < 4) && decide (l < 2)
  | .getEventRecords p l k => decide (p < 4) && decide (l < 2) && decide (k < 4)
  | .clearEventRecords p l k _ _ => decide (p < 4) && decide (l < 2) && decide (k < 4)
  | .getEventInterruptPolicy p l => decide (p < 4) && decide (l < 2)
  | .setEventInterruptPolicy p l pol => decide (p < 4) && decide (l < 2) && decide (pol.length ≤ 4)
  | .getTimestamp p l => decide (p < 4) && decide (l < 2)
  | .setTimestamp p l ns => decide (p < 4) && decide (l < 2) && decide (ns < 2 ^ 64)
  | .getHealthInfo p l => decide (p < 4) && decide (l < 2)
  | .getFwInfo p l => decide (p < 4) && decide (l < 2)
  | .transferFw p l slot off data => decide (p < 4) && decide (l < 2) && decide (slot < 256) && decide (off < 2 ^ 32) && wfBytes data
  | .activateFw p l slot _ => decide (p < 4) && decide (l < 2) && decide (slot < 256)
  | .unsupportedMailboxCmd p l op => decide (p < 4) && decide (l < 2) && decide (op < 65536)
  | .doeDiscovery p l inst index => decide (p < 4) && decide (l < 2) && decide (inst < 2) && decide (index < 256)
  | .cxlTableAccess p l => decide (p < 4) && decide (l < 2)
  | .spdmRequest c _ nonce => decide (c < 10) && wfBytes nonce
  | .getPqCert c off len => decide (c < 10) && decide (off < 65536) && decide (len < 65536)
  | .getPqSig c => decide (c < 10)
  | .channelRead ra n => decide (ra < 2 ^ 43) && decide (1 ≤ n) && decide (n ≤ 8)
  | .channelWrite ra bursts => decide (ra < 2 ^ 43) && decide (1 ≤ bursts.length) && decide (bursts.length ≤ 8)
  | .dramReadReturn ra err cls => decide (ra < 2 ^ 43) && decide (err.length ≤ 40) && err.all (fun e => decide (e < 65536)) && decide (cls < 16)
  | .writeDrainStart c sub _ => decide (c < 16) && decide (sub < 2)
  | .writeDrainStop c sub => decide (c < 16) && decide (sub < 2)
  | .openIdleExpiry c bank => decide (c < 16) && decide (bank < 512)
  | .refreshDue c rank _ => decide (c < 16) && decide (rank < 4)
  | .mr4Poll c rank _ => decide (c < 16) && decide (rank < 4)
  | .alertN c _ _ => decide (c < 16)
  | .selfRefreshEntry c => decide (c < 16)
  | .srDeferExpiry c => decide (c < 16)
  | .chCtlRetrain c => decide (c < 16)
  | .retrainDone c _ => decide (c < 16)
  | .errInjArm c pos mask value sub => decide (c < 16) && decide (pos < 16) && decide (mask < 16) && decide (value < 65536) && decide (sub < 2)
  | .scrubStep _ err => decide (err.length ≤ 40) && err.all (fun e => decide (e < 65536))
  | .proofStart => true
  | .proofHoldExpiry lanes => decide (lanes < 2 ^ 40)
  | .proofDone => true
  | .t0Patrol area _ bad => decide (area < 5) && decide (bad < 3)
  | .retireRow => true
  | .retireBank => true
  | .retireDone => true
  | .tableCmd v dest c => wfVia v && decide (dest < 8) && wfTable c
  | .grantNotice v dest line host win arr _ => wfVia v && decide (dest < 8) && decide (line < 2 ^ 38) && decide (host < 32) && decide (win < 16) && decide (arr < 8)
  | .noticeFlush v dest arr => wfVia v && decide (dest < 8) && decide (arr < 8)
  | .dirUpd v c => wfVia v && wfDir c
  | .twinFetch v _ line cls => wfVia v && decide (line < 2 ^ 38) && decide (cls < 16)
  | .fetchData v _ _ _ => wfVia v
  | .fwdReq v _ r => wfVia v && wfRequest r
  | .fwdRsp v _ _ => wfVia v
  | .snoopFwd v dest ref _ host win qla mode => wfVia v && decide (dest < 8) && wfRef ref && wfMode mode && decide (host < 34) && decide (win < 16) && decide (qla < 2 ^ 46)
  | .snoopAns v ref _ fin => wfVia v && wfRef ref && wfEnd fin
  | .mirrorLine v line _ _ cls entry => wfVia v && decide (line < 2 ^ 38) && decide (cls < 16) && entry.all wfAtomic
  | .mirrorFail v dut record cls => wfVia v && decide (dut < 1024) && decide (record < 2 ^ 64) && decide (cls < 16)
  | .mirrorOr v dut line _ cls => wfVia v && decide (dut < 1024) && decide (line < 2 ^ 38) && decide (cls < 16)
  | .mirrorRec v lpn l => wfVia v && decide (lpn < 2 ^ 32) && wfLayout l
  | .commitRec v r => wfVia v && wfCommit r
  | .csign v stream tseq _ l => wfVia v && decide (stream < 2) && decide (tseq < 2 ^ 32) && l.all wfLayout
  | .hello v info => wfVia v && wfPeer info
  | .state v info => wfVia v && wfPeer info
  | .withdraw v => wfVia v
  | .handover v dest frm stage _ => wfVia v && decide (dest < 8) && decide (frm < 8) && decide (stage < 8)
  | .rsTable v regions geos duts _ _ _ _ poisonKey => wfVia v && regions.all (fun e => decide (e.1 < 4096)) && geos.all (fun e => decide (e.1 < 1024)) && duts.all (fun e => decide (e.1 < 1024)) && decide (poisonKey < 2 ^ 448)
  | .rsLoaf v lpn l _ poison => wfVia v && decide (lpn < 2 ^ 32) && wfLayout l && decide (poison < 2 ^ 64)
  | .rsLine v line _ _ cls => wfVia v && decide (line < 2 ^ 38) && decide (cls < 16)
  | .rsDir v c => wfVia v && wfDir c
  | .rsDone v => wfVia v
  | .timeSync v _ _ _ _ => wfVia v
  | .resyncStart => true
  | .resyncStep => true
  | .resyncInterrupt => true
  | .timeSyncTimer => true
  | .heartbeatTimeout => true
  | .hbConfirmMissing => true
  | .twinLinksWaitExpiry => true
  | .soloWaitExpiry => true
  | .withdrawCmd => true
  | .retake => true
  | .batchWaitExpiry => true
  | .siteDrainDone => true
  | .handoverResetTimer => true
  | .reforward => true
  | .stewReq v _ addr x => wfVia v && decide (addr < 2 ^ 32) && x.all (fun v => decide (v < 2 ^ 32))
  | .stewRsp v _ _ value => wfVia v && decide (value < 2 ^ 32)
  | .coldStart => true
  | .channelTrainingDone c _ => decide (c < 16)
  | .startEnd => true
  | .deviceReset cause => decide (cause ≤ 6)
  | .devRstLAssert => true
  | .devRstLRelease => true
  | .d2dFlitReceive n _ => decide (n < 6)
  | .d2dReplayLimit n => decide (n < 6)
  | .sbFrameReceive _ => true
  | .sbFail => true
  | .lockstepMismatch pair => decide (pair < 2)
  | .mgmtWatchdogExpiry pair => decide (pair < 2)
  | .escalationExpiry source => decide (source < 112)
  | .fatalReaction => true
  | .fcParity => true
  | .errorLineChange p inst bit info => decide (inst < Machine.Page.count false p) && decide (bit < 32) && wfBytes info
  | .coalesceExpiry _ => true
  | .ledgerProgramDone _ => true
  | .rdCmdStart _ index => decide (index < 64)
  | .noteCmdAppend => true
  | .ftStatAck => true
  | .fcTestRaise cls => decide (cls < 4)
  | .ldgInfo => true
  | .ldgRead _ seq n => decide (seq < 2 ^ 64) && decide (n < 256)
  | .ldgLastWords index => decide (index < 256)
  | .fcSnapshot => true
  | .sectorMap first => decide (first < 65536)
  | .t0DieFail die => decide (die < 4)
  | .txnFlit k h hdrErrs => wfLink k && wfHdr h && decide (hdrErrs < 11)
  | .idleFlit k h hdrErrs => wfLink k && wfHdr h && decide (hdrErrs < 11)
  | .badCrcFlit k hdrErrs => wfLink k && decide (hdrErrs < 11)
  | .retrain k h => wfLink k && wfLctl h
  | .sleepReq k h => wfLink k && wfLctl h
  | .sleepAck k h => wfLink k && wfLctl h
  | .sleepNak k h => wfLink k && wfLctl h
  | .disable k h => wfLink k && wfLctl h
  | .ts1 t => wfLink t.link && wfTrain t.fields
  | .ts2 k f => wfLink k && wfTrain f
  | .tsEnd k => wfLink k
  | .lockAcquired k lanes => wfLink k && decide (lanes < 65536)
  | .skipFrame p _ => decide (p < 5)
  | .dataFrame p bytes => decide (p < 5) && wfBytes bytes
  | .framingLoss k => wfLink k
  | .replayTimerExpiry k => wfLink k
  | .trainTimeout k => wfLink k
  | .quietExpiry k => wfLink k
  | .graceExpiry k => wfLink k
  | .lossOfSignal k => wfLink k
  | .linkEnable k => wfLink k
  | .wakePattern k => wfLink k
  | .linkCtlRetrain k => wfLink k
  | .forceNew k => wfLink k
  | .receiverMargining kind n height width => decide (kind < 3) && decide (n < if kind = 0 then 1024 else if kind = 1 then 5 else 8) && decide (height < 256) && decide (width < 256)
  | .tsEndSent k => wfLink k
  | .droopTrip dom det => decide (dom < 15) && decide (det < 48)
  | .stretchEnd dom => decide (dom < 15)
  | .droopSag dom det => decide (dom < 15) && decide (det < 48)
  | .divRestore dom => decide (dom < 15)
  | .throttleOn readings => readings.all (fun e => decide (e.1 < 32))
  | .throttleStepTimer readings => readings.all (fun e => decide (e.1 < 32))
  | .thermTrip readings => readings.all (fun e => decide (e.1 < 32))
  | .sensorFault n _ => decide (n < 32)
  | .refLoss r => decide (r < 5)
  | .xtalLoss => true
  | .refReturn r => decide (r < 5)
  | .sioRefTimeout q => decide (q < 4)
  | .ageingMeasure counts => counts.all (fun e => decide (e.1 < 256))
  | .planDue items => items.all wfItem
  | .replan items => items.all wfItem
  | .planItemStart => true
  | .planItemEnd _ => true
  | .vrAlert iout vout => decide (iout < 65536) && decide (vout < 65536)
  | .calOpen ag => wfAgent ag
  | .calCommit ag => wfAgent ag
  | .calAbort ag => wfAgent ag
  | .calOperationDone => true
  | .blockPowerGate p inst => decide (inst < Machine.Page.count false p)
  | .blockWake p inst => decide (inst < Machine.Page.count false p)
  | .prsntLFall => true
  | .insertionRecognised => true
  | .extraction => true
  | .gateOffTimer => true
  | .rampComplete iout vout => decide (iout < 65536) && decide (vout < 65536)
  | .pgQualified iout vout => decide (iout < 65536) && decide (vout < 65536)
  | .pgWindowLoss vout => decide (vout < 65536)
  | .faultTimer iout vout => decide (iout < 65536) && decide (vout < 65536)
  | .fast iout vout => decide (iout < 65536) && decide (vout < 65536)
  | .fetMeas _ => true
  | .fetModel vin => decide (vin < 65536)
  | .ov iout vout => decide (iout < 65536) && decide (vout < 65536)
  | .uv iout vout => decide (iout < 65536) && decide (vout < 65536)
  | .rails iout vout => decide (iout < 65536) && decide (vout < 65536)
  | .retryDelayExpiry => true
  | .tripCountClear => true
  | .auxLost => true
  | .auxGood => true
  | .auxLow => true
  | .hswCtlOff => true
  | .hswCtlOn => true
  | .hswStatus => true
  | .hswClear => true
  | .hswOff => true
  | .hswOn => true
  | .devReset => true
  | .devCmdReset => true
  | .blkResetGo code inst => decide (code < 16) && decide (inst < 64)
  | .mainRailsGood => true
  | .vinInRange vin => decide (vin < 65536)
  | .tsnsFault => true
  | .trngHealth => true
  | .trngRecover => true
  | .rekeyStart => true
  | .rekeyStep => true
  | .rekeyDrainEnd => true
  | .confirm => true
  | .commit _ => true
  | .fwWrite slot off data => decide (slot < 256) && decide (off < 2 ^ 32) && decide (data.length < 256) && wfBytes data
  | .fwActivate slot => decide (slot < 256)
  | .challenge ag => ag.all wfAgent
  | .submit ag => wfAgent ag
  | .dbgTokenChunk off data => decide (off < 65536) && wfBytes data
  | .relock ag => wfAgent ag
  | .nonceExpiry => true
  | .jtagLocked instr => decide (1 ≤ instr) && decide (instr ≤ 3)
  | .trst => true
  | .dmaSqTail q value => decide (q < 4) && decide (value < 2 ^ 32)
  | .dmaCqHead q value => decide (q < 4) && decide (value < 2 ^ 32)
  | .dmaEnable q => decide (q < 4)
  | .dmaDisable q => decide (q < 4)
  | .dmaAbort q => decide (q < 4)
  | .dmaCfgWrite q field value => decide (q < 4) && decide (field < 11) && decide (value < 2 ^ 32)
  | .dmaDescFetched q => decide (q < 4)
  | .copy q _ => decide (q < 4)
  | .fill q _ => decide (q < 4)
  | .descDone q => decide (q < 4)
  | .regRead addr => decide (addr < 2 ^ 32)
  | .regWrite addr value => decide (addr < 2 ^ 32) && decide (value < 2 ^ 32)
  | .registerWrite ag addr size value => wfAgent ag && decide (addr < 2 ^ 32) && decide (1 ≤ size) && decide (size ≤ 64) && decide (value < 2 ^ (8 * size))
  | .rlRead ag addr size => wfAgent ag && decide (addr < 2 ^ 32) && decide (1 ≤ size) && decide (size ≤ 64)
  | .evtClrWrite ag page value => wfAgent ag && decide (page < 65536) && decide (value < 2 ^ 32)
  | .errClrWrite ag page value => wfAgent ag && decide (page < 65536) && decide (value < 2 ^ 32)
  | .errInjWrite ag page value => wfAgent ag && decide (page < 65536) && decide (value < 2 ^ 32)
  | .pageCtlWrite ag page value => wfAgent ag && decide (page < 65536) && decide (value < 2 ^ 32)
  | .lockAll ag => wfAgent ag
  | .calDataAccess ag x => wfAgent ag && x.all (fun v => decide (v < 2 ^ 32))
  | .dbgGo addr data _ => decide (addr < 2 ^ 48) && decide (data < 2 ^ 32)
  | .blkResetDone code inst => decide (code < 16) && decide (inst < 64)

end Sys2Proof
end

