-- ==== Sys2Proof/Certificates/Slice0/Obligations.lean ====
section
/-! DEFINITION. The statements for the provers. A statement about a command says what the machine is after it: `Leads c s d`
is that the command answers the next state whose device is `d`, with the collector formed again from its flags (R507), and
whose queue is unchanged; so a statement with `Leads` says also all that the command leaves unchanged. -/

open Sys2Proof Sys2Proof.Machine

/-- The command answers a next state: the device is `d` with the collector formed again, the queue is as before. -/
def Sys2Proof.Machine.Leads (c : Instr) (s : State) (d : Device) : Prop := exec c s = .next { s with dev := settle d }


/-- The command `c` with a `Via` is the arrival of the peer message `m` (R463, R467 to R469). -/
def Sys2Proof.Machine.Arrives (c : Via → Instr) (m : PeerMsg) : Prop :=
  ∀ (d : Device) (w : List Instr) (v : Via),
    (d.mayArrive v.p m = false → Leads (c v) ⟨d, w⟩ d) ∧
    (d.mayArrive v.p m = true → v.tseq = none ∨ v.p < 3 → Leads (c v) ⟨d, w⟩ ((d.consumeMsg v.p m).applyMsg v.p 0 0 m v.bad)) ∧
    (∀ t k s e, d.mayArrive v.p m = true → v.tseq = some t → 3 ≤ v.p → k = v.k % 2 → e = d.consumeMsg v.p m → s = e.stream k →
      (32768 ≤ tseqDist t s.applied ∨ s.early.any (fun x => x.tseq == t) = true → Leads (c v) ⟨d, w⟩ e) ∧
      (tseqDist t s.applied < 32768 → s.early.any (fun x => x.tseq == t) = false → ∃ f : Device,
        f = e.setStream k { s with early := s.early ++ [{ tseq := t, msg := m, bad := v.bad }] } ∧
        Leads (c v) ⟨d, w⟩ (f.runStreams ((f.stream 0).early.length + (f.stream 1).early.length))) ∧
      (tseqDist t s.applied < 32768 → t ≠ s.applied → s.early = [] → (e.stream (1 - k)).early = [] → Leads (c v) ⟨d, w⟩
        (e.setStream k { s with early := [{ tseq := t, msg := m, bad := v.bad }] })) ∧
      (t = s.applied → t < 65536 → s.early = [] → (e.stream (1 - k)).early = [] → e.streamHolds k m = false → Leads (c v) ⟨d, w⟩
        ((e.setStream k { s with applied := (t + 1) % 65536, early := [] }).applyMsg (3 + k) k t m v.bad)))

/-- What a burst holds now: the write queue's entry where it has one, else memory's line, with its poison mark (R409). -/
def Sys2Proof.Machine.Device.burstNow (d : Device) (ra : Nat) : Line × Bool :=
  match d.wqFind ra with
  | some e => (e.data, e.poison)
  | none => d.memLine ra

/-- The number of entries in a subchannel's write queue. -/
def Sys2Proof.Machine.Device.queued (d : Device) (c sub : Nat) : Nat := (KMap.get (d.chan c).wq [] sub).length

/-- Every write queue holds bursts of its own target, each at most once (R410). -/
def Sys2Proof.Machine.WritesPlaced (d : Device) : Prop :=
  ∀ c sub, (∀ e ∈ KMap.get (d.chan c).wq [] sub, channelOf e.ra = c ∧ targetOf e.ra % 2 = sub ∧ e.ra % 64 = 0) ∧
    ((KMap.get (d.chan c).wq [] sub).map WqEntry.ra).Nodup

/-- For every command, every rest of a queue and every state, a step of the state whose queue has the command in front is exec of the command on the state with the rest of the queue. (95_what_each_step_holds.md, 00_scope.md) -/
def Obligations.StepRunsTheFrontCommand : Prop :=
  ∀ (c : Instr) (rest : List Instr) (s : State), step { s with pending := c :: rest } = exec c { s with pending := rest }

/-- With no command waiting, a step answers a next state whose queue is empty. It is the model's tick (log entry 1, a design choice). With main power on, the Hub out of reset, AUX good, no frame in hand on a peer link, no twin link held for a margin plan and no whole microsecond of the always-on counter reached, that counter and the time base advance by 1 (the time base stands still once in 1,024 ticks while a slew is removed, and the slew shrinks by 1), every guarantee bucket fills by its rate up to its depth, and nothing else changes but the collector. With AUX and main power absent nothing changes but the collector. (09_qos.md, 13_twin_and_quartet.md, 17_hot_swap.md) -/
def Obligations.EmptyQueueStepIsOneTick : Prop :=
  (∀ s : State, s.pending = [] → ∃ t, step s = .next t ∧ t.pending = []) ∧
  (∀ (d : Device), d.power.mainOn = true → d.power.hubReset = false → d.power.auxOk = true → (d.power.aon + 1) % 1000 ≠ 0 →
    d.power.plan.armed = none → (∀ p, (d.link (.peer p)).txFrame = []) →
    step ⟨d, []⟩ = .next ⟨settle { d with
      time := if d.twin.slew % 1024 = 1 then d.time else (d.time + 1) % 2 ^ 64
      twin := { d.twin with slew := d.twin.slew - 1 }
      power := { d.power with aon := d.power.aon + 1 }
      qos := { d.qos with buckets := d.qos.buckets.map (fun e =>
        (e.1, min (d.bucketDepth (e.1 / 16) (e.1 % 16) : Int) (e.2 + (d.rateOf (e.1 / 16) (e.1 % 16) : Int)))) } }, []⟩) ∧
  (∀ s : State, s.pending = [] → s.dev.power.mainOn = false → s.dev.power.auxOk = false → step s = .next { s with dev := settle s.dev })

/-- For every command and every state, exec answers a next state, and its queue of waiting commands is the one it was given. (95_what_each_step_holds.md) -/
def Obligations.CommandsLeaveTheQueueAlone : Prop :=
  ∀ (c : Instr) (s : State), ∃ t, exec c s = .next t ∧ t.pending = s.pending

/-- From every state, a run of as many steps as commands wait ends in a next state with an empty queue. For every way to split the queue in two, that run is the run of the first part, to a state in which exactly the second part waits, and then the run of the second part. (95_what_each_step_holds.md) -/
def Obligations.QueueDrainsInOrder : Prop :=
  (∀ s : State, ∃ t, Runs s.pending.length s t ∧ t.pending = []) ∧
  (∀ (s : State) (a b : List Instr), s.pending = a ++ b → ∃ t, Runs a.length s t ∧ t.pending = b ∧
    ∀ u, Runs b.length t u ↔ Runs (a.length + b.length) s u)

/-- For every state whose collector agrees with the flags of its pages, a step that answers a next state leads to one whose collector agrees: for every source, its FC_SUMMARY bit is 1 exactly when an ERR_STAT flag that reports to it has a fault class or it has escalated; it has an escalation timer exactly when it has a UC fault; the summary pages show its event flags and access errors; ERR_L follows its rule. The same holds after every command, from any state. (R507, R508, R510, R517, R658) -/
def Obligations.CollectorAgreesAfterEveryStep : Prop :=
  (∀ s t : State, Collected s.dev → step s = .next t → Collected t.dev) ∧
  (∀ (c : Instr) (s t : State), exec c s = .next t → Collected t.dev)

/-- In the state after reset the collector agrees with the flags of the pages, memory is in its canonical form with nothing listed, no fault is latched, ERR_L is released, and the queue is empty. (R507, R508, R510, R517, R658) -/
def Obligations.ResetStateIsCollected : Prop :=
  Collected State.reset.dev ∧ Memory.wf State.reset.dev.mem = true ∧ State.reset.dev.mem = [] ∧ State.reset.dev.fc.summary = 0 ∧
    State.reset.dev.fc.errL = false ∧ State.reset.dev.flagReg FC.FT_STAT.PEND = false ∧ State.reset.pending = []

/-- On a link in UP_MEM with a valid, unshared host ID, an enabled window, a committed decoder over the address and BI Enable set: MemRd of a Meta0 value, MemRd with No-Op and MemRdData (both as MemRd with MetaValue A), MemInv, MemWr with MetaValue I or S and MemWr with No-Op (as MetaValue I; a write charges 64 bytes to its class) are handed, with the address and window that R60 gives them, to the operation that takes a request to its home; MemClnEvct and BIConflict are handed to it on a link in UP_MEM without those conditions. MemSpecRd changes nothing. A MemRd or MemWr of another meta encoding, a MemWr with MetaValue A and an M2S message of no listed opcode are protocol errors of the link. Nothing else changes but that the flag HOST_DUP clears while no two links share a host ID. (R60, R67, R118, R126, R138, R370, R371, R372) -/
def Obligations.HostMemoryRequestsGoToTheirHome : Prop :=
  ∀ (d : Device) (w : List Instr) (p l tag dpa : Nat), p < 4 → l < 2 → (d.hostLink p l).state = .upMem →
    ∃ e : Device, e = (if d.anyDup = true then d else d.dropErr COH.flag.HOST_DUP) ∧
    Leads (.memclnevct p l tag dpa) ⟨d, w⟩ (e.route (d.hostReq p l tag dpa .cleanEvict)) ∧
    Leads (.biconflict p l tag dpa) ⟨d, w⟩ (e.route (d.hostReq p l tag dpa .biConflict)) ∧
    Leads (.memspecrd p l (.memSpecRd dpa)) ⟨d, w⟩ d ∧
    Leads (.memspecrd p l .unlisted) ⟨d, w⟩ (d.protoErr p l 1) ∧
    Leads (.memrd p l tag dpa .other) ⟨d, w⟩ (d.protoErr p l 1) ∧
    (∀ v k full, Leads (.memwr p l tag dpa v k full .other) ⟨d, w⟩ (d.protoErr p l 1) ∧
      Leads (.memwr p l tag dpa v k full (.state .a)) ⟨d, w⟩ (d.protoErr p l 1)) ∧
    (d.hostValid p l = true → d.hostDup p l = false → d.windowOn p l (d.windowDecode p l dpa).1 = true →
      (d.hostLink p l).decodes dpa = true → (d.hostLink p l).biEnable = true →
      (∀ m, Leads (.memrd p l tag dpa (.state m)) ⟨d, w⟩ (e.route (d.hostReq p l tag dpa (.hostRead m)))) ∧
      Leads (.memrd p l tag dpa .noOp) ⟨d, w⟩ (e.route (d.hostReq p l tag dpa (.hostRead .a))) ∧
      Leads (.memrddata p l tag dpa) ⟨d, w⟩ (e.route (d.hostReq p l tag dpa (.hostRead .a))) ∧
      Leads (.meminv p l tag dpa) ⟨d, w⟩ (e.route (d.hostReq p l tag dpa .hostInv)) ∧
      (∀ v k full, ∃ f : Device, f = e.chargeBytes ((d.windowDecode p l dpa).1 % 16) 64 ∧
        (∀ m, m ≠ .a → Leads (.memwr p l tag dpa v k full (.state m)) ⟨d, w⟩ (f.route (d.hostReq p l tag dpa (.hostWrite v k full m)))) ∧
        Leads (.memwr p l tag dpa v k full .noOp) ⟨d, w⟩ (f.route (d.hostReq p l tag dpa (.hostWrite v k full .i)))))

/-- Performing a host read of a line whose grants are not held back answers the line's content and: E, with no change to the directory, where the reader owns the line; I for MetaValue I, which is counted in UNCACHED_GRANTS where the line has neither an entry nor a place for one, and changes nothing otherwise; S for MetaValue S, and for A where another holder is named, the line is overflowed or untracked or the region is read only, where the line has an entry; E for A otherwise, and then the entry names the reader alone. (R51, R124, R131, R135, R154) -/
def Obligations.DirectoryGrantsOfReads : Prop :=
  ∀ (d : Device) (r : Request) (line : Nat),
    (d.ownsLine r line = true → ∀ m, d.grantRead r line m = (d, .exclusive)) ∧
    (d.ownsLine r line = false → d.coh.noGrant.contains r.arr = true → ∀ m, d.grantRead r line m = (d, .none)) ∧
    (d.ownsLine r line = false → d.coh.noGrant.contains r.arr = false →
      d.grantRead r line .i = (if d.noRoom line = true then d.countWrap COH.UNCACHED_GRANTS.COUNT else d, .none) ∧
      ((KMap.find d.coh.dir line).isSome = true → (d.grantRead r line .s).2 = .shared) ∧
      ((KMap.find d.coh.dir line).isSome = true →
        ((d.grantRead r line .a).2 = .exclusive ↔
          (d.entry line).ptrs.all (fun t => t == ptrOf r) = true ∧ (d.entry line).lovf = false ∧ d.untrackedLine line = false ∧ d.readOnly r = false)) ∧
      ((KMap.find d.coh.dir line).isSome = true → (d.grantRead r line .a).2 = .exclusive ∨ (d.grantRead r line .a).2 = .shared))

/-- On a host link that is up while the device's firmware runs, each reporting mailbox command sends its answer and changes nothing else: capacity 16 × W, all of it volatile, with no persistent capacity and no poison list; the one supported log and its entries; the four event interrupt policies; the time base; class, junction temperature and fault counts of the health report; and on a management link the two firmware slots with the running and the trial slot. A write of the timestamp is accepted and ignored. Any other opcode is answered Unsupported. The opcode numbers and the health encoding are the model's (log entries 16 and 24). (R363, R373, R498) -/
def Obligations.MailboxReportsOnALink : Prop :=
  ∀ (d : Device) (w : List Instr) (p l : Nat), (d.hostLink p l).up = true → d.fwAlive = true →
    Leads (.identifyMemoryDevice p l) ⟨d, w⟩ (d.send (.mailbox p l .success [16 * 2 ^ (d.hostLink p l).winLog2, 16 * 2 ^ (d.hostLink p l).winLog2, 0, 0])) ∧
    Leads (.getPartitionInfo p l) ⟨d, w⟩ (d.send (.mailbox p l .success [16 * 2 ^ (d.hostLink p l).winLog2, 0])) ∧
    Leads (.getSupportedLogs p l) ⟨d, w⟩ (d.send (.mailbox p l .success [1, (d.linkOpcodes p l).length])) ∧
    (∀ cel, Leads (.getLog p l cel) ⟨d, w⟩ (d.send (if cel then .mailbox p l .success (d.linkOpcodes p l) else .mailbox p l .invalidLog []))) ∧
    Leads (.getEventInterruptPolicy p l) ⟨d, w⟩ (d.send (.mailbox p l .success
      [(d.evLog p l 0).policy, (d.evLog p l 0).vector, (d.evLog p l 1).policy, (d.evLog p l 1).vector,
       (d.evLog p l 2).policy, (d.evLog p l 2).vector, (d.evLog p l 3).policy, (d.evLog p l 3).vector])) ∧
    Leads (.getTimestamp p l) ⟨d, w⟩ (d.send (.mailbox p l .success [d.time])) ∧
    (∀ ns, Leads (.setTimestamp p l ns) ⟨d, w⟩ (d.send (.mailbox p l .success []))) ∧
    (∃ c, Leads (.getHealthInfo p l) ⟨d, w⟩ (d.send (.mailbox p l .success [c, d.reg PWR.THERM_STAT.TJ, d.reg FC.CE_COUNT.COUNT, d.reg FC.UC_COUNT.COUNT]))) ∧
    (∃ b, Leads (.getFwInfo p l) ⟨d, w⟩ (d.send (if d.mgmtLink p l then
      .mailbox p l .success [2, d.runSlot + 1, if d.sec.trial then d.sec.nextSlot + 1 else 0, 0, b] else .mailbox p l .unsupported []))) ∧
    (∀ op, Leads (.unsupportedMailboxCmd p l op) ⟨d, w⟩ (d.send (.mailbox p l .unsupported [])))

/-- On a host link that is up while firmware runs: Get Event Records of a log sends the log's overflow count and its oldest records, at most 15, and changes nothing else; Clear Event Records of every record empties the log and its overflow count, and of named records takes them from its front where they are its oldest in order; Set Event Interrupt Policy stores policy and vector of the Warning, Failure and Fatal logs; on a management link Transfer FW to slot 1 or 2 that does not run stores its data in the slot and to the running one is refused, and Activate FW of a slot whose image is valid makes it the slot of the next trial, of another is refused and raises IMAGE_REJECT as a security fault, online activation being refused. (R373, R374, R564) -/
def Obligations.EventLogsAndFirmwareOfTheMailbox : Prop :=
  ∀ (d : Device) (w : List Instr) (p l : Nat), (d.hostLink p l).up = true → d.fwAlive = true →
    (∀ k, k < 4 → Leads (.getEventRecords p l k) ⟨d, w⟩
      (d.send (.events p l k (d.evLog p l k).overflow (decide (15 < (d.evLog p l k).recs.length)) (((d.evLog p l k).recs.take 15).map Record.event)))) ∧
    (∀ k seqs, k < 4 → Leads (.clearEventRecords p l k true seqs) ⟨d, w⟩
      ((d.setEvLog p l k { d.evLog p l k with recs := [], overflow := 0 }).send (.mailbox p l .success []))) ∧
    (∀ k seqs a b, k < 4 → (d.evLog p l k).recs = a ++ b → a.map Record.seq = seqs → Leads (.clearEventRecords p l k false seqs) ⟨d, w⟩
      ((d.setEvLog p l k { d.evLog p l k with recs := b, overflow := if b.isEmpty then 0 else (d.evLog p l k).overflow }).send (.mailbox p l .success []))) ∧
    (∀ o1 v1 o2 v2 o3 v3, ∃ P : Device → Nat → Bool → Nat → Device,
      (∀ e k on v, P e k on v = e.setEvLog p l k { e.evLog p l k with policy := if on then 1 else 0, vector := v % 256 }) ∧
      Leads (.setEventInterruptPolicy p l [(o1, v1), (o2, v2), (o3, v3)]) ⟨d, w⟩ ((P (P (P d 1 o1 v1) 2 o2 v2) 3 o3 v3).send (.mailbox p l .success []))) ∧
    (d.mgmtLink p l = true →
      (∀ slot off data, slot = 1 ∨ slot = 2 → slot - 1 ≠ d.runSlot → off + data.length ≤ 0x2000000 →
        Leads (.transferFw p l slot off data) ⟨d, w⟩
          (({ d with sec := { d.sec with flash := Memory.setBytes d.sec.flash (slotBase (slot - 1) + off) data } } : Device).send (.mailbox p l .success []))) ∧
      (∀ slot off data, slot = 1 ∨ slot = 2 → slot - 1 = d.runSlot → off + data.length ≤ 0x2000000 →
        Leads (.transferFw p l slot off data) ⟨d, w⟩ (d.send (.mailbox p l .invalidSlot []))) ∧
      (∀ slot, 1 ≤ slot → slot ≤ 2 →
        Leads (.activateFw p l slot false) ⟨d, w⟩
          (if d.imageValid (slot - 1) = true then
            ({ d with sec := { d.sec with nextSlot := slot - 1, trial := true } } : Device).send (.mailbox p l .success [])
          else (d.secFault SECALM.flag.IMAGE_REJECT 4 0 (slot - 1) 0).send (.mailbox p l .authFailed []))) ∧
      (∀ slot, Leads (.activateFw p l slot true) ⟨d, w⟩ (d.send (.mailbox p l .invalidInput []))))

/-- On a host link that is up while firmware runs, DOE discovery names the protocol of an index and the next index (the protocol numbers are presumed, log entry 24), and a table access sends the device's coherent-memory attributes; neither changes anything else. On a connection that may carry requests, GET_VERSION answers the two versions and starts the transcript again; a capabilities request of a known version fixes it; once a version is fixed, the algorithms, digest, certificate, challenge, measurement, key-exchange, finish, heartbeat, key-update and end-session requests are answered as SPDM names them, a signed answer holding the transcript that it covers, and before that a request is unexpected; GET_PQ_CERT answers a chunk of the post-quantum chain; each of them discards the held hash, but that a signed answer holds its own. GET_PQ_SIG answers the signature over the held hash, and keeps it from being used twice by discarding it; without one it answers UnexpectedRequest. (R375, R575, R576, R577) -/
def Obligations.DoeAndSpdmResponder : Prop :=
  ∀ (d : Device) (w : List Instr),
    (∀ p l, (d.hostLink p l).up = true → d.fwAlive = true →
      Leads (.doeDiscovery p l 0 0) ⟨d, w⟩ (d.send (.doe p l 0 [1, 0, 1])) ∧
      Leads (.doeDiscovery p l 0 1) ⟨d, w⟩ (d.send (.doe p l 0 [1, 1, 2])) ∧
      Leads (.doeDiscovery p l 0 2) ⟨d, w⟩ (d.send (.doe p l 0 [1, 2, 0])) ∧
      Leads (.doeDiscovery p l 1 0) ⟨d, w⟩ (d.send (.doe p l 1 [1, 0, 1])) ∧
      Leads (.doeDiscovery p l 1 1) ⟨d, w⟩ (d.send (.doe p l 1 [0x1E98, 2, 0])) ∧
      ∃ t, Leads (.cxlTableAccess p l) ⟨d, w⟩ (d.send (.doe p l 1 t)) ∧ t[1]? = some (16 * 2 ^ (d.hostLink p l).winLog2)) ∧
    (∀ c nonce, d.connOk c = true → ∃ A : SpdmConn → SpdmRsp → List Nat → Device, (∀ x r data, A x r data = (d.setConn c x).send (.spdm c r data)) ∧
      ∃ L : Nat → SpdmConn, (∀ code, L code = { d.conn c with log := (d.conn c).log ++ code :: nonce, held := none }) ∧
      Leads (.spdmRequest c .getVersion nonce) ⟨d, w⟩ (A { d.conn c with log := [0x84], version := 0, held := none } .version [0x12, 0x13]) ∧
      (∀ v, Leads (.spdmRequest c (.getCapabilities v) nonce) ⟨d, w⟩
        (if v = 0x12 ∨ v = 0x13 then A { L 0xE1 with version := v } .capabilities [v] else A (L 0xE1) .errInvalid [])) ∧
      Leads (.spdmRequest c .other nonce) ⟨d, w⟩ (A (L 0) .errUnsupported []) ∧
      ((d.conn c).version = 0 → Leads (.spdmRequest c .getDigests nonce) ⟨d, w⟩ (A (L 0x81) .errUnexpected [])) ∧
      ((d.conn c).version ≠ 0 →
        Leads (.spdmRequest c .negotiateAlgorithms nonce) ⟨d, w⟩ (A (L 0xE3) .algorithms []) ∧
        Leads (.spdmRequest c .getDigests nonce) ⟨d, w⟩ (A (L 0x81) .digests (Config.sha384 d.hw.edChain)) ∧
        (∀ off len, Leads (.spdmRequest c (.getCertificate 0 off len) nonce) ⟨d, w⟩ (A (L 0x82) .certificate ((d.hw.edChain.drop off).take len))) ∧
        Leads (.spdmRequest c (.challenge 0) nonce) ⟨d, w⟩ (A { L 0x83 with held := some (L 0x83).log } .challengeAuth (d.spdmSign (L 0x83).log)) ∧
        Leads (.spdmRequest c (.getMeasurements 0 false) nonce) ⟨d, w⟩ (A (L 0xE0) .measurements [8]) ∧
        (∀ i, 1 ≤ i → i ≤ 8 →
          Leads (.spdmRequest c (.getMeasurements i false) nonce) ⟨d, w⟩ (A { L 0xE0 with log := (L 0xE0).log ++ d.measurement i } .measurements (d.measurement i)) ∧
          Leads (.spdmRequest c (.getMeasurements i true) nonce) ⟨d, w⟩
            (A { L 0xE0 with log := (L 0xE0).log ++ d.measurement i, held := some ((L 0xE0).log ++ d.measurement i) } .measurements
              (d.measurement i ++ d.spdmSign ((L 0xE0).log ++ d.measurement i)))) ∧
        (∀ i, d.mintOk = true → (d.conn c).freeSession = some i → Leads (.spdmRequest c (.keyExchange 0) nonce) ⟨d, w⟩
          (A { L 0xE4 with sessions := (d.conn c).sessions ++ [i], held := some (L 0xE4).log } .keyExchangeRsp (i :: d.spdmSign (L 0xE4).log))) ∧
        (∀ i, (d.conn c).open_ i = true →
          Leads (.spdmRequest c (.finish i) nonce) ⟨d, w⟩ (A (L 0xE5) .finishRsp []) ∧
          Leads (.spdmRequest c (.heartbeat i) nonce) ⟨d, w⟩ (A (L 0xE8) .heartbeatAck []) ∧
          Leads (.spdmRequest c (.keyUpdate i) nonce) ⟨d, w⟩ (A (L 0xE9) .keyUpdateAck []) ∧
          Leads (.spdmRequest c (.endSession i) nonce) ⟨d, w⟩
            (A { L 0xEA with sessions := (d.conn c).sessions.filter (fun j => j != i) } .endSessionAck []))) ∧
      (∀ off len, Leads (.getPqCert c off len) ⟨d, w⟩
        ((d.setConn c { d.conn c with held := none }).send (.spdm c .pqCert ((d.hw.mldsaChain.drop off).take len)))) ∧
      (∀ t, (d.conn c).held = some t → Leads (.getPqSig c) ⟨d, w⟩
        ((d.setConn c { d.conn c with held := none }).send (.spdm c .pqSig (Config.mldsaSign d.aliasSalt ctxAtt (Config.sha384 t))))) ∧
      ((d.conn c).held = none → Leads (.getPqSig c) ⟨d, w⟩
        ((d.setConn c { d.conn c with held := none }).send (.spdm c .errUnexpected []))))

/-- A change of a link's MSI-X conditions, or setting Bus Master Enable on a link that is up (with the read request size, Completion Timeout Value and IDO enables that the host left, where they are no reserved ones), stores them, sends exactly the pending messages whose conditions have cleared, in their order, and keeps the others pending. An HDM decoder that meets the commit rules is stored, at the DPA that follows from the lower decoders, and its error bit clears; one that does not sets its error bit. A write of BI Enable on a link that is up stores it, and setting it sends the MemInv requests that waited on to their home. A completion that matches an outstanding tag and its generation ends that tag: with its data where their length is that asked for (or with an error status); one that matches none is counted in LATE_CPL. A completion timer that has run out counts, is noted in AER and ends the tag with an error. A tag that ends leaves the link's list; unless an FLR or a cleared Bus Master Enable has made it old, its answer goes to the engine that asked, a DMA write whose descriptor has ended excepted, and the rings that waited for a tag fetch. (R369, R370, R372, R378, R379, R393, R394, R395) -/
def Obligations.HostFunctionControls : Prop :=
  ∀ (d : Device) (w : List Instr) (p l : Nat),
    (∀ en fm vs, ∃ e go, e = d.setHostLink p l { d.hostLink p l with msixEnable := en, msixFuncMask := fm, msixOpen := vs } ∧
      go = (d.hostLink p l).msixPending.filter (fun v => en && !fm && vs.contains v && (d.hostLink p l).bme && !(d.hostLink p l).contained) ∧
      Leads (.msixPendingSend p l en fm vs) ⟨d, w⟩ (go.foldl (fun x v => x.send (.msix p l v))
        (e.setHostLink p l { e.hostLink p l with msixPending := (d.hostLink p l).msixPending.filter (fun v => !(go.contains v)) }))) ∧
    ((d.hostLink p l).up = true → ∀ mrrs cto ir ic, mrrs ∈ [128, 256, 512, 1024, 2048, 4096] → cto ∈ [0, 1, 2, 5, 6, 9, 10, 13, 14] →
      ∃ h go, h = { d.hostLink p l with bme := true, mrrs := mrrs, cto := cto, idoReq := ir, idoCpl := ic } ∧
      go = h.msixPending.filter (fun v => h.msixReady v) ∧
      Leads (.bmeSet p l ⟨mrrs, cto, ir, ic⟩) ⟨d, w⟩ (go.foldl (fun x v => x.send (.msix p l v))
        ((d.setHostLink p l h).setHostLink p l { h with msixPending := h.msixPending.filter (fun v => !(go.contains v)) }))) ∧
    (∀ n hpa size skip iw bi lock, (d.hostLink p l).up = true →
      ((d.hostLink p l).mayCommit n size skip iw bi = true → Leads (.hdmDecoderCommit p l n hpa size skip iw bi lock) ⟨d, w⟩
        (d.setHostLink p l { d.hostLink p l with
          decoders := KMap.put (d.hostLink p l).decoders n
            { hpa := hpa, size := size, dpaSkip := skip, dpa := (d.hostLink p l).decoderBase n skip, locked := lock },
          decErr := (d.hostLink p l).decErr.filter (fun i => i != n) })) ∧
      ((d.hostLink p l).mayCommit n size skip iw bi = false → (d.hostLink p l).decErr.contains n = false →
        Leads (.hdmDecoderCommit p l n hpa size skip iw bi lock) ⟨d, w⟩
          (d.setHostLink p l { d.hostLink p l with decErr := (d.hostLink p l).decErr ++ [n] }))) ∧
    ((d.hostLink p l).up = true → Leads (.biEnableWrite p l false) ⟨d, w⟩ (d.setHostLink p l { d.hostLink p l with biEnable := false })) ∧
    ((d.hostLink p l).up = true → Leads (.biEnableWrite p l true) ⟨d, w⟩
      ((d.hostLink p l).waitBi.foldl (fun x r => x.route r) (d.setHostLink p l { d.hostLink p l with biEnable := true, waitBi := [] }))) ∧
    (∀ t tag data, (d.hostLink p l).tags.find? (fun x => x.tag + (if x.gen then 2 ^ 13 else 0) == tag) = some t →
      Leads (.outboundCompletion p l tag 0 data) ⟨d, w⟩ (d.tagEnds p l t 0 data) ∧
      Leads (.outboundCompletion p l tag 1 data) ⟨d, w⟩ (d.tagEnds p l t 1 data) ∧
      Leads (.outboundCompletion p l tag 2 data) ⟨d, w⟩ (d.tagEnds p l t 7 data)) ∧
    (∀ tag status data, (d.hostLink p l).tags.find? (fun x => x.tag + (if x.gen then 2 ^ 13 else 0) == tag) = none →
      Leads (.outboundCompletion p l tag status data) ⟨d, w⟩ (d.countSat (if l = 0 then HOST.LATE_CPL.COUNT 0 else HOST.LATE_CPL.COUNT 1) p)) ∧
    (∀ t tag, (d.hostLink p l).tags.find? (fun x => x.tag == tag && decide (x.sent + KMap.get cplTimes 40000000 (d.hostLink p l).cto ≤ d.time)) = some t →
      ∃ e, e = d.countSat (if l = 0 then HOST.CPL_TIMEOUTS.COUNT 0 else HOST.CPL_TIMEOUTS.COUNT 1) p ∧
      Leads (.completionTimeout p l tag) ⟨d, w⟩ ((e.setHostLink p l { e.hostLink p l with aerCto := true }).tagEnds p l t 7 [])) ∧
    (∀ t status data, ∃ e, e = d.setHostLink p l { d.hostLink p l with tags := (d.hostLink p l).tags.filter (fun x => x.tag != t.tag) } ∧
      (t.old = true → d.tagEnds p l t status data =
        if ((d.hostLink p l).tags.filter (fun x => x.tag != t.tag)).any (fun x => x.old) then e else e.flipGen p l) ∧
      (t.old = false → t.kind ≠ 8 ∨ d.eng.dma.any (fun x => x.id == t.q) = true → ∃ a : EngineAnswer,
        a = (if 1 < status ∨ data.length = t.len then { kind := t.kind, q := t.q, qla := t.off, status := status, bytes := data }
          else { kind := t.kind, q := t.q, qla := t.off, status := 7, bytes := [] }) ∧
        ∃ f : Device, f = { e with eng := { e.eng with inbox := e.eng.inbox ++ [a] } } ∧
        d.tagEnds p l t status data = (allRings.filter (fun r => f.ringOn r p l && f.ringOnHost r)).foldl (fun x r => x.ringFetch r) f))

/-- An FLR of a link that is up clears bus mastering and the MSI-X conditions, sets its PCIe controls back (the read request size to 512: the model's choice, log entry 78), starts the drain of its tags and closes its batch windows; 90 ms after it the open tags are released and the FLR completes. Clearing Bus Master Enable starts the same drain. A CXL Reset takes back every line that the link's host holds, or uncommits the decoders at once and clears BI Enable where the link has no valid host ID. A hot reset or a link disable drops a present, uncontained link as R396 says; it trains again, after a disable once the host enables it. PERST of a port drops both its links, applies the pending configuration and is noted as a reset; its rise lets its uncontained links train. A link that finishes training reports LINK_UP with the state that its flit mode allows. A surprise down and an uncorrectable error of a link that is up, a containment and a write of CONTAIN contain the link with causes 1, 2, the one named, and 6: its traffic is cut, it goes to Detect with the cause shown, LINK_DOWN is reported if it was up, and CONTAINED with a record. A release by an agent that may release resets the function, releases the tags, reports RELEASED and lets the link train, unless its sweep still runs: then it sets RELEASE_EARLY. (R360, R389, R390, R391, R392, R393, R394, R396, R397, R398) -/
def Obligations.HostResetsAndLoss : Prop :=
  ∀ (d : Device) (w : List Instr) (p l : Nat),
    ((d.hostLink p l).up = true → (d.hostLink p l).flr = false → Leads (.flr p l) ⟨d, w⟩
      (((d.setHostLink p l { d.hostLink p l with bme := false, flr := true, flrAt := d.time, msixEnable := false, msixFuncMask := false, msixOpen := [], msixPending := [], mrrs := 512, bar := 0, cto := 0, idoReq := false, idoCpl := false }).startDrain p l).closeWindows p l)) ∧
    ((d.hostLink p l).flr = true → (d.hostLink p l).flrAt + 90000000 ≤ d.time → Leads (.flrForceRelease p l) ⟨d, w⟩ (d.flipGen p l)) ∧
    ((d.hostLink p l).flr = true → d.time < (d.hostLink p l).flrAt + 90000000 → Leads (.flrForceRelease p l) ⟨d, w⟩ d) ∧
    ((d.hostLink p l).up = true → (d.hostLink p l).bme = true → Leads (.bmeClear p l) ⟨d, w⟩
      ((d.setHostLink p l { d.hostLink p l with bme := false }).startDrain p l)) ∧
    ((d.hostLink p l).up = true → (d.hostLink p l).resetting = false →
      (d.hostValid p l = true → Leads (.cxlReset p l) ⟨d, w⟩ ((d.setHostLink p l { d.hostLink p l with resetting := true }).recallAll (d.hostId p l))) ∧
      (d.hostValid p l = false → Leads (.cxlReset p l) ⟨d, w⟩ (d.setHostLink p l { d.hostLink p l with decoders := [], decErr := [], biEnable := false }))) ∧
    (d.linkPresent p l = true → (d.hostLink p l).contained = false → d.host.perst.contains p = false →
      (∀ e, e = d.setHostLink p l (d.hostLink p l) → Leads (.hotReset p l 0) ⟨d, w⟩ (e.dropLink p l (e.freeState p l)).proceed) ∧
      (∀ e, e = d.setHostLink p l { d.hostLink p l with held := true } → Leads (.hotReset p l 1) ⟨d, w⟩ (e.dropLink p l (e.freeState p l)).proceed) ∧
      ((d.hostLink p l).held = true → ∀ e, e = d.setHostLink p l { d.hostLink p l with held := false } →
        Leads (.hotReset p l 2) ⟨d, w⟩ (e.setHostLink p l { e.hostLink p l with state := if d.pageOn .host p then .training else .down }))) ∧
    (p < 4 → d.host.perst.contains p = false → Leads (.perst p) ⟨d, w⟩
      ((((({ d with host := { d.host with perst := d.host.perst ++ [p] } } : Device).dropLink p 0 .inReset).dropLink p 1 .inReset).applyPortCfg p
        |>.noteReset 2 0 [p]).proceed)) ∧
    (d.host.perst.contains p = true → ∃ F : Device → Nat → Device,
      (∀ x m, F x m = if x.linkPresent p m = true ∧ (x.hostLink p m).contained = false then x.setHostLink p m { x.hostLink p m with state := x.freeState p m } else x) ∧
      Leads (.perstLRise p) ⟨d, w⟩ (F (F { d with host := { d.host with perst := d.host.perst.filter (fun q => q != p) } } 0) 1)) ∧
    (∀ rate width f, (d.hostLink p l).state = .training → d.linkPresent p l = true → Leads (.hostLinkUp p l rate width f) ⟨d, w⟩
      ((d.setHostLink p l { d.hostLink p l with state := if f then .upMem else .upIo, rate := max rate (d.reg HOST.PORT_CFG.MAX_RATE p), width := min width (if (d.hostLink p l).split then 8 else 16), flit256 := f }).evt (HOST.flag.LINK_UP l) p)) ∧
    (d.linkPresent p l = true → (d.hostLink p l).contained = false → ∃ K : Nat → Device,
      (∀ k, ∃ e f, e = d.cutLink p l ∧ f = e.setHostLink p l { e.hostLink p l with state := .contained, contained := true, cause := k, resetting := false, rate := 0, width := 0, flit256 := false } ∧
        K k = (((if (d.hostLink p l).up = true then f.evt (HOST.flag.LINK_DOWN l) p else f).evtRec (HOST.flag.CONTAINED l) p [l, k] [l, k]).proceed)) ∧
      ((d.hostLink p l).up = true → Leads (.surpriseDown p l) ⟨d, w⟩ (K 1) ∧ Leads (.linkUncorr p l) ⟨d, w⟩ (K 2)) ∧
      (∀ k, 1 ≤ k → k ≤ 7 → Leads (.contain p l k) ⟨d, w⟩ (K k)) ∧ Leads (.containWrite p l) ⟨d, w⟩ (K 6)) ∧
    (∀ ag, (d.hostLink p l).contained = true → d.linkPresent p l = true → d.mayRelease ag p l = true →
      ((d.hostLink p l).sweepPend = true → Leads (.release ag p l) ⟨d, w⟩ (d.raise (HOST.flag.RELEASE_EARLY l) p [l] [l] false)) ∧
      ((d.hostLink p l).sweepPend = false → ∃ e, e = (d.resetFunction p l).releaseTags p l ∧ Leads (.release ag p l) ⟨d, w⟩
        (((e.setHostLink p l { e.hostLink p l with contained := false, state := .down }).evt (HOST.flag.RELEASED l) p).trainOrHold p l)))

/-- On a link in UP_MEM: an answer BIRspI, BIRspS or BIRspE for a snoop that this home sent to the link's host notes a BISnpCur at the work that waits for it, changes the line's entry as the answer says and ends the snoop; one for a snoop forwarded by another home, no part of a broadcast, ends it here and is told to that home; one for a snoop that had timed out takes it off the late list; a block answer is a protocol error, and so is an answer that none of these awaits. Waiting work then proceeds. BI_TIMEOUT of a snoop of this home whose time has run out takes the pointer of a named snoop off the entry and ends the snoop; it counts in BI_TIMEOUTS, aborts a commit that waits for the line, poisons the line under the sweep class (the model's choice of class, log entry 121) and raises BI_TIMEOUT, and notes the line as stale where it is not and the slice has room. Before its time has run out, or for no snoop, the command changes nothing but what lets waiting work proceed. (R119, R127, R135, R137, R139, R146, R147, R148, R372) -/
def Obligations.SnoopAnswersAndTimeouts : Prop :=
  ∀ (d : Device) (w : List Instr) (sid : Nat),
    (∀ p l, (d.hostLink p l).state = .upMem →
      ∃ own rem late, own = d.coh.snoops.find? (fun s => s.sid == sid && s.target.arr == d.myArr && s.target.host == d.hostId p l) ∧
      rem = d.coh.remote.find? (fun s => s.sid == sid && s.host == d.hostId p l) ∧
      late = d.coh.late.find? (fun x => x.sid == sid && x.host == d.hostId p l && x.arr == d.myArr) ∧
      Leads (.birsp p l sid .blk) ⟨d, w⟩ (d.protoErr p l 2).proceedAll ∧
      (∀ ans, ans ≠ .blk →
        (∀ s, own = some s → d.coh.snoops.find? (fun s => s.sid == sid) = some s → ∃ e : Device, e = { d with
            coh := { d.coh with queue := if s.kind = .cur ∧ s.use ≠ .copy then markCur s.line (fun r => (d.reqLines r).contains s.line) d.coh.queue else d.coh.queue }
            twin := { d.twin with resyncCur := if s.use = .copy then d.twin.resyncCur ++ [s.line] else d.twin.resyncCur } } ∧
          Leads (.birsp p l sid ans) ⟨d, w⟩ ((e.setEntry s.line (answerEntry (d.entry s.line) s ans)).dropSnoop s).proceed.proceedAll) ∧
        (∀ x, own = none → rem = some x → x.part = false ∨ x.expired = true → ∃ e : Device,
          e = { d with coh := { d.coh with remote := d.coh.remote.filter (fun s => s.sid != x.sid) } } ∧
          Leads (.birsp p l sid ans) ⟨d, w⟩ (e.tellDev x.frm (d.lineOf x.qla) (.snoopAns x.frm x.home ans false x.host x.win (!x.expired))).proceedAll) ∧
        (∀ x, own = none → rem = none → late = some x → Leads (.birsp p l sid ans) ⟨d, w⟩ (d.lateAnswer x).proceedAll) ∧
        (own = none → rem = none → late = none → Leads (.birsp p l sid ans) ⟨d, w⟩ (d.protoErr p l 3).proceedAll))) ∧
    (∀ s, d.coh.snoops.find? (fun s => s.sid == sid && s.target.host != 33) = some s →
      (d.power.aon < s.start + 1000 * d.reg COH.BI_TIMEOUT.US → Leads (.biTimeout sid) ⟨d, w⟩ d.proceedAll) ∧
      (s.start + 1000 * d.reg COH.BI_TIMEOUT.US ≤ d.power.aon → ∃ e : Device,
        e = (if s.broadcast = true then d else d.setEntry s.line ((d.entry s.line).unshare s.target)) ∧
        Leads (.biTimeout sid) ⟨d, w⟩ ((e.dropSnoop s).snoopLate s.sid s.line s.target).proceed.proceedAll)) ∧
    (d.coh.snoops.find? (fun s => s.sid == sid && s.target.host != 33) = none → d.coh.remote.find? (fun s => s.sid == sid && s.part && !s.expired) = none →
      Leads (.biTimeout sid) ⟨d, w⟩ d.proceedAll) ∧
    (∀ line t, ∃ e f : Device, e = (d.countSat COH.BI_TIMEOUTS.COUNT).commitConflict line ∧
      f = (e.poisonLine line (e.reg COH.DIR_CTL.SWEEP_CLASS)).raise COH.flag.BI_TIMEOUT 0
        ([t.host, t.win, t.arr] ++ leBytes 6 ((e.poisonLine line (e.reg COH.DIR_CTL.SWEEP_CLASS)).qlaOfLine line)) [t.host] ∧
      (f.isStale t.host line = false → (f.coh.stale.filter (fun x => homeSlice x.2.1 == homeSlice line)).length < 64 →
        d.snoopLate sid line t = { f with coh := { f.coh with stale := f.coh.stale ++ [(t.host, line, t.arr)], late := f.coh.late ++ [⟨sid, t.host, t.win, t.arr, line⟩] } }))

/-- QUERY_CMD.START reports in QUERY_CMD whether the set of the line named in QUERY_LLA has overflowed and whether the line is logged, and shows FOUND and the entry's word in QUERY_ENTRY where the line has an entry that is not free or has a snoop in flight, FOUND 0 and the word 0 otherwise; nothing of the directory changes. A broadcast sweep of a set without logged lines, or with 16 ways in use of which every one is pinned, changes nothing; any other broadcasts, under its region, each logged line of the set that is homed here with no snoop in flight, takes one in no region out of the log, and lets waiting work proceed. SWEEP_DONE without a loss to sweep changes nothing; after one it takes, in ascending order of sets, the pointers to lost links from the entries of lines homed here, forgets the lost links and their stale and late snoops, clears SWEEP_PEND of every link, raises SWEEP_DONE and lets waiting work proceed. A late notice of an awaited device counts it as gone, raises NOTICE_LATE, awaits it no longer and lets waiting work proceed; one of a device that is not awaited changes nothing. (R133, R155, R156, R159) -/
def Obligations.DirectoryQueriesAndSweeps : Prop :=
  ∀ (d : Device) (w : List Instr),
    (∃ e : Device, Leads .queryCmdStart ⟨d, w⟩ e ∧ e.coh = d.coh ∧ ∃ line found word, line = d.reg COH.QUERY_LLA_LO.LLA_LO + 2 ^ 26 * d.reg COH.QUERY_LLA_HI.LLA_HI ∧
      found = ((KMap.find d.coh.dir line).isSome && !((d.entry line).isFree && !d.linePend line)) ∧
      word = (if found = true then (d.entry line).word line (d.linePend line) else 0) ∧
      e.reg COH.QUERY_CMD.SET_OVF = (if d.setOvf (dirSet line) then 1 else 0) ∧
      e.reg COH.QUERY_CMD.LOGGED = (if d.coh.log.contains line then 1 else 0) ∧
      e.reg COH.QUERY_CMD.FOUND = (if found = true then 1 else 0) ∧
      e.reg COH.QUERY_ENTRY_LO.ENTRY_LO = word % 2 ^ 32 ∧ e.reg COH.QUERY_ENTRY_HI.ENTRY_HI = word / 2 ^ 32 % 2 ^ 32) ∧
    (∀ set, d.setOvf set = false ∨ ((d.waysOf set).length = 16 ∧ (d.waysOf set).all (fun e => e.2.pin) = true) → Leads (.broadcastSweep set) ⟨d, w⟩ d) ∧
    (∀ set, d.setOvf set = true → ¬((d.waysOf set).length = 16 ∧ (d.waysOf set).all (fun e => e.2.pin) = true) → Leads (.broadcastSweep set) ⟨d, w⟩
      ((d.coh.log.filter (fun l => dirSet l == set && d.homesLine l && !d.linePend l)).foldl (fun (d : Device) l =>
        match d.regionOfLine l with
        | some (_, g) => d.broadcast l g .sweep none
        | none => d.logDrop l) d).proceed) ∧
    (d.coh.lossSweep = false → Leads .sweepDone ⟨d, w⟩ d) ∧
    (d.coh.lossSweep = true → ∃ lines e, lines = (d.coh.dir.map Prod.fst).foldl (fun l x => insertSet x l) [] ∧
      e = (lines.filter (fun l => d.homesLine l)).foldl (fun x l => x.purgeLost l) d ∧
      Leads .sweepDone ⟨d, w⟩ (({ e with
        coh := { e.coh with lostPtrs := [], lossSweep := false, lossRaised := false
                            stale := e.coh.stale.filter (fun x => !e.isLost { host := x.1, win := 0, arr := x.2.2 })
                            late := e.coh.late.filter (fun x => !e.isLost { host := x.host, win := 0, arr := x.arr }) }
        host := { e.host with links := e.host.links.map (fun x => (x.1, { x.2 with sweepPend := false })) } } : Device).evt COH.flag.SWEEP_DONE).proceed) ∧
    (∀ arr, d.coh.flushWait.contains arr = false → Leads (.noticeLate arr) ⟨d, w⟩ d) ∧
    (∀ arr, d.coh.flushWait.contains arr = true → Leads (.noticeLate arr) ⟨d, w⟩ (((d.deviceGone arr).evt COH.flag.NOTICE_LATE).flushGot arr).proceedAll)

/-- An aperture write to a window that is not bound to the link is discarded, and a read returns zeros with EP. For a bound one: an aperture write of a size or offset that R179 does not allow raises BAD_SIZE, and such a read also returns zeros with EP; an allowed write to a line that the window may not write is refused; an allowed write to a line that the window may write is charged to the window's class and, on an OPEN batch, sent to its home, opens a batch first on a free slot, raises CMD_STATE while the batch commits and is discarded while it is ABORTED. An allowed aperture read goes to the line's home and sees the batch's own writes while it is OPEN or COMMITTING. COMMIT starts the commit of an OPEN batch; ABORT of an OPEN batch leaves its home with EXPLICIT and frees the slot; either frees an ABORTED slot and reports its cause; in any other state CMD_STATE is raised. The base is written while the slot is free, BASE_BUSY raised otherwise. (R178, R179, R180, R181) -/
def Obligations.BatchWindowsActOnTheirSlot : Prop :=
  ∀ (d : Device) (w : List Instr) (n p l : Nat),
    (d.winBound n p l = false → ∀ tag off len bytes, Leads (.apertureWrite n p l off bytes) ⟨d, w⟩ d ∧
      Leads (.apertureRead n p l tag off len) ⟨d, w⟩ (d.send (.aperture n tag 0 false { ido := (d.hostLink p l).idoCpl }))) ∧
    (d.winBound n p l = true →
    (∀ tag off len, apertureOk off len = false → Leads (.apertureRead n p l tag off len) ⟨d, w⟩
      ((d.raise BWIN.flag.BAD_SIZE n [] [] false).send (.aperture n tag 0 false { ido := (d.hostLink p l).idoCpl }))) ∧
    (∀ off bytes v m, apertureOk off bytes.length = true →
      v = lineOfBytes (List.replicate (off % 64) 0 ++ bytes.map Prod.fst) →
      m = BitVec.ofNat 64 (((bytes.zip (List.range 64)).filter (fun e => e.1.2)).foldl (fun k e => k + 2 ^ (off % 64 + e.2)) 0) →
      d.batchWriteHome (d.winReq n off 0 0 (.siteWriteMasked v m true)) = none →
      Leads (.apertureWrite n p l off bytes) ⟨d, w⟩ (d.refuse (d.winReq n off 0 0 (.siteWriteMasked v m true)) 4)) ∧
    (∀ off bytes, apertureOk off bytes.length = false → Leads (.apertureWrite n p l off bytes) ⟨d, w⟩ (d.raise BWIN.flag.BAD_SIZE n [] [] false)) ∧
    (∀ off bytes home v m, apertureOk off bytes.length = true →
      v = lineOfBytes (List.replicate (off % 64) 0 ++ bytes.map Prod.fst) →
      m = BitVec.ofNat 64 (((bytes.zip (List.range 64)).filter (fun e => e.1.2)).foldl (fun k e => k + 2 ^ (off % 64 + e.2)) 0) →
      d.batchWriteHome (d.winReq n off 0 0 (.siteWriteMasked v m true)) = some home → ∃ e : Device,
      e = d.chargeBytes (d.reg BWIN.WIN_CLASS.CLASS n) bytes.length ∧
      ((e.slot (1024 + n)).state = .opened → Leads (.apertureWrite n p l off bytes) ⟨d, w⟩ (e.sendBatchWrite (d.winReq n off 0 0 (.siteWriteMasked v m true)) home)) ∧
      ((e.slot (1024 + n)).state = .free → Leads (.apertureWrite n p l off bytes) ⟨d, w⟩
        ((e.openSlot (1024 + n)).sendBatchWrite ((e.openSlot (1024 + n)).winReq n off 0 0 (.siteWriteMasked v m true)) home)) ∧
      ((e.slot (1024 + n)).state = .committing → Leads (.apertureWrite n p l off bytes) ⟨d, w⟩ (e.winCmdState n)) ∧
      ((e.slot (1024 + n)).state = .aborted → Leads (.apertureWrite n p l off bytes) ⟨d, w⟩ e)) ∧
    (∀ tag off len, apertureOk off len = true →
      ((d.slot (1024 + n)).state = .opened ∨ (d.slot (1024 + n)).state = .committing →
        Leads (.apertureRead n p l tag off len) ⟨d, w⟩ (d.route (d.winReq n off (tag + 1) len (.siteRead 1 true)))) ∧
      ((d.slot (1024 + n)).state = .free ∨ (d.slot (1024 + n)).state = .aborted →
        Leads (.apertureRead n p l tag off len) ⟨d, w⟩ (d.route (d.winReq n off (tag + 1) len (.siteRead 1 false))))) ∧
    ((d.slot (1024 + n)).state = .opened →
      (∀ h, (d.slot (1024 + n)).home = some h → Leads (.winCmdCommit n p l) ⟨d, w⟩
        (d.sendCommit (1024 + n) { d.winReq n 0 0 0 (.batchCommit (1024 + n)) with qla := (d.slot (1024 + n)).addr } h)) ∧
      Leads (.winCmdAbort n p l) ⟨d, w⟩ (((d.leaveHome (1024 + n) 1).freeSlot (1024 + n)).winLast n 2 1 (d.slot (1024 + n)).bseq) ∧
      (∀ hi v, Leads (.winBaseWrite n p l hi v) ⟨d, w⟩ (d.raise BWIN.flag.BASE_BUSY n [] [] false))) ∧
    ((d.slot (1024 + n)).state = .aborted →
      Leads (.winCmdCommit n p l) ⟨d, w⟩ ((d.freeSlot (1024 + n)).winLast n 2 (d.slot (1024 + n)).cause (d.slot (1024 + n)).bseq) ∧
      Leads (.winCmdAbort n p l) ⟨d, w⟩ ((d.freeSlot (1024 + n)).winLast n 2 (d.slot (1024 + n)).cause (d.slot (1024 + n)).bseq)) ∧
    ((d.slot (1024 + n)).state = .free ∨ (d.slot (1024 + n)).state = .committing →
      Leads (.winCmdCommit n p l) ⟨d, w⟩ (d.raise BWIN.flag.CMD_STATE n [] [] false) ∧
      Leads (.winCmdAbort n p l) ⟨d, w⟩ (d.raise BWIN.flag.CMD_STATE n [] [] false)) ∧
    ((d.slot (1024 + n)).state = .free → ∀ v,
      Leads (.winBaseWrite n p l true v) ⟨d, w⟩ (d.setReg BWIN.WIN_BASE_HI.QLA_HI v n) ∧
      Leads (.winBaseWrite n p l false v) ⟨d, w⟩ (d.setReg BWIN.WIN_BASE_LO.QLA_LO (v / 4096) n)) ∧
    ((d.slot (1024 + n)).state ≠ .free → ∀ hi v, Leads (.winBaseWrite n p l hi v) ⟨d, w⟩ (d.raise BWIN.flag.BASE_BUSY n [] [] false)))

/-- A timeout of an OPEN batch takes it off its home with TIMEOUT and leaves its slot ABORTED; one in another state does nothing. COMMIT_SEND of a committing batch at this home that has not been sent, all of whose lines are owned with no snoop in flight: where a line of it is mirrored, the commit record of all its lines is charged to the twin link, leaves on the stream of the first line, and its countersign is awaited; where none is, the flip follows at once. COMMIT_SEND of a batch that is not committing here, that has been sent or that still waits for a line changes nothing. OUTCOME_QUERY.START puts outcome, cause and BSEQ of the queried slot's entry into OUTCOME_RESULT and changes no batch. OUTCOME_ASK, naming a slot, its batch, the home that withdrew, the new home and the device that asks, sends the new home a request for the slot's outcome with the batch's sequence where the slot is COMMITTING with that sequence at that home, which is another device and no longer in service, the new home is its twin and in service, and this device asks; in any other case it changes nothing. (R174, R177, R182, R183, R188, R191, R192) -/
def Obligations.BatchTimeoutsAndOutcomes : Prop :=
  ∀ (d : Device) (w : List Instr) (slot : Nat),
    ((d.slot slot).state = .opened → Leads (.batchTimeout slot) ⟨d, w⟩ ((d.leaveHome slot 4).slotAborted slot 4)) ∧
    ((d.slot slot).state ≠ .opened → Leads (.batchTimeout slot) ⟨d, w⟩ d) ∧
    (∀ arr, d.batch.home.find? (fun b => b.slot == slot && b.arr == arr && b.committing) = none → Leads (.commitSend slot arr) ⟨d, w⟩ d) ∧
    (∀ arr b, d.batch.home.find? (fun b => b.slot == slot && b.arr == arr && b.committing) = some b →
      (b.sent = true ∨ (∃ x ∈ b.shadow, b.owned.contains x.1 = false ∨ d.linePend x.1 = true) → Leads (.commitSend slot arr) ⟨d, w⟩ d) ∧
      (b.sent = false → (∀ x ∈ b.shadow, b.owned.contains x.1 = true ∧ d.linePend x.1 = false) →
        ((∀ x ∈ b.shadow, d.mirrored (lpnOf x.1) = false) → Leads (.commitSend slot arr) ⟨d, w⟩ (d.commitFlip b)) ∧
        (∀ x rest, b.shadow = x :: rest → (∃ y ∈ b.shadow, d.mirrored (lpnOf y.1) = true) → ∃ (rc : CommitRec) (e : Device),
          rc = { bseq := b.bseq, slot := b.slot, arr := b.arr, cls := b.cls
                 lines := b.shadow.map (fun y => { line := y.1, data := d.wireData y.1 y.2.data y.2.poison, poison := y.2.poison })
                 after := (d.stream (1 - streamOf x.1)).next, passed := if d.twin.resyncRun then d.twin.resyncPos else 2 ^ 32 } ∧
          e = d.chargeTwin b.cls (64 * ((8 + (38 * b.shadow.length + 7) / 8 + 64 * b.shadow.length + 63) / 64)) ∧
          Leads (.commitSend slot arr) ⟨d, w⟩ (((e.twinSend (streamOf x.1) (.commitRec rc)).1.setBatch { b with sent := true }).awaitCs (streamOf x.1)
            (e.twinSend (streamOf x.1) (.commitRec rc)).2 (.commit b.slot b.arr b.bseq))))) ∧
    (∃ e x, Leads .outcomeQueryStart ⟨d, w⟩ e ∧ x = d.outcome (d.reg BATCH.OUTCOME_QUERY.ARR) (d.reg BATCH.OUTCOME_QUERY.SLOT) ∧
      e.batch = d.batch ∧ e.reg BATCH.OUTCOME_RESULT.OUTCOME = x.outcome % 4 ∧ e.reg BATCH.OUTCOME_RESULT.CAUSE = x.cause % 8 ∧
      e.reg BATCH.OUTCOME_RESULT.BSEQ = x.bseq % 65536) ∧
    (∀ bseq home heir arr cond, (cond ↔ (d.slot slot).state = .committing ∧ (d.slot slot).home = some home ∧ (d.slot slot).bseq = bseq ∧ arr = d.myArr ∧
        home ≠ arr ∧ d.inSvc home = false ∧ heir = (home + 4) % 8 ∧ d.inSvc heir = true) →
      (cond → Leads (.outcomeAsk slot bseq home heir arr) ⟨d, w⟩
        (d.routeTo1 { origin := .dropped, who := slot, win := 0, arr := d.myArr, cls := 0, deadline := 0, qla := (d.slot slot).addr
                      op := .outcome slot, bseq := bseq } heir)) ∧
      (¬cond → Leads (.outcomeAsk slot bseq home heir arr) ⟨d, w⟩ d))

/-- On an ACTIVE site link a request is accepted: it takes the next number of the port, and a deadline code gives an absolute deadline 16 ns per unit after its arrival. An aligned READ of 1, 4 or 16 lines, an aligned WRITE of so many (charged its bytes), a WRITE_MASKED of a line (charged 64 bytes) and an ATOMIC on an aligned 4- or 8-byte word go to the home of their line; with the batch flag a READ, WRITE or WRITE_MASKED acts under the state of the site's batch slot. A READ or WRITE of an allowed size, a WRITE_MASKED or an ATOMIC at a misaligned address, and a READ of the reserved SIZE 3, are answered ACCESS. A WRITE of the reserved SIZE 3 is a protocol error of the link. (R250, R251, R252, R254, R255, R263, R265, R266, R176) -/
def Obligations.SiteReadsWritesAndAtomics : Prop :=
  ∀ (d : Device) (w : List Instr) (s tag dl : Nat), d.siteUp s = true → ∃ A : Nat → Bool → Nat → Nat → Device × Nat,
    (∀ opc sync n k, A opc sync n k = d.siteAccept s opc tag dl sync n cmdPool k) ∧
    (∀ opc sync n k, (A opc sync n k).2 = (d.sitePort s).nextId ∧ ((A opc sync n k).1.sitePort s).reqs = (d.sitePort s).reqs ++
      [{ id := (d.sitePort s).nextId, opcode := opc, tag := tag, arrived := d.time, deadline := if dl = 0 then 0 else d.time + 16 * dl, sync := sync, lines := n }]) ∧
    (∀ sync batch size addr, size < 3 → addr % (64 * sizeLines size) = 0 → addr < 2 ^ 46 → ∃ a, a = A 0x01 sync (sizeLines size) 0 ∧
      Leads (.read s tag dl sync false size addr) ⟨d, w⟩ (a.1.route (a.1.siteReq s a.2 dl addr (.siteRead (sizeLines size) false))) ∧
      Leads (.read s tag dl sync true size addr) ⟨d, w⟩ (a.1.siteBatchOp s a.2 (a.1.siteReq s a.2 dl addr (.siteRead (sizeLines size) true))) ∧
      (∀ bad, bad % (64 * sizeLines size) ≠ 0 → Leads (.read s tag dl sync batch size bad) ⟨d, w⟩ (a.1.answerSite s a.2 { status := 3 }))) ∧
    (∀ batch size addr data, size < 3 → addr % (64 * sizeLines size) = 0 → addr < 2 ^ 46 → ∃ a c, a = A 0x02 false 0 (sizeLines size) ∧
      c = a.1.chargeBytes (a.1.siteClass s) (64 * sizeLines size) ∧
      Leads (.write s tag dl false size addr data) ⟨d, w⟩
        (c.route (a.1.siteReq s a.2 dl addr (.siteWrite ((data ++ List.replicate 16 0).take (sizeLines size)) false))) ∧
      Leads (.write s tag dl true size addr data) ⟨d, w⟩
        (c.siteBatchOp s a.2 (a.1.siteReq s a.2 dl addr (.siteWrite ((data ++ List.replicate 16 0).take (sizeLines size)) true))) ∧
      (∀ bad, bad % (64 * sizeLines size) ≠ 0 → Leads (.write s tag dl batch size bad data) ⟨d, w⟩ (a.1.answerSite s a.2 { status := 3 }))) ∧
    (∀ sync batch addr, ∃ a, a = A 0x01 sync (sizeLines 3) 0 ∧ Leads (.read s tag dl sync batch 3 addr) ⟨d, w⟩ (a.1.answerSite s a.2 { status := 3 })) ∧
    (∀ batch addr data, Leads (.write s tag dl batch 3 addr data) ⟨d, w⟩ (d.siteProto s)) ∧
    (∀ batch addr mask data, addr % 64 ≠ 0 → ∃ a, a = A 0x03 false 0 1 ∧ Leads (.writeMasked s tag dl batch addr mask data) ⟨d, w⟩ (a.1.answerSite s a.2 { status := 3 })) ∧
    (∀ addr mask data, addr % 64 = 0 → addr < 2 ^ 46 → ∃ a c, a = A 0x03 false 0 1 ∧ c = a.1.chargeBytes (a.1.siteClass s) 64 ∧
      Leads (.writeMasked s tag dl false addr mask data) ⟨d, w⟩ (c.route (a.1.siteReq s a.2 dl addr (.siteWriteMasked data mask false))) ∧
      Leads (.writeMasked s tag dl true addr mask data) ⟨d, w⟩ (c.siteBatchOp s a.2 (a.1.siteReq s a.2 dl addr (.siteWriteMasked data mask true)))) ∧
    (∀ addr op wide op1 op2 atag, ∃ a, a = A 0x04 false 0 0 ∧
      (addr % (if wide then 8 else 4) = 0 → addr < 2 ^ 46 →
        Leads (.atomic s tag dl addr op wide op1 op2 atag) ⟨d, w⟩ (a.1.route (a.1.siteReq s a.2 dl addr (.atomic op wide op1 op2 atag)))) ∧
      (addr % (if wide then 8 else 4) ≠ 0 → Leads (.atomic s tag dl addr op wide op1 op2 atag) ⟨d, w⟩ (a.1.answerSite s a.2 { status := 3 })))

/-- On an ACTIVE site link, once accepted: BATCH_OPEN of a FREE slot opens it with a new BSEQ and answers that, and answers ACCESS otherwise; BATCH_COMMIT of an OPEN slot without a write frees it, counts a commit and answers OK, and with a home it starts the commit there; BATCH_ABORT of an OPEN slot leaves the home, frees the slot and answers BATCH_ABORTED with EXPLICIT; either command frees an ABORTED slot and answers its cause, and is answered ACCESS in another state. STATUS answers the site's class, DUT, flags and slot, or the outcome entry of the named device's slot; TIME answers the time base; a reserved opcode or another malformed request is answered ACCESS and does nothing else, and one in the write-data pool is a protocol error of the link. (R161, R166, R176, R182, R254, R257, R259, R270) -/
def Obligations.SiteBatchAndStatusCommands : Prop :=
  ∀ (d : Device) (w : List Instr) (s tag dl : Nat), d.siteUp s = true → ∃ A : Nat → Device × Nat,
    (∀ opc, A opc = d.siteAccept s opc tag dl false 0 svcPool 0) ∧ (∀ opc, (A opc).1.slot s = d.slot s) ∧
    ((d.slot s).state = .free → Leads (.batchOpen s tag dl) ⟨d, w⟩
      (((A 0x30).1.openSlot s).answerSite s (A 0x30).2 { bseq := (((A 0x30).1.openSlot s).slot s).bseq })) ∧
    ((d.slot s).state ≠ .free → Leads (.batchOpen s tag dl) ⟨d, w⟩ ((A 0x30).1.answerSite s (A 0x30).2 { status := 3, bseq := (d.slot s).bseq })) ∧
    ((d.slot s).state = .opened →
      ((d.slot s).home = none → Leads (.batchCommit s tag dl) ⟨d, w⟩
        ((((A 0x31).1.freeSlot s).countWrap BATCH.COMMITS.COUNT).answerSite s (A 0x31).2 { bseq := (d.slot s).bseq })) ∧
      (∀ h, (d.slot s).home = some h → Leads (.batchCommit s tag dl) ⟨d, w⟩
        ((A 0x31).1.sendCommit s ((A 0x31).1.siteReq s (A 0x31).2 dl (d.slot s).addr (.batchCommit s)) h)) ∧
      Leads (.batchAbort s tag dl) ⟨d, w⟩
        ((((A 0x32).1.leaveHome s 1).freeSlot s).answerSite s (A 0x32).2 { status := 5, cause := 1, bseq := (d.slot s).bseq })) ∧
    ((d.slot s).state = .aborted →
      Leads (.batchCommit s tag dl) ⟨d, w⟩ (((A 0x31).1.freeSlot s).answerSite s (A 0x31).2 { status := 5, cause := (d.slot s).cause, bseq := (d.slot s).bseq }) ∧
      Leads (.batchAbort s tag dl) ⟨d, w⟩ (((A 0x32).1.freeSlot s).answerSite s (A 0x32).2 { status := 5, cause := (d.slot s).cause, bseq := (d.slot s).bseq })) ∧
    ((d.slot s).state = .free ∨ (d.slot s).state = .committing →
      Leads (.batchCommit s tag dl) ⟨d, w⟩ ((A 0x31).1.answerSite s (A 0x31).2 { status := 3, bseq := (d.slot s).bseq }) ∧
      Leads (.batchAbort s tag dl) ⟨d, w⟩ ((A 0x32).1.answerSite s (A 0x32).2 { status := 3, bseq := (d.slot s).bseq })) ∧
    (∃ a dut f, a = (A 0x40).1 ∧ dut = a.reg SITE.SITE_DUT.DUT s + (if a.flagReg SITE.SITE_DUT.VALID s = true then 2 ^ 15 else 0) ∧
      f = (if a.flagReg TIER.CAP_STAT.EL_EXHAUSTED = true then 1 else 0) + (if a.flagReg TIER.CAP_STAT.BIN_FULL = true then 2 else 0) +
        (if a.flagReg SITE.SITE_HOMING.DUAL s = true then 4 else 0) + 16 * (d.slot s).state.code ∧
      Leads (.statusSite s tag dl) ⟨d, w⟩ (a.answerSite s (A 0x40).2 { result := [a.siteClass s] ++ leBytes 2 dut ++ [f] ++ leBytes 2 (d.slot s).bseq ++
        [if (d.slot s).state = .aborted then (d.slot s).cause else 0, 0] })) ∧
    (∀ q, q < 8 → Leads (.statusBatchOutcome s tag dl (q / 4) (q % 4)) ⟨d, w⟩ ((A 0x40).1.answerSite s (A 0x40).2
      { result := [(d.outcome q s).outcome, (d.outcome q s).cause] ++ leBytes 2 (d.outcome q s).bseq })) ∧
    Leads (.time s tag dl) ⟨d, w⟩ ((A 0x41).1.answerSite s (A 0x41).2 { result := leBytes 8 d.time }) ∧
    (∀ opc sync size pl n, pl ≠ 1 → ∃ a, a = d.siteAccept s opc tag dl sync (if opc = 0x22 then 16 else if opc = 0x01 then sizeLines size else 0) pl n ∧
      Leads (.reservedOpcode s opc tag dl sync size pl n) ⟨d, w⟩ (a.1.answerSite s a.2 { status := 3 })) ∧
    (∀ opc sync size n, Leads (.reservedOpcode s opc tag dl sync size 1 n) ⟨d, w⟩ (d.siteProto s))

/-- On an ACTIVE site link, once accepted: FAIL_OR of a line within the bitmap of the site's DUT is charged 64 bytes and goes to the home of its bitmap line; without a DUT, or past the bitmap, it is answered ACCESS. FAIL_REC with no record, more than six or one whose reserved byte is not 0 is answered ACCESS; without a DUT it counts its records as refused and is answered ACCESS; otherwise its records are taken in order: one within the geometry charges its 8 bytes and goes to the home of its bitmap line, another is counted as refused and answers its part ACCESS. MCAST_JOIN of an enabled group whose source the site may read makes the site a member, if it is none yet, and answers the group's length and low block; where it may not read the source, the access is refused and answered ACCESS; a JOIN of a group or with a page that is off is answered ACCESS. MCAST_LEAVE ends a membership, if there is one, and answers OK. MCAST_PULL of a group or with a page that is off, by a site that is no member, or past the end is answered ACCESS; a pull behind the window is counted and reads memory; any other moves the window up to its block, and is a hit, charged to the class and answered, where the block is held; it joins a fill of the block that is under way, whose deadline becomes the earlier one; and otherwise starts a fill. (R268, R272, R273, R275, R291, R292, R295) -/
def Obligations.SiteFailAndMulticastCommands : Prop :=
  ∀ (d : Device) (w : List Instr) (s tag dl : Nat), d.siteUp s = true →
    (∀ line mask a, a = d.siteAccept s 0x10 tag dl false 0 svcPool 1 →
      (a.1.siteDut s = none → Leads (.failOr s tag dl line mask) ⟨d, w⟩ (a.1.answerSite s a.2 { status := 3 })) ∧
      (∀ t, a.1.siteDut s = some t →
        ((geoDims t.g).nb * (geoDims t.g).bl ≤ line → Leads (.failOr s tag dl line mask) ⟨d, w⟩ (a.1.answerSite s a.2 { status := 3 })) ∧
        (line < (geoDims t.g).nb * (geoDims t.g).bl → Leads (.failOr s tag dl line mask) ⟨d, w⟩
          ((a.1.chargeBytes (a.1.siteClass s) 64).route (a.1.siteReq s a.2 dl (t.b.bmap + 64 * line) (.failOr t.id line mask)))))) ∧
    (∀ recs a, a = d.siteAccept s 0x11 tag dl false 0 svcPool 0 →
      (recs = [] ∨ 6 < recs.length ∨ recs.any (fun r => bitsOf r 56 8 != 0) = true → Leads (.failRec s tag dl recs) ⟨d, w⟩ (a.1.answerSite s a.2 { status := 3 })) ∧
      (recs ≠ [] → recs.length ≤ 6 → recs.any (fun r => bitsOf r 56 8 != 0) = false →
        (a.1.siteDut s = none → Leads (.failRec s tag dl recs) ⟨d, w⟩ ((a.1.countWrap FAIL.REC_REFUSED.COUNT 0 recs.length).answerSite s a.2 { status := 3 })) ∧
        (∀ t, a.1.siteDut s = some t → ∃ e : Device,
          e = a.1.setSitePort s { a.1.sitePort s with reqs := (a.1.sitePort s).reqs.map (fun q => if q.id = a.2 then { q with parts := recs.length } else q) } ∧
          Leads (.failRec s tag dl recs) ⟨d, w⟩ ((recs.zip (List.range 6)).foldl (fun x r =>
            if cellOk t.g (failCell r.1) then
              (x.chargeBytes (x.siteClass s) 8).route (x.siteReq s a.2 dl (t.b.bmap + 64 * (recordMask t.g r.1).1) (.failRec t.id r.2 r.1))
            else (x.countWrap FAIL.REC_REFUSED.COUNT).answerSite s a.2 { status := 3, result := [0, 0] }) e)))) ∧
    (∀ g a, a = d.siteAccept s 0x20 tag dl false 0 svcPool 0 → g < 64 →
      (a.1.pageOn .mcast = true → a.1.groupOn g = true → a.1.siteMayJoin s g = true → ∃ e,
        e = (if (a.1.group g).members.contains s = true then a.1 else a.1.setGroup g { a.1.group g with members := (a.1.group g).members ++ [s] }) ∧
        Leads (.mcastJoin s tag dl g) ⟨d, w⟩ (e.answerSite s a.2 { result := leBytes 3 (e.groupLen g) ++ leBytes 3 (a.1.group g).low })) ∧
      (a.1.pageOn .mcast = true → a.1.groupOn g = true → a.1.siteMayJoin s g = false → ∃ r, r = a.1.siteReq s a.2 dl (a.1.blockAddr g 0) (.siteRead 16 false) ∧
        Leads (.mcastJoin s tag dl g) ⟨d, w⟩ ((a.1.refuse r (if (a.1.regionOf r.qla).isSome = true then 4 else 3)).answerSite s a.2 { status := 3 })) ∧
      (a.1.groupOn g = false ∨ a.1.pageOn .mcast = false → Leads (.mcastJoin s tag dl g) ⟨d, w⟩ (a.1.answerSite s a.2 { status := 3 }))) ∧
    (∀ g a, a = d.siteAccept s 0x21 tag dl false 0 svcPool 0 → Leads (.mcastLeave s tag dl g) ⟨d, w⟩
      ((if (a.1.group g).members.contains s = true then a.1.setGroup g { a.1.group g with members := (a.1.group g).members.filter (fun m => m != s) } else a.1).answerSite s a.2 {})) ∧
    (∀ sync g b a, a = d.siteAccept s 0x22 tag dl sync 16 svcPool 0 →
      (a.1.pageOn .mcast = false ∨ a.1.groupOn g = false ∨ (a.1.group g).members.contains s = false ∨ a.1.groupLen g ≤ b →
        Leads (.mcastPull s tag dl sync g b) ⟨d, w⟩ (a.1.answerSite s a.2 { status := 3 })) ∧
      (a.1.pageOn .mcast = true → a.1.groupOn g = true → (a.1.group g).members.contains s = true → b < a.1.groupLen g →
        (b < (a.1.group g).low → Leads (.mcastPull s tag dl sync g b) ⟨d, w⟩
          ((a.1.countWrap MCAST.GRP_BEHIND.COUNT g).route (a.1.siteReq s a.2 dl (a.1.blockAddr g b) (.siteRead 16 false)))) ∧
        ((a.1.group g).low ≤ b → ∃ (x : Group) (e : Device) (abs : Nat),
          x = (if (a.1.group g).low + 127 < b then { a.1.group g with low := b - 127, blocks := (a.1.group g).blocks.keep (fun k _ => decide (b - 127 ≤ k)) } else a.1.group g) ∧
          e = a.1.setGroup g x ∧ abs = (if dl = 0 then 0 else a.1.time + 16 * dl) ∧
          (∀ ls, KMap.find x.blocks b = some ls → Leads (.mcastPull s tag dl sync g b) ⟨d, w⟩
            ((((e.countWrap MCAST.GRP_HITS.COUNT g).chargeT0 (e.siteClass s) 1024).chargeBytes (e.siteClass s) 1024).answerSite s a.2 { data := ls })) ∧
          (∀ f, KMap.find x.blocks b = none → x.fills.find? (fun f => f.block == b && !f.dropped) = some f → ∃ (early : Nat) (h : Device),
            early = (if f.deadline = 0 then abs else if abs = 0 then f.deadline else min f.deadline abs) ∧
            h = e.setGroup g { x with fills := x.fills.map (fun y => if y = f then { f with pulls := f.pulls ++ [(s, a.2, e.siteClass s)], demand := true, deadline := early } else y) } ∧
            Leads (.mcastPull s tag dl sync g b) ⟨d, w⟩ (({ h with
              coh := { h.coh with queue := h.coh.queue.map (fun r => if r.origin = .engine 6 (fillNo g b) then { r with deadline := early } else r)
                                  withheld := h.coh.withheld.map (fun r => if r.origin = .engine 6 (fillNo g b) then { r with deadline := early } else r) }
              qos := { h.qos with queues := h.qos.queues.map (fun q => (q.1, q.2.map (fun y => if y.frm = .engine 6 (fillNo g b) then { y with deadline := early } else y))) } } : Device).countWrap
                MCAST.GRP_HITS.COUNT g)) ∧
          (KMap.find x.blocks b = none → x.fills.find? (fun f => f.block == b && !f.dropped) = none → Leads (.mcastPull s tag dl sync g b) ⟨d, w⟩
            (e.addFill g { block := b, demand := true, pulls := [(s, a.2, e.siteClass s)], deadline := abs })))))

/-- On an unlocked MCAST page of a device with site ports: enabling a disabled group whose range lies in one region of the site population starts it empty and sets ENABLE, and raises BAD_SOURCE where it does not; while an earlier disable still runs it raises CFG_BUSY. Disabling an enabled group clears ENABLE, sets BUSY, ends its memberships and blocks, and ends at once where no fill runs. A configuration field of a disabled group is stored unless its value is reserved; of an enabled one it is ignored, CFG_BUSY being raised where it would change. A fill that has not come back changes nothing but that its answers leave the engines' inbox; one that has answers the pulls that joined it, in order, with its data and status, each charged to its class; its block is kept while it lies in the window of an enabled group, its read was good and no write dropped it; a demand fill starts prefetches; the fills that may start do; and a disabling group without fills ends. (R272, R273, R274, R276, R277, R643) -/
def Obligations.MulticastGroupsAndFills : Prop :=
  ∀ (d : Device) (w : List Instr) (g : Nat), (d.page .mcast).lock = false → d.hw.gradeH = false →
    (d.groupOn g = false → (d.group g).disabling = false →
      (d.groupSource g = true → Leads (.grpEnable g) ⟨d, w⟩ ((d.setGroup g {}).setReg MCAST.GRP_CTL.ENABLE 1 g)) ∧
      (d.groupSource g = false → Leads (.grpEnable g) ⟨d, w⟩ (d.raise MCAST.flag.BAD_SOURCE 0 [] [] false))) ∧
    (d.groupOn g = false → (d.group g).disabling = true → Leads (.grpEnable g) ⟨d, w⟩ (d.raise MCAST.flag.CFG_BUSY 0 [] [] false)) ∧
    (d.groupOn g = true → Leads (.grpEnable g) ⟨d, w⟩ d) ∧
    (d.groupOn g = true → Leads (.grpDisable g) ⟨d, w⟩
      ((((d.setReg MCAST.GRP_CTL.ENABLE 0 g).setReg MCAST.GRP_CTL.BUSY 1 g).setGroup g { d.group g with members := [], blocks := [], disabling := true }).groupIdle g)) ∧
    (d.groupOn g = true → (d.group g).fills = [] → ∃ e : Device, e = (d.setReg MCAST.GRP_CTL.ENABLE 0 g).setReg MCAST.GRP_CTL.BUSY 1 g ∧
      ∃ f : Device, f = e.setGroup g { d.group g with members := [], blocks := [], disabling := true } ∧
      Leads (.grpDisable g) ⟨d, w⟩ (((f.setGroup g {}).setReg MCAST.GRP_CTL.BUSY 0 g).evt MCAST.flag.DISABLED)) ∧
    (d.groupOn g = false → Leads (.grpDisable g) ⟨d, w⟩ d) ∧
    (∀ k v, d.groupOn g = false → Leads (.grpCfgWrite g k v) ⟨d, w⟩ (d.store (groupField k) (v % 2 ^ (groupField k).width) g)) ∧
    (∀ k v, d.groupOn g = true → v % 2 ^ (groupField k).width = d.reg (groupField k) g → Leads (.grpCfgWrite g k v) ⟨d, w⟩ d) ∧
    (∀ k v, d.groupOn g = true → v % 2 ^ (groupField k).width ≠ d.reg (groupField k) g →
      Leads (.grpCfgWrite g k v) ⟨d, w⟩ (d.raise MCAST.flag.CFG_BUSY 0 [] [] false)) ∧
    (∀ b, (d.takeInbox 6 (fillNo g b)).2 = [] → Leads (.mcastFillDone g b) ⟨d, w⟩ (d.takeInbox 6 (fillNo g b)).1) ∧
    (∀ b a as f, ∃ e : Device, e = (d.takeInbox 6 (fillNo g b)).1 ∧ ((d.takeInbox 6 (fillNo g b)).2 = a :: as →
      (e.group g).fills.find? (fun f => f.block == b && f.started) = some f → ∃ h k : Device,
      h = f.pulls.foldl (fun x q => (x.chargeBytes q.2.2 1024).answerSite q.1 q.2.1 { status := a.status, data := a.data })
        (e.setGroup g { e.group g with fills := (e.group g).fills.erase f, blocks := if (!f.dropped && decide ((e.group g).low ≤ b) && e.groupOn g && a.status == 0) = true then KMap.put (e.group g).blocks b a.data else (e.group g).blocks }) ∧
      k = (if f.demand = true ∧ h.groupOn g = true then h.prefetch g b else h) ∧
      Leads (.mcastFillDone g b) ⟨d, w⟩ ((k.startFills g (k.group g).fills []).groupIdle g)))

/-- On an unlocked REGION page with no command running each of the four commands starts with the staging registers, what this device knows of the others' free capacity (CREATE) and use of the region (DESTROY), and the ID; while one runs it raises CMD_BUSY. A started command runs with no result and is sent to the coordinator; on the coordinator, when it carries out nothing else, one whose check fails, and a READ, end at once with the result and the ID, changing nothing else but that a READ loads the staging registers, and one that passes is carried out: by every device in service and this one, which are waited for. CREATE takes the lowest free ID with result 0. DESTROY gives 7 where no region has the ID, else 5 unless every position of the quartet is reachable, else 6 for a region in use, else 0; MODIFY 7, 5 or 0; READ 7 or 0. REGION_CMD_DONE first advances what is due; then a command that has its result ends with RESULT and RID written and CMD_DONE raised; one that has none runs on, and without a command nothing more changes. Who knows free capacity and use is carried by operands (the model's choice, log entry 113). (R52, R53, R54, R55, R56, R57, R58, R680, R681) -/
def Obligations.RegionCommandsOfTheCoordinator : Prop :=
  ∀ (d : Device) (w : List Instr),
    ((d.page .region).lock = false →
      (d.regions.cmd = none →
        (∀ others, Leads (.create others) ⟨d, w⟩ (d.startRegion (.create 0 d.staged) (if d.coordinates then others else min others d.elFree) false)) ∧
        (∀ rid busy r, KMap.find d.regions.table rid = some r → Leads (.destroy rid busy) ⟨d, w⟩ (d.startRegion (.destroy rid) 0 (d.regionInUse r || busy))) ∧
        (∀ rid busy, KMap.find d.regions.table rid = none → Leads (.destroy rid busy) ⟨d, w⟩ (d.startRegion (.destroy rid) 0 busy)) ∧
        (∀ rid, Leads (.modify rid) ⟨d, w⟩ (d.startRegion (.modify rid d.staged.tier d.staged.hostAcc d.staged.siteAcc d.staged.hostMask d.staged.sgMask) 0 false) ∧
          Leads (.rgnRead rid) ⟨d, w⟩ (d.startRegion (.read rid) 0 false))) ∧
      (d.regions.cmd.isSome = true → ∀ o rid b c, (c = .create o ∨ c = .destroy rid b ∨ c = .modify rid ∨ c = .rgnRead rid) →
        Leads c ⟨d, w⟩ (d.raise REGION.flag.CMD_BUSY 0 [] [] false))) ∧
    (∀ c free busy, ∃ (a : RegionAsk) (e : Device), a = { frm := d.myArr, free := free, busy := busy, cmd := c } ∧
      e = { d with regions := { d.regions with cmd := some { result := 0, rid := 0, ask := some a } } } ∧
      (∀ k, e.coordinator = some k → k ≠ d.myArr → d.startRegion c free busy = e.tellDev k 0 (.tableCmd k (.ask d.myArr free busy c))) ∧
      (e.coordinator = some d.myArr → d.regions.exec = none → d.regions.asks = [] → ∀ code id y, TableCmd.ofFail y = false →
        (∀ r, e.askResult a = (code, id, y, some r) → d.startRegion c free busy = (({ d with regions := { d.regions with cmd := some { result := code, rid := id } } }).loadStaging r).tableSteps 4) ∧
        (e.askResult a = (code, id, y, none) → code ≠ 0 → d.startRegion c free busy = ({ d with regions := { d.regions with cmd := some { result := code, rid := id } } }).tableSteps 4) ∧
        (e.askResult a = (0, id, y, none) → d.startRegion c free busy = ((({ e with regions := { e.regions with exec := some (d.myArr, false, id), await := d.myArr :: d.twin.inService.filter (fun x => x != d.myArr) } }).tableToAll y).applyTable y).tableSteps 4))) ∧
    (∀ frm free busy g, ∀ r : Region,
      (∀ rid, d.createResult r free = 0 → d.freeRid = some rid → d.askResult ⟨frm, free, busy, .create g r⟩ = (0, rid, .create rid r, none)) ∧
      (d.createResult r free ≠ 0 → d.askResult ⟨frm, free, busy, .create g r⟩ = (d.createResult r free, 0, .create 0 r, none)) ∧
      (∀ rid t ha sa hm sg, (KMap.find d.regions.table rid = none → d.askResult ⟨frm, free, busy, .destroy rid⟩ = (7, rid, .destroy rid, none) ∧
          d.askResult ⟨frm, free, busy, .modify rid t ha sa hm sg⟩ = (7, rid, .modify rid t ha sa hm sg, none) ∧ d.askResult ⟨frm, free, busy, .read rid⟩ = (7, rid, .read rid, none)) ∧
        (KMap.find d.regions.table rid = some r → d.askResult ⟨frm, free, busy, .destroy rid⟩ = (if d.allReachable = false then 5 else if (d.regionInUse r || busy) = true then 6 else 0, rid, .destroy rid, none) ∧
          d.askResult ⟨frm, free, busy, .modify rid t ha sa hm sg⟩ = (if d.allReachable = false then 5 else 0, rid, .modify rid t ha sa hm sg, none) ∧
          d.askResult ⟨frm, free, busy, .read rid⟩ = (0, rid, .read rid, some r)))) ∧
    (∃ e : Device, e = d.proceed.tableStep ∧ (e.regions.cmd = none → Leads .regionCmdDone ⟨d, w⟩ e) ∧
      (∀ c, e.regions.cmd = some c → c.ask.isSome = true → Leads .regionCmdDone ⟨d, w⟩ e) ∧
      (∀ c, e.regions.cmd = some c → c.ask = none → ∃ f : Device, f = { e with regions := { e.regions with cmd := none } } ∧ Leads .regionCmdDone ⟨d, w⟩
        (((f.setReg REGION.RGN_STATUS.RESULT c.result).setReg REGION.RGN_STATUS.RID c.rid).evt REGION.flag.CMD_DONE)))

/-- On an unlocked page: SPACE_PEND takes both fields, each unless its encoding is reserved. WIN_CFG stores its window enables, and the window size when LBASE is a multiple of it and its encoding is not reserved; LBASE is stored when it is a multiple of the window size. On a locked REGION or HOST page a write that would change LOGICAL_TIB_NEXT or LBASE leaves every register as it is and counts in LOCKED_WRITES. (R13, R41, R62, R63, R643) -/
def Obligations.SpaceAndWindowRegisters : Prop :=
  ∀ (d : Device) (w : List Instr),
    ((d.page .region).lock = false → ∀ tib mem, Leads (.spacePendWrite tib mem) ⟨d, w⟩
      ((d.store REGION.SPACE_PEND.LOGICAL_TIB_NEXT tib).store REGION.SPACE_PEND.MEMBERS_NEXT mem)) ∧
    ((d.page .region).lock = true → ∀ tib mem, d.changes REGION.SPACE_PEND.LOGICAL_TIB_NEXT tib 0 = true →
      Leads (.spacePendWrite tib mem) ⟨d, w⟩ (d.setPage .region 0 { d.page .region with lockedWrites := min ((d.page .region).lockedWrites + 1) 65535 })) ∧
    (∀ p l, (d.page .host p).lock = false →
      (∀ en n, n < 64 → lbaseFits (d.reg (HOST.WIN_LBASE.LBASE l) p) n = false → Leads (.winCfgWrite p l en n) ⟨d, w⟩ (d.store (HOST.WIN_CFG.WIN_EN l) en p)) ∧
      (∀ en n, n < 64 → p < 4 → l < 2 → lbaseFits (d.reg (HOST.WIN_LBASE.LBASE l) p) n = true →
        Leads (.winCfgWrite p l en n) ⟨d, w⟩ ((d.store (HOST.WIN_CFG.WIN_EN l) en p).store (HOST.WIN_CFG.WIN_SIZE_LOG2 l) n p)) ∧
      (∀ v, v < 1024 → (lbaseFits v (d.reg (HOST.WIN_CFG.WIN_SIZE_LOG2 l) p) = true → Leads (.winLbaseWrite p l v) ⟨d, w⟩ (d.store (HOST.WIN_LBASE.LBASE l) v p)) ∧
        (lbaseFits v (d.reg (HOST.WIN_CFG.WIN_SIZE_LOG2 l) p) = false → Leads (.winLbaseWrite p l v) ⟨d, w⟩ d))) ∧
    (∀ p l v, (d.page .host p).lock = true → d.changes (HOST.WIN_LBASE.LBASE l) v p = true → Leads (.winLbaseWrite p l v) ⟨d, w⟩
      (d.setPage .host p { d.page .host p with lockedWrites := min ((d.page .host p).lockedWrites + 1) 65535 }))

/-- On an unlocked FAIL page of a device with the fail service, with no command running, a command that changes a table starts with the staged descriptor or binding, or with what this device and its `busy` operand tell of jobs that name the DUT, and is sent to the coordinator. On the coordinator, when it carries out nothing else, one whose check fails has its result at once and changes nothing else; one that passes is carried out by every device in service and this one, which are waited for. The checks: 8 where a position has no device in service; for a geometry 2 for an ID above 255, 3 while a bound DUT uses it, 1 for a staged descriptor that is not valid; for DUT_BIND 5 for an ID that is bound, 2 for a geometry that is not set, 4 for ranges that are not well placed; for the others 6 for an ID that is not bound, 7 while a job names it; else 0. On each device GEO_SET stores the descriptor, GEO_CLEAR removes one, DUT_BIND stores the binding and DUT_UNBIND removes it. GEO_READ and DUT_READ load the staging registers and have their result at once; DUT_READ of an unbound DUT only clears BOUND. While one runs each raises CMD_BUSY. FAIL_CMD_DONE first advances what is due; then a command that has its result ends with RESULT and ID written, CMD_DONE raised and waiting requests tried again; one that has none runs on, and without a command nothing more changes. (R286, R288, R293, R294, R296, R297, R298, R325) -/
def Obligations.FailCommandsOnTheTables : Prop :=
  ∀ (d : Device) (w : List Instr) (id : Nat),
    ((d.page .fail).lock = false → d.hw.gradeH = false →
      (d.fail.run = none →
        (∃ go : Nat → Bool → TableCmd → Device,
          (∀ op busy c, ∃ a : RegionAsk, a = { frm := d.myArr, free := 0, busy := busy, cmd := c } ∧
            go op busy c = ({ d with fail := { d.fail with run := some { op := op, id := id % 1024, result := 0, ask := some a } } }).askTable a) ∧
          Leads (.geoSet id) ⟨d, w⟩ (go 1 false (.geoSet (id % 1024) d.stagedGeo)) ∧
          Leads (.geoClear id) ⟨d, w⟩ (go 2 false (.geoClear (id % 1024))) ∧
          Leads (.dutBind id) ⟨d, w⟩ (go 4 false (.dutBind (id % 1024) d.stagedDut)) ∧
          (∀ busy, Leads (.dutUnbind id busy) ⟨d, w⟩ (go 5 (d.dutNamed id || busy) (.dutUnbind (id % 1024))) ∧
            Leads (.dutClear id busy) ⟨d, w⟩ (go 6 (d.dutNamed id || busy) (.dutClear (id % 1024))) ∧
            Leads (.dutRebuild id busy) ⟨d, w⟩ (go 7 (d.dutNamed id || busy) (.dutRebuild (id % 1024))))) ∧
        (∀ g, KMap.find d.fail.geos (id % 1024) = some g → Leads (.geoRead id) ⟨d, w⟩ ((d.loadGeo g).failStart 3 (id % 1024) 0)) ∧
        (KMap.find d.fail.geos (id % 1024) = none → Leads (.geoRead id) ⟨d, w⟩ (d.failStart 3 (id % 1024) 2)) ∧
        (KMap.find d.fail.duts (id % 1024) = none → Leads (.dutRead id) ⟨d, w⟩ ((d.setReg FAIL.DUT_GEO.BOUND 0).failStart 8 (id % 1024) 0)) ∧
        (∀ b, KMap.find d.fail.duts (id % 1024) = some b → Leads (.dutRead id) ⟨d, w⟩
          (((((((d.setReg FAIL.DUT_GEO.GEO b.geo).setReg FAIL.DUT_GEO.BOUND 1).setReg FAIL.DUT_BMAP_LO.QLA_LO (b.bmap / 4096)).setReg FAIL.DUT_BMAP_HI.QLA_HI
            (b.bmap / 2 ^ 32)).setReg FAIL.DUT_TALLY_LO.QLA_LO (b.tally / 4096)).setReg FAIL.DUT_TALLY_HI.QLA_HI (b.tally / 2 ^ 32)).failStart 8 (id % 1024) 0))) ∧
      (d.fail.run.isSome = true → ∀ k b, k ∈ [Instr.geoSet id, .geoClear id, .geoRead id, .dutBind id, .dutUnbind id b, .dutClear id b, .dutRebuild id b, .dutRead id] →
        Leads k ⟨d, w⟩ (d.raise FAIL.flag.CMD_BUSY 0 [] [] false))) ∧
    (∀ (a : RegionAsk) x n y code, d.fail.run = some x → x.ask.isSome = true → d.coordinator = some d.myArr → d.regions.exec = none → d.regions.asks = [] →
      a.frm = d.myArr → TableCmd.ofFail y = true → d.askResult a = (code, n, y, none) →
      (code ≠ 0 → d.askTable a = ({ d with fail := { d.fail with run := some { x with result := code, ask := none } } }).tableSteps 4) ∧
      (code = 0 → d.askTable a = ((({ d with regions := { d.regions with exec := some (d.myArr, true, n), await := d.myArr :: d.twin.inService.filter (fun z => z != d.myArr) } }).tableToAll y).applyTable y).tableSteps 4)) ∧
    (∀ (a : RegionAsk) k, d.coordinator = some k → k ≠ d.myArr → d.askTable a = d.tellDev k 0 (.tableCmd k (.ask a.frm a.free a.busy a.cmd))) ∧
    (∀ frm free busy g, ∀ b : Dut,
      (d.askResult ⟨frm, free, busy, .geoSet id g⟩ =
        (if d.allReachable = false then 8 else if 255 < id then 2 else if d.geoUsed id = true then 3 else if geoValid g = true then 0 else 1, id, .geoSet id g, none)) ∧
      (d.askResult ⟨frm, free, busy, .geoClear id⟩ = (if d.allReachable = false then 8 else if 255 < id then 2 else if d.geoUsed id = true then 3 else 0, id, .geoClear id, none)) ∧
      (d.allReachable = false → d.askResult ⟨frm, free, busy, .dutBind id b⟩ = (8, id, .dutBind id b, none)) ∧
      (d.allReachable = true → (KMap.find d.fail.duts id).isSome = true → d.askResult ⟨frm, free, busy, .dutBind id b⟩ = (5, id, .dutBind id b, none)) ∧
      (d.allReachable = true → KMap.find d.fail.duts id = none → KMap.find d.fail.geos b.geo = none → d.askResult ⟨frm, free, busy, .dutBind id b⟩ = (2, id, .dutBind id b, none)) ∧
      (∀ h, d.allReachable = true → KMap.find d.fail.duts id = none → KMap.find d.fail.geos b.geo = some h →
        d.askResult ⟨frm, free, busy, .dutBind id b⟩ = (if d.dutPlaced b h = true then 0 else 4, id, .dutBind id b, none)) ∧
      (∀ c, c = .dutUnbind id ∨ c = .dutClear id ∨ c = .dutRebuild id → d.askResult ⟨frm, free, busy, c⟩ =
        (if d.allReachable = false then 8 else if KMap.find d.fail.duts (id % 1024) = none then 6 else if (busy || d.dutNamed id) = true then 7 else 0, id, c, none)) ∧
      d.applyFail (.geoSet id g) = d.setGeos (KMap.put d.fail.geos id g) ∧ d.applyFail (.geoClear id) = d.setGeos (KMap.drop d.fail.geos id) ∧
      d.applyFail (.dutBind id b) = d.setDuts (KMap.put d.fail.duts id b) ∧ d.applyFail (.dutUnbind id) = d.setDuts (KMap.drop d.fail.duts id)) ∧
    (∃ e : Device, e = d.proceed.tableStep ∧ (e.fail.run = none → Leads .failCmdDone ⟨d, w⟩ e) ∧
      (∀ c, e.fail.run = some c → c.ask.isSome = true → Leads .failCmdDone ⟨d, w⟩ e) ∧
      (∀ c, e.fail.run = some c → c.ask = none → ∃ f : Device, f = { e with fail := { e.fail with run := none } } ∧ Leads .failCmdDone ⟨d, w⟩
        (((f.setReg FAIL.CMD_STAT.RESULT c.result).setReg FAIL.CMD_STAT.ID c.id).evt FAIL.flag.CMD_DONE).pumpQueue))

/-- For a queue of the Assayer (where the device has one) or of the DMA engine (while the Hub is up), on an unlocked page: a tail within the ring of an ACTIVE queue is stored and starts the next fetch, and a head is stored, held completions are written while the ring has room, and an abort or disable without work left ends; a value past the ring, or a queue that is not ACTIVE, raises BAD_DOORBELL. ENABLE of a DISABLED queue makes it ACTIVE with its tail and head at 0, its phase 1, its last status kept and the answers to its earlier fetches dropped; of a queue that is not DISABLED it does nothing, and while a disable runs it raises CFG_BUSY. ABORT acts on an ACTIVE queue, and disabling on one that is not DISABLED: both end its work with ABORTED; an abort gives held completions that status, a disable drops them. A configuration field is stored while the queue is disabled and idle, unless reserved, and raises CFG_BUSY otherwise. (R318, R319, R320, R326, R327, R380, R388, R643) -/
def Obligations.QueueDoorbellsAndControls : Prop :=
  ∀ (d : Device) (w : List Instr) (r q v k : Nat) (t h e x a c : Instr),
    (d.hw.gradeH = false ∧ q < 16 ∧ r = q ∧ t = .assaySqTail q v ∧ h = .assayCqHead q v ∧ e = .assayEnable q ∧ x = .assayDisable q ∧ a = .assayAbort q ∧ c = .assayCfgWrite q k v ∧ (d.page .assay).lock = false) ∨
    (d.hubUp = true ∧ q < 4 ∧ r = 100 + q ∧ t = .dmaSqTail q v ∧ h = .dmaCqHead q v ∧ e = .dmaEnable q ∧ x = .dmaDisable q ∧ a = .dmaAbort q ∧ c = .dmaCfgWrite q k v ∧ (d.page .dma).lock = false) →
    ((d.ring r).state = 1 →
      (v < d.sqSize r → Leads t ⟨d, w⟩ (((d.setReg (ringF r ASSAY.SQ_TAIL.TAIL DMA.SQ_TAIL.TAIL) v (r % 100)).setRing r { d.ring r with tail := v }).ringFetch r)) ∧
      (d.sqSize r ≤ v → Leads t ⟨d, w⟩ (d.badDoorbell r)) ∧
      (v < d.cqSize r → ∃ f : Device,
        f = (d.setReg (ringF r ASSAY.CQ_HEAD.HEAD DMA.CQ_HEAD.HEAD) v (r % 100)).setRing r { d.ring r with cqHead := v } ∧ Leads h ⟨d, w⟩ ((f.releaseHeld r (d.eng.held.length + 1)).ringSettle r)) ∧
      (d.cqSize r ≤ v → Leads h ⟨d, w⟩ (d.badDoorbell r)) ∧
      Leads a ⟨d, w⟩ ((((d.setRing r { d.ring r with aborting := true }).abortHeld r (if isDma r then 6 else 4)).abortWork r (if isDma r then 6 else 4)).ringSettle r)) ∧
    ((d.ring r).state ≠ 1 → Leads t ⟨d, w⟩ (d.badDoorbell r) ∧ Leads h ⟨d, w⟩ (d.badDoorbell r) ∧ Leads a ⟨d, w⟩ d) ∧
    ((d.ring r).disabling = true → Leads e ⟨d, w⟩ (d.cfgBusy r)) ∧
    ((d.ring r).disabling = true ∨ d.ringReg r ASSAY.Q_CTL.ENABLE DMA.Q_CTL.ENABLE = 1 → Leads c ⟨d, w⟩ (d.cfgBusy r)) ∧
    ((d.ring r).state ≠ 0 → (d.ring r).disabling = false → Leads e ⟨d, w⟩ d) ∧
    ((d.ring r).state = 0 → (d.ring r).disabling = false → ∃ f : Device,
      f = ((d.setReg (ringF r ASSAY.Q_CTL.ENABLE DMA.Q_CTL.ENABLE) 1 (r % 100)).setReg (ringF r ASSAY.SQ_TAIL.TAIL DMA.SQ_TAIL.TAIL) 0 (r % 100)).setReg (ringF r ASSAY.CQ_HEAD.HEAD DMA.CQ_HEAD.HEAD) 0 (r % 100) ∧
      Leads e ⟨d, w⟩ (({ f with eng := { f.eng with inbox := f.eng.inbox.filter (fun y => !((y.kind == 0 || y.kind == 2) && y.q == r)) } } : Device).setRing r { state := 1, last := (d.ring r).last })) ∧
    ((d.ring r).state = 0 → Leads x ⟨d, w⟩ (d.setReg (ringF r ASSAY.Q_CTL.ENABLE DMA.Q_CTL.ENABLE) 0 (r % 100))) ∧
    ((d.ring r).state ≠ 0 → ∃ f : Device, f = d.setReg (ringF r ASSAY.Q_CTL.ENABLE DMA.Q_CTL.ENABLE) 0 (r % 100) ∧ Leads x ⟨d, w⟩
      (((({ f with eng := { f.eng with held := f.eng.held.filter (fun y => y.ring != r) } } : Device).setRing r { d.ring r with disabling := true }).abortWork r
        (if isDma r then 6 else 4)).ringSettle r)) ∧
    ((d.ring r).disabling = false → d.ringReg r ASSAY.Q_CTL.ENABLE DMA.Q_CTL.ENABLE ≠ 1 → Leads c ⟨d, w⟩ (d.store (ringField r k) v (r % 100)))

/-- A fetch of an ACTIVE queue's entry that has come back advances the head and takes a job number: an entry whose checks pass joins the jobs in order, one that fails a check completes with that status, and the next fetch starts; an entry that could not be read completes DESC_UNREADABLE (7) and the queue is stopping; while the queue aborts or is being disabled an entry completes ABORTED (4). A queue that is not ACTIVE only notes that no fetch runs; without an answer nothing changes. ANALYSE gives a free unit the next waiting job in rotation and starts its reads; it changes nothing while the page takes no work, the engines are held, all eight units are in use, or no job waits. ASSAY_BLOCK_DONE first advances the reads of a running job without a result entry. Then a job that does not exist, does not run, names no bound DUT, or runs while the engines are held goes no further; one whose reads have not all come back waits; one whose reads have come back writes its result entry, by the early outcome or by the analysis, CHANGED set where the counts differ. A block whose result writes have all come back good lets its job go on to the next block; one refused ends it ACCESS (2), one for want of capacity CAPACITY (3); while some are out it waits. (R309, R310, R314, R315, R317, R318, R319, R642) -/
def Obligations.AssayerJobsAndDescriptors : Prop :=
  ∀ (d : Device) (w : List Instr),
    (∀ q, q < 16 → ∃ g : Device, g = (d.takeInbox 0 q).1 ∧
      ((d.takeInbox 0 q).2 = [] → Leads (.assayDescFetched q) ⟨d, w⟩ g) ∧
      (∀ a as, (d.takeInbox 0 q).2 = a :: as →
        ((g.ring q).state ≠ 1 → Leads (.assayDescFetched q) ⟨d, w⟩ (g.setRing q { g.ring q with fetching := false })) ∧
        ((g.ring q).state = 1 → ∀ f e b, f = g.setRing q { g.ring q with fetching := false, head := ((g.ring q).head + 1) % g.sqSize q } →
          e = { f with eng := { f.eng with nextJob := f.eng.nextJob + 1 } } → b = g.entryOf q a →
          (readStatus a ≠ 0 → Leads (.assayDescFetched q) ⟨d, w⟩
            (((e.setRing q { e.ring q with stopping := true }).complete q 7 (jobCpl { id := f.eng.nextJob, queue := q, desc := List.replicate 64 0 } 7)).ringSettle q)) ∧
          (readStatus a = 0 → (g.ring q).aborting = true ∨ (g.ring q).disabling = true → Leads (.assayDescFetched q) ⟨d, w⟩
            ((e.complete q 4 (jobCpl { id := f.eng.nextJob, queue := q, desc := b } 4)).ringSettle q)) ∧
          (readStatus a = 0 → (g.ring q).aborting = false → (g.ring q).disabling = false →
            (∀ st, e.jobCheck b = some st → Leads (.assayDescFetched q) ⟨d, w⟩
              ((e.complete q st (jobCpl { id := f.eng.nextJob, queue := q, desc := b } st)).ringFetch q)) ∧
            (e.jobCheck b = none → Leads (.assayDescFetched q) ⟨d, w⟩
              (({ e with eng := { e.eng with jobs := e.eng.jobs ++ [{ id := f.eng.nextJob, queue := q, desc := b }] } } : Device).ringFetch q)))))) ∧
    (∀ j, d.pageOn .assay = true → d.enginesHeld = false → d.unitsBusy < 8 → d.nextJob = some j → ∃ e : Device, e = d.setJob { j with running := true } ∧
      Leads .analyse ⟨d, w⟩ (({ e with eng := { e.eng with turn := j.queue } } : Device).jobRead j.id)) ∧
    (d.pageOn .assay = false ∨ d.enginesHeld = true ∨ 8 ≤ d.unitsBusy ∨ d.nextJob = none → Leads .analyse ⟨d, w⟩ d) ∧
    (∀ id, ∃ e : Device, e = (if (d.job id).any (fun j => j.running && j.entry.isNone) = true then d.jobRead id else d) ∧
      (e.job id = none → Leads (.assayBlockDone id) ⟨d, w⟩ e) ∧
      (∀ j, e.job id = some j →
        (j.running = false ∨ e.enginesHeld = true ∨ e.dut j.dut = none → Leads (.assayBlockDone id) ⟨d, w⟩ e) ∧
        (∀ t, j.running = true → e.enginesHeld = false → e.dut j.dut = some t →
          (j.entry.isSome = true →
            ((e.eng.inbox.filter (fun a => a.kind == 5 && a.q == j.id)).length < j.sent → Leads (.assayBlockDone id) ⟨d, w⟩ e) ∧
            (j.sent ≤ (e.eng.inbox.filter (fun a => a.kind == 5 && a.q == j.id)).length → ∃ (g : Device) (as : List EngineAnswer), g = (e.takeInbox 5 j.id).1 ∧ as = (e.takeInbox 5 j.id).2 ∧
              (as.any (fun a => a.status == 3) = true → Leads (.assayBlockDone id) ⟨d, w⟩ (g.endJob j 2)) ∧
              (as.any (fun a => a.status == 3) = false → as.any (fun a => a.status == 2) = true → Leads (.assayBlockDone id) ⟨d, w⟩ (g.endJob j 3)) ∧
              (as.any (fun a => a.status == 3) = false → as.any (fun a => a.status == 2) = false → Leads (.assayBlockDone id) ⟨d, w⟩ (g.jobNext j)))) ∧
          (j.entry = none →
            (∀ keys, e.jobReads t j = .need keys → Leads (.assayBlockDone id) ⟨d, w⟩ e) ∧
            (∀ r f, (e.jobReads t j = .early r ∧ f = e.jobWrite j t r) ∨ (∃ a b x, e.jobReads t j = .full a b x ∧ f = e.jobWrite j t { x with changed := decide (a ≠ b) }) →
              (f.job id = none → Leads (.assayBlockDone id) ⟨d, w⟩ f) ∧
              (∀ k, f.job id = some k → (k.entry = none ∨ k.next ≠ j.next → Leads (.assayBlockDone id) ⟨d, w⟩ f) ∧
                (k.entry.isSome = true → k.next = j.next → Leads (.assayBlockDone id) ⟨d, w⟩ (f.jobWritten k))))))))

/-- While the Hub is up, a fetch of an ACTIVE DMA queue's entry that has come back advances the head and takes a number: a descriptor that keeps to the table waits for its turn, another completes BAD_DESC (1), and the next fetch starts; an entry that could not be read completes DESC_UNREADABLE (10) and the queue is stopping; while the queue aborts or is being disabled an entry completes ABORTED (6). A queue that is not ACTIVE only notes that no fetch runs; without an answer nothing changes. COPY and FILL make n steps of the queue's descriptor, once it is taken up: when it is its queue's turn in rotation. They do nothing for a descriptor of the other kind, for a queue without one or whose turn has not come, and while the engines are held. A step first notes the pieces of a host source that have come; then a descriptor that waits for an answer takes it; one that has stopped with nothing in hand does nothing; one with nothing in hand, or too little of its unit, reads the source; another writes the destination. A read of a FILL takes the pattern's bytes; of a COPY it asks the home of a line, takes or asks for host data, reads a raw burst unless it is blocked (status 4) or its channel does not serve, or reads a register. DESC_DONE takes an answer that is due; then a descriptor that has stopped with nothing in hand or in flight ends with its status and the next entry is fetched; another goes on. (R377, R380, R381, R382, R383, R384, R385, R500) -/
def Obligations.DmaDescriptorsCopiesAndFills : Prop :=
  ∀ (d : Device) (w : List Instr) (q : Nat), d.hubUp = true → q < 4 →
    (∃ g : Device, g = (d.takeInbox 2 (100 + q)).1 ∧
      ((d.takeInbox 2 (100 + q)).2 = [] → Leads (.dmaDescFetched q) ⟨d, w⟩ g) ∧
      (∀ a as, (d.takeInbox 2 (100 + q)).2 = a :: as →
        ((g.ring (100 + q)).state ≠ 1 → Leads (.dmaDescFetched q) ⟨d, w⟩ (g.setRing (100 + q) { g.ring (100 + q) with fetching := false })) ∧
        ((g.ring (100 + q)).state = 1 → ∀ f e x, f = g.setRing (100 + q) { g.ring (100 + q) with fetching := false, head := ((g.ring (100 + q)).head + 1) % g.sqSize (100 + q) } →
          x = { id := g.eng.nextJob, ring := 100 + q, desc := g.entryOf (100 + q) a } → e = { f with eng := { f.eng with nextJob := f.eng.nextJob + 1 } } →
          (readStatus a ≠ 0 → Leads (.dmaDescFetched q) ⟨d, w⟩
            (((e.setRing (100 + q) { e.ring (100 + q) with stopping := true }).complete (100 + q) 10 (dmaCpl { x with desc := List.replicate 32 0 } 10)).ringSettle (100 + q))) ∧
          (readStatus a = 0 → (g.ring (100 + q)).aborting = true ∨ (g.ring (100 + q)).disabling = true → Leads (.dmaDescFetched q) ⟨d, w⟩
            ((e.complete (100 + q) 6 (dmaCpl x 6)).ringSettle (100 + q))) ∧
          (readStatus a = 0 → (g.ring (100 + q)).aborting = false → (g.ring (100 + q)).disabling = false →
            (e.dmaOk x = true → Leads (.dmaDescFetched q) ⟨d, w⟩ (({ e with eng := { e.eng with dma := e.eng.dma ++ [x] } } : Device).ringFetch (100 + q))) ∧
            (e.dmaOk x = false → Leads (.dmaDescFetched q) ⟨d, w⟩ ((e.complete (100 + q) 1 (dmaCpl x 1)).ringFetch (100 + q))))))) ∧
    (∀ n c fill, (c = .copy q n ∧ fill = false) ∨ (c = .fill q n ∧ fill = true) →
      (d.enginesHeld = true ∨ d.dmaFront (100 + q) = none → Leads c ⟨d, w⟩ d) ∧
      (∀ x, d.dmaFront (100 + q) = some x →
        (x.fill ≠ fill ∨ (x.busy = false ∧ d.dmaTurn q = false) → Leads c ⟨d, w⟩ d) ∧
        (d.enginesHeld = false → 0 < n → x.fill = fill → x.busy = true → Leads c ⟨d, w⟩ (d.dmaSteps (100 + q) n)) ∧
        (d.enginesHeld = false → 0 < n → x.fill = fill → x.busy = false → d.dmaTurn q = true → ∃ e : Device,
          e = { d with eng := { d.eng with dmaTurn := (q + 1) % 4 } } ∧ Leads c ⟨d, w⟩ (e.dmaSteps (100 + q) n)))) ∧
    (∀ r n, d.dmaSteps r 0 = d ∧ d.dmaSteps r (n + 1) = (d.dmaStep r).dmaSteps r n) ∧
    (∀ r, ∃ e : Device, e = d.dmaArrivals r ∧ (e.dmaFront r = none → d.dmaStep r = e) ∧
      (∀ x, e.dmaFront r = some x → ∀ y, y = { x with busy := true } →
        (x.phase ≠ 0 → ∀ g, g = (e.takeInbox 3 x.id).1 → ((e.takeInbox 3 x.id).2 = [] → d.dmaStep r = g) ∧ (∀ a as, (e.takeInbox 3 x.id).2 = a :: as → d.dmaStep r = g.dmaAnswer x a)) ∧
        (x.phase = 0 → x.stop.isSome = true → x.got = [] → d.dmaStep r = e) ∧
        (x.phase = 0 → x.stop = none ∨ x.got ≠ [] →
          ((x.got = [] ∨ (x.dstSpace ≠ 3 ∧ x.got.length < x.chunk ∧ (x.dstSpace = 1 ∧ y.endsShort = true → False)) → d.dmaStep r = e.dmaRead y) ∧
          (x.got ≠ [] → (x.dstSpace = 3 ∨ x.chunk ≤ x.got.length ∨ (x.dstSpace = 1 ∧ y.endsShort = true)) → d.dmaStep r = e.dmaWrite y))))) ∧
    (∀ x : DmaRun, ∀ a, a = x.src + x.moved + x.got.length →
      (x.fill = true → d.dmaRead x = d.setDma { x with got := (List.range x.chunk).map (fun k => x.desc.getD (8 + (x.moved + k) % 8) 0) }) ∧
      (x.fill = false →
        (x.srcSpace = 0 → d.dmaRead x = (d.setDma { x with phase := 1 }).engRead 3 x.id (d.ringClass x.ring) (a % 2 ^ 64) 1) ∧
        (x.srcSpace = 1 → d.dmaRead x = d.dmaHost x) ∧
        (x.srcSpace = 2 → (∀ m, d.rawBlocked a = some m → d.dmaRead x = (d.blockedAccess 1 m a).dmaFail x 4) ∧
          (d.rawBlocked a = none → d.rawServes a = false → d.dmaRead x = d) ∧
          (d.rawBlocked a = none → d.rawServes a = true → ∀ e v p, d.dmaRaw (d.ringClass x.ring) a = (e, v, p) → d.dmaRead x = e.setDma { x with got := lineBytes v, bad := p })) ∧
        (x.srcSpace = 3 → ∀ e v, d.readReg (.dma (x.ring % 100)) a = (e, v) → d.dmaRead x = e.setDma { x with got := x.got ++ leBytes 4 v }))) ∧
    (∃ e : Device, e = (if (d.dmaFront (100 + q)).any (fun x => x.phase != 0) = true then d.dmaStep (100 + q) else d) ∧
      (e.dmaFront (100 + q) = none → Leads (.descDone q) ⟨d, w⟩ e) ∧
      (∀ x, e.dmaFront (100 + q) = some x →
        (x.stop = none ∨ x.phase ≠ 0 ∨ x.got ≠ [] → Leads (.descDone q) ⟨d, w⟩ e) ∧
        (∀ st, x.stop = some st → x.phase = 0 → x.got = [] → Leads (.descDone q) ⟨d, w⟩ ((e.endDma x st).ringFetch (100 + q)))))

/-- Evicting a frame without dirty lines drops it; one with dirty lines cancels a migration of its loaf and takes a snapshot of them; one whose snapshot is taken, and a loaf without a frame, change nothing. WRITEBACK_DONE of a loaf without a snapshot changes nothing; one that must wait tells of full pins; one that needs lines of the twin asks for them; any other cancels a migration of the loaf and reads its record. Then a loaf that stays PLAIN, its channels in service, has the dirty lines written in place, 64 bytes charged for each; another is gathered and laid out anew. A stream that fails its check is reported and the snapshot dropped. A sweep starts while the Baker runs unpaused, lowering every HEAT; while one runs it is noted as due, with BUDGET_LIMITED the first time. It ends with SWEEP_DONE, and a due one starts. MIGRATION_START changes nothing while the Baker does not run or is paused, while the loaf migrates or was skipped in this sweep or 32 others migrate, and for a loaf homed elsewhere or in no region. Else the record is read; a loaf to bake, promote or relocate asks the twin for the lines only it can give, or migrates; another is skipped. A migration with an uncorrectable slice or corrupt quarter is cancelled and counted; one with poison leaves the loaf; one whose stream fails its check is reported; a bake that does not compress gives HEAT 3; else it begins. One that waits for its countersign while mirrored does not end; another replaces the old record, and a bake or promotion is counted. (R86, R91, R92, R95, R99, R100, R101, R102, R110, R114, R426, R440) -/
def Obligations.FramesSweepsAndMigrations : Prop :=
  ∀ (d : Device) (w : List Instr) (lpn : Nat),
    (d.frame lpn = none → Leads (.frameEvict lpn) ⟨d, w⟩ d ∧ (∀ b, Leads (.writebackDone lpn b) ⟨d, w⟩ d)) ∧
    (∀ f, d.frame lpn = some f → d.dropSnap lpn = { d with tier := { d.tier with frames := KMap.put d.tier.frames lpn { f with snap := none, again := [] } } }) ∧
    (∀ f, d.frame lpn = some f → f.snap = none →
      (∀ b, Leads (.writebackDone lpn b) ⟨d, w⟩ d) ∧
      ((f.lines.keep (fun _ t => t.dirty)).isEmpty = true → Leads (.frameEvict lpn) ⟨d, w⟩ { d with tier := { d.tier with frames := KMap.drop d.tier.frames lpn } }) ∧
      ((f.lines.keep (fun _ t => t.dirty)).isEmpty = false → ∃ e : Device, e = d.cancelMigration lpn ∧ Leads (.frameEvict lpn) ⟨d, w⟩
        { e with tier := { e.tier with frames := KMap.put e.tier.frames lpn { f with snap := some (f.lines.keep (fun _ t => t.dirty)), again := [] } } })) ∧
    (∀ f snap, d.frame lpn = some f → f.snap = some snap → Leads (.frameEvict lpn) ⟨d, w⟩ d ∧
      (∀ bad bake hand carry, bake = (bakes (d.loaf lpn) (d.loafPolicy lpn).1 (d.loafPolicy lpn).2 && !(snap.any (fun e => e.2.poison))) → hand = d.handOf lpn f snap →
        carry = (fun q => bake && !((List.range 16).any (fun i => (KMap.find snap (16 * q + i)).isSome))) →
        (d.writebackWaits lpn hand = true → Leads (.writebackDone lpn bad) ⟨d, w⟩ (d.pinsFull lpn)) ∧
        (d.writebackWaits lpn hand = false → d.twinServes = true → (d.outLines lpn hand carry).isEmpty = false → Leads (.writebackDone lpn bad) ⟨d, w⟩ (d.askFor (d.outLines lpn hand carry) f.cls)) ∧
        (d.writebackWaits lpn hand = false → d.twinServes = false ∨ (d.outLines lpn hand carry).isEmpty = true → ∀ e r, e = (d.cancelMigration lpn).touchRecord lpn f.cls → r = e.loaf lpn →
          (r.plain = true → bake = false → e.snapServes r snap = true → Leads (.writebackDone lpn bad) ⟨d, w⟩ (((e.writeInPlace lpn r snap).chargeDeq f.cls (64 * snap.length)).frameWritten lpn snap)) ∧
          (r.plain = false ∨ bake = true ∨ e.snapServes r snap = false → ∀ g qs n, e.gather lpn f.cls r bake hand (fun i => (KMap.find snap i).isSome) = (g, qs, n) →
            (∀ p, planWriteback r (d.loafPolicy lpn).1 (d.loafPolicy lpn).2 qs = p → (p = .zero ∨ ∃ s q, p = .baked s q) →
              (bad = none → Leads (.writebackDone lpn bad) ⟨d, w⟩ ((g.relayout lpn f.cls r p qs n).frameWritten lpn snap)) ∧
              (∀ x, bad = some x → Leads (.writebackDone lpn bad) ⟨d, w⟩ ((g.verifyFail x).dropSnap lpn))) ∧
            (planWriteback r (d.loafPolicy lpn).1 (d.loafPolicy lpn).2 qs = .plain →
              (r.plain = true → e.snapServes r snap = true → Leads (.writebackDone lpn bad) ⟨d, w⟩ (((g.writeInPlace lpn r snap).chargeDeq f.cls (64 * snap.length)).frameWritten lpn snap)) ∧
              (r.plain = false ∨ e.snapServes r snap = false → Leads (.writebackDone lpn bad) ⟨d, w⟩ ((g.relayout lpn f.cls r .plain qs n).frameWritten lpn snap))))))) ∧
    (d.flagReg BAKER.BAKER_CTL.RUN = true → d.paused = false →
      (d.tier.sweeping = false → Leads .bakerSweepStart ⟨d, w⟩ ({ d with tier := { d.tier with sweeping := true, sweepSkip := [] } } : Device).coolDown) ∧
      (d.tier.sweeping = true → d.tier.sweepDue = true → Leads .bakerSweepStart ⟨d, w⟩ { d with tier := { d.tier with sweepDue := true } }) ∧
      (d.tier.sweeping = true → d.tier.sweepDue = false → ∃ e : Device, e = d.evt BAKER.flag.BUDGET_LIMITED ∧
        Leads .bakerSweepStart ⟨d, w⟩ { e with tier := { e.tier with sweepDue := true } })) ∧
    (d.flagReg BAKER.BAKER_CTL.RUN = false ∨ d.paused = true → Leads .bakerSweepStart ⟨d, w⟩ d) ∧
    (d.tier.sweeping = true → d.tier.sweepDue = false → Leads .bakerSweepEnd ⟨d, w⟩
      (({ d with tier := { d.tier with sweeping := false, sweepDue := false } } : Device).evt BAKER.flag.SWEEP_DONE)) ∧
    (d.tier.sweeping = true → d.tier.sweepDue = true → Leads .bakerSweepEnd ⟨d, w⟩
      (({ d with tier := { d.tier with sweeping := false, sweepDue := false } } : Device).evt BAKER.flag.SWEEP_DONE).sweepStart) ∧
    (d.tier.sweeping = false → Leads .bakerSweepEnd ⟨d, w⟩ d) ∧
    (∀ bad, d.flagReg BAKER.BAKER_CTL.RUN = false ∨ d.paused = true ∨ d.tier.migrations.any (fun m => m.lpn == lpn) = true ∨ 32 ≤ d.tier.migrations.length ∨ d.tier.sweepSkip.contains lpn = true ∨
      d.homesLoaf lpn = false ∨ d.regionOfLine (64 * lpn) = none → Leads (.migrationStart lpn bad) ⟨d, w⟩ d) ∧
    (∀ bad g i e, d.flagReg BAKER.BAKER_CTL.RUN = true → d.paused = false → d.tier.migrations.any (fun m => m.lpn == lpn) = false → d.tier.migrations.length < 32 →
      d.tier.sweepSkip.contains lpn = false → d.homesLoaf lpn = true → d.regionOfLine (64 * lpn) = some (i, g) → e = d.touchRecord lpn (d.reg BAKER.BAKER_CTL.CLASS) →
      (∀ k, (e.bakeCandidate lpn g = true ∧ k = .bake) ∨ (e.bakeCandidate lpn g = false ∧ e.mayPromote lpn = true ∧ k = .promote) ∨
          (e.bakeCandidate lpn g = false ∧ e.mayPromote lpn = false ∧ e.mayRelocate lpn = true ∧ k = .relocate) →
        (e.twinServes = true → (e.migLines lpn k).isEmpty = false → ∃ h : Device, h = e.askFor (e.migLines lpn k) (d.reg BAKER.BAKER_CTL.CLASS) ∧ Leads (.migrationStart lpn bad) ⟨d, w⟩
          { h with tier := { h.tier with bakeAsk := lpn :: e.tier.bakeAsk.filter (fun x => x != lpn) } }) ∧
        (e.twinServes = false ∨ (e.migLines lpn k).isEmpty = true → Leads (.migrationStart lpn bad) ⟨d, w⟩
          (({ e with tier := { e.tier with bakeAsk := e.tier.bakeAsk.filter (fun x => x != lpn), promotions := if k == MigKind.promote then e.tier.promotions.filter (fun x => x != lpn) else e.tier.promotions } } : Device).migrate lpn k (e.loaf lpn) bad))) ∧
      (e.bakeCandidate lpn g = false → e.mayPromote lpn = false → e.mayRelocate lpn = false → Leads (.migrationStart lpn bad) ⟨d, w⟩
        { e with tier := { e.tier with sweepSkip := e.tier.sweepSkip ++ [lpn], promotions := if (e.loaf lpn).state = 3 ∧ g.tier = 0 then e.tier.promotions else e.tier.promotions.filter (fun x => x != lpn) } })) ∧
    (∀ k r bad e qs n, d.gather lpn (d.reg BAKER.BAKER_CTL.CLASS) r (k == .relocate) (fun i => KMap.find d.tier.fetched (64 * lpn + i)) (fun _ => false) = (e, qs, n) →
      ((k == .promote && qs.any QuarterSrc.corrupt) = true →
        d.migrate lpn k r bad = ((e.lostQuarters lpn (d.reg BAKER.BAKER_CTL.CLASS) r qs).chargeDeq (d.reg BAKER.BAKER_CTL.CLASS) (64 * n)).countWrap BAKER.CANCELS.COUNT) ∧
      ((k == .promote && qs.any QuarterSrc.corrupt) = false →
        (d.loafHurt r = true → d.migrate lpn k r bad = (e.chargeDeq (d.reg BAKER.BAKER_CTL.CLASS) (64 * n)).countWrap BAKER.CANCELS.COUNT) ∧
        (d.loafHurt r = false → ∀ cls, cls = e.reg BAKER.BAKER_CTL.CLASS →
          (qs.any QuarterSrc.poisoned = true → d.migrate lpn k r bad = e.chargeDeq cls (64 * n)) ∧
          (qs.any QuarterSrc.poisoned = false →
            (k = .promote → d.migrate lpn k r bad = e.beginMigration lpn k .plain qs n) ∧
            (k ≠ .promote → d.migrate lpn k r bad =
              if planBake qs = .plain ∧ k = .bake then { e.chargeDeq cls (64 * n) with tier := { e.tier with heat := KMap.put e.tier.heat lpn 3 } }
              else if planBake qs = .plain ∨ bad = none then e.beginMigration lpn k (planBake qs) qs n
              else (e.chargeDeq cls (64 * n)).verifyFail (bad.getD 0)))))) ∧
    (∀ m, d.tier.migrations.find? (fun m => m.lpn == lpn) = some m → m.waiting.isSome = true → d.mirrored lpn = true → Leads (.migrationFinish lpn) ⟨d, w⟩ d) ∧
    (∀ m, d.tier.migrations.find? (fun m => m.lpn == lpn) = some m → m.waiting = none ∨ d.mirrored lpn = false → ∃ e : Device,
      e = ({ d with tier := { d.tier with migrations := d.tier.migrations.filter (fun x => x.lpn != lpn) } } : Device).changeRecord lpn
        (LoafRec.ofWord m.oldRec) (LoafRec.ofWord m.newRec) ∧
      (m.kind = .bake → Leads (.migrationFinish lpn) ⟨d, w⟩ (e.countWrap BAKER.BAKES.COUNT)) ∧
      (m.kind = .promote → Leads (.migrationFinish lpn) ⟨d, w⟩ (e.countWrap BAKER.PROMOTES.COUNT)) ∧
      (m.kind = .relocate → Leads (.migrationFinish lpn) ⟨d, w⟩ e)) ∧
    (d.tier.migrations.find? (fun m => m.lpn == lpn) = none → Leads (.migrationFinish lpn) ⟨d, w⟩ d)

/-- AUDIT_CMD.START sets START and BUSY and forgets the slices noted before, and does nothing while an audit runs. At its end the slices in use are those of before that a valid record, a running migration or an access during the audit names; START and BUSY clear, the Elastic charge is the slices of the records of Elastic pages (R105; that the audit sets it right is the model's reading, log entry 107), AUDIT_FREED counts the freed ones, AUDIT_DONE is raised and the capacity figures follow. Without an audit running it changes nothing. (R105, R113, R331) -/
def Obligations.PoolAudit : Prop :=
  ∀ (d : Device) (w : List Instr),
    (d.flagReg TIER.AUDIT_CMD.BUSY = true → Leads .auditCmdStart ⟨d, w⟩ d) ∧
    (d.flagReg TIER.AUDIT_CMD.BUSY = false → ∃ e : Device, e = (d.setReg TIER.AUDIT_CMD.START 1).setReg TIER.AUDIT_CMD.BUSY 1 ∧
      Leads .auditCmdStart ⟨d, w⟩ { e with tier := { e.tier with auditUsed := [] } }) ∧
    (d.flagReg TIER.AUDIT_CMD.BUSY = false → Leads .auditDone ⟨d, w⟩ d) ∧
    (d.flagReg TIER.AUDIT_CMD.BUSY = true → ∃ kept, (∀ s, s ∈ kept ↔ s ∈ d.tier.used ∧ (s ∈ d.namedSlices ∨ s ∈ d.tier.auditUsed)) ∧
      Leads .auditDone ⟨d, w⟩ (((((({ d with tier := { d.tier with used := kept, auditUsed := [], elCharge := ((d.knownPages.filter (fun p => d.elasticLine (64 * p))).map (fun p => (d.loaf p).nslice)).foldl (· + ·) 0 } } : Device).setReg TIER.AUDIT_CMD.START 0).setReg
        TIER.AUDIT_CMD.BUSY 0).countSat TIER.AUDIT_FREED.COUNT 0 (d.tier.used.length - kept.length)).evt TIER.flag.AUDIT_DONE).capUpdate))

/-- APPLY starts an admission against the figures of that moment and does nothing while one runs; REVERT loads the staging registers from the table in force unless one runs. ADMIT_DONE does nothing without an APPLY; else it writes the result and the site, clears APPLY and BUSY and starts the waiting site admissions; on success the staged table comes into force with no class demoted and is reported to the twin; ADMIT_DONE is raised, and a recomputation put off runs. RECOMPUTE is put off while an APPLY runs; otherwise it takes the new figures, demotes by them in yield order, and where a figure has grown and AUTO_RESTORE is 1 restores classes; then it notes the sites whose link no longer carries their class. SITE_CLASS_WRITE on an unlocked page of a site that exists starts its admission, waits behind an APPLY, or behind the admission of its site; a later waiting write of the site replaces an earlier one. SITE_CLASS_ADMIT_END stores the class if the site link carries its guarantee, and the site's waiting write then starts its own; without an admission of the site it does nothing. SCHEDULER_PICK considers requests that no earlier one of their address precedes: it takes the urgent one with the earliest deadline first and counts it; else the class that deficit round robin chooses, and of it the earliest deadline, then the earliest arrival; it takes nothing where none waits. QUEUE_ENTRY_FREED tries the earliest urgent waiting request first where the queue was full, lets deficit round robin choose one waiting request above its guarantee, and tries the waiting requests. (R65, R334, R335, R336, R337, R342, R343, R346, R348, R350, R352, R354) -/
def Obligations.AdmissionAndDemotion : Prop :=
  ∀ (d : Device) (w : List Instr),
    (d.qos.applying = true → Leads .apply ⟨d, w⟩ d ∧ Leads .revert ⟨d, w⟩ d ∧ Leads .recompute ⟨d, w⟩ { d with qos := { d.qos with recompDue := true } }) ∧
    (d.qos.applying = false → Leads .revert ⟨d, w⟩ (d.stageTable d.qos.table) ∧ Leads .admitDone ⟨d, w⟩ d ∧ ∃ e : Device,
      e = (d.setReg QOS.ADMIT_CMD.APPLY 1).setReg QOS.ADMIT_CMD.BUSY 1 ∧
      Leads .apply ⟨d, w⟩ { e with qos := { e.qos with applying := true, applyFigs := e.figures, fraction := e.reg QOS.ADMIT_CTL.FRACTION_PCT } }) ∧
    (d.qos.applying = true → ∃ e f g : Device,
      e = (((d.setReg QOS.ADMIT_STAT.RESULT (d.admission d.stagedTable d.qos.applyFigs).1).setReg QOS.ADMIT_STAT.SITE (d.admission d.stagedTable d.qos.applyFigs).2).setReg
        QOS.ADMIT_CMD.APPLY 0).setReg QOS.ADMIT_CMD.BUSY 0 ∧
      f = { e with qos := { e.qos with applying := false, recompDue := false, siteWait := [], sitePend := d.qos.sitePend ++ d.qos.siteWait } } ∧
      ((d.admission d.stagedTable d.qos.applyFigs).1 = 0 → g = (({ f with qos := { f.qos with table := d.stagedTable } } : Device).setDemoted []).tellGuarantees) ∧
      ((d.admission d.stagedTable d.qos.applyFigs).1 ≠ 0 → g = f) ∧
      (d.qos.recompDue = false → Leads .admitDone ⟨d, w⟩ (g.evt QOS.flag.ADMIT_DONE)) ∧
      (d.qos.recompDue = true → Leads .admitDone ⟨d, w⟩ (g.evt QOS.flag.ADMIT_DONE).recompute)) ∧
    (d.qos.applying = false → ∃ e f : Device, e = { d with qos := { d.qos with figs := d.figures, fraction := d.reg QOS.ADMIT_CTL.FRACTION_PCT } } ∧
      f = e.demoteN d.qos.figs d.figures e.qos.table.yields ∧
      ((List.range 3).all (fun r => decide (d.figures.getD r 0 ≤ d.qos.figs.getD r 0)) = true ∨ f.flagReg QOS.ADMIT_CTL.AUTO_RESTORE = false → Leads .recompute ⟨d, w⟩ f.siteShorts) ∧
      (∀ r, (List.range 3).find? (fun r => decide (d.qos.figs.getD r 0 < d.figures.getD r 0)) = some r → f.flagReg QOS.ADMIT_CTL.AUTO_RESTORE = true →
        Leads .recompute ⟨d, w⟩ (f.restoreN d.qos.figs d.figures r 16).siteShorts)) ∧
    (∀ s c, d.hw.gradeH = false → s < 1024 → (d.page .site s).lock = false →
      (∀ on, on = (d.qos.sitePend.any (fun e => e.1 == s) || d.qos.siteWait.any (fun e => e.1 == s)) →
        (on = false → d.qos.applying = false → Leads (.siteClassWrite s c) ⟨d, w⟩
          (({ d with qos := { d.qos with sitePend := d.qos.sitePend ++ [(s, c % 16)] } } : Device).sitePending s)) ∧
        (on = false → d.qos.applying = true → Leads (.siteClassWrite s c) ⟨d, w⟩
          (({ d with qos := { d.qos with siteWait := d.qos.siteWait ++ [(s, c % 16)] } } : Device).sitePending s)) ∧
        (on = true → Leads (.siteClassWrite s c) ⟨d, w⟩
          (({ d with qos := { d.qos with siteNext := d.qos.siteNext.filter (fun e => e.1 != s) ++ [(s, c % 16)] } } : Device).sitePending s)))) ∧
    (∀ s, (d.qos.sitePend.find? (fun e => e.1 == s) = none → Leads (.siteClassAdmitEnd s) ⟨d, w⟩ d) ∧
      (∀ x, d.qos.sitePend.find? (fun e => e.1 == s) = some x → ∃ e f : Device, e = { d with qos := { d.qos with sitePend := d.qos.sitePend.filter (fun y => y.1 != s) } } ∧
        (d.siteFits d.qos.table d.qos.fraction s x.2 = true → f = e.setReg SITE.SITE_CLASS.CLASS x.2 s) ∧
        (d.siteFits d.qos.table d.qos.fraction s x.2 = false → f = e) ∧
        (d.qos.siteNext.find? (fun y => y.1 == s) = none → Leads (.siteClassAdmitEnd s) ⟨d, w⟩ (f.sitePending s)) ∧
        (∀ n, d.qos.siteNext.find? (fun y => y.1 == s) = some n → Leads (.siteClassAdmitEnd s) ⟨d, w⟩
          (({ f with qos := { f.qos with siteNext := f.qos.siteNext.filter (fun y => y.1 != s) } } : Device).siteClassWrite s n.2)))) ∧
    (∀ c free, free = (d.chanQueue c).filter (fun e => !((d.chanQueue c).any (fun x => x.ra == e.ra && decide (x.order < e.order)))) →
      (∀ e, earliest (free.filter (fun e => d.urgent e.cls e.deadline)) = some e →
        Leads (.schedulerPick c) ⟨d, w⟩ (({ d with qos := { d.qos with queues := KMap.put d.qos.queues c ((d.chanQueue c).filter (fun x => x.order != e.order)) } } : Device).countWrap QOS.URGENT.COUNT e.cls)) ∧
      (earliest (free.filter (fun e => d.urgent e.cls e.deadline)) = none → ∀ f k, d.drr c (fun k => (nextOf (free.filter (fun e => e.cls == k))).map (fun e => e.deq)) = (f, k) →
        (k = none → Leads (.schedulerPick c) ⟨d, w⟩ f) ∧
        (∀ j, k = some j → Leads (.schedulerPick c) ⟨d, w⟩ ((nextOf (free.filter (fun e => e.cls == j))).elim f (fun e =>
          { f with qos := { f.qos with queues := KMap.put f.qos.queues c ((d.chanQueue c).filter (fun x => x.order != e.order)) } }))))) ∧
    (∀ c, d.chanQueue c = [] → Leads (.schedulerPick c) ⟨d, w⟩ d) ∧
    (∀ c, ∃ e : Device, (∀ r, d.urgentHeld c = some r → (d.chanQueue c).length = 127 → e = d.tryRequest r) ∧
      (d.urgentHeld c = none ∨ (d.chanQueue c).length ≠ 127 → e = d) ∧
      (∀ f, e.drr (16 + c) (fun k => ((e.heldFor c).find? (fun x => x.1.cls == k)).map (fun x => x.2)) = (f, none) → Leads (.queueEntryFreed c) ⟨d, w⟩ f.pumpQueue) ∧
      (∀ f k, e.drr (16 + c) (fun k => ((e.heldFor c).find? (fun x => x.1.cls == k)).map (fun x => x.2)) = (f, some k) → Leads (.queueEntryFreed c) ⟨d, w⟩
        ({ f with qos := { f.qos with amberToken := KMap.put f.qos.amberToken c (k + 1) } } : Device).pumpQueue))

/-- A channel out of service, and a raw address that is not installed, make a read, a write and a DRAM return do nothing but that waiting work proceeds. On a channel in service: a read of bursts of one slice wakes the channel, counts in FWD_HITS each burst that the write queue holds and puts the others in the read queue of its subchannel; one that finds no room for them there (32) changes nothing. A write puts each burst in the write queue. A burst that returns from DRAM while its subchannel drains, or that may not pass the reads ahead of it, changes nothing; any other leaves the read queue, those ahead are passed once more, and unless a queued write or a test replaces it, its bank is accessed and it is decoded with the errors it shows; then waiting work proceeds. A drain starts at WDRAIN.HIGH entries, with no read queued or for an aged entry, with an entry left: it writes entries until none is left, or LOW with a read queued, and then runs on or has ended; otherwise nothing happens. It stops at LOW with a read queued, else runs on. An idle bank's row closes. A refresh of a busy rank of an ACTIVE channel is postponed up to four times, and otherwise closes the rank's rows; of another channel it does nothing. A rank reported hot is refreshed at double rate until it is reported cool. An ALERT_n on a channel in service wakes it, counts by its kind and raises BUS_RETRAIN; unless its retry succeeded and it is not the sixteenth within 1 ms, a retrain starts. On one out of service it does nothing. (R407, R408, R409, R410, R411, R412, R415, R418, R420, R436) -/
def Obligations.ChannelRequestsAndDrains : Prop :=
  ∀ (d : Device) (w : List Instr) (c : Nat),
    (∀ ra, (d.chan (channelOf ra)).inService = false ∨ d.rawBytes ≤ ra → (∀ n, Leads (.channelRead ra n) ⟨d, w⟩ d) ∧ (∀ b, Leads (.channelWrite ra b) ⟨d, w⟩ d)) ∧
    (∀ ra n new, (d.chan (channelOf ra)).inService = true → ra < d.rawBytes → new = (sliceBursts ra n).filter (fun a => (d.wqFind a).isNone) →
      (32 < (KMap.get (d.chan (channelOf ra)).rq [] (targetOf ra % 2)).length + new.length → Leads (.channelRead ra n) ⟨d, w⟩ d) ∧
      ((KMap.get (d.chan (channelOf ra)).rq [] (targetOf ra % 2)).length + new.length ≤ 32 → ∃ e : Device,
        e = ((sliceBursts ra n).filter (fun a => ((d.wakeChan (channelOf ra)).wqFind a).isSome)).foldl (fun x _ => x.countSat DDRCH.FWD_HITS.COUNT (channelOf ra)) (d.wakeChan (channelOf ra)) ∧
        (new = [] → Leads (.channelRead ra n) ⟨d, w⟩ e) ∧
        (new ≠ [] → Leads (.channelRead ra n) ⟨d, w⟩ (e.setChan (channelOf ra) { e.chan (channelOf ra) with
          rq := KMap.put (e.chan (channelOf ra)).rq (targetOf ra % 2) (KMap.get (d.chan (channelOf ra)).rq [] (targetOf ra % 2) ++ new) })))) ∧
    (∀ ra b, (d.chan (channelOf ra)).inService = true → ra < d.rawBytes → Leads (.channelWrite ra b) ⟨d, w⟩
      (((sliceBursts ra b.length).zip b).foldl (fun x e => x.writeBurst e.1 e.2.1 e.2.2) d)) ∧
    (∀ ra a err cls q ahead, a = 64 * (ra / 64) → q = KMap.get (d.chan (channelOf a)).rq [] (targetOf a % 2) →
      ahead = (if q.contains a then q.takeWhile (fun x => x != a) else []) →
      ((d.chan (channelOf a)).inService = false ∨ d.rawBytes ≤ a ∨ (d.chan (channelOf a)).draining.contains (targetOf a % 2) = true ∨ d.mayPass (channelOf a) a ahead = false →
        Leads (.dramReadReturn ra err cls) ⟨d, w⟩ d.proceed) ∧
      ((d.chan (channelOf a)).inService = true → a < d.rawBytes → (d.chan (channelOf a)).draining.contains (targetOf a % 2) = false → d.mayPass (channelOf a) a ahead = true →
        ∃ e : Device, e = d.readIssued (channelOf a) (targetOf a % 2) a ahead ∧
        ((e.wqFind a).isSome = true ∨ e.underTest a = true → Leads (.dramReadReturn ra err cls) ⟨d, w⟩ e.proceed) ∧
        (e.wqFind a = none → e.underTest a = false → Leads (.dramReadReturn ra err cls) ⟨d, w⟩ (((e.bankAccess a).addErrors a err).checkBurst a cls).proceed))) ∧
    (∀ sub aged due, due = (decide (d.reg DDRCH.WDRAIN.HIGH c ≤ d.wqLen c sub) || (d.rqEmpty c sub && decide (0 < d.wqLen c sub)) || (aged && decide (0 < d.wqLen c sub))) →
      ((d.chan c).inService = false ∨ 2 ≤ sub ∨ due = false → Leads (.writeDrainStart c sub aged) ⟨d, w⟩ d) ∧
      ((d.chan c).inService = true → sub < 2 → due = true → ∃ e : Device, e = d.drainTo c sub (if d.rqEmpty c sub then 0 else d.reg DDRCH.WDRAIN.LOW c) 64 ∧
        (e.wqLen c sub = 0 → Leads (.writeDrainStart c sub aged) ⟨d, w⟩ (e.setChan c { e.chan c with draining := (e.chan c).draining.filter (fun i => i != sub) })) ∧
        (e.wqLen c sub ≠ 0 → (e.chan c).draining.contains sub = true → Leads (.writeDrainStart c sub aged) ⟨d, w⟩ (e.setChan c { e.chan c with draining := (e.chan c).draining })) ∧
        (e.wqLen c sub ≠ 0 → (e.chan c).draining.contains sub = false → Leads (.writeDrainStart c sub aged) ⟨d, w⟩ (e.setChan c { e.chan c with draining := (e.chan c).draining ++ [sub] })))) ∧
    (∀ sub, (d.wqLen c sub ≤ d.reg DDRCH.WDRAIN.LOW c → d.rqEmpty c sub = false → Leads (.writeDrainStop c sub) ⟨d, w⟩
        (d.setChan c { d.chan c with draining := (d.chan c).draining.filter (fun i => i != sub) })) ∧
      (d.reg DDRCH.WDRAIN.LOW c < d.wqLen c sub ∨ d.rqEmpty c sub = true → Leads (.writeDrainStop c sub) ⟨d, w⟩ d)) ∧
    (∀ b, Leads (.openIdleExpiry c b) ⟨d, w⟩ (d.setChan c { d.chan c with openRows := KMap.drop (d.chan c).openRows b })) ∧
    (∀ rank b, ((d.chan c).state ≠ .active → Leads (.refreshDue c rank b) ⟨d, w⟩ d) ∧
      ((d.chan c).state = .active →
        (b = true → KMap.get (d.chan c).postponed 0 rank < 4 → Leads (.refreshDue c rank b) ⟨d, w⟩
          (d.setChan c { d.chan c with postponed := KMap.put (d.chan c).postponed rank (KMap.get (d.chan c).postponed 0 rank + 1) })) ∧
        (b = false ∨ 4 ≤ KMap.get (d.chan c).postponed 0 rank → Leads (.refreshDue c rank b) ⟨d, w⟩
          (d.setChan c { d.chan c with postponed := KMap.drop (d.chan c).postponed rank, openRows := (d.chan c).openRows.keep (fun b _ => b / 128 % 4 != rank) })))) ∧
    (∀ rank, Leads (.mr4Poll c rank true) ⟨d, w⟩ (d.setChan c { d.chan c with hotRanks := (d.chan c).hotRanks.filter (fun r => r != rank) ++ [rank] }) ∧
      Leads (.mr4Poll c rank false) ⟨d, w⟩ (d.setChan c { d.chan c with hotRanks := (d.chan c).hotRanks.filter (fun r => r != rank) })) ∧
    (∀ wcrc ok, ((d.chan c).inService = false → Leads (.alertN c wcrc ok) ⟨d, w⟩ d) ∧
      ((d.chan c).inService = true → ∃ (e f : Device) (times : List Nat), e = d.wakeChan c ∧ times = e.time :: (e.chan c).alerts.filter (fun t => decide (e.time < t + 1000000)) ∧
        f = (((e.setChan c { e.chan c with alerts := times }).countSat (if wcrc then DDRCH.WCRC_ERRS.COUNT else DDRCH.CA_PARITY_ERRS.COUNT) c).raise
          DDRCH.flag.BUS_RETRAIN c [c, if wcrc then 1 else 0] [c]) ∧
        (ok = true → times.length < 16 → Leads (.alertN c wcrc ok) ⟨d, w⟩ f) ∧
        (ok = false ∨ 16 ≤ times.length → Leads (.alertN c wcrc ok) ⟨d, w⟩ ((f.setChan c { f.chan c with alerts := [] }).startRetrain c))))

/-- A channel with self-refresh enabled that is ACTIVE with all queues empty enters it, closes its rows and counts the entry; otherwise nothing happens. The deferral limit wakes a channel that holds scrubber reads and runs them; with none held it does nothing. A planned retrain starts only while the device is paired, its twin serves and every channel is in service, and RETRAIN_REFUSED is raised otherwise. When a retrain starts, a channel in self-refresh first wakes and drains its write queues; the channel's rows close and its drains end, RETRAINS counts, OUT_OF_SERVICE is raised, a test on it stops with its verdict UNTESTED and its copy kept, and the deliverable figures and waiting requests follow. The end of a retrain of a channel that is not RETRAINING changes nothing. Its success returns the channel to ACTIVE, raises IN_SERVICE, rewrites its private area and restores the rows kept; a first or second failure counts, the third makes it FAILED with CH_FAILED raised; figures and requests follow. (R421, R422, R423, R424, R425, R426, R428, R429, R431, R457) -/
def Obligations.SelfRefreshAndRetrains : Prop :=
  ∀ (d : Device) (w : List Instr) (c : Nat),
    (∀ idle, idle = ((d.chanQueue c).isEmpty && (d.chan c).wq.all (fun q => q.2.isEmpty) && (d.chan c).rq.all (fun q => q.2.isEmpty)) →
      (d.flagReg DDRCH.CH_CFG.SR_EN c = true → (d.chan c).state = .active → idle = true →
        Leads (.selfRefreshEntry c) ⟨d, w⟩ ((d.setChan c { d.chan c with state := .selfRefresh, openRows := [], postponed := [] }).countSat DDRCH.SR_ENTRIES.COUNT c)) ∧
      (d.flagReg DDRCH.CH_CFG.SR_EN c = false ∨ (d.chan c).state ≠ .active ∨ idle = false → Leads (.selfRefreshEntry c) ⟨d, w⟩ d)) ∧
    ((d.chan c).heldScrub = [] → Leads (.srDeferExpiry c) ⟨d, w⟩ d) ∧
    ((d.chan c).heldScrub ≠ [] → Leads (.srDeferExpiry c) ⟨d, w⟩ ((d.wakeChan c).readHeld c).proceed) ∧
    (d.twin.svc ≠ .paired ∨ d.twinServes = false ∨ (List.range 16).all (fun k => (d.chan k).inService) = false → Leads (.chCtlRetrain c) ⟨d, w⟩ (d.raise DDRCH.flag.RETRAIN_REFUSED c [] [])) ∧
    (d.twin.svc = .paired → d.twinServes = true → (List.range 16).all (fun k => (d.chan k).inService) = true → ∃ e : Device,
      ((d.chan c).state = .selfRefresh → e = ((d.wakeChan c).drainTo c 0 0 64).drainTo c 1 0 64) ∧ ((d.chan c).state ≠ .selfRefresh → e = d) ∧
      Leads (.chCtlRetrain c) ⟨d, w⟩ (((((e.setChan c { e.chan c with state := .retraining, attempts := 0, openRows := [], draining := [] }).countSat DDRCH.RETRAINS.COUNT c).evt
        DDRCH.flag.OUT_OF_SERVICE c).stopTest c).chanChanged)) ∧
    (∀ t, d.integ.test = some t → channelOf t.ra = c →
      d.stopTest c = ((d.setInteg { d.integ with test := none, kept := d.integ.kept ++ [t] }).setReg INTEG.PROOF_STAT.BUSY 0).verdict t.ra 3 0 0) ∧
    (d.integ.test = none ∨ (∃ t, d.integ.test = some t ∧ channelOf t.ra ≠ c) → d.stopTest c = d) ∧
    ((d.chan c).state = .retraining →
      Leads (.retrainDone c true) ⟨d, w⟩
        (((((d.setChan c { d.chan c with state := .active, attempts := 0, pinned := [], alerts := [] }).evt DDRCH.flag.IN_SERVICE c).rewritePrivate c).restoreKept c).chanChanged) ∧
      ((d.chan c).attempts < 2 → Leads (.retrainDone c false) ⟨d, w⟩ (d.setChan c { d.chan c with attempts := (d.chan c).attempts + 1 })) ∧
      (2 ≤ (d.chan c).attempts → Leads (.retrainDone c false) ⟨d, w⟩
        ((d.setChan c { d.chan c with state := .failed }).raise DDRCH.flag.CH_FAILED c [c] [c]).chanChanged)) ∧
    ((d.chan c).state ≠ .retraining → ∀ ok, Leads (.retrainDone c ok) ⟨d, w⟩ d)

/-- Arming an injection on an unlocked channel page stores its fields and sets ARM. SCRUB_STEP does nothing but let waiting work proceed while the scrubber pauses, is off, its page takes no work or the device starts; else a private step reads the next private burst, another the next burst of the table walk if there is one. PROOF_START takes the next queued row while the Proofer is on, idle and unpaused and the channel serves: two scratch frames, every burst of the row checked, the row redirected, BUSY set; else nothing. Each hold time of the first four patterns adds the failing lanes and counts the row's writes and reads. PROOF_DONE ends a test after four patterns: the row is restored, BUSY cleared, PROOF_TESTS counted, and the verdict 2 where a lane failed, 1 where the row was named within the window before, else 0; otherwise nothing. A good patrol word changes nothing; a corrected one counts and raises T0_CE, and the third within 24 h of a frame fences and evicts it. An uncorrectable word counts; a clean hot-data line or multicast block is dropped with T0_REFETCH, a dirty line dropped and fetched from a serving twin, else poisoned with T0_UNCORR; a cached record is read again, or POISONED if pinned; a word of a batch aborts it with CONFLICT, or, its record sent, is poisoned and fetched; a directory word raises T0_DIR; waiting work then proceeds. RETIRE starts on an unlocked page with none running, with its checks' result; while one runs it does nothing. RETIRE_DONE waits for tests of its rows, a bank for its channel; the capacity is checked again, lines that only the twin can give are asked for; else the range leaves the pool where the result is 0, RESULT is written, BUSY cleared, RETIRE_DONE raised, and after a bank the figures are formed again. (R75, R109, R445, R446, R447, R450, R451, R452, R453, R454, R457, R459) -/
def Obligations.ScrubberProoferPatrolAndRetirement : Prop :=
  ∀ (d : Device) (w : List Instr),
    (∀ c pos mask value sub, (d.page .ddrch c).lock = false → Leads (.errInjArm c pos mask value sub) ⟨d, w⟩
      (((((d.store DDRCH.ERR_INJ.POS pos c).store DDRCH.ERR_INJ.CW_MASK mask c).store DDRCH.ERR_INJ.VALUE value c).store DDRCH.ERR_INJ.SUB sub c).setReg DDRCH.ERR_INJ.ARM 1 c)) ∧
    (∀ priv err, d.paused = true ∨ d.flagReg INTEG.SCRUB_CTL.EN = false ∨ d.pageOn .integ = false ∨ d.twin.svc = .start → Leads (.scrubStep priv err) ⟨d, w⟩ d.proceed) ∧
    (∀ err, d.paused = false → d.flagReg INTEG.SCRUB_CTL.EN = true → d.pageOn .integ = true → d.twin.svc ≠ .start →
      Leads (.scrubStep true err) ⟨d, w⟩ ((d.setInteg { d.integ with scrubPriv := (d.integ.scrubPriv + 1) % 2 ^ 26 }).scrubRead (d.privateBase + 64 * d.integ.scrubPriv) err).proceed ∧
      (∀ e x, d.scrubNext 6 = (e, x) → Leads (.scrubStep false err) ⟨d, w⟩ (x.elim e (fun ra => e.scrubRead ra err)).proceed)) ∧
    (d.integ.queue = [] → Leads .proofStart ⟨d, w⟩ d) ∧
    (∀ row ra rest, d.integ.queue = (row, ra) :: rest →
      (d.paused = true ∨ d.integ.test.isSome = true ∨ d.flagReg INTEG.PROOF_CTL.EN = false ∨ (d.chan (channelOf ra)).inService = false → Leads .proofStart ⟨d, w⟩ d) ∧
      (d.paused = false → d.integ.test = none → d.flagReg INTEG.PROOF_CTL.EN = true → (d.chan (channelOf ra)).inService = true → ∃ e f : Device,
        e = (d.setInteg { d.integ with queue := rest }).takeScratch.takeScratch ∧
        f = (e.rowBursts (e.dramLoc ra)).foldl (fun x a => x.checkBurst a (x.reg INTEG.SCRUB_CTL.CLASS)) e ∧ Leads .proofStart ⟨d, w⟩
        ((f.setInteg { f.integ with queue := f.integ.queue.filter (fun x => x.1 != row), test := some { row := row, ra := ra } }).setReg INTEG.PROOF_STAT.BUSY 1))) ∧
    (d.integ.test = none → (∀ lanes, Leads (.proofHoldExpiry lanes) ⟨d, w⟩ d) ∧ Leads .proofDone ⟨d, w⟩ d) ∧
    (∀ t lanes, d.integ.test = some t →
      (t.patterns < 4 → Leads (.proofHoldExpiry lanes) ⟨d, w⟩
        (((d.setInteg { d.integ with test := some { t with patterns := t.patterns + 1, lanes := t.lanes ||| (lanes % 2 ^ 40) } }).addCount
          DDRCH.WRITES.COUNT (8 * 2 ^ d.hw.colBits) (channelOf t.ra)).addCount DDRCH.READS.COUNT (2 * (8 * 2 ^ d.hw.colBits)) (channelOf t.ra)) ∧ Leads .proofDone ⟨d, w⟩ d) ∧
      (4 ≤ t.patterns → Leads (.proofHoldExpiry lanes) ⟨d, w⟩ d ∧ ∃ e : Device, e = d.restoreRow t d.integ.kept.length ∧
        (∀ v, v = (if t.lanes ≠ 0 then 2 else if (d.integ.history.find? (fun e => e.1 == t.row)).any (fun e => decide (d.time ≤ e.2 + 1000000000 * (86400 * d.reg INTEG.PROOF_CTL.WINDOW_D))) = true then 1 else 0) →
          Leads .proofDone ⟨d, w⟩
            ((((e.setInteg { e.integ with test := none, tested := KMap.put e.integ.tested t.row e.time }).setReg INTEG.PROOF_STAT.BUSY 0).countSat INTEG.PROOF_TESTS.COUNT).verdict t.ra v
              (lanePositions t.lanes) t.lanes)))) ∧
    (∀ area item, Leads (.t0Patrol area item 0) ⟨d, w⟩ d) ∧
    (∀ area item, ∃ e : Device, e = (d.countSat INTEG.T0_CES.COUNT).raise INTEG.flag.T0_CE 0 (area :: leBytes 6 item) (area :: leBytes 6 item) ∧
      (area ≠ 0 ∨ e.frame (lpnOf item) = none → Leads (.t0Patrol area item 1) ⟨d, w⟩ e) ∧
      (∀ times, area = 0 → (e.frame (lpnOf item)).isSome = true → times = e.time :: (KMap.get e.integ.fixes [] (lpnOf item)).filter (fun t => decide (e.time < t + 86400 * 1000000000)) →
        (times.length < 3 → Leads (.t0Patrol area item 1) ⟨d, w⟩ (e.setInteg { e.integ with fixes := KMap.put e.integ.fixes (lpnOf item) times })) ∧
        (3 ≤ times.length → ∃ f : Device, f = ((e.setInteg { e.integ with fixes := KMap.drop e.integ.fixes (lpnOf item) }).countSat INTEG.T0_FENCED.FRAMES).evt INTEG.flag.FENCED ∧
          Leads (.t0Patrol area item 1) ⟨d, w⟩ (({ f with tier := { f.tier with fenced := f.tier.fenced ++ [t0Set (lpnOf item)] } } : Device).evictFrame (lpnOf item))))) ∧
    (∀ item e, e = d.countSat INTEG.T0_UNCORRS.COUNT →
      (e.t0Line item = none → Leads (.t0Patrol 0 item 2) ⟨d, w⟩ e.proceed) ∧
      (∀ t f g, e.t0Line item = some t → e.frame (lpnOf item) = some f → g = { e with tier := { e.tier with frames := KMap.put e.tier.frames (lpnOf item) { f with lines := KMap.drop f.lines (item % 64) } } } →
        (t.dirty = false → Leads (.t0Patrol 0 item 2) ⟨d, w⟩ (g.raise INTEG.flag.T0_REFETCH 0 (0 :: leBytes 6 item) (0 :: leBytes 6 item)).proceed) ∧
        (t.dirty = true → e.twinServes = true → ∃ h : Device, h = { g with twin := { g.twin with fetches := g.twin.fetches ++ [(g.twin.nextFetch, item, 4)], nextFetch := g.twin.nextFetch + 1 } } ∧
          Leads (.t0Patrol 0 item 2) ⟨d, w⟩ (h.sendFetch g.twin.nextFetch item (h.reg INTEG.SCRUB_CTL.CLASS)).proceed) ∧
        (t.dirty = true → e.twinServes = false → Leads (.t0Patrol 0 item 2) ⟨d, w⟩
          ((e.putT0 item { data := 0, poison := true, dirty := true } f.cls).raise INTEG.flag.T0_UNCORR 0 (0 :: leBytes 6 item) (0 :: leBytes 6 item)).proceed)) ∧
      (e.chans.any (fun x => x.2.pinned.contains item) = true → ∀ old, old = LoafRec.ofWord (e.recordWord item) → Leads (.t0Patrol 1 item 2) ⟨d, w⟩
        (((e.chargeChange item (if old.ok then old else {}) { state := 4 }).writeRecord item 4).raise INTEG.flag.T0_UNCORR 0 (1 :: leBytes 6 item) (1 :: leBytes 6 item)).proceed) ∧
      (e.chans.any (fun x => x.2.pinned.contains item) = false → Leads (.t0Patrol 1 item 2) ⟨d, w⟩
        (({ e with tier := { e.tier with recCache := e.tier.recCache.filter (fun l => l != item) } } : Device).raise INTEG.flag.T0_REFETCH 0 (1 :: leBytes 6 item) (1 :: leBytes 6 item)).proceed) ∧
      (e.batch.home.find? (fun b => (KMap.find b.shadow item).isSome) = none → Leads (.t0Patrol 2 item 2) ⟨d, w⟩ e.proceed) ∧
      (∀ b, e.batch.home.find? (fun b => (KMap.find b.shadow item).isSome) = some b →
        (b.committing = false → Leads (.t0Patrol 2 item 2) ⟨d, w⟩ (e.abortBatch b 2).proceed) ∧
        (b.committing = true → b.sent = false → Leads (.t0Patrol 2 item 2) ⟨d, w⟩ (e.abortCommit b 2).proceed) ∧
        (b.committing = true → b.sent = true → ∃ g : Device, g = e.setBatch { b with shadow := KMap.put b.shadow item { data := 0, poison := true, dirty := true } } ∧
          (g.twinServes = false → Leads (.t0Patrol 2 item 2) ⟨d, w⟩ (g.raise INTEG.flag.T0_UNCORR 0 (2 :: leBytes 6 item) (2 :: leBytes 6 item)).proceed) ∧
          (g.twinServes = true → ∃ h : Device, h = { g with twin := { g.twin with fetches := g.twin.fetches ++ [(g.twin.nextFetch, item, 5)], nextFetch := g.twin.nextFetch + 1 } } ∧
            Leads (.t0Patrol 2 item 2) ⟨d, w⟩ (h.sendFetch g.twin.nextFetch item (h.reg INTEG.SCRUB_CTL.CLASS)).proceed))) ∧
      Leads (.t0Patrol 3 item 2) ⟨d, w⟩ ((e.dropBlocks item).raise INTEG.flag.T0_REFETCH 0 (3 :: leBytes 6 item) (3 :: leBytes 6 item)).proceed ∧
      Leads (.t0Patrol 4 item 2) ⟨d, w⟩ (e.raise INTEG.flag.T0_DIR 0 (4 :: leBytes 6 item) (4 :: leBytes 6 item)).proceed) ∧
    ((d.page .integ).lock = false →
      (d.flagReg INTEG.RETIRE_CMD.BUSY = false →
        Leads .retireRow ⟨d, w⟩ ((d.setInteg { d.integ with retire := some { op := 1, key := (d.retirePlace false).rowKey, result := d.retireResult false } }).setReg INTEG.RETIRE_CMD.BUSY 1) ∧
        Leads .retireBank ⟨d, w⟩ ((d.setInteg { d.integ with retire := some { op := 2, key := (d.retirePlace true).bankKey, result := d.retireResult true } }).setReg INTEG.RETIRE_CMD.BUSY 1)) ∧
      (d.flagReg INTEG.RETIRE_CMD.BUSY = true → Leads .retireRow ⟨d, w⟩ d ∧ Leads .retireBank ⟨d, w⟩ d)) ∧
    (d.integ.retire = none → Leads .retireDone ⟨d, w⟩ d) ∧
    (∀ run, d.integ.retire = some run →
      (d.retireWaits run = true → Leads .retireDone ⟨d, w⟩ d) ∧
      (∀ x, d.retireWaits run = false → (run.result = 0 → d.retireFits (run.op == 2) (run.bank) = false → x = 1) → (run.result ≠ 0 ∨ d.retireFits (run.op == 2) run.bank = true → x = run.result) →
        (x = 0 → (d.retireFetches run).isEmpty = false → Leads .retireDone ⟨d, w⟩ ((d.retireFetches run).foldl (fun e l => e.askTwin l (e.fetchKind l) (e.reg INTEG.SCRUB_CTL.CLASS)) d)) ∧
        (x ≠ 0 ∨ (d.retireFetches run).isEmpty = true → ∃ e f : Device, (x = 0 → e = d.retireApply run) ∧ (x ≠ 0 → e = d) ∧
          f = (((e.setInteg { e.integ with retire := none }).setReg INTEG.RETIRE_STAT.RESULT x).setReg INTEG.RETIRE_CMD.BUSY 0).evt INTEG.flag.RETIRE_DONE ∧
          (x = 0 → run.op = 2 → Leads .retireDone ⟨d, w⟩ f.recompute) ∧ (x ≠ 0 ∨ run.op ≠ 2 → Leads .retireDone ⟨d, w⟩ f))))

/-- For each message of the peer table other than STEW_REQ and STEW_RSP: on a link that is not ACTIVE, or has not passed its HELLO checks (a HELLO itself needs none), it changes nothing. On a mesh link, or without a place in a stream, its flits leave the receive buffer and its effect happens. On a twin link with a TSEQ: a number of the half before the next one to apply, and one that is kept already, is discarded; any other joins those kept, and both streams then apply what is due: of the first stream that has the next message of its order with nothing that the other must apply first, that message is applied, leaves those kept, and the stream expects the number after it; where neither has one nothing more happens. So a message ahead of its turn, with nothing else kept, is kept; the next one is applied at once. (R463, R467, R468, R469, R470) -/
def Obligations.PeerMessagesArriveOnce : Prop :=
  (∀ dest c, Arrives (fun v => .tableCmd v dest c) (.tableCmd dest c)) ∧
  (∀ dest line host win arr g, Arrives (fun v => .grantNotice v dest line host win arr g) (.grantNotice dest line host win arr g)) ∧
  (∀ dest arr, Arrives (fun v => .noticeFlush v dest arr) (.noticeFlush dest arr)) ∧
  (∀ c, Arrives (fun v => .dirUpd v c) (.dirUpd c)) ∧
  (∀ id line cls, Arrives (fun v => .twinFetch v id line cls) (.twinFetch id line cls)) ∧
  (∀ id data bad, Arrives (fun v => .fetchData v id data bad) (.fetchData id data bad)) ∧
  (∀ fid r, Arrives (fun v => .fwdReq v fid r) (.fwdReq fid r)) ∧
  (∀ fid a, Arrives (fun v => .fwdRsp v fid a) (.fwdRsp fid a)) ∧
  (∀ dest ref kind host win qla mode, Arrives (fun v => .snoopFwd v dest ref kind host win qla mode) (.snoopFwd dest ref.dev ref.sid kind host win qla mode)) ∧
  (∀ ref ans fin, Arrives (fun v => .snoopAns v ref ans fin) (.snoopAns ref.dev ref.sid ans fin.timedOut fin.host fin.win fin.last)) ∧
  (∀ line data bad cls e, Arrives (fun v => .mirrorLine v line data bad cls e) (.mirrorLine line data bad cls e)) ∧
  (∀ dut record cls, Arrives (fun v => .mirrorFail v dut record cls) (.mirrorFail dut record cls)) ∧
  (∀ dut line mask cls, Arrives (fun v => .mirrorOr v dut line mask cls) (.mirrorOr dut line mask cls)) ∧
  (∀ lpn l, Arrives (fun v => .mirrorRec v lpn l) (.mirrorRec lpn l)) ∧
  (∀ r, Arrives (fun v => .commitRec v r) (.commitRec r)) ∧
  (∀ stream tseq free l, Arrives (fun v => .csign v stream tseq free l) (.csign stream tseq free l)) ∧
  (∀ i, Arrives (fun v => .hello v i) (.hello i)) ∧
  (∀ i, Arrives (fun v => .state v i) (.state i)) ∧
  Arrives (fun v => .withdraw v) .withdraw ∧
  (∀ dest frm stage arg, Arrives (fun v => .handover v dest frm stage arg) (.handover dest frm stage arg)) ∧
  (∀ regions geos duts outcomes atomics gdeq gt0 key, Arrives (fun v => .rsTable v regions geos duts outcomes atomics gdeq gt0 key)
    (.rsTable regions geos duts outcomes atomics gdeq gt0 key)) ∧
  (∀ lpn l stream bad, Arrives (fun v => .rsLoaf v lpn l stream bad) (.rsLoaf lpn l stream bad)) ∧
  (∀ line data bad cls, Arrives (fun v => .rsLine v line data bad cls) (.rsLine line data bad cls)) ∧
  (∀ c, Arrives (fun v => .rsDir v c) (.rsDir c)) ∧
  Arrives (fun v => .rsDone v) .rsDone ∧
  (∀ t1 t2 t3 reply, Arrives (fun v => .timeSync v t1 t2 t3 reply) (.timeSync t1 t2 t3 reply)) ∧
  (∀ (d : Device) (n k : Nat) (m : StreamMsg), (k = 0 ∨ (k = 1 ∧ ∀ x, (d.stream 0).early.find? (fun y => y.tseq == (d.stream 0).applied) = some x → d.streamHolds 0 x.msg = true)) →
    (d.stream k).early.find? (fun y => y.tseq == (d.stream k).applied) = some m → d.streamHolds k m.msg = false →
    d.runStreams (n + 1) = ((d.setStream k { d.stream k with applied := (m.tseq + 1) % 65536, early := (d.stream k).early.filter (fun e => e.tseq != m.tseq) }).applyMsg
      (3 + k) k m.tseq m.msg m.bad).runStreams n) ∧
  (∀ (d : Device) (n : Nat), (∀ k x, k < 2 → (d.stream k).early.find? (fun y => y.tseq == (d.stream k).applied) = some x → d.streamHolds k x.msg = true) → d.runStreams n = d)

/-- A forwarded request is served like one of this device, with its answer due back on its link. A device that mirrors nothing (not in RESYNC, PAIRED or HANDING-OVER) takes no mirror and no directory change. In those states a mirrored line is held dirty in the hot-data cache (a line that is the poison token as poison), with its atomic outcome entry where it has one, and is then countersigned; a change of the lead's directory that frees an entry drops it and no other. A grant notice, a notice marker and a table command for another device are passed on towards it; a notice for this device is recorded, and a marker clears the wait for its sender alone. A table command for this device is, by its kind, a request to it as coordinator, a result, the end of one elsewhere, the end of a region's changes, or a command that it carries out; then what waits goes on. Resync messages at a device neither in RESYNC nor in JOIN change nothing; the first end of a resync is noted, the second one enters PAIRED. A time request is answered with the times of arrival and answer. A countersign that nothing awaits is counted in CSIGNS and gives the follow's free capacity. A mesh link whose HELLO fails a check carries no traffic from then on; the failure raises WIRING or CFG_MISMATCH once for each link and cause. (R154, R155, R339, R463, R464, R472, R473, R482, R486, R489, R496) -/
def Obligations.WhatPeerMessagesDo : Prop :=
  ∀ (d : Device) (p k t : Nat) (bad : Option Nat),
    (∀ fid r, d.applyMsg p k t (.fwdReq fid r) bad = d.route { r with origin := .forward p fid (Request.isHost r) }) ∧
    (∀ m, isMirror m = true → d.twin.svc ≠ .resync → d.twin.svc ≠ .paired → d.twin.svc ≠ .handingOver → d.applyMsg p k t m bad = d) ∧
    (d.twin.svc = .resync ∨ d.twin.svc = .paired ∨ d.twin.svc = .handingOver →
      (∀ line v pz cls, d.applyMsg p k t (.mirrorLine line v pz cls none) bad =
        (d.putT0 line { data := v, poison := pz || d.isToken line v, dirty := true } cls).sign k t none) ∧
      (∀ line v pz cls x e, e = d.putT0 line { data := v, poison := pz || d.isToken line v, dirty := true } cls →
        d.applyMsg p k t (.mirrorLine line v pz cls (some x)) bad =
          ({ e with site := { e.site with atomics := KMap.put e.site.atomics ((x.site * 4 + x.qid) * 16 + x.atag % 16) x } } : Device).sign k t none) ∧
      (∀ r, d.applyMsg p k t (.commitRec r) bad = (d.mirrorCommit r).sign k t none) ∧
      (∀ line, KMap.find (d.applyMsg p k t (.dirUpd (.free line)) bad).coh.dir line = none) ∧
      (∀ line other, other ≠ line → KMap.find (d.applyMsg p k t (.dirUpd (.free line)) bad).coh.dir other = KMap.find d.coh.dir other)) ∧
    (∀ dest line host win arr g, dest ≠ d.myArr →
      d.applyMsg p k t (.grantNotice dest line host win arr g) bad = d.tellDev dest line (.grantNotice dest line host win arr g)) ∧
    (∀ line host win arr g, d.applyMsg p k t (.grantNotice d.myArr line host win arr g) bad = d.followGrant line { host := host, win := win, arr := arr } g) ∧
    (∀ dest arr, dest ≠ d.myArr → d.applyMsg p k t (.noticeFlush dest arr) bad = d.tellDev dest 0 (.noticeFlush dest arr)) ∧
    (∀ arr x y, d.coh.flushWait = [x, arr, y] → x ≠ arr → y ≠ arr →
      (d.applyMsg p k t (.noticeFlush d.myArr arr) bad).coh.flushWait = [x, y]) ∧
    (∀ dest c, dest ≠ d.myArr → d.applyMsg p k t (.tableCmd dest c) bad = d.tellDev dest 0 (.tableCmd dest c)) ∧
    (∀ frm free busy c, d.applyMsg p k t (.tableCmd d.myArr (.ask frm free busy c)) bad =
      (d.takeAsk { frm := frm, free := free, busy := busy, cmd := c }).proceedAll) ∧
    (∀ fail code id r, d.applyMsg p k t (.tableCmd d.myArr (.result fail code id r)) bad = (d.gotResult fail code id r).proceedAll) ∧
    (∀ frm, d.applyMsg p k t (.tableCmd d.myArr (.done frm)) bad = (d.tableGot frm).proceedAll) ∧
    (∀ rid s, d.applyMsg p k t (.tableCmd d.myArr (.drop rid s)) bad = (d.dropHere rid s).proceedAll) ∧
    (∀ c, (∀ frm free busy x, c ≠ .ask frm free busy x) → (∀ fail code id r, c ≠ .result fail code id r) → (∀ frm, c ≠ .done frm) → (∀ rid s, c ≠ .drop rid s) →
      d.applyMsg p k t (.tableCmd d.myArr c) bad = (d.applyTable c).proceedAll) ∧
    (d.twin.svc ≠ .resync → d.twin.svc ≠ .join →
      (∀ a b c e f g h i, d.applyMsg p k t (.rsTable a b c e f g h i) bad = d) ∧ (∀ a b c e, d.applyMsg p k t (.rsLoaf a b c e) bad = d) ∧
      (∀ a b c e, d.applyMsg p k t (.rsLine a b c e) bad = d) ∧ (∀ c, d.applyMsg p k t (.rsDir c) bad = d) ∧ d.applyMsg p k t .rsDone bad = d) ∧
    (d.twin.svc = .resync →
      (d.twin.resyncAcked = false → d.applyMsg p k t .rsDone bad = { d with twin := { d.twin with resyncAcked := true } }) ∧
      (d.twin.resyncAcked = true → d.applyMsg p k t .rsDone bad = ({ d with twin := { d.twin with resyncAcked := false } } : Device).enterPaired false)) ∧
    (∀ t1 t2 t3, d.applyMsg p k t (.timeSync t1 t2 t3 false) bad = d.peerSend p none (.timeSync t1 d.time d.time true)) ∧
    (∀ s q free l, (∀ c ∈ d.coh.csWait, ¬ (c.stream = s ∧ c.tseq = q)) → d.applyMsg p k t (.csign s q free l) bad =
      (({ d with tier := { d.tier with followFree := some free } } : Device).capUpdate).countSat TWIN.CSIGNS.COUNT) ∧
    (∀ i c e, c = d.helloFails p i → c ≠ 0 → p < 3 → e = ({ d with twin := { d.twin with peerOk := d.twin.peerOk.filter (fun q => q != p) } } : Device) →
      e.twin.peerOk.contains p = false ∧
      (d.twin.failed.contains (p, c) = true → d.applyMsg p k t (.hello i) bad = e) ∧
      (d.twin.failed.contains (p, c) = false → d.applyMsg p k t (.hello i) bad =
        ({ e with twin := { e.twin with failed := d.twin.failed ++ [(p, c)] } } : Device).raise (if c = 3 ∨ c = 5 then TWIN.flag.CFG_MISMATCH else TWIN.flag.WIRING) 0 [p, c] [p, c]))

/-- RESYNC_START: with one running, without a twin link, or in any other pair of states it changes nothing; a receiver in JOIN with its twin SOLO enters RESYNC; a source in SOLO with its twin in JOIN or RESYNC takes a new poison key and sends the tables. RESYNC_STEP acts at the source alone: the next loaf waits for a retraining channel, then for the hosts that own its lines, then it is copied; after the last one both ends are sent and PAIRED is entered once every mirror is countersigned. RESYNC_INTERRUPT ends one: counted, raised; a receiver forgets what it placed and is in JOIN. SOLO_WAIT acts in JOIN alone: without a twin link, or on side B without a serving twin, it gives SOLO. A stopped heartbeat with a twin link up in PAIRED or HANDING-OVER raises HB_FAULT; else the twin is watched. A missing confirmation stops this device's heartbeat. The link wait loses the twin on side A alone. WITHDRAW_CMD starts a handover while both twins are PAIRED and none runs, else it is refused. RETAKE asks the twin, where this device does not lead. Batch wait, site drain and the reset timer act only in their step of a handover. REFORWARD sends again each forwarded request whose way is gone, commits and sent atomics apart. The time-base timer sends TIME_SYNC on each mesh and twin link in use, and a locked device without a route to its master loses the lock. A steward's access is served on a twin link by a device under stewardship, outside the barred words; its answer goes to management. (R464, R465, R478, R479, R484, R485, R490, R491, R492, R493, R496, R499) -/
def Obligations.ServiceStatesOfTheTwins : Prop :=
  ∀ (d : Device) (w : List Instr),
    (d.twin.resyncRun = true ∨ d.twinLinkUp = false → Leads .resyncStart ⟨d, w⟩ d) ∧
    (d.twin.resyncRun = false → d.twinLinkUp = true →
      (∀ e, d.twin.svc = .join → d.twin.twinSvc = .solo →
        e = (((({ d with twin := { d.twin with resyncRun := true, resyncSource := false, resyncPos := 0, resyncBytes := 0, resyncCur := [] } } : Device).setReg TWIN.RESYNC_STAT.RUN 1).setReg
          TWIN.RESYNC_STAT.SOURCE 0).setReg TWIN.RESYNC_POS.LPN 0).setReg TWIN.RESYNC_GIB.GIB 0 →
        Leads .resyncStart ⟨d, w⟩ (e.setSvc .resync)) ∧
      (∀ e, d.twin.svc = .solo → d.twin.twinSvc = .join ∨ d.twin.twinSvc = .resync →
        e = ((((({ d with twin := { d.twin with resyncRun := true, resyncSource := true, resyncPos := 0, resyncBytes := 0, resyncCur := [] } } : Device).setReg TWIN.RESYNC_STAT.RUN 1).setReg
          TWIN.RESYNC_STAT.SOURCE 1).setReg TWIN.RESYNC_POS.LPN 0).setReg TWIN.RESYNC_GIB.GIB 0).newPoisonKey →
        Leads .resyncStart ⟨d, w⟩ (e.twinSend 0 e.resyncTables).1) ∧
      (¬ (d.twin.svc = .join ∧ d.twin.twinSvc = .solo) → ¬ (d.twin.svc = .solo ∧ (d.twin.twinSvc = .join ∨ d.twin.twinSvc = .resync)) →
        Leads .resyncStart ⟨d, w⟩ d)) ∧
    (d.twin.resyncRun = false ∨ d.twin.resyncSource = false ∨ d.twin.svc ≠ .solo → Leads .resyncStep ⟨d, w⟩ d) ∧
    (d.twin.resyncRun = true → d.twin.resyncSource = true → d.twin.svc = .solo →
      (∀ lpn e f, d.resyncNext = some lpn → e = d.resyncSnoop lpn → f = e.resyncLoaf lpn →
        (d.resyncWaits lpn = true → Leads .resyncStep ⟨d, w⟩ d) ∧
        (d.resyncWaits lpn = false → e.resyncAwaits lpn = true → Leads .resyncStep ⟨d, w⟩ e) ∧
        (d.resyncWaits lpn = false → e.resyncAwaits lpn = false → Leads .resyncStep ⟨d, w⟩
          (({ f with twin := { f.twin with resyncPos := lpn + 1, resyncCur := [] } } : Device).setReg TWIN.RESYNC_POS.LPN (lpn + 1)))) ∧
      (∀ e, d.resyncNext = none → e = ({ d with twin := { d.twin with resyncPos := d.nloaf } } : Device).setReg TWIN.RESYNC_POS.LPN d.nloaf →
        (d.coh.csWait.isEmpty = false → Leads .resyncStep ⟨d, w⟩ e) ∧
        (d.coh.csWait.isEmpty = true → Leads .resyncStep ⟨d, w⟩ (((e.twinSend 0 .rsDone).1.twinSend 1 .rsDone).1.enterPaired true)))) ∧
    (d.twin.resyncRun = false → Leads .resyncInterrupt ⟨d, w⟩ d.joinStep) ∧
    (d.twin.resyncRun = true → ∀ e f, e = (((({ d with twin := { d.twin with resyncRun := false, resyncPos := 0, resyncBytes := 0 } } : Device).setReg
        TWIN.RESYNC_STAT.RUN 0).setReg TWIN.RESYNC_POS.LPN 0).setReg TWIN.RESYNC_GIB.GIB 0) → f = (e.countSat TWIN.RESYNCS_RESTARTED.COUNT).evt TWIN.flag.RESYNC_RESTART →
      (d.twin.svc ≠ .resync → Leads .resyncInterrupt ⟨d, w⟩ f.csAll.proceed.joinStep) ∧
      (d.twin.svc = .resync → ∀ g, g = f.wipeRecords.wipePages → Leads .resyncInterrupt ⟨d, w⟩
        (({ g with regions := {}, fail := {}, batch := { g.batch with outcomes := [] }, site := { g.site with atomics := [] } } : Device).setSvc .join).joinStep.joinStep)) ∧
    (d.twin.svc = .join → (d.side = 1 ∧ d.twinServes = false) ∨ d.twinLinkUp = false → Leads .soloWaitExpiry ⟨d, w⟩ d.enterSolo) ∧
    (d.twin.svc ≠ .join ∨ (d.twinLinkUp = true ∧ (d.side ≠ 1 ∨ d.twinServes = true)) → Leads .soloWaitExpiry ⟨d, w⟩ d) ∧
    (∀ e : Device, e = { d with twin := { d.twin with hbIn := false } } →
      ((d.twin.svc = .paired ∨ d.twin.svc = .handingOver) ∧ d.twinLinkUp = true → Leads .heartbeatTimeout ⟨d, w⟩ (e.raise TWIN.flag.HB_FAULT 0 [] [])) ∧
      (¬ ((d.twin.svc = .paired ∨ d.twin.svc = .handingOver) ∧ d.twinLinkUp = true) → Leads .heartbeatTimeout ⟨d, w⟩ e.twinWatch) ∧
      (d.twin.svc = .solo → Leads .heartbeatTimeout ⟨d, w⟩ e)) ∧
    Leads .hbConfirmMissing ⟨d, w⟩ { d with twin := { d.twin with confirm := false, hbOut := false } } ∧
    ((d.twin.svc = .paired ∨ d.twin.svc = .handingOver) → d.twinLinkUp = false → d.twin.hbIn = true → d.side = 0 →
      Leads .twinLinksWaitExpiry ⟨d, w⟩ (d.raise TWIN.flag.HB_FAULT 0 [] []).twinLost) ∧
    (d.twinLinkUp = true ∨ d.twin.hbIn = false ∨ d.side ≠ 0 ∨ (d.twin.svc ≠ .paired ∧ d.twin.svc ≠ .handingOver) → Leads .twinLinksWaitExpiry ⟨d, w⟩ d) ∧
    (d.twin.svc ≠ .paired ∨ d.twin.twinSvc ≠ .paired ∨ d.twin.hand.isNone = false ∨ d.twin.gained.isEmpty = false →
      Leads .withdrawCmd ⟨d, w⟩ (d.raise TWIN.flag.HANDOVER_REFUSED 0 [] [])) ∧
    (d.twin.svc = .paired → d.twin.twinSvc = .paired → d.twin.hand.isNone = true → d.twin.gained.isEmpty = true →
      Leads .withdrawCmd ⟨d, w⟩ ((({ d with twin := { d.twin with hand := some { withdraw := true }, cut := [] } } : Device).setSvc .handingOver).handStep)) ∧
    (d.twin.svc ≠ .paired ∨ d.twin.twinSvc ≠ .paired ∨ d.twin.leads = true ∨ d.twin.gained.isEmpty = false → Leads .retake ⟨d, w⟩ d) ∧
    (d.twin.svc = .paired → d.twin.twinSvc = .paired → d.twin.leads = false → d.twin.gained.isEmpty = true →
      Leads .retake ⟨d, w⟩ (d.twinSend 0 (.handover d.twinArr d.myArr 3 0)).1) ∧
    (d.twin.hand = none → Leads .batchWaitExpiry ⟨d, w⟩ d ∧ Leads .siteDrainDone ⟨d, w⟩ d) ∧
    (∀ h, d.twin.hand = some h →
      (h.step = 0 → Leads .batchWaitExpiry ⟨d, w⟩ (((d.handBatches h).filter (fun b => !b.committing)).foldl (fun (e : Device) b => e.abortBatch b 6) d).proceedAll) ∧
      (h.step ≠ 0 → Leads .batchWaitExpiry ⟨d, w⟩ d) ∧
      (h.step ≠ 2 ∨ d.site.ports.any (fun e => !e.2.reqs.isEmpty) = true → Leads .siteDrainDone ⟨d, w⟩ d) ∧
      (h.step = 2 → d.site.ports.any (fun e => !e.2.reqs.isEmpty) = false → ∀ e, e = (d.withdraw 2).evt TWIN.flag.HANDOVER_DONE →
        Leads .siteDrainDone ⟨d, w⟩ { e with twin := { e.twin with resetAfter := !(e.flagReg TWIN.HANDOVER_CTL.HOLD) } })) ∧
    (d.twin.resetAfter = false → Leads .handoverResetTimer ⟨d, w⟩ d) ∧
    (d.twin.resetAfter = true → Leads .handoverResetTimer ⟨d, w⟩ (d.deviceReset 6)) ∧
    Leads .reforward ⟨d, w⟩ ((d.twin.forwards.filter (fun f => !(d.fwdGood f) && !f.once)).foldl Device.fwdAgain
      { d with twin := { d.twin with forwards := d.twin.forwards.filter (fun f => d.fwdGood f || f.once) } }) ∧
    (∀ (e : Device) f, (e.regionOf f.req.qla = none → f.link.isSome = true → e.fwdAgain f = (e.countSat TWIN.REFORWARDS.COUNT).route f.req) ∧
      (f.link = none → e.fwdAgain f = e.route f.req)) ∧
    (∀ e : Device, e = [0, 1, 2, 3, 4].foldl (fun (e : Device) p =>
        if (e.link (.peer p)).state = .active ∧ e.twin.peerOk.contains p = true then e.peerSend p none (.timeSync e.time 0 0 false) else e) d →
      (e.twin.timeLocked = false ∨ (∃ a, e.coordinator = some a ∧ (a = e.myArr ∨ (e.routeTo a).isSome = true)) → Leads .timeSyncTimer ⟨d, w⟩ e) ∧
      (e.twin.timeLocked = true → e.coordinator = none ∨ (∃ a, e.coordinator = some a ∧ a ≠ e.myArr ∧ (e.routeTo a).isNone = true) →
        ∃ g : Device, g = (e.evt TWIN.flag.TIME_UNLOCK).setReg TWIN.TIME_STAT.LOCKED 0 ∧
        Leads .timeSyncTimer ⟨d, w⟩ { g with twin := { g.twin with timeLocked := false } })) ∧
    (∀ v id addr x, (v.p < 3 ∨ d.mayArrive v.p (.stewReq id addr x) = false → Leads (.stewReq v id addr x) ⟨d, w⟩ d) ∧
      (3 ≤ v.p → d.mayArrive v.p (.stewReq id addr x) = true → ∀ e, e = d.consumeMsg v.p (.stewReq id addr x) →
        (e.twin.stewarded = false ∨ e.stewBarred addr = true → Leads (.stewReq v id addr x) ⟨d, w⟩ (e.peerSend v.p none (.stewRsp id false 0))) ∧
        (e.twin.stewarded = true → e.stewBarred addr = false →
          (addr % 4 ≠ 0 → Leads (.stewReq v id addr x) ⟨d, w⟩ ((e.badAccess .steward addr 4).peerSend v.p none (.stewRsp id true 0))) ∧
          (∀ y, addr % 4 = 0 → x = some y → Leads (.stewReq v id addr x) ⟨d, w⟩ ((e.writeReg .steward addr y).peerSend v.p none (.stewRsp id true 0))) ∧
          (addr % 4 = 0 → x = none → Leads (.stewReq v id addr x) ⟨d, w⟩
            ((e.readReg .steward addr).1.peerSend v.p none (.stewRsp id true (e.readReg .steward addr).2)))))) ∧
    (∀ v id ok value, (v.p < 3 ∨ d.mayArrive v.p (.stewRsp id ok value) = false → Leads (.stewRsp v id ok value) ⟨d, w⟩ d) ∧
      (3 ≤ v.p → d.mayArrive v.p (.stewRsp id ok value) = true → Leads (.stewRsp v id ok value) ⟨d, w⟩
        ((d.consumeMsg v.p (.stewRsp id ok value)).send (.regValue .steward id (if ok then value else 0)))))

/-- A cold start with AUX lost, and a device reset with main power off or of no cause of the table, change nothing; the others reset the device. DEV_RST_L low resets the device and holds the Hub in reset, and does nothing more while it is low; its release ends the hold. A channel in training that trains becomes ACTIVE, at the rate read from its SPD or else the device's, with its result stored, and raises FULL_TRAIN where training was full; one that fails its first or second attempt counts it; the third failure fails the channel; a channel not in training, or one while the Hub is down, changes nothing. Start-up ends only with the Hub up, in START, unheld, with firmware running and every channel in service (or FAILED by its codec); where the Mint gives no key it holds instead, else the device enters JOIN with a new poison key. A flit with a bad CRC on a link inside the package counts a replay and raises its flag, the 17th in a row or the replay limit raises the link's fail flag and clears the count; a good one clears the count; a link that does not exist changes nothing; the sideband does the same with its flags. (R22, R23, R402, R425, R464, R465, R628, R629, R630, R632, R638) -/
def Obligations.ResetsAndPackageLinks : Prop :=
  ∀ (d : Device) (w : List Instr),
    (d.power.auxOk = false → Leads .coldStart ⟨d, w⟩ d) ∧
    (d.power.auxOk = true → Leads .coldStart ⟨d, w⟩ d.coldStart) ∧
    (∀ cause, d.power.mainOn = false ∨ 6 < cause → Leads (.deviceReset cause) ⟨d, w⟩ d) ∧
    (∀ cause, d.power.mainOn = true → cause ≤ 6 → Leads (.deviceReset cause) ⟨d, w⟩ (d.deviceReset cause)) ∧
    (d.power.hubReset = true → Leads .devRstLAssert ⟨d, w⟩ d) ∧
    (d.power.hubReset = false → ∀ e, e = d.deviceReset 0 → Leads .devRstLAssert ⟨d, w⟩ { e with power := { e.power with hubReset := true } }) ∧
    Leads .devRstLRelease ⟨d, w⟩ { d with power := { d.power with hubReset := false } } ∧
    (∀ c x, x = d.chan c → d.hubUp = true → c < 16 → x.state = .training →
      (∀ e, x.fast = false → e = (d.setReg DDRCH.CH_STAT.FAST_TRAIN 0 c).evt DDRCH.flag.FULL_TRAIN c → Leads (.channelTrainingDone c true) ⟨d, w⟩ (e.setChan c
        { x with state := .active, attempts := 0, rate := if x.spdRead = true then x.rate else e.trainRate, fast := true, spdRead := !(e.hw.popBad.any (fun y => y.1 == c)) })) ∧
      (∀ e, x.fast = true → e = d.setReg DDRCH.CH_STAT.FAST_TRAIN 1 c → Leads (.channelTrainingDone c true) ⟨d, w⟩ (e.setChan c
        { x with state := .active, attempts := 0, rate := if x.spdRead = true then x.rate else e.trainRate, fast := true, spdRead := !(e.hw.popBad.any (fun y => y.1 == c)) })) ∧
      (x.attempts < 2 → Leads (.channelTrainingDone c false) ⟨d, w⟩ (d.setChan c { x with attempts := x.attempts + 1 })) ∧
      (2 ≤ x.attempts → Leads (.channelTrainingDone c false) ⟨d, w⟩ (d.failChannel c))) ∧
    (∀ c ok, d.hubUp = false ∨ (d.chan c).state ≠ .training ∨ 16 ≤ c → Leads (.channelTrainingDone c ok) ⟨d, w⟩ d) ∧
    (d.hubUp = false ∨ d.twin.svc ≠ .start ∨ d.power.hold = true ∨ d.sec.run = none ∨ (∃ c, c < 16 ∧ d.startsWith c = false) →
      Leads .startEnd ⟨d, w⟩ d) ∧
    (d.hubUp = true → d.twin.svc = .start → d.power.hold = false → d.sec.run.isSome = true → (∀ c, c < 16 → d.startsWith c = true) →
      (d.mintOk = true → Leads .startEnd ⟨d, w⟩ ((d.newPoisonKey.setSvc .join).recompute).joinStep) ∧
      (d.mintOk = false → Leads .startEnd ⟨d, w⟩ (({ d with power := { d.power with hold := true } } : Device).secEvent 105 0x10 0 0 0))) ∧
    (∀ c, (d.chan c).inService = true ∨ ((d.chan c).state = .failed ∧ d.hw.codecBad.contains c = true) ↔ d.startsWith c = true) ∧
    (∀ n, n < 6 →
      Leads (.d2dFlitReceive n true) ⟨d, w⟩ { d with power := { d.power with d2d := KMap.drop d.power.d2d n } } ∧
      (KMap.get d.power.d2d 0 n < 16 → Leads (.d2dFlitReceive n false) ⟨d, w⟩
        (({ d with power := { d.power with d2d := KMap.put d.power.d2d n (KMap.get d.power.d2d 0 n + 1) } } : Device).raise (d2dReplay n) 0 [n] [n])) ∧
      (16 ≤ KMap.get d.power.d2d 0 n → Leads (.d2dFlitReceive n false) ⟨d, w⟩
        (({ d with power := { d.power with d2d := KMap.drop d.power.d2d n } } : Device).raise (d2dFail n) 0 [n] [n])) ∧
      Leads (.d2dReplayLimit n) ⟨d, w⟩ (({ d with power := { d.power with d2d := KMap.drop d.power.d2d n } } : Device).raise (d2dFail n) 0 [n] [n])) ∧
    (∀ n ok, 6 ≤ n → Leads (.d2dFlitReceive n ok) ⟨d, w⟩ d ∧ Leads (.d2dReplayLimit n) ⟨d, w⟩ d) ∧
    Leads (.sbFrameReceive true) ⟨d, w⟩ { d with power := { d.power with sbTries := 0 } } ∧
    (d.power.sbTries < 16 → Leads (.sbFrameReceive false) ⟨d, w⟩
      (({ d with power := { d.power with sbTries := d.power.sbTries + 1 } } : Device).raise RST.flag.SB_RETRY 0 [] [])) ∧
    (16 ≤ d.power.sbTries → Leads (.sbFrameReceive false) ⟨d, w⟩
      (({ d with power := { d.power with sbTries := 0 } } : Device).raise RST.flag.SB_FAIL 0 [] [])) ∧
    Leads .sbFail ⟨d, w⟩ (({ d with power := { d.power with sbTries := 0 } } : Device).raise RST.flag.SB_FAIL 0 [] [])

/-- A change of an error line raises that flag of its page (a security flag with a class writes its SECURITY record); a line or page that does not exist changes nothing. A lockstep mismatch or watchdog of a pair that runs stops it, raises the pair's flag and writes a MGMT record; where the other pair runs it is active from then on if this one was, where it does not management is gone (R498); of a pair that has stopped, or while the Hub is down, it changes nothing. A timer of a source with a UC fault that has run ESC_MS marks the source escalated, counts, writes the escalation record and raises a fatal fault; an earlier one, and one of a source without a UC fault or a running timer, changes nothing. The fatal reaction contains the host links, withdraws, writes its records, and then resets the device; after a THERM_TRIP it trips instead, and a device that has lost management without a steward holds still; without a pending fatal fault it changes nothing. FC_PARITY raises its flag. Acknowledging FT_STAT clears PEND and nothing else. FC_TEST raises TEST with the class written, as a new fault where the class differs from the last one; a locked page refuses and counts it. A die that stops responding raises its flag once. An entry of the coalescing table closes COALESCE_MS after it was opened, not earlier. (R498, R507, R509, R510, R511, R512, R514, R518, R522, R530, R541, R543) -/
def Obligations.FaultsEscalationAndTheFatalReaction : Prop :=
  ∀ (d : Device) (w : List Instr),
    (∀ p i f info, p.errFlags.find? (fun x => x.bit == f.bit) = some f → i < Page.count d.hw.gradeH p →
      ((p ≠ .mint ∧ p ≠ .secalm) ∨ f.cls = .none → Leads (.errorLineChange p i f.bit info) ⟨d, w⟩ (d.raise f i info info)) ∧
      (p = .mint ∨ p = .secalm → f.cls ≠ .none → Leads (.errorLineChange p i f.bit info) ⟨d, w⟩
        (d.secFault f (secCode f) (info.headD 0) (info.getD 1 0) (ofLe (info.drop 2))))) ∧
    (∀ p i bit info, p.errFlags.find? (fun x => x.bit == bit) = none ∨ Page.count d.hw.gradeH p ≤ i → Leads (.errorLineChange p i bit info) ⟨d, w⟩ d) ∧
    (d.hubUp = true → d.mgmt.run0 = true → d.mgmt.run1 = true →
      (∀ e, e = ({ d with mgmt := { d.mgmt with run0 := false, active := if d.mgmt.active = 0 then 1 else d.mgmt.active } } : Device) →
        Leads (.lockstepMismatch 0) ⟨d, w⟩ ((e.raise MGMT.flag.PAIR0_STOP 0 [] []).mgmtRecord 0 0) ∧
        Leads (.mgmtWatchdogExpiry 0) ⟨d, w⟩ ((e.raise MGMT.flag.PAIR0_STOP 0 [] []).mgmtRecord 0 0)) ∧
      (∀ e, e = ({ d with mgmt := { d.mgmt with run1 := false, active := if d.mgmt.active = 1 then 0 else d.mgmt.active } } : Device) →
        Leads (.lockstepMismatch 1) ⟨d, w⟩ ((e.raise MGMT.flag.PAIR1_STOP 0 [] []).mgmtRecord 0 1) ∧
        Leads (.mgmtWatchdogExpiry 1) ⟨d, w⟩ ((e.raise MGMT.flag.PAIR1_STOP 0 [] []).mgmtRecord 0 1))) ∧
    (d.hubUp = true → d.mgmt.run0 = true → d.mgmt.run1 = false → ∀ e, e = ({ d with mgmt := { d.mgmt with run0 := false } } : Device) →
      Leads (.lockstepMismatch 0) ⟨d, w⟩ (((e.raise MGMT.flag.PAIR0_STOP 0 [] []).mgmtRecord 0 0).mgmtGone 0) ∧
      Leads (.mgmtWatchdogExpiry 0) ⟨d, w⟩ (((e.raise MGMT.flag.PAIR0_STOP 0 [] []).mgmtRecord 0 0).mgmtGone 0)) ∧
    (d.hubUp = true → d.mgmt.run1 = true → d.mgmt.run0 = false → ∀ e, e = ({ d with mgmt := { d.mgmt with run1 := false } } : Device) →
      Leads (.lockstepMismatch 1) ⟨d, w⟩ (((e.raise MGMT.flag.PAIR1_STOP 0 [] []).mgmtRecord 0 1).mgmtGone 1) ∧
      Leads (.mgmtWatchdogExpiry 1) ⟨d, w⟩ (((e.raise MGMT.flag.PAIR1_STOP 0 [] []).mgmtRecord 0 1).mgmtGone 1)) ∧
    (∀ n, 2 ≤ n ∨ (if n = 0 then d.mgmt.run0 else d.mgmt.run1) = false ∨ d.hubUp = false →
      Leads (.lockstepMismatch n) ⟨d, w⟩ d ∧ Leads (.mgmtWatchdogExpiry n) ⟨d, w⟩ d) ∧
    (∀ s since flag e, KMap.find d.fc.timers s = some (.running since flag) → d.sourceHas s .uc = true → since + 1000000 * d.reg FC.FC_CTL.ESC_MS ≤ d.power.aon →
      e = (({ d with fc := { d.fc with timers := KMap.put d.fc.timers s .expired, escalated := d.fc.escalated ++ [s] } } : Device).countSat FC.ESCALATIONS.COUNT) →
      Leads (.escalationExpiry s) ⟨d, w⟩
        ((e.record { seq := 0, time := 0, type := 0x0011, source := s, cls := 3, escalated := true, detail := e.summaryBytes ++ [flag] } []).raiseFatal s true)) ∧
    (∀ s, d.sourceHas s .uc = false ∨ KMap.find d.fc.timers s = none ∨ KMap.find d.fc.timers s = some .expired ∨
      (∃ since flag, KMap.find d.fc.timers s = some (.running since flag) ∧ d.power.aon < since + 1000000 * d.reg FC.FC_CTL.ESC_MS) → Leads (.escalationExpiry s) ⟨d, w⟩ d) ∧
    (d.fc.ftPending = [] ∨ d.hubUp = false → Leads .fatalReaction ⟨d, w⟩ d) ∧
    (d.hubUp = true → d.fc.ftPending ≠ [] → ∀ held e, held = (d.twin.mgmtLost && !d.twin.stewarded) → e = ((d.containAll 4).withdraw 1).fatalRecords held →
      ((d.page .pwr).err.getLsbD PWR.flag.THERM_TRIP.bit = true → Leads .fatalReaction ⟨d, w⟩ (e.trip 8)) ∧
      ((d.page .pwr).err.getLsbD PWR.flag.THERM_TRIP.bit = false → held = false → Leads .fatalReaction ⟨d, w⟩ (e.deviceReset 1)) ∧
      ((d.page .pwr).err.getLsbD PWR.flag.THERM_TRIP.bit = false → held = true → e.twin.held500 = false → Leads .fatalReaction ⟨d, w⟩ (e.holdStill.setReg FC.ERRL_CFG.FORCED 1)) ∧
      ((d.page .pwr).err.getLsbD PWR.flag.THERM_TRIP.bit = false → held = true → e.twin.held500 = true → Leads .fatalReaction ⟨d, w⟩ (e.setReg FC.ERRL_CFG.FORCED 1))) ∧
    Leads .fcParity ⟨d, w⟩ (d.raise FC.flag.FC_PARITY 0 [] []) ∧
    Leads .ftStatAck ⟨d, w⟩ (d.setReg FC.FT_STAT.PEND 0) ∧
    (∀ cls, (d.page .fc).lock = true → Leads (.fcTestRaise cls) ⟨d, w⟩ (d.setPage .fc 0 { d.page .fc with lockedWrites := min ((d.page .fc).lockedWrites + 1) 65535 })) ∧
    (∀ cls e c, (d.page .fc).lock = false → e = d.store FC.FC_TEST.CLASS cls → c = FaultClass.ofCode (e.reg FC.FC_TEST.CLASS) →
      (e.fc.testCls = c → Leads (.fcTestRaise cls) ⟨d, w⟩ (e.raise FC.flag.TEST 0 [] [])) ∧
      (e.fc.testCls ≠ c → ∀ g, g = e.dropErr FC.flag.TEST → Leads (.fcTestRaise cls) ⟨d, w⟩ (({ g with fc := { g.fc with testCls := c } } : Device).raise FC.flag.TEST 0 [] []))) ∧
    (∀ t, t < 4 → d.tier.diesOut.contains t = false → Leads (.t0DieFail t) ⟨d, w⟩
      (({ d with tier := { d.tier with diesOut := d.tier.diesOut ++ [t] } } : Device).raise
        ([FC.flag.T0_DIE_FAIL_0, FC.flag.T0_DIE_FAIL_1, FC.flag.T0_DIE_FAIL_2].getD t FC.flag.T0_DIE_FAIL_3) 0 [t] [t])) ∧
    (∀ t, 4 ≤ t ∨ d.tier.diesOut.contains t = true → Leads (.t0DieFail t) ⟨d, w⟩ d) ∧
    (∀ n e, d.ldg.coal[n]? = some e →
      (e.opened + 1000000 * d.reg LEDGER.LDG_CTL.COALESCE_MS ≤ d.power.aon → Leads (.coalesceExpiry n) ⟨d, w⟩
        (({ d with ldg := { d.ldg with coal := d.ldg.coal.eraseIdx n } } : Device).closeCoalesce e)) ∧
      (d.power.aon < e.opened + 1000000 * d.reg LEDGER.LDG_CTL.COALESCE_MS → Leads (.coalesceExpiry n) ⟨d, w⟩ d)) ∧
    (∀ n, d.ldg.coal.length ≤ n → Leads (.coalesceExpiry n) ⟨d, w⟩ d)

/-- With nothing queued, the end of a program changes nothing. A verified record leaves the queue, is stored at the writer's place with its sector's program count one higher, joins the last-words ring, and the writer moves on; after that the ledger holds exactly that record at that place, where its SEQ is not the last one and its sector lives on. The record with the last SEQ seals the ledger, and a sector at the end of its life (10^9 programs) retires. A failed verify leaves the record in front of the queue and retires the sector. LDG_INFO, LDG_READ, LDG_LAST_WORDS, FC_SNAPSHOT and SECTOR_MAP answer with AUX present and change nothing else; out of their ranges they answer BAD_ARG (3); LDG_READ of n records answers those that are present, with the status TORN where one is torn, else NOT_PRESENT where one is absent; without AUX none answers. RD_CMD copies the record with the SEQ, or the place of the last-words ring, to RD_DATA, or sets only its RESULT where there is none or it is torn. A NOTE beyond 100 in a second of the always-on clock is counted as dropped; an earlier one is recorded. (R523, R524, R525, R529, R532, R535, R538, R539) -/
def Obligations.LedgerWriterAndReaders : Prop :=
  ∀ (d : Device) (w : List Instr),
    (∀ ok, d.ldg.queue = [] → Leads (.ledgerProgramDone ok) ⟨d, w⟩ d) ∧
    (∀ r rest sec n g, d.ldg.queue = r :: rest → sec = d.ldg.sectorAt d.ldg.pos → n = KMap.get d.ldg.counts 0 sec + 1 →
      g = (({ d.ldg with counts := KMap.put d.ldg.counts sec n, queue := rest, recs := KMap.put d.ldg.recs (64 * d.ldg.pos + d.ldg.slot) r } : Ledger).pushLast r).advance →
      g.queue = rest ∧ KMap.find g.recs (64 * d.ldg.pos + d.ldg.slot) = some r ∧
      (r.seq ≠ 2 ^ 64 - 1 → n < 10 ^ 9 → Leads (.ledgerProgramDone true) ⟨d, w⟩ { d with ldg := g }) ∧
      (r.seq ≠ 2 ^ 64 - 1 → 10 ^ 9 ≤ n → Leads (.ledgerProgramDone true) ⟨d, w⟩ (({ d with ldg := g } : Device).retireSector d.ldg.pos)) ∧
      (r.seq = 2 ^ 64 - 1 → n < 10 ^ 9 → Leads (.ledgerProgramDone true) ⟨d, w⟩ (({ d with ldg := g } : Device).seals.ledgerRecord 2 sec)) ∧
      (r.seq = 2 ^ 64 - 1 → 10 ^ 9 ≤ n → Leads (.ledgerProgramDone true) ⟨d, w⟩ ((({ d with ldg := g } : Device).seals.ledgerRecord 2 sec).retireSector d.ldg.pos)) ∧
      Leads (.ledgerProgramDone false) ⟨d, w⟩ (({ d with ldg := { d.ldg with counts := KMap.put d.ldg.counts sec n } } : Device).retireSector d.ldg.pos)) ∧
    (d.power.auxOk = false → Leads .ldgInfo ⟨d, w⟩ d ∧ (∀ s q n, Leads (.ldgRead s q n) ⟨d, w⟩ d) ∧ (∀ i, Leads (.ldgLastWords i) ⟨d, w⟩ d) ∧
      Leads .fcSnapshot ⟨d, w⟩ d ∧ (∀ f, Leads (.sectorMap f) ⟨d, w⟩ d)) ∧
    (d.power.auxOk = true →
      Leads .ldgInfo ⟨d, w⟩ (d.send (.endpoint 0x20 0 (leBytes 8 d.ldg.headSeq ++ leBytes 8 d.ldg.oldestSeq ++ leBytes 4 d.ldgStat ++ leBytes 4 d.ftStat
        ++ leBytes 4 (d.reg LEDGER.RECORDS_LOST.COUNT)))) ∧
      (∀ s q n, n = 0 ∨ 4 < n ∨ (s = true ∧ n = 4) → Leads (.ldgRead s q n) ⟨d, w⟩ (d.send (.endpoint 0x21 3 []))) ∧
      (∀ s q n rs b, 0 < n → n ≤ 3 ∨ (s = false ∧ n = 4) → rs = (List.range n).map (fun i => d.ldg.readSeq (q + i)) →
        b = rs.flatMap (fun r => (r.2.map Record.bytes).getD []) →
        (rs.any (fun r => r.1 == 2) = true → Leads (.ldgRead s q n) ⟨d, w⟩ (d.send (.endpoint 0x21 2 b))) ∧
        (rs.any (fun r => r.1 == 2) = false → rs.any (fun r => r.1 == 1) = true → Leads (.ldgRead s q n) ⟨d, w⟩ (d.send (.endpoint 0x21 1 b))) ∧
        (rs.any (fun r => r.1 == 2) = false → rs.any (fun r => r.1 == 1) = false → Leads (.ldgRead s q n) ⟨d, w⟩ (d.send (.endpoint 0x21 0 b)))) ∧
      (∀ i, 64 ≤ i → Leads (.ldgLastWords i) ⟨d, w⟩ (d.send (.endpoint 0x22 3 []))) ∧
      (∀ i r, i < 64 → d.ldg.lastWords[i]? = some r → Leads (.ldgLastWords i) ⟨d, w⟩ (d.send (.endpoint 0x22 0 r.bytes))) ∧
      (∀ i, i < 64 → d.ldg.lastWords[i]? = none → Leads (.ldgLastWords i) ⟨d, w⟩ (d.send (.endpoint 0x22 1 []))) ∧
      Leads .fcSnapshot ⟨d, w⟩ (d.send (.endpoint 0x23 0 (leBytes 16 d.fc.snapshot.toNat ++
        leBytes 4 (min ((d.power.aon - d.fc.snapshotAt) / 1000) (2 ^ 32 - 1)) ++ [if d.strongboxSees then 0 else 1]))) ∧
      (∀ f, 1504 < f → Leads (.sectorMap f) ⟨d, w⟩ (d.send (.endpoint 0x24 3 []))) ∧
      (∀ f, f ≤ 1504 → Leads (.sectorMap f) ⟨d, w⟩ (d.send (.endpoint 0x24 0 ((List.range 32).flatMap (fun i =>
        leBytes 8 (KMap.get d.ldg.counts 0 (f + i) % 2 ^ 40 + 2 ^ 40 * d.ldg.sectorState (f + i)))))))) ∧
    (∀ last i e st r, e = (d.setReg LEDGER.RD_CMD.LAST_WORDS (if last = true then 1 else 0)).setReg LEDGER.RD_CMD.INDEX i →
      (if last = true then e.ldg.readLast (i % 64) else e.ldg.readSeq (e.regPair LEDGER.RD_SEQ_LO.SEQ LEDGER.RD_SEQ_HI.SEQ)) = (st, r) →
      (r = none → Leads (.rdCmdStart last i) ⟨d, w⟩ (e.setReg LEDGER.RD_CMD.RESULT st)) ∧
      (∀ x, r = some x → Leads (.rdCmdStart last i) ⟨d, w⟩
        ((rdData.zip (chunk 4 16 x.bytes)).foldl (fun (e : Device) x => e.setReg x.1 (ofLe x.2)) (e.setReg LEDGER.RD_CMD.RESULT st)))) ∧
    (∀ (g : Ledger) q, (∀ r, r ∈ KMap.vals g.recs → r.seq ≠ q) → g.readSeq q = (1, none)) ∧
    (∀ (g : Ledger) q, (∃ r, r ∈ KMap.vals g.recs ∧ r.seq = q) → (∀ r, r ∈ KMap.vals g.recs → r.seq = q → r.torn = true) → g.readSeq q = (2, none)) ∧
    (∀ g : Ledger, g = (if d.ldg.noteSecond = d.power.aon / 10 ^ 9 then d.ldg else { d.ldg with noteSecond := d.power.aon / 10 ^ 9, notes := 0 }) →
      (100 ≤ g.notes → Leads .noteCmdAppend ⟨d, w⟩ (({ d with ldg := g } : Device).countSat LEDGER.NOTES_DROPPED.COUNT)) ∧
      (g.notes < 100 → ∀ det, det = noteData.flatMap (fun f => leBytes 4 (d.reg f)) →
        Leads .noteCmdAppend ⟨d, w⟩ (({ d with ldg := { g with notes := g.notes + 1 } } : Device).record
          { seq := 0, time := 0, type := 0x00F0, source := 0xFF, cls := 0, pageId := 0, detail := det } det)))

/-- A link in DETECT that gets lock enters TS1 with the lanes it found. In TS1 every training flit is noted with its LINK_ID; the first seven are counted and the eighth leads to TS2, where the link sends TS2. A TS1 in TS2 breaks the count; on an ACTIVE link a training flit takes the link down with cause 5. In TS2 a TS2 flit of another role, or with credits or lanes that do not fit, fails the training with its flag; a good one is counted (anew where its fields differ, the LANE apart) and answered by a TS2; the eighth identical one, with sixteen sent, leads to END, and TS_END 3, 2, 1, 0 are sent. TS_END ends training in TS2 and END, and the fourth TS_END sent ends it in END, with the partner's last fields. A training timeout in a training state raises its flag and fails the training. QUIET that ends leads to DETECT. A grace timer that runs on a link neither ACTIVE nor asleep raises its flag and flushes the link to the next epoch, and in TS2 the TS2 flits count anew. Enabling acts only on a DISABLED link that may be enabled. A retrain of an ACTIVE link tells the partner; a link that is neither QUIET nor DISABLED goes down with cause 7; on those the bit is set. FORCE_NEW sets its bit on a link of the device. A margin result is kept for its receiver. A link in another state than those named is unchanged. (R201, R212, R213, R214, R215, R216, R237, R238, R242, R245, R247) -/
def Obligations.LinkTraining : Prop :=
  ∀ (d : Device) (w : List Instr) (k : LinkId) (x : Link), x = d.link k →
    (∀ lanes, (x.state = .detect → Leads (.lockAcquired k lanes) ⟨d, w⟩ (d.setLink k { x with state := .ts1, trainCount := 0, lanes := lanes % 65536 })) ∧
      (x.state ≠ .detect → Leads (.lockAcquired k lanes) ⟨d, w⟩ d)) ∧
    (∀ f e, x.state = .ts1 → e = d.setLink k { x with heard := some (f.linkId, f.port) } →
      (x.trainCount < 7 → Leads (.ts1 ⟨k, f⟩) ⟨d, w⟩ (e.setLink k { e.link k with trainCount := x.trainCount + 1 }) ∧
        Leads (.ts2 k f) ⟨d, w⟩ (e.setLink k { e.link k with trainCount := x.trainCount + 1 })) ∧
      (7 ≤ x.trainCount → Leads (.ts1 ⟨k, f⟩) ⟨d, w⟩ ((e.setLink k { e.link k with state := .ts2, trainCount := 0, ts2Sent := 0, lastTs2 := none }).sendTs2 k) ∧
        Leads (.ts2 k f) ⟨d, w⟩ ((e.setLink k { e.link k with state := .ts2, trainCount := 0, ts2Sent := 0, lastTs2 := none }).sendTs2 k))) ∧
    (∀ f, x.state = .ts2 → Leads (.ts1 ⟨k, f⟩) ⟨d, w⟩ (d.setLink k { x with trainCount := 0 })) ∧
    (∀ f, x.state = .active → Leads (.ts1 ⟨k, f⟩) ⟨d, w⟩ (d.linkFalls k 5) ∧ Leads (.ts2 k f) ⟨d, w⟩ (d.linkFalls k 5) ∧ Leads (.tsEnd k) ⟨d, w⟩ (d.linkFalls k 5)) ∧
    (∀ f, x.state = .disabled ∨ x.state = .quiet ∨ x.state = .detect ∨ x.state = .sleep ∨ x.state = .ending → Leads (.ts1 ⟨k, f⟩) ⟨d, w⟩ d ∧ Leads (.ts2 k f) ⟨d, w⟩ d) ∧
    (x.state = .disabled ∨ x.state = .quiet ∨ x.state = .detect ∨ x.state = .sleep ∨ x.state = .ts1 → Leads (.tsEnd k) ⟨d, w⟩ d) ∧
    (x.state ≠ .ending → Leads (.tsEndSent k) ⟨d, w⟩ d) ∧
    (∀ f, x.state = .ts2 →
      (∀ b, d.ts2Fails k f = some b → (b = 0 → Leads (.ts2 k f) ⟨d, w⟩ (d.trainFails k)) ∧ (b ≠ 0 → Leads (.ts2 k f) ⟨d, w⟩ ((d.linkErr k b).trainFails k))) ∧
      (∀ n g e, d.ts2Fails k f = none → g = { f with lane := 0 } → n = (if x.lastTs2 = some g then x.trainCount + 1 else 1) →
        e = d.setLink k { x with heard := some (f.linkId, f.port), lastTs2 := some g, trainCount := n, ts2Sent := x.ts2Sent + 1 } →
        (¬ (8 ≤ n ∧ 16 ≤ x.ts2Sent + 1) → Leads (.ts2 k f) ⟨d, w⟩ (e.sendTs2 k)) ∧
        (8 ≤ n ∧ 16 ≤ x.ts2Sent + 1 → Leads (.ts2 k f) ⟨d, w⟩ ([3, 2, 1, 0].foldl (fun (e : Device) m => e.sendTrain k 2 { e.myTrain k with endCount := m })
          (e.setLink k { e.link k with state := .ending, endSent := true }))))) ∧
    (∀ f, d.ts2Fails k f = (if f.role ≠ (if isPeer k = true then 2 else 1) then some 4
      else if isPeer k = true then (if (laneGroup x.lanes f.lanes).isNone = true then some 0 else none) else if f.credits.getD 2 0 < 24 then some 5 else none)) ∧
    (x.state = .ts2 ∨ x.state = .ending → (∀ f, x.lastTs2 = some f → Leads (.tsEnd k) ⟨d, w⟩ (d.goActive k f)) ∧ (x.lastTs2 = none → Leads (.tsEnd k) ⟨d, w⟩ d)) ∧
    (x.state = .ending → (∀ f, x.lastTs2 = some f → Leads (.tsEndSent k) ⟨d, w⟩ (d.goActive k f)) ∧ (x.lastTs2 = none → Leads (.tsEndSent k) ⟨d, w⟩ d)) ∧
    (x.state = .detect ∨ x.state = .ts1 ∨ x.state = .ts2 ∨ x.state = .ending → Leads (.trainTimeout k) ⟨d, w⟩ ((d.linkErr k 3).trainFails k)) ∧
    (x.state = .active ∨ x.state = .sleep ∨ x.state = .quiet ∨ x.state = .disabled → Leads (.trainTimeout k) ⟨d, w⟩ d) ∧
    (x.state = .quiet → Leads (.quietExpiry k) ⟨d, w⟩ (d.detect k)) ∧ (x.state ≠ .quiet → Leads (.quietExpiry k) ⟨d, w⟩ d) ∧
    (x.graceRun = false ∨ x.state = .active ∨ x.state = .sleep → Leads (.graceExpiry k) ⟨d, w⟩ d) ∧
    (∀ e, x.graceRun = true → x.state ≠ .active → x.state ≠ .sleep → e = (d.linkEvt k 2).flush k ((x.epoch + 1) % 256) →
      (x.state = .ts2 → Leads (.graceExpiry k) ⟨d, w⟩ (e.setLink k { e.link k with trainCount := 0, ts2Sent := 0 })) ∧
      (x.state ≠ .ts2 → Leads (.graceExpiry k) ⟨d, w⟩ e)) ∧
    (∀ live, live = (match k with | .site s => d.siteLive s | .peer p => d.peerLive p) →
      (x.state ≠ .disabled ∨ live = false → Leads (.linkEnable k) ⟨d, w⟩ d) ∧
      (x.state = .disabled → live = true → Leads (.linkEnable k) ⟨d, w⟩ (d.detect k))) ∧
    (x.state = .active → Leads (.linkCtlRetrain k) ⟨d, w⟩ ((d.sendLctl k 1).linkFalls k 7)) ∧
    (x.state = .sleep ∨ x.state = .detect ∨ x.state = .ts1 ∨ x.state = .ts2 ∨ x.state = .ending → Leads (.linkCtlRetrain k) ⟨d, w⟩ (d.linkFalls k 7)) ∧
    (x.state = .quiet ∨ x.state = .disabled →
      (d.hasLink k = true → Leads (.linkCtlRetrain k) ⟨d, w⟩ (d.setReg (lf k SITE.LINK_CTL.RETRAIN PEER.LINK_CTL.RETRAIN) 1 (linkNo k))) ∧
      (d.hasLink k = false → Leads (.linkCtlRetrain k) ⟨d, w⟩ d)) ∧
    (d.hasLink k = true → Leads (.forceNew k) ⟨d, w⟩ (d.setReg (lf k SITE.LINK_CTL.FORCE_NEW PEER.LINK_CTL.FORCE_NEW) 1 (linkNo k))) ∧
    (d.hasLink k = false → Leads (.forceNew k) ⟨d, w⟩ d) ∧
    (∀ kind n height width, Leads (.receiverMargining kind n height width) ⟨d, w⟩
      { d with power := { d.power with eyes := KMap.put d.power.eyes (4096 * kind + n) (height, width) } })

/-- The invalid block headers of a flit are counted on an ACTIVE site link. Apart from that a flit of any kind on a link that is not ACTIVE changes nothing; a good flit with a protocol error in its header takes the link down with cause 3; any other is first taken by its header, and where the link is still ACTIVE has its own effect, after which waiting flits leave: a TXN flit is received in its turn (one that stands for a reserved LCTL operation takes the link down with cause 3), an IDLE flit shows a lost one, RETRAIN and DISABLE take the link down with causes 6 and 8, a SLEEP_REQ is answered or agreed to, an ACK puts a link that asked to sleep, a NAK ends its request. A flit with a bad CRC is counted while the link is ACTIVE or trains from TS1 on; an ACTIVE link asks for it again once, in TS1 and TS2 it breaks the run. The wake pattern wakes a sleeping link into DETECT. On an ACTIVE peer link a SKIP frame restarts the count of frames and counts an adjustment; a data frame that is a SKIP frame by its bytes is one; one that FEC corrects counts its corrections and delivers its three flits, one that FEC cannot correct is counted and its three flits are bad, the eighth in a row, or 2,048 frames without a SKIP frame, lose the framing. Loss of framing and of signal take an ACTIVE link down with causes 1 and 4. The replay timer starts a replay where a flit is unacknowledged on an ACTIVE link and does nothing otherwise. A link that falls is down with its cause, and an ACTIVE peer link has what follows from it. (R201, R203, R205, R206, R209, R211, R213, R223, R225, R236, R244, R245) -/
def Obligations.LinkFlitsFramesAndSleep : Prop :=
  ∀ (d : Device) (w : List Instr) (k : LinkId) (x : Link), x = d.link k →
    (∀ n, (∀ s, k = .site s → x.state = .active → d.headerErrs k n = d.countSat SITE.HDR_ERRS.COUNT s n) ∧
      ((∃ p, k = .peer p) ∨ x.state ≠ .active → d.headerErrs k n = d)) ∧
    (∀ (h : FlitHdr) (n : Nat) (c : Instr) (f : Device → Device) (e : Device), e = d.headerErrs k n → (c, f) ∈
        [((.txnFlit k h n : Instr), fun (e : Device) => if h.ftype = 2 then e.linkFalls k 3 else e.rxTxn k h), (.idleFlit k h n, fun e => e.rxIdle k h),
         (.retrain k ⟨h, n⟩, fun e => e.linkFalls k 6), (.disable k ⟨h, n⟩, fun e => e.linkFalls k 8), (.sleepReq k ⟨h, n⟩, fun e => e.sleepAsked k),
         (.sleepAck k ⟨h, n⟩, fun e => if (e.link k).sleepSent = true then e.sleepNow k else e),
         (.sleepNak k ⟨h, n⟩, fun e => if (e.link k).sleepSent = true then e.setLink k { e.link k with sleepSent := false, holdTxn := false } else e)] →
      (x.state ≠ .active → Leads c ⟨d, w⟩ d) ∧
      (x.state = .active → x.badHeader h = true → Leads c ⟨d, w⟩ (e.linkFalls k 3)) ∧
      (∀ g, x.state = .active → x.badHeader h = false → g = e.takeHeader k h →
        ((g.link k).state = .active → Leads c ⟨d, w⟩ ((f g).pump k)) ∧ ((g.link k).state ≠ .active → Leads c ⟨d, w⟩ g))) ∧
    (∀ n e g, e = d.headerErrs k n → g = e.linkCount k SITE.CRC_ERRS.COUNT PEER.CRC_ERRS.COUNT →
      (x.state = .active → Leads (.badCrcFlit k n) ⟨d, w⟩ (g.nak k)) ∧
      (x.state = .ts1 ∨ x.state = .ts2 → Leads (.badCrcFlit k n) ⟨d, w⟩ (g.setLink k { g.link k with trainCount := 0 })) ∧
      (x.state = .ending → Leads (.badCrcFlit k n) ⟨d, w⟩ g) ∧
      (x.state = .disabled ∨ x.state = .quiet ∨ x.state = .detect ∨ x.state = .sleep → Leads (.badCrcFlit k n) ⟨d, w⟩ d)) ∧
    (x.state = .sleep → Leads (.wakePattern k) ⟨d, w⟩ ((d.setLink k { x with kept := true, sleepSent := false, sleepSeen := false, holdTxn := false }).detect k)) ∧
    (x.state ≠ .sleep → Leads (.wakePattern k) ⟨d, w⟩ d) ∧
    (∀ p, k = .peer p → x.state ≠ .active → (∀ adj, Leads (.skipFrame p adj) ⟨d, w⟩ d) ∧ (∀ bytes, Leads (.dataFrame p bytes) ⟨d, w⟩ d)) ∧
    (∀ p, k = .peer p → x.state = .active →
      Leads (.skipFrame p false) ⟨d, w⟩ (d.setLink k { x with frames := 0 }) ∧
      Leads (.skipFrame p true) ⟨d, w⟩ ((d.setLink k { x with frames := 0 }).countSat PEER.SKIP_ADJ.COUNT p) ∧
      (∀ bytes, isSkip bytes = true → Leads (.dataFrame p bytes) ⟨d, w⟩ (d.setLink k { x with frames := 0 })) ∧
      (∀ bytes e, isSkip bytes = false → decodeFrame bytes = none →
        e = (d.setLink k { x with rxScr := (scrambleBytes x.rxScr (bytes.take 240)).2, badFrames := x.badFrames + 1, frames := x.frames + 1 }).countSat PEER.FEC_UNCORR.COUNT p →
        (7 ≤ x.badFrames ∨ 2047 ≤ x.frames → Leads (.dataFrame p bytes) ⟨d, w⟩ (e.linkFalls k 1)) ∧
        (x.badFrames < 7 → x.frames < 2047 → Leads (.dataFrame p bytes) ⟨d, w⟩ (((e.badCrc k).badCrc k).badCrc k))) ∧
      (∀ bytes data fixed e, isSkip bytes = false → decodeFrame bytes = some (data, fixed) →
        e = (d.setLink k { x with rxScr := (scrambleBytes x.rxScr data).2, badFrames := 0, frames := x.frames + 1 }).countSat PEER.FEC_CORR.COUNT p fixed →
        (2047 ≤ x.frames → Leads (.dataFrame p bytes) ⟨d, w⟩ (e.linkFalls k 1)) ∧
        (x.frames < 2047 → Leads (.dataFrame p bytes) ⟨d, w⟩ ((chunk 80 3 (scrambleBytes x.rxScr data).1).foldl (fun (e : Device) b => e.frameFlit k b) e)))) ∧
    (x.state = .active → Leads (.framingLoss k) ⟨d, w⟩ (d.linkFalls k 1) ∧ Leads (.lossOfSignal k) ⟨d, w⟩ (d.linkFalls k 4)) ∧
    (x.state ≠ .active → Leads (.framingLoss k) ⟨d, w⟩ d ∧ Leads (.lossOfSignal k) ⟨d, w⟩ d ∧ Leads (.replayTimerExpiry k) ⟨d, w⟩ d) ∧
    (x.state = .active → (x.unacked = [] → Leads (.replayTimerExpiry k) ⟨d, w⟩ d) ∧ (x.unacked ≠ [] → Leads (.replayTimerExpiry k) ⟨d, w⟩ (d.replay k))) ∧
    (∀ c e, e = d.reeqFails (if isPeer k = true then 1 else 0) (linkNo k) →
      ((e.link k).state = .active → d.linkFalls k c = (e.linkDown k c).peerFell k) ∧ ((e.link k).state ≠ .active → d.linkFalls k c = e.linkDown k c))

/-- A trip of a detector that the domain has, while its clock runs, marks it, stretches the domain's clock and counts one stretch, unless it stretches already; another trip changes nothing. The end of a stretch clears it. A trip that lasts counts a sag and steps the divider down one level, not below the lowest, with its CE and POWER record; at the lowest level it is only counted, unless a throttle holds the divider lower still. HOLD_MS without a trip takes it one level back. Readings are stored and checked one by one, and TJ_PEAK follows: a sensor outside −20 to 150 °C, or more than 15 °C from every other one of its die, is excluded once; one within that range with another near it is not. At 105 °C or more throttling steps once more, with THROTTLE_ON where it was asked for; below 100 °C one step is taken back; between them nothing changes; at 115 °C THERM_TRIP is raised and the running plan item is dropped. A lost reference is noted, raises its flag and has its consequences, once; the crystal likewise; a return clears it. An SIO reference gone for 100 ms fails the channels that retrain for it. (R25, R588, R589, R590, R591, R593, R594) -/
def Obligations.DroopTemperatureAndReferences : Prop :=
  ∀ (d : Device) (w : List Instr),
    (∀ dom det y, det < detectors dom → d.domainRuns dom = true →
      y = (if (d.domain dom).tripped.contains det = true then (d.domain dom).tripped else (d.domain dom).tripped ++ [det]) →
      ((d.domain dom).stretch = false → Leads (.droopTrip dom det) ⟨d, w⟩ ((d.countSat PWR.STRETCHES.COUNT).setDomain dom
        { d.domain dom with tripped := y, stretch := true, lastTrip := d.power.aon })) ∧
      ((d.domain dom).stretch = true → Leads (.droopTrip dom det) ⟨d, w⟩ (d.setDomain dom { d.domain dom with tripped := y, stretch := true, lastTrip := d.power.aon }))) ∧
    (∀ dom det, detectors dom ≤ det ∨ d.domainRuns dom = false → Leads (.droopTrip dom det) ⟨d, w⟩ d) ∧
    (∀ dom, dom < 15 → Leads (.stretchEnd dom) ⟨d, w⟩ (d.setDomain dom { d.domain dom with tripped := [], stretch := false })) ∧
    (∀ dom, 15 ≤ dom → Leads (.stretchEnd dom) ⟨d, w⟩ d) ∧
    (∀ dom det e n g, (d.domain dom).tripped.contains det = true → dom < 15 → d.domainRuns dom = true →
      e = d.countSat PWR.SAGS.COUNT → n = min 2 ((d.domain dom).level + 1) → g = e.setDomain dom { d.domain dom with level := n, stretch := false, lastTrip := d.power.aon } →
      (n = (d.domain dom).level → e.divLevel dom ≠ 3 → Leads (.droopSag dom det) ⟨d, w⟩ g) ∧
      (n ≠ (d.domain dom).level ∨ e.divLevel dom = 3 → Leads (.droopSag dom det) ⟨d, w⟩
        ((g.raise PWR.flag.DROOP_SAG 0 [dom, det, g.divLevel dom] [dom, det, g.divLevel dom]).powerRecord [0x10, dom, det, g.divLevel dom] [dom, det, g.divLevel dom]))) ∧
    (∀ dom det, (d.domain dom).tripped.contains det = false ∨ 15 ≤ dom ∨ d.domainRuns dom = false → Leads (.droopSag dom det) ⟨d, w⟩ d) ∧
    (∀ dom, dom < 15 → (d.domain dom).level ≠ 0 → (d.domain dom).tripped.isEmpty = true → (d.domain dom).lastTrip + 1000000 * d.reg PWR.DROOP_CTL.HOLD_MS ≤ d.power.aon →
      Leads (.divRestore dom) ⟨d, w⟩ ((d.setDomain dom { d.domain dom with level := (d.domain dom).level - 1, lastTrip := d.power.aon }).evt PWR.flag.DIV_RESTORE)) ∧
    (∀ dom, 15 ≤ dom ∨ (d.domain dom).level = 0 ∨ (d.domain dom).tripped.isEmpty = false ∨ d.power.aon < (d.domain dom).lastTrip + 1000000 * d.reg PWR.DROOP_CTL.HOLD_MS →
      Leads (.divRestore dom) ⟨d, w⟩ d) ∧
    (∀ l e, e = d.readSensors l →
      (105 ≤ e.tj.1 → Leads (.throttleOn l) ⟨d, w⟩ ((e.evt PWR.flag.THROTTLE_ON).throttleMore) ∧ Leads (.throttleStepTimer l) ⟨d, w⟩ e.throttleMore) ∧
      (e.tj.1 < 105 → Leads (.throttleOn l) ⟨d, w⟩ e) ∧
      (100 ≤ e.tj.1 → e.tj.1 < 105 → Leads (.throttleStepTimer l) ⟨d, w⟩ e) ∧
      (e.tj.1 < 100 → Leads (.throttleStepTimer l) ⟨d, w⟩ e.throttleLess) ∧
      (115 ≤ e.tj.1 → Leads (.thermTrip l) ⟨d, w⟩
        (({ e with power := { e.power with plan := { e.power.plan with current := none } } } : Device).raise PWR.flag.THERM_TRIP 0 [] [])) ∧
      (e.tj.1 < 115 → Leads (.thermTrip l) ⟨d, w⟩ e)) ∧
    (∀ n t e, n < 32 → e = (({ d with power := { d.power with sensors := KMap.put d.power.sensors n t } } : Device).checkSensor n) →
      Leads (.sensorFault n t) ⟨d, w⟩ (e.setReg PWR.TJ_PEAK.TJ (max (e.reg PWR.TJ_PEAK.TJ) (min 255 e.tj.1.toNat)))) ∧
    (∀ n t, 32 ≤ n → Leads (.sensorFault n t) ⟨d, w⟩ (d.setReg PWR.TJ_PEAK.TJ (max (d.reg PWR.TJ_PEAK.TJ) (min 255 d.tj.1.toNat)))) ∧
    (∀ n, (d.power.excluded.contains n = true → d.checkSensor n = d) ∧
      (d.power.excluded.contains n = false → d.sensor n < -20 ∨ 150 < d.sensor n ∨ ((∃ k, k ∈ d.validSensors (sensorDie n) ∧ k ≠ n) ∧
          ∀ k, k ∈ d.validSensors (sensorDie n) → k ≠ n → 15 < (d.sensor k - d.sensor n).natAbs) →
        d.checkSensor n = ({ d with power := { d.power with excluded := d.power.excluded ++ [n] } } : Device).raise PWR.flag.SENSOR_FAULT 0 [n] [n]) ∧
      (-20 ≤ d.sensor n → d.sensor n ≤ 150 → (∀ k, k ∈ d.validSensors (sensorDie n) → k = n) ∨
          (∃ k, k ∈ d.validSensors (sensorDie n) ∧ k ≠ n ∧ (d.sensor k - d.sensor n).natAbs ≤ 15) → d.checkSensor n = d)) ∧
    (∀ r, r < 5 → d.power.refsLost.contains r = false → d.power.mainOn = true → Leads (.refLoss r) ⟨d, w⟩
      ((({ d with power := { d.power with refsLost := d.power.refsLost ++ [r] } } : Device).raise PWR.flag.REF_LOSS 0 [r] [r]).refConsequence r)) ∧
    (∀ r, 5 ≤ r ∨ d.power.refsLost.contains r = true ∨ d.power.mainOn = false → Leads (.refLoss r) ⟨d, w⟩ d) ∧
    (d.power.refsLost.contains 5 = false → Leads .xtalLoss ⟨d, w⟩
      (({ d with power := { d.power with refsLost := d.power.refsLost ++ [5] } } : Device).raise PWR.flag.XTAL_LOSS 0 [] [])) ∧
    (d.power.refsLost.contains 5 = true → Leads .xtalLoss ⟨d, w⟩ d) ∧
    (∀ r, Leads (.refReturn r) ⟨d, w⟩ { d with power := { d.power with refsLost := d.power.refsLost.filter (fun x => x != r) } }) ∧
    (∀ q, 4 ≤ q ∨ d.power.refsLost.contains q = false → Leads (.sioRefTimeout q) ⟨d, w⟩ d) ∧
    (∀ q, q < 4 → d.power.refsLost.contains q = true → Leads (.sioRefTimeout q) ⟨d, w⟩
      (([4 * q, 4 * q + 1, 4 * q + 2, 4 * q + 3].foldl (fun (e : Device) c => if (e.chan c).state = .retraining then e.failChannel c else e) d).chanChanged))

/-- Ageing counts give each monitor its degradation (0 where its baseline is torn), and WORST names the monitor with the largest. A plan replaces the waiting items, is timed and reported, on demand or once PERIOD_D days have passed; one with a RATE_DOWN needs a handover, which is reported too; without firmware or with the Hub down there is none. An item starts only with firmware, AUTO_APPLY and none running, where its conditions hold: VCORE_UP runs while fewer than ten steps are applied and is else refused with AGE_LIMIT; a PORT_REEQ of a site or mesh link resets it; of a twin link it first moves its stream; a CH_RETRAIN starts a retrain. Its good end is recorded, and adds a step for VCORE_UP; a bad end raises ITEM_FAILED; none running changes nothing. CAL_OPEN, COMMIT and ABORT of an agent that may act set RESULT and start, answer BUSY or NOT_OPEN as the state asks; of another agent they change nothing. When the copy of OPEN ends the staging area holds the set; a COMMIT writes the changed sections with their CRCs and is recorded; with nothing running the end changes nothing. A block that always runs, whose policy keeps it, or which is not idle, is not gated; one that may be stops, with every page on its clock; a wake runs the clock of every page on it again, and a sleeping site link or a channel in self-refresh wakes. An alert of a rail while BLADE_PG is high trips cause 7; without it nothing changes. (R27, R584, R586, R595, R597, R599, R600, R601, R602, R603, R604, R614) -/
def Obligations.MarginPlanCalibrationAndBlockPower : Prop :=
  ∀ (d : Device) (w : List Instr),
    (∀ l e m, e = (l.filter (fun x => decide (x.1 < 64))).foldl (fun (e : Device) x =>
        ({ e.nextFree with power := { e.power with degr := KMap.put e.power.degr x.1 (e.degradation x.1 x.2.1 x.2.2 (Config.freeNat e.fresh)) } } : Device)) d →
      m = e.power.degr.foldl (fun (m : Nat × Nat) x => if m.1 < x.2 then (x.2, x.1) else m) (0, 0) →
      Leads (.ageingMeasure l) ⟨d, w⟩ ((e.setReg AGE.WORST.DEGR m.1).setReg AGE.WORST.MONITOR m.2)) ∧
    (∀ m fs fr free, d.power.cal.usedTorn.contains (Config.baselineWord m % 2 ^ 18 / 1024) = true → d.degradation m fs fr free = 0) ∧
    (∀ items, (d.fwAlive = false ∨ d.hubUp = false → Leads (.planDue items) ⟨d, w⟩ d ∧ Leads (.replan items) ⟨d, w⟩ d) ∧
      (d.planIsDue = false → Leads (.planDue items) ⟨d, w⟩ d)) ∧
    (d.fwAlive = true → d.hubUp = true → ∀ items e,
      e = ((({ d with power := { d.power with plan := { d.power.plan with items := items } } } : Device).setPair AGE.LAST_PLAN_LO.TIME AGE.LAST_PLAN_HI.TIME d.time).evt AGE.flag.PLAN_DONE) →
      (items.contains .rateDown = false → (d.planIsDue = true → Leads (.planDue items) ⟨d, w⟩ (e.setReg AGE.PLAN_STAT.NEEDS_HANDOVER 0)) ∧
        Leads (.replan items) ⟨d, w⟩ (e.setReg AGE.PLAN_STAT.NEEDS_HANDOVER 0)) ∧
      (items.contains .rateDown = true → ∀ g, g = ((e.setReg AGE.PLAN_STAT.NEEDS_HANDOVER 1).evt AGE.flag.NEEDS_HANDOVER).powerRecord (0x13 :: itemBytes .rateDown) [] →
        (d.planIsDue = true → Leads (.planDue items) ⟨d, w⟩ g) ∧ Leads (.replan items) ⟨d, w⟩ g)) ∧
    (d.fwAlive = false ∨ d.hubUp = false ∨ d.flagReg AGE.PLAN_CTL.AUTO_APPLY = false ∨ d.power.plan.current.isSome = true ∨ d.power.plan.next = none ∨
        (∃ i, d.power.plan.next = some i ∧ d.itemReady i = false) → Leads .planItemStart ⟨d, w⟩ d) ∧
    (∀ i e g, d.fwAlive = true → d.hubUp = true → d.flagReg AGE.PLAN_CTL.AUTO_APPLY = true → d.power.plan.current = none →
      d.power.plan.next = some i → d.itemReady i = true → e = d.dropItem i → g = ({ e with power := { e.power with plan := { e.power.plan with current := some i } } } : Device) →
      (∀ m, i = .vcoreUp m → (d.reg AGE.VCORE_OFS.STEPS < 10 → Leads .planItemStart ⟨d, w⟩ g) ∧
        (10 ≤ d.reg AGE.VCORE_OFS.STEPS → Leads .planItemStart ⟨d, w⟩ ((e.evt AGE.flag.AGE_LIMIT).powerRecord [0x11, m] [m]))) ∧
      (∀ s f, i = .portReeq 0 s → f = e.retrainLink (.site s) → Leads .planItemStart ⟨d, w⟩ { f with power := { f.power with plan := { f.power.plan with current := some i } } }) ∧
      (∀ p f, i = .portReeq 1 p → p < 3 → f = e.retrainLink (.peer p) → Leads .planItemStart ⟨d, w⟩ { f with power := { f.power with plan := { f.power.plan with current := some i } } }) ∧
      (∀ p, i = .portReeq 1 p → 3 ≤ p → Leads .planItemStart ⟨d, w⟩ (({ g with power := { g.power with plan := { g.power.plan with armed := some p } } } : Device).failover p)) ∧
      (∀ k n, i = .portReeq k n → 2 ≤ k → Leads .planItemStart ⟨d, w⟩ g) ∧
      (∀ c, i = .chRetrain c → Leads .planItemStart ⟨d, w⟩ (g.startRetrain c))) ∧
    (∀ ok, d.power.plan.current = none → Leads (.planItemEnd ok) ⟨d, w⟩ d) ∧
    (∀ i e, d.power.plan.current = some i → e = ({ d with power := { d.power with plan := { d.power.plan with current := none } } } : Device) →
      Leads (.planItemEnd false) ⟨d, w⟩ (e.raise AGE.flag.ITEM_FAILED 0 (itemBytes i) (itemBytes i)) ∧
      (∀ m, i = .vcoreUp m → Leads (.planItemEnd true) ⟨d, w⟩
        (((e.setReg AGE.VCORE_OFS.STEPS (min 10 (e.reg AGE.VCORE_OFS.STEPS + 1))).evt AGE.flag.ITEM_APPLIED).powerRecord (0x12 :: itemBytes i) (itemBytes i))) ∧
      ((∀ m, i ≠ .vcoreUp m) → Leads (.planItemEnd true) ⟨d, w⟩ ((e.evt AGE.flag.ITEM_APPLIED).powerRecord (0x12 :: itemBytes i) (itemBytes i)))) ∧
    (∀ i v, d.power.hsw.state = .pg → Leads (.vrAlert i v) ⟨d, w⟩ ((d.measured2 i v).trip 7)) ∧
    (∀ i v, d.power.hsw.state ≠ .pg → Leads (.vrAlert i v) ⟨d, w⟩ d) ∧
    (∀ ag, d.calAgent ag = false → Leads (.calOpen ag) ⟨d, w⟩ d ∧ Leads (.calCommit ag) ⟨d, w⟩ d ∧ Leads (.calAbort ag) ⟨d, w⟩ d) ∧
    (∀ ag, d.calAgent ag = true → ∀ x, x = d.power.cal →
      (x.run = .idle → x.staging.isNone = true → Leads (.calOpen ag) ⟨d, w⟩ (({ d with power := { d.power with cal := { x with run := .opening } } } : Device).setReg CAL.CAL_CMD.RESULT 0) ∧
        Leads (.calCommit ag) ⟨d, w⟩ (d.setReg CAL.CAL_CMD.RESULT 2) ∧ Leads (.calAbort ag) ⟨d, w⟩ (d.setReg CAL.CAL_CMD.RESULT 2)) ∧
      (x.run ≠ .idle ∨ x.staging.isNone = false → Leads (.calOpen ag) ⟨d, w⟩ (d.setReg CAL.CAL_CMD.RESULT 1)) ∧
      (x.run ≠ .idle → Leads (.calCommit ag) ⟨d, w⟩ (d.setReg CAL.CAL_CMD.RESULT 1)) ∧
      (x.run = .idle → x.staging.isNone = false → Leads (.calCommit ag) ⟨d, w⟩ (({ d with power := { d.power with cal := { x with run := .committing } } } : Device).setReg CAL.CAL_CMD.RESULT 0)) ∧
      (x.run = .committing → Leads (.calAbort ag) ⟨d, w⟩ (d.setReg CAL.CAL_CMD.RESULT 1)) ∧
      (x.run = .opening ∨ (x.run = .idle ∧ x.staging.isNone = false) → Leads (.calAbort ag) ⟨d, w⟩
        (({ d with power := { d.power with cal := { x with run := .idle, staging := none } } } : Device).setReg CAL.CAL_CMD.RESULT 0))) ∧
    (d.power.cal.run = .idle → Leads .calOperationDone ⟨d, w⟩ d) ∧
    (d.power.cal.run = .opening → Leads .calOperationDone ⟨d, w⟩
      { d with power := { d.power with cal := { d.power.cal with run := .idle, staging := some d.power.cal.words } } }) ∧
    (∀ y e, d.power.cal.run = .committing → y = ({ d.power.cal with staging := d.power.cal.staging.map (fun m => d.power.cal.changed.foldl withCrc m) } : Calibration).programmed 256 →
      e = ({ d with power := { d.power with cal := { y with run := .idle, staging := none } } } : Device) →
      Leads .calOperationDone ⟨d, w⟩ (((e.setReg CAL.CAL_STAT.USER 1).evt CAL.flag.COMMITTED).powerRecord [0x14] [])) ∧
    (∀ p i, Page.count d.hw.gradeH p ≤ i ∨ d.hubUp = false → Leads (.blockPowerGate p i) ⟨d, w⟩ d) ∧
    (∀ p i e, i < Page.count d.hw.gradeH p → d.hubUp = true → e = (if p = .site then d.askSleep (.site i) else d) →
      (p.alwaysRuns = true ∨ (e.page p i).policy = 3 ∨ (clockPages p i).any (fun k => (e.page p k).policy == 2) = true ∨ e.blockIdle p i = false → Leads (.blockPowerGate p i) ⟨d, w⟩ e) ∧
      (p.alwaysRuns = false → (e.page p i).policy ≠ 3 → (clockPages p i).any (fun k => (e.page p k).policy == 2) = false → e.blockIdle p i = true →
        Leads (.blockPowerGate p i) ⟨d, w⟩ (((clockPages p i).filter (fun k => (e.page p k).policy != 3)).foldl (fun (e : Device) k => e.gatePage p k) e))) ∧
    (∀ p i, Page.count d.hw.gradeH p ≤ i ∨ (d.page p i).policy = 3 → Leads (.blockWake p i) ⟨d, w⟩ d) ∧
    (∀ p i e f, i < Page.count d.hw.gradeH p → (d.page p i).policy ≠ 3 →
      e = ((clockPages p i).filter (fun k => (d.page p k).policy != 3)).foldl (fun (e : Device) k => e.setPage p k ((e.page p k).woken e.power.aon)) d →
      f = ((clockPages p i).filter (fun k => d.pageOn p k && !(e.pageOn p k))).foldl (fun (e : Device) k => e.blockHeld p k) e →
      (p = .site → Leads (.blockWake p i) ⟨d, w⟩ (f.wake (.site i))) ∧ (p = .ddrch → Leads (.blockWake p i) ⟨d, w⟩ (f.wakeChan i)) ∧
      (p ≠ .site → p ≠ .ddrch → Leads (.blockWake p i) ⟨d, w⟩ f))

/-- A complete ramp leads to ON, and a qualified output in ON out of limit to PG with PG_ON; a window lost in PG drops main power and waits in ON for a new qualification; otherwise the measurements are only stored. Each trip stores its measurements and trips with its own cause where its condition holds for them, and otherwise only stores them: 1 in limit, 2 at twice ILIM, 3 a measured and 4 a modelled FET temperature of 150 °C, 5 and 6 out of the window (6 after the ramp), 7 rails in PG. A trip with the gate on withdraws the device, turns the gate off, counts and records the trip, and then waits for its retry or, at the fourth one, locks the supply out; with the gate off it changes nothing. A retry that is due and recognised, unlocked, turns the FET on again where it may; before that, or without a retry pending, nothing happens. 60 s of PG clear the trip count, not less. Main rails good in PG turn main power on. A cycle of the FET model stores the input voltage measured in it and steps the modelled temperature. VIN is stored and may turn the FET on; a bad temperature sensor, or one out of −40 to 200 °C, counts as 125 °C and raises its flag. (R608, R610, R611, R612, R613, R614, R615, R616, R617, R618, R619, R621) -/
def Obligations.HotSwapSupply : Prop :=
  ∀ (d : Device) (w : List Instr) (i v : Nat) (e : Device), e = d.measured2 i v →
    (d.power.hsw.state = .ramp → d.power.hsw.vin ≤ v + 100 → Leads (.rampComplete i v) ⟨d, w⟩
      { e with power := { e.power with hsw := { e.power.hsw with state := .on } } }) ∧
    (d.power.hsw.state ≠ .ramp ∨ v + 100 < d.power.hsw.vin → Leads (.rampComplete i v) ⟨d, w⟩ e) ∧
    (d.power.hsw.state = .on → e.outputOk = true → e.inLimit = false → Leads (.pgQualified i v) ⟨d, w⟩
      (({ e with power := { e.power with hsw := { e.power.hsw with state := .pg, pgAt := d.power.aon } } } : Device).evt HSW.flag.PG_ON)) ∧
    (d.power.hsw.state ≠ .on ∨ e.outputOk = false ∨ e.inLimit = true → Leads (.pgQualified i v) ⟨d, w⟩ e) ∧
    (d.power.hsw.state ≠ .pg ∨ (d.measured2 d.power.hsw.iout v).outputOk = true → Leads (.pgWindowLoss v) ⟨d, w⟩ (d.measured2 d.power.hsw.iout v)) ∧
    (d.power.hsw.state = .pg → (d.measured2 d.power.hsw.iout v).outputOk = false → ∀ f,
      f = ((d.measured2 d.power.hsw.iout v).evt HSW.flag.PG_OFF).mainOff → Leads (.pgWindowLoss v) ⟨d, w⟩
        { f with power := { f.power with hsw := { f.power.hsw with state := .on, prevOff := 5, startCause := 4 } } }) ∧
    (e.inLimit = true → Leads (.faultTimer i v) ⟨d, w⟩ (e.trip 1)) ∧ (e.inLimit = false → Leads (.faultTimer i v) ⟨d, w⟩ e) ∧
    (50 * d.reg HSW.HSW_CFG.ILIM ≤ i → Leads (.fast i v) ⟨d, w⟩ (e.trip 2)) ∧ (i < 50 * d.reg HSW.HSW_CFG.ILIM → Leads (.fast i v) ⟨d, w⟩ e) ∧
    (∀ (t : Int) f, f = ({ d with power := { d.power with hsw := { d.power.hsw with tMeas := t } } } : Device) →
      (150 ≤ t → t ≤ 200 → Leads (.fetMeas t) ⟨d, w⟩ (f.trip 3)) ∧ (-40 ≤ t → t < 150 → Leads (.fetMeas t) ⟨d, w⟩ f) ∧
      (t < -40 ∨ 200 < t → Leads (.fetMeas t) ⟨d, w⟩ (({ d with power := { d.power with hsw := { d.power.hsw with tMeas := 125 } } } : Device).raise HSW.flag.TSNS_FAULT 0 [] []))) ∧
    (∀ (vin : Nat) (t : Int) f, t = d.power.hsw.tModel + (1000000 * d.power.hsw.tMeas + (d.power.hsw.iout : Int) * ((vin : Int) - d.power.hsw.vout) * d.reg HSW.FET_MODEL.RTH
        - d.power.hsw.tModel) / (1000 * d.reg HSW.FET_MODEL.TAU_MS) → f = ({ d with power := { d.power with hsw := { d.power.hsw with vin := vin, tModel := t } } } : Device) →
      (150000000 ≤ t → Leads (.fetModel vin) ⟨d, w⟩ (f.trip 4)) ∧ (t < 150000000 → Leads (.fetModel vin) ⟨d, w⟩ f)) ∧
    (100 * d.reg HSW.HSW_WIN.OV_V < v → Leads (.ov i v) ⟨d, w⟩ (e.trip 5)) ∧ (v ≤ 100 * d.reg HSW.HSW_WIN.OV_V → Leads (.ov i v) ⟨d, w⟩ e) ∧
    (v < 100 * d.reg HSW.HSW_WIN.UV_V → d.power.hsw.state = .on ∨ d.power.hsw.state = .pg → Leads (.uv i v) ⟨d, w⟩ (e.trip 6)) ∧
    (100 * d.reg HSW.HSW_WIN.UV_V ≤ v ∨ (d.power.hsw.state ≠ .on ∧ d.power.hsw.state ≠ .pg) → Leads (.uv i v) ⟨d, w⟩ e) ∧
    (d.power.hsw.state = .pg → Leads (.rails i v) ⟨d, w⟩ (e.trip 7)) ∧ (d.power.hsw.state ≠ .pg → Leads (.rails i v) ⟨d, w⟩ d) ∧
    (∀ (f : Device) c, f.power.hsw.gate = false → f.trip c = f) ∧
    (∀ (f : Device) c g n k, f.power.hsw.gate = true → g = (f.withdraw 3).gateDown 1 → n = min (g.reg HSW.HSW_STAT.TRIP_COUNT + 1) 4 →
      k = ((((g.setReg HSW.HSW_STAT.TRIP_COUNT n).setReg HSW.HSW_STAT.LAST_TRIP c).countSat HSW.TRIPS.COUNT).evt HSW.flag.TRIPPED).powerRecord
        ([0x01, c] ++ leBytes 2 (f.power.hsw.iout / 10) ++ leBytes 2 (f.power.hsw.vout / 10)) [c] →
      (∀ m : Device, n < 4 → m = { k with power := { k.power with hsw := { k.power.hsw with retryAt := some (k.power.aon + k.retryDelay) } } } →
        f.trip c = { m with power := { m.power with hsw := { m.power.hsw with state := m.power.hsw.idle } } }) ∧
      (∀ m : Device, n = 4 → m = (({ k with power := { k.power with hsw := { k.power.hsw with locked := true, retryAt := none } } } : Device).evt HSW.flag.LOCKOUT).powerRecord [0x03] [] →
        f.trip c = { m with power := { m.power with hsw := { m.power.hsw with state := m.power.hsw.idle } } })) ∧
    (d.power.hsw.retryAt = none ∨ (∃ t, d.power.hsw.retryAt = some t ∧ d.power.aon < t) ∨ d.power.hsw.recognised = false ∨ d.power.hsw.locked = true →
      Leads .retryDelayExpiry ⟨d, w⟩ d) ∧
    (∀ t, d.power.hsw.retryAt = some t → t ≤ d.power.aon → d.power.hsw.recognised = true → d.power.hsw.locked = false → Leads .retryDelayExpiry ⟨d, w⟩
      ({ d with power := { d.power with hsw := { d.power.hsw with retryAt := none, startCause := 1 } } } : Device).turnOn) ∧
    (d.power.hsw.state = .pg → d.power.hsw.pgAt + 60 * 10 ^ 9 ≤ d.power.aon → Leads .tripCountClear ⟨d, w⟩ (d.setReg HSW.HSW_STAT.TRIP_COUNT 0)) ∧
    (d.power.hsw.state ≠ .pg ∨ d.power.aon < d.power.hsw.pgAt + 60 * 10 ^ 9 → Leads .tripCountClear ⟨d, w⟩ d) ∧
    (d.power.hsw.state = .pg → Leads .mainRailsGood ⟨d, w⟩ { d with power := { d.power with mainOn := true } }) ∧
    (d.power.hsw.state ≠ .pg → Leads .mainRailsGood ⟨d, w⟩ d) ∧
    Leads (.vinInRange v) ⟨d, w⟩ ({ d with power := { d.power with hsw := { d.power.hsw with vin := v } } } : Device).turnOn ∧
    Leads .tsnsFault ⟨d, w⟩ (({ d with power := { d.power with hsw := { d.power.hsw with tMeas := 125 } } } : Device).raise HSW.flag.TSNS_FAULT 0 [] [])

/-- PRSNT_L low starts the debounce; 100 ms later, with AUX, insertion is recognised once: it is reported, a pending retry starts its whole delay again, and the FET turns on where it may; not earlier. The rise of PRSNT_L withdraws the device, reports EXTRACTED and records it while AUX is good; once. OFF sets the hold and withdraws; ON clears a hold and may turn the FET on; the gate timer acts only where the gate is to fall and 100 µs have passed. AUX lost lets the gate fall, tears the record being programmed and stops the management; AUX good starts AUX; either once. Each endpoint command answers with AUX present after its effect and does nothing without AUX; DEV_RESET is refused while main power is off. DEV_CMD.RESET needs the Hub and an unlocked page; a locked one counts it. BLK_RESET writes its fields with the Hub up and answers REFUSED for a reserved block or a channel that may not retrain, ABSENT for a block that an LX9416-H lacks, BUSY while that block's reset runs, else OK: the reset is recorded and starts. Its end, unless it still waits for commits, clears it, reports BLK_DONE and lets the writes that waited land; the end of one that does not run changes nothing. (R608, R619, R620, R622, R623, R624, R625, R629, R631, R635, R637, R643) -/
def Obligations.InsertionAuxAndResetCommands : Prop :=
  ∀ (d : Device) (w : List Instr),
    (∀ h, h = ({ d.power.hsw with prsnt := true, prsntAt := if d.power.hsw.prsnt = true then d.power.hsw.prsntAt else d.power.aon } : HotSwap) →
      Leads .prsntLFall ⟨d, w⟩ { d with power := { d.power with hsw := { h with state := if h.gate = true then h.state else h.idle } } }) ∧
    (∀ r, d.power.hsw.prsnt = true → d.power.auxOk = true → d.power.hsw.recognised = false → d.power.hsw.prsntAt + 100 * 10 ^ 6 ≤ d.power.aon →
      r = (if d.power.hsw.retryAt.isSome = true then some (d.power.aon + d.retryDelay) else none) → Leads .insertionRecognised ⟨d, w⟩
      ((({ d with power := { d.power with hsw := { d.power.hsw with recognised := true, retryAt := r, startCause := 0 } } } : Device).evt HSW.flag.INSERTED).turnOn)) ∧
    (d.power.hsw.prsnt = false ∨ d.power.auxOk = false ∨ d.power.hsw.recognised = true ∨ d.power.aon < d.power.hsw.prsntAt + 100 * 10 ^ 6 → Leads .insertionRecognised ⟨d, w⟩ d) ∧
    (d.power.hsw.prsnt = false → Leads .extraction ⟨d, w⟩ d) ∧
    (d.power.hsw.prsnt = true → ∀ e, e = (({ d with power := { d.power with hsw := { d.power.hsw with prsnt := false, recognised := false } } } : Device).bladeGoes).evt HSW.flag.EXTRACTED →
      (e.power.auxOk = true → Leads .extraction ⟨d, w⟩ (e.powerRecord [0x05] [])) ∧ (e.power.auxOk = false → Leads .extraction ⟨d, w⟩ e)) ∧
    (d.power.hsw.gateOff = false ∨ d.power.aon < d.power.hsw.gateOffFrom + 100000 → Leads .gateOffTimer ⟨d, w⟩ d) ∧
    (d.power.hsw.gateOff = true → d.power.hsw.gateOffFrom + 100000 ≤ d.power.aon → Leads .gateOffTimer ⟨d, w⟩ ((d.gateDown (if d.power.hsw.prsnt = true then 3 else 2)).turnOn)) ∧
    (∀ e, e = ({ d with power := { d.power with hsw := { d.power.hsw with offHold := true } } } : Device).bladeGoes →
      Leads .hswCtlOff ⟨d, w⟩ e ∧ (d.power.auxOk = true → Leads .hswOff ⟨d, w⟩ (e.answerEp 0x42 0 []))) ∧
    (d.power.hsw.offHold = false → Leads .hswCtlOn ⟨d, w⟩ d ∧ (d.power.auxOk = true → Leads .hswOn ⟨d, w⟩ (d.send (.endpoint 0x43 0 [])))) ∧
    (d.power.hsw.offHold = true → ∀ e, e = ({ d with power := { d.power with hsw := { d.power.hsw with offHold := false, startCause := 3 } } } : Device).turnOn →
      Leads .hswCtlOn ⟨d, w⟩ e ∧ (d.power.auxOk = true → Leads .hswOn ⟨d, w⟩ (e.answerEp 0x43 0 []))) ∧
    (d.power.auxOk = true → Leads .hswStatus ⟨d, w⟩
        (d.send (.endpoint 0x40 0 (leBytes 4 d.hswStat ++ leBytes 4 d.hswMeas1 ++ leBytes 4 d.hswMeas2 ++ leBytes 4 d.rstStat))) ∧
      Leads .hswClear ⟨d, w⟩ (d.hswClear.answerEp 0x41 0 [])) ∧
    (∀ (e : Device) code st data, (e.power.auxOk = true → e.answerEp code st data = e.send (.endpoint code st data)) ∧ (e.power.auxOk = false → e.answerEp code st data = e)) ∧
    (d.power.auxOk = false → Leads .hswStatus ⟨d, w⟩ d ∧ Leads .hswClear ⟨d, w⟩ d ∧ Leads .hswOff ⟨d, w⟩ d ∧ Leads .hswOn ⟨d, w⟩ d ∧ Leads .devReset ⟨d, w⟩ d ∧
      Leads .auxLost ⟨d, w⟩ d) ∧
    (d.power.auxOk = true → d.power.mainOn = false → Leads .devReset ⟨d, w⟩ (d.send (.endpoint 0x44 1 []))) ∧
    (d.power.auxOk = true → d.power.mainOn = true → Leads .devReset ⟨d, w⟩ ((d.deviceReset 3).answerEp 0x44 0 [])) ∧
    (d.hubUp = false → Leads .devCmdReset ⟨d, w⟩ d ∧ (∀ c i, Leads (.blkResetGo c i) ⟨d, w⟩ d)) ∧
    (d.hubUp = true → (d.page .rst).lock = true → Leads .devCmdReset ⟨d, w⟩ (d.setPage .rst 0 { d.page .rst with lockedWrites := min ((d.page .rst).lockedWrites + 1) 65535 })) ∧
    (d.hubUp = true → (d.page .rst).lock = false → Leads .devCmdReset ⟨d, w⟩ (d.deviceReset 2)) ∧
    (∀ c i c4 i6 e key r, d.hubUp = true → c4 = c % 16 → i6 = i % 64 → e = ((d.setReg RST.BLK_RESET.BLOCK c).setReg RST.BLK_RESET.INSTANCE i) → key = (c4, if 5 ≤ c4 then 0 else i6) →
      r = (if (blockPages c4 i6).isEmpty = true then 1 else if (e.hw.gradeH && (c4 == 1 || c4 == 6 || c4 == 7)) = true then 2 else if e.power.blk.contains key = true then 3
        else if c4 = 4 ∧ e.mayRetrain = false then 1 else 0) →
      (r ≠ 0 → Leads (.blkResetGo c i) ⟨d, w⟩ (e.setReg RST.BLK_STAT.RESULT r)) ∧
      (∀ g, r = 0 → g = (e.setReg RST.BLK_STAT.RESULT 0).noteReset 5 0 [c4, i6] → Leads (.blkResetGo c i) ⟨d, w⟩
        (({ g with power := { g.power with blk := g.power.blk ++ [key] } } : Device).blockStart c4 i6))) ∧
    (∀ c i, d.power.blk.contains (c, i) = false ∨ (d.power.blkWait.contains (c, i) = true ∧ d.commitsRun c i = true) → Leads (.blkResetDone c i) ⟨d, w⟩ d) ∧
    (∀ c i e f, d.power.blk.contains (c, i) = true → d.power.blkWait.contains (c, i) = false ∨ d.commitsRun c i = false → e = d.blockLate c i →
      f = (if c = 7 then e.failResetEnds else e) → Leads (.blkResetDone c i) ⟨d, w⟩
      (({ f with power := { f.power with blk := f.power.blk.filter (fun b => b != (c, i)) } } : Device).evt RST.flag.BLK_DONE).lateWrites.proceed) ∧
    (d.power.auxOk = true → Leads .auxLost ⟨d, w⟩ d.auxLost) ∧ d.auxLost.power.auxOk = false ∧
    (d.power.auxOk = true → Leads .auxGood ⟨d, w⟩ d) ∧ (d.power.auxOk = false → Leads .auxGood ⟨d, w⟩ d.auxGood) ∧ d.auxGood.power.auxOk = true ∧
    Leads .auxLow ⟨d, w⟩ (d.raise HSW.flag.AUX_LOW 0 [] [])

/-- A failed health test stops the Mint's output, counts and is a security fault; recovery resumes it, and a reset that found it stopped gets its key in slot 0 then. REKEY_CMD.START out of service, in a rekey or without the Mint raises REKEY_REFUSED; otherwise a new key goes into the free slot and the sweep starts at 0. A step outside the sweep or with a channel retraining changes nothing; another one rewrites the bursts of its unit and moves on, and after the last unit DRAIN begins and the current slot flips. The end of a drain outside DRAIN or with the old slot still queued changes nothing; otherwise the old slot is zeroised, counted and reported. CONFIRM makes the running slot the boot slot and its trial ends; COMMIT of a trial is RESULT 1; of a confirmed image it raises the anti-rollback count and revokes the signers of its mask, or, where the blow verify fails, sets RESULT 2 and is a fault, with how far it came a free value; with no image both change nothing. Endpoint firmware commands are REFUSED without the Hub and BAD_ARG out of range; a write of the running slot is REFUSED, of another stored; activating a valid image makes its slot the next trial, another raises IMAGE_REJECT. Nothing is answered without AUX. (R545, R547, R548, R550, R551, R552, R562, R563, R564, R565, R566) -/
def Obligations.KeysAndFirmware : Prop :=
  ∀ (d : Device) (w : List Instr),
    Leads .trngHealth ⟨d, w⟩ ((({ d with sec := { d.sec with outOk := false } } : Device).countSat MINT.TRNG_FAILS.COUNT).secFault MINT.flag.TRNG_HEALTH 0x10 0 0 0) ∧
    (d.reg MINT.KEY_STAT.CUR_SLOT ≠ 0 ∨ d.sec.key0 ≠ 0 → Leads .trngRecover ⟨d, w⟩ { d with sec := { d.sec with outOk := true } }) ∧
    (d.reg MINT.KEY_STAT.CUR_SLOT = 0 → d.sec.key0 = 0 → Leads .trngRecover ⟨d, w⟩
      { d with sec := { d.sec with outOk := true, key0 := d.sec.keysMade + 1, keysMade := d.sec.keysMade + 1 } }) ∧
    (d.serving = false ∨ d.reg MINT.REKEY_STAT.PHASE ≠ 0 ∨ d.mintOk = false → Leads .rekeyStart ⟨d, w⟩ (d.raise MINT.flag.REKEY_REFUSED 0 [] [] false)) ∧
    (d.serving = true → d.reg MINT.REKEY_STAT.PHASE = 0 → d.mintOk = true → ∀ slot n, slot = 1 - d.reg MINT.KEY_STAT.CUR_SLOT → n = d.sec.keysMade + 1 →
      Leads .rekeyStart ⟨d, w⟩ (((({ d with sec := { d.sec.withKey slot n with keysMade := n } } : Device).setRekeyPtr 0).setReg MINT.REKEY_STAT.PHASE 1).secEvent 105 0x20 0 0 0)) ∧
    (d.reg MINT.REKEY_STAT.PHASE ≠ 1 ∨ (∃ c, c < 16 ∧ (d.chan c).state = .retraining) → Leads .rekeyStep ⟨d, w⟩ d) ∧
    (∀ e, d.reg MINT.REKEY_STAT.PHASE = 1 → (∀ c, c < 16 → (d.chan c).state ≠ .retraining) →
      e = (d.sweepBursts d.rekeyPtr).foldl (fun (e : Device) x => e.rewriteBurst x.1 (d.reg MINT.REKEY_CTL.CLASS) x.2) (d.setRekeyPtr (d.rekeyPtr + 1)) →
      (d.rekeyPtr + 1 < e.nloaf + 2 ^ 20 → Leads .rekeyStep ⟨d, w⟩ e) ∧
      (e.nloaf + 2 ^ 20 ≤ d.rekeyPtr + 1 → ∀ g, g = e.setReg MINT.REKEY_STAT.PHASE 2 → Leads .rekeyStep ⟨d, w⟩
        ((g.setReg MINT.KEY_STAT.CUR_SLOT (1 - g.reg MINT.KEY_STAT.CUR_SLOT)).secEvent 105 0x21 0 0 0))) ∧
    (d.reg MINT.REKEY_STAT.PHASE ≠ 2 ∨ d.slotQueued (1 - d.reg MINT.KEY_STAT.CUR_SLOT) = true → Leads .rekeyDrainEnd ⟨d, w⟩ d) ∧
    (d.reg MINT.REKEY_STAT.PHASE = 2 → ∀ old e, old = 1 - d.reg MINT.KEY_STAT.CUR_SLOT → d.slotQueued old = false →
      e = (((({ d with sec := d.sec.withKey old 0 } : Device).setReg MINT.REKEY_STAT.PHASE 0).countSat MINT.KEY_GEN.COUNT).countSat MINT.REKEYS.COUNT) →
      Leads .rekeyDrainEnd ⟨d, w⟩ (((e.evt MINT.flag.REKEY_DONE).evt MINT.flag.KEY_ZEROISED).secEvent 105 0x22 0 0 0)) ∧
    (d.sec.run = none → Leads .confirm ⟨d, w⟩ d ∧ (∀ ok, Leads (.commit ok) ⟨d, w⟩ d)) ∧
    (∀ r, d.sec.run = some r → Leads .confirm ⟨d, w⟩
        (({ d with sec := { d.sec with bootSlot := r.slot, trial := false, run := some { r with trial := false } } } : Device).setReg FWSEC.FW_CMD.RESULT 0) ∧
      (r.trial = true → ∀ ok, Leads (.commit ok) ⟨d, w⟩ (d.setReg FWSEC.FW_CMD.RESULT 1)) ∧
      (r.trial = false → ∀ e, e = ({ d with sec := { d.sec with arbC := d.sec.arbC + (r.secVer - d.sec.arbC), revoked := (d.sec.revoked ++ maskSlots r.revokeMask).eraseDups } } : Device) →
        Leads (.commit true) ⟨d, w⟩ (((e.setReg FWSEC.FW_CMD.RESULT 0).evt FWSEC.flag.COMMITTED).secEvent 105 0x23 0 0 e.sec.arbC)) ∧
      (r.trial = false → ∀ f e, f = Config.freeNat d.fresh → e = ({ d.nextFree with sec := { d.sec with arbC := d.sec.arbC + f % (r.secVer - d.sec.arbC + 1), revoked := (d.sec.revoked ++ (maskSlots r.revokeMask).filter (fun i => bitOf (f / 256) i)).eraseDups } } : Device) →
        Leads (.commit false) ⟨d, w⟩ ((e.setReg FWSEC.FW_CMD.RESULT 2).secFault MINT.flag.OTP_FAULT 0x11 0 0 0))) ∧
    (d.hubUp = false → (∀ s o b, Leads (.fwWrite s o b) ⟨d, w⟩ (d.answerEp 0x30 1 [])) ∧ (∀ s, Leads (.fwActivate s) ⟨d, w⟩ (d.answerEp 0x31 1 []))) ∧
    (d.hubUp = true →
      (∀ s o b, 64 < b.length ∨ 2 ≤ s ∨ 0x2000000 < o + b.length → Leads (.fwWrite s o b) ⟨d, w⟩ (d.answerEp 0x30 3 [])) ∧
      (∀ s o b, b.length ≤ 64 → s < 2 → o + b.length ≤ 0x2000000 → s = d.runSlot → Leads (.fwWrite s o b) ⟨d, w⟩ (d.answerEp 0x30 1 [])) ∧
      (∀ s o b, b.length ≤ 64 → s < 2 → o + b.length ≤ 0x2000000 → s ≠ d.runSlot → Leads (.fwWrite s o b) ⟨d, w⟩
        (({ d with sec := { d.sec with flash := Memory.setBytes d.sec.flash (slotBase s + o) b } } : Device).answerEp 0x30 0 [])) ∧
      (∀ s, s < 2 → Leads (.fwActivate s) ⟨d, w⟩ (if d.imageValid s = true
        then ({ d with sec := { d.sec with nextSlot := s, trial := true } } : Device).answerEp 0x31 0 []
        else (d.secFault SECALM.flag.IMAGE_REJECT 4 0 s 0).answerEp 0x31 1 [])) ∧
      (∀ s, 2 ≤ s → Leads (.fwActivate s) ⟨d, w⟩ (d.answerEp 0x31 3 []))) ∧
    (∀ (e : Device) code st data, (e.power.auxOk = true → e.answerEp code st data = e.send (.endpoint code st data)) ∧ (e.power.auxOk = false → e.answerEp code st data = e))

/-- A challenge by an agent that may, with the Hub up, draws a nonce while the Mint works; by another agent it changes nothing; by the endpoint it answers the nonce, or REFUSED without the Hub or the Mint. A token chunk of the endpoint is stored and answered with the last reason, the chunk with the last byte submits; out of range it is BAD_ARG, without the Hub REFUSED. A submit by an agent that may consumes the token and its nonce and stores the reason; a good token opens its scopes and is recorded; another counts a failure, the eighth locks out, and is a security fault; in LOCKOUT the reason is 7. By another agent, or with the Hub down, it changes nothing; so does RELOCK, which else closes every scope. An expired nonce is dropped, another stays. A debug instruction is loaded with the JTAG scope open (one that the controller has not changes nothing) and raises the alarm with it locked; TRST clears it. DBG_GO needs the Hub, and with the scope locked raises the alarm; an access of REG reads or writes the word with result 0; one beyond the memory or the register space, or of neither space, answers result 2; one of a blocked range 1 and an uncorrectable one 3; any other of RAW reads or merges the four bytes. (R568, R569, R570, R571, R572, R573, R574, R674) -/
def Obligations.DebugUnlockAndTap : Prop :=
  ∀ (d : Device) (w : List Instr),
    (∀ ag, d.dbgAgent ag = true → d.hubUp = true → Leads (.challenge (some ag)) ⟨d, w⟩ d.challenge.1 ∧
      Leads (.relock ag) ⟨d, w⟩ ((d.setReg FWSEC.DBG_STAT.SCOPE 0).evt FWSEC.flag.DEBUG_RELOCKED)) ∧
    (∀ ag, d.dbgAgent ag = false ∨ d.hubUp = false → Leads (.challenge (some ag)) ⟨d, w⟩ d ∧ Leads (.relock ag) ⟨d, w⟩ d) ∧
    (d.mintOk = false → d.challenge = (d, false)) ∧
    (∀ e b, d.mintOk = true → d.draw 16 = (e, b) → d.challenge = ({ (e.setNonce b).setReg FWSEC.DBG_STAT.NONCE_VALID 1 with sec := { e.sec with nonceAt := e.power.aon } }, true)) ∧
    (d.hubUp = false → Leads (.challenge none) ⟨d, w⟩ (d.answerEp 0x32 1 []) ∧ (∀ o b, Leads (.dbgTokenChunk o b) ⟨d, w⟩ (d.answerEp 0x33 1 []))) ∧
    (d.hubUp = true →
      (d.mintOk = false → Leads (.challenge none) ⟨d, w⟩ (d.answerEp 0x32 1 [])) ∧
      (d.mintOk = true → Leads (.challenge none) ⟨d, w⟩ (d.challenge.1.answerEp 0x32 0 d.challenge.1.nonce)) ∧
      (∀ o b, 64 < b.length ∨ 3421 < o + b.length → Leads (.dbgTokenChunk o b) ⟨d, w⟩ (d.answerEp 0x33 3 [])) ∧
      (∀ o b e, b.length ≤ 64 → o + b.length < 3421 → e = d.storeToken o b → Leads (.dbgTokenChunk o b) ⟨d, w⟩ (e.answerEp 0x33 0 [e.reg FWSEC.DBG_STAT.REASON])) ∧
      (∀ o b e, b.length ≤ 64 → o + b.length = 3421 → e = (d.storeToken o b).submit → Leads (.dbgTokenChunk o b) ⟨d, w⟩ (e.answerEp 0x33 0 [e.reg FWSEC.DBG_STAT.REASON]))) ∧
    (∀ ag, d.tokenAgent ag = true → d.hubUp = true → Leads (.submit ag) ⟨d, w⟩ d.submit) ∧
    (∀ ag, d.tokenAgent ag = false ∨ d.hubUp = false → Leads (.submit ag) ⟨d, w⟩ d) ∧
    (∀ why e s f n g, why = d.tokenReason d.tokenBytes → e = ((({ d with sec := { d.sec with token := [] } } : Device).dropNonce).setReg FWSEC.DBG_STAT.REASON why) →
      s = d.tokenBytes.getD 5 0 → f = e.setReg FWSEC.DBG_STAT.SCOPE (e.reg FWSEC.DBG_STAT.SCOPE ||| s) → n = min (e.reg FWSEC.DBG_STAT.FAILS + 1) 8 → g = e.setReg FWSEC.DBG_STAT.FAILS n →
      d.submit = if why = 0 then (({ f with sec := { f.sec with scopeSeen := f.sec.scopeSeen ||| s } } : Device).evt FWSEC.flag.DEBUG_UNLOCKED).secEvent 105 0x24 0 s 0
        else if n < 8 then g.secFault SECALM.flag.TOKEN_REJECT 3 0 why 0
        else (g.setReg FWSEC.DBG_STAT.LOCKOUT 1).secFault SECALM.flag.TOKEN_REJECT 3 0 why 0) ∧
    (d.reg FWSEC.DBG_STAT.LOCKOUT = 1 → ∀ t, d.tokenReason t = 7) ∧
    (d.nonceLive = true → Leads .nonceExpiry ⟨d, w⟩ d) ∧ (d.nonceLive = false → Leads .nonceExpiry ⟨d, w⟩ d.dropNonce) ∧
    (∀ i, d.jtagOpen = true → 1 ≤ i → i ≤ 3 → Leads (.jtagLocked i) ⟨d, w⟩ { d with sec := { d.sec with tapInstr := i } }) ∧
    (∀ i, d.jtagOpen = true → i = 0 ∨ 3 < i → Leads (.jtagLocked i) ⟨d, w⟩ d) ∧
    (∀ i, d.jtagOpen = false → Leads (.jtagLocked i) ⟨d, w⟩
      ((({ d with sec := { d.sec with tapInstr := 0 } } : Device).setReg SECALM.ALM_MASTER.MASTER 2).secFault SECALM.flag.JTAG_LOCKED 2 2 0 0)) ∧
    Leads .trst ⟨d, w⟩ { d with sec := { d.sec with tapInstr := 0 } } ∧
    (d.hubUp = false → ∀ a v b, Leads (.dbgGo a v b) ⟨d, w⟩ d) ∧
    (d.hubUp = true → d.jtagOpen = false → ∀ a v b, Leads (.dbgGo a v b) ⟨d, w⟩
      ((({ d with sec := { d.sec with tapInstr := 0 } } : Device).setReg SECALM.ALM_MASTER.MASTER 2).secFault SECALM.flag.JTAG_LOCKED 2 2 0 0)) ∧
    (d.hubUp = true → d.jtagOpen = true → ∀ adr dat b a v e, a = adr % 2 ^ 48 → v = dat % 2 ^ 32 →
      e = ({ d with sec := { d.sec with tapInstr := 3, tapAddr := a, tapData := v } } : Device) →
      (a % 4 = 0 ∨ a % 4 = 1 → Leads (.dbgGo adr dat b) ⟨d, w⟩ (e.dbgEnd b 2)) ∧
      (a % 4 = 3 → 0x800000 ≤ a - 3 → Leads (.dbgGo adr dat b) ⟨d, w⟩ (e.dbgEnd b 2)) ∧
      (a % 4 = 3 → a - 3 < 0x800000 →
        (b = true → Leads (.dbgGo adr dat b) ⟨d, w⟩ ((e.writeReg .debug (a - 3) v).dbgEnd true 0)) ∧
        (∀ f : Device, b = false → f = (e.readReg .debug (a - 3)).1 → Leads (.dbgGo adr dat b) ⟨d, w⟩
          (({ f with sec := { f.sec with tapData := (e.readReg .debug (a - 3)).2 } } : Device).dbgEnd false 0))) ∧
      (a % 4 = 2 → e.rawBytes ≤ a - 2 → Leads (.dbgGo adr dat b) ⟨d, w⟩ (e.dbgEnd b 2)) ∧
      (∀ r, a % 4 = 2 → a - 2 < e.rawBytes → e.rawBlocked (a - 2) = some r → Leads (.dbgGo adr dat b) ⟨d, w⟩ ((e.blockedAccess 0 r (a - 2)).dbgEnd b 1)) ∧
      (∀ f x bad n o, a % 4 = 2 → a - 2 < e.rawBytes → e.rawBlocked (a - 2) = none → e.readBurst (64 * ((a - 2) / 64)) 0 = (f, x, bad, n) → o = (a - 2) % 64 →
        (bad = true → Leads (.dbgGo adr dat b) ⟨d, w⟩ (f.dbgEnd b 3)) ∧
        (bad = false → b = false → Leads (.dbgGo adr dat b) ⟨d, w⟩
          (({ f with sec := { f.sec with tapData := ofLe (((lineBytes x).drop o).take 4) } } : Device).dbgEnd false 0)) ∧
        (bad = false → b = true → Leads (.dbgGo adr dat b) ⟨d, w⟩
          ((f.writeBurst (64 * ((a - 2) / 64)) (lineOfBytes ((lineBytes x).take o ++ leBytes 4 v ++ (lineBytes x).drop (o + 4))) false).dbgEnd true 0))))

/-- An access of a wrong size or alignment has no effect but the access error of a page that the agent reaches; a read of one answers 0. A write of 4 bytes reaches the word; an 8-byte write is two of 4, the lower address first; a read of 4 bytes answers the word, of 8 bytes both words. Through the endpoint, a misaligned or outside address is BAD_ARG, a page that it does not reach REFUSED, and a reached one answers OK; without AUX nothing happens. ERR_INJ, PAGE_CTL, EVT_CLR and ERR_CLR reach their words; on a page held by a block reset a write waits; on a page that the agent does not reach, or outside every page, it changes nothing. LOCK_ALL is a write of its word. CAL_DATA is read and written at its address. (R14, R366, R605, R637, R640, R643, R647, R652, R653, R654, R657, R659) -/
def Obligations.RegisterAccesses : Prop :=
  ∀ (d : Device) (w : List Instr) (ag : Agent),
    (∀ addr v, addr % 4 = 0 → Leads (.registerWrite ag addr 4 v) ⟨d, w⟩ (d.writeReg ag addr (v % 2 ^ 32))) ∧
    (∀ addr v, addr % 8 = 0 → Leads (.registerWrite ag addr 8 v) ⟨d, w⟩
      ((d.writeReg ag addr (v % 2 ^ 32)).writeReg ag (addr + 4) (v / 2 ^ 32 % 2 ^ 32))) ∧
    (∀ addr, addr % 4 = 0 → Leads (.rlRead ag addr 4) ⟨d, w⟩ ((d.readWord ag addr).1.send (.regValue ag addr (d.readWord ag addr).2))) ∧
    (∀ addr e x f y, addr % 8 = 0 → d.readWord ag addr = (e, x) → e.readWord ag (addr + 4) = (f, y) → Leads (.rlRead ag addr 8) ⟨d, w⟩ (f.send (.regValue ag addr (x + 2 ^ 32 * y)))) ∧
    (∀ addr, (addr < 0x800000 ∨ (∀ p l, ag ≠ .host p l)) → d.readWord ag addr = d.readReg ag addr) ∧
    (∀ addr size v, (size ≠ 4 ∧ size ≠ 8) ∨ addr % size ≠ 0 → Leads (.registerWrite ag addr size v) ⟨d, w⟩ (d.badAccess ag addr size) ∧
      Leads (.rlRead ag addr size) ⟨d, w⟩ ((d.badAccess ag addr size).send (.regValue ag addr 0))) ∧
    (∀ addr v p i, d.pageAt addr = some (p, i) → d.reaches ag p i = false → d.writeReg ag addr v = d ∧ d.readReg ag addr = (d, 0)) ∧
    (∀ addr v, d.pageAt addr = none → d.writeReg ag addr v = d ∧ d.readReg ag addr = (d, 0)) ∧
    (∀ addr v p i, d.pageAt addr = some (p, i) → d.reaches ag p i = true → d.pageInReset p i = true →
      d.writeReg ag addr v = { d with power := { d.power with late := d.power.late ++ [(ag, addr, v % 2 ^ 32)] } }) ∧
    (∀ n v, Leads (.errInjWrite ag n v) ⟨d, w⟩ (d.writeReg ag (4096 * n + 0x20) v) ∧ Leads (.pageCtlWrite ag n v) ⟨d, w⟩ (d.writeReg ag (4096 * n + 4) v) ∧
      Leads (.evtClrWrite ag n v) ⟨d, w⟩ (d.writeReg ag (4096 * n + 0x10) v) ∧ Leads (.errClrWrite ag n v) ⟨d, w⟩ (d.writeReg ag (4096 * n + 0x1C) v)) ∧
    (∀ n v p i, d.pageAt (4096 * n + 0x20) = some (p, i) → p ≠ .ddrch → d.reaches ag p i = true → d.pageInReset p i = false → d.writeReg ag (4096 * n + 0x20) v = d.inject p i (v % 2 ^ 32)) ∧
    (∀ n v p i, d.pageAt (4096 * n + 4) = some (p, i) → d.reaches ag p i = true → d.pageInReset p i = false → d.writeReg ag (4096 * n + 4) v = d.pageCtl p i (v % 2 ^ 32)) ∧
    Leads (.lockAll ag) ⟨d, w⟩ (d.writeReg ag 0x134 1) ∧
    (∀ v, Leads (.calDataAccess ag (some v)) ⟨d, w⟩ (d.writeReg ag 0x2210C v)) ∧
    Leads (.calDataAccess ag none) ⟨d, w⟩ ((d.readReg ag 0x2210C).1.send (.regValue ag 0x2210C (d.readReg ag 0x2210C).2)) ∧
    (d.power.auxOk = false → ∀ a v, Leads (.regRead a) ⟨d, w⟩ d ∧ Leads (.regWrite a v) ⟨d, w⟩ d) ∧
    (d.power.auxOk = true → ∀ a v, a % 4 ≠ 0 ∨ 0x800000 ≤ a →
      Leads (.regRead a) ⟨d, w⟩ (d.send (.endpoint 0x10 3 [])) ∧ Leads (.regWrite a v) ⟨d, w⟩ (d.send (.endpoint 0x11 3 []))) ∧
    (d.power.auxOk = true → ∀ a v seen, a % 4 = 0 → a < 0x800000 →
      (∀ p i, d.pageAt a = some (p, i) → seen = d.reaches .endpoint p i) → (d.pageAt a = none → seen = (d.hubUp && decide (a / 4096 < 0x200 ∨ 0x400 ≤ a / 4096))) →
      (seen = true → Leads (.regRead a) ⟨d, w⟩ ((d.readReg .endpoint a).1.answerEp 0x10 0 (leBytes 4 (d.readReg .endpoint a).2)) ∧
        Leads (.regWrite a v) ⟨d, w⟩ ((d.writeReg .endpoint a v).answerEp 0x11 0 [])) ∧
      (seen = false → Leads (.regRead a) ⟨d, w⟩ (d.send (.endpoint 0x10 1 [])) ∧ Leads (.regWrite a v) ⟨d, w⟩ (d.send (.endpoint 0x11 1 []))))

/-- For every quarter of 1,024 bytes and every rest of a stream, the decoder reads from the quarter's encoding followed by the rest exactly the quarter, and takes exactly the bytes of the encoding. This holds for every choice of LZ tokens (free values, log entry 5), which the encoder takes only where they decode to the quarter. No mode that can express the quarter is shorter, the encoding is one of the modes, and it takes at most 1,025 bytes. (R83, R84, R85) -/
def Obligations.QuarterEncodingsReadBack : Prop :=
  ∀ q rest : List Nat, q.length = 1024 → (∀ b ∈ q, b < 256) →
    decodeQuarter (encodeQuarter q ++ rest) = (.bytes q, (encodeQuarter q).length) ∧
    encodeQuarter q ∈ quarterModes q ∧ (∀ e ∈ quarterModes q, (encodeQuarter q).length ≤ e.length) ∧ (encodeQuarter q).length ≤ 1025

/-- For every codeword of 82 bytes with both syndromes zero, the decoder answers the codeword unchanged and reports no correction. With any one of its 82 bytes changed by any nonzero pattern, it answers the codeword and reports a correction. (R205) -/
def Obligations.FecCorrectsEverySingleByte : Prop :=
  ∀ cw : List Nat, cw.length = 82 → (∀ b ∈ cw, b < 256) → rsSyndromes cw = (0, 0) →
    rsCorrect cw = some (cw, false) ∧
    ∀ i e, i < 82 → 0 < e → e < 256 → rsCorrect (cw.set i (cw.getD i 0 ^^^ e)) = some (cw, true)

/-- In a state whose memory has its canonical form and whose write queues hold each burst at most once, in the queue of its target: putting a burst there keeps both, the burst then reads as written, with its poison mark, every other burst reads as before, and a burst that was waiting is replaced in place (R410: the queue does not grow). Draining the oldest entry of any queue keeps both and changes no burst. The premise is kept by these operations, and it holds at reset. (R408, R409, R410, R411) -/
def Obligations.WriteQueueKeepsEveryBurst : Prop :=
  (WritesPlaced State.reset.dev ∧ Memory.wf State.reset.dev.mem = true) ∧
  (∀ (d : Device) (ra : Nat) (v : Line) (poison : Bool) (owner : Option Nat), Memory.wf d.mem = true → WritesPlaced d → ra % 64 = 0 →
    Memory.wf (d.putBurst ra v poison owner).mem = true ∧ WritesPlaced (d.putBurst ra v poison owner) ∧
    (d.putBurst ra v poison owner).burstNow ra = (v, poison) ∧
    (∀ b, b ≠ ra → b % 64 = 0 → (d.putBurst ra v poison owner).burstNow b = d.burstNow b) ∧
    ((d.wqFind ra).isSome = true → (d.putBurst ra v poison owner).queued (channelOf ra) (targetOf ra % 2) =
      d.queued (channelOf ra) (targetOf ra % 2)) ∧
    (d.inPrivate ra = false → d.writeBurst ra v poison owner = d.putBurst ra v poison owner)) ∧
  (∀ (d : Device) (c sub : Nat), Memory.wf d.mem = true → WritesPlaced d →
    Memory.wf (d.drainOne c sub).mem = true ∧ WritesPlaced (d.drainOne c sub) ∧
    (∀ b, b % 64 = 0 → (d.drainOne c sub).burstNow b = d.burstNow b) ∧ (d.drainOne c sub).queued c sub = d.queued c sub - 1)

/-- For every local address below 2^44: the set is LLA[11:6] above the XOR of LPN[13:0], LPN[27:14] and LPN[31:28], it is below 2^20, and the slice is set[13:9]. Two lines of one loaf lie in the same slice and on different sets. LPN[13:0] is set[13:0] XOR LPN[27:14] XOR LPN[31:28], so two lines with equal sets and equal TAGs (LPN[31:14]) are one line. (R121) -/
def Obligations.DirectorySetAndTagNameTheLine : Prop :=
  (∀ lla, lla < 2 ^ 44 →
    dirSet (lla / 64) = 2 ^ 14 * (lla / 64 % 64) + ((lla / 2 ^ 12 % 2 ^ 14) ^^^ (lla / 2 ^ 26 % 2 ^ 14) ^^^ (lla / 2 ^ 40 % 2 ^ 4)) ∧
    dirSet (lla / 64) < 2 ^ 20 ∧ homeSlice (lla / 64) = dirSet (lla / 64) / 2 ^ 9 % 2 ^ 5 ∧
    lla / 2 ^ 12 % 2 ^ 14 = (dirSet (lla / 64) % 2 ^ 14) ^^^ (lla / 2 ^ 26 % 2 ^ 14) ^^^ (lla / 2 ^ 40 % 2 ^ 4)) ∧
  (∀ a b : Nat, a / 64 = b / 64 → homeSlice a = homeSlice b ∧ (a ≠ b → dirSet a ≠ dirSet b)) ∧
  (∀ a b : Nat, a < 2 ^ 38 → b < 2 ^ 38 → dirSet a = dirSet b → lpnOf a / 2 ^ 14 = lpnOf b / 2 ^ 14 → a = b)

/-- For every agent that reaches a page that is not in reset, and every word: a write of EVT_CLR whose bits [31:16] equal EVT_SEQ clears every EVT_STAT flag and changes nothing else; any other changes nothing. A write of ERR_CLR whose bits [31:16] equal ERR_SEQ clears every ERR_STAT flag, ACC_ERR and ACC_REFUSED, and then hands the ledger a UC_CLEARED record for each UC flag it cleared; any other changes nothing. The driver's loop of the rule is software, outside the block. (R645) -/
def Obligations.ClearBySequence : Prop :=
  ∀ (d : Device) (w : List Instr) (ag : Agent) (n v : Nat) (p : Page) (i : Nat), v < 2 ^ 32 →
    d.reaches ag p i = true → d.pageInReset p i = false →
    (d.pageAt (4096 * n + 0x10) = some (p, i) →
      (v / 65536 = (d.page p i).evtSeq.toNat → Leads (.evtClrWrite ag n v) ⟨d, w⟩ (d.setPage p i { d.page p i with evt := 0 })) ∧
      (v / 65536 ≠ (d.page p i).evtSeq.toNat → Leads (.evtClrWrite ag n v) ⟨d, w⟩ d)) ∧
    (d.pageAt (4096 * n + 0x1C) = some (p, i) →
      (v / 65536 = (d.page p i).errSeq.toNat → ∃ cleared : List Record,
        cleared.map (fun r => r.detail.headD 0) =
          (onesOf 32 (d.page p i).err.toNat).filter (fun b => flagClass d.fc.testCls p b = .uc) ∧
        (∀ r ∈ cleared, r.type = 0x0013 ∧ r.cls = 2 ∧ r.pageId = p.idWord i) ∧
        Leads (.errClrWrite ag n v) ⟨d, w⟩ (cleared.foldl (fun (e : Device) r => e.record r (r.detail.drop 1))
          (d.setPage p i { d.page p i with err := 0, accErr := false, accRefused := false, setAt := [] }))) ∧
      (v / 65536 ≠ (d.page p i).errSeq.toNat → Leads (.errClrWrite ag n v) ⟨d, w⟩ d))

/-- For every word of every page and every written value: an RW field, and an RWL field of a page that is not locked, takes its bits of the value unless they are a reserved encoding, which keeps the field while the other fields of the write take effect; an RWL field of a locked page and a field of any other access keep their values. No field outside the word changes. The header changes only where the page is locked and the write would have changed an RWL field: LOCKED_WRITES counts 1, up to 65,535. Nothing else changes. (R10, R13, R643) -/
def Obligations.PlainFieldsKeepReservedAndLockedValues : Prop :=
  ∀ (d : Device) (p : Page) (i off v : Nat), ∃ r h, d.plainWrite p i off v = { d with regs := r, hdr := h } ∧
    (∀ f ∈ p.word off, (f.acc = .rw ∨ f.acc = .rwl ∧ (d.page p i).lock = false) →
      (d.plainWrite p i off v).reg f (d.bankOf p i off) =
        if f.minV ≤ f.of v ∧ f.of v ≤ f.maxV then f.of v else d.reg f (d.bankOf p i off)) ∧
    (∀ f ∈ p.word off, (f.acc = .rwl ∧ (d.page p i).lock = true ∨ f.acc ≠ .rw ∧ f.acc ≠ .rwl) →
      (d.plainWrite p i off v).reg f (d.bankOf p i off) = d.reg f (d.bankOf p i off)) ∧
    (∀ k, (∀ f ∈ p.word off, f.key (d.bankOf p i off) ≠ k) → KMap.find r k = KMap.find d.regs k) ∧
    (((d.page p i).lock = false ∨ ∀ f ∈ p.word off, f.acc = .rwl → f.of v = d.reg f (d.bankOf p i off)) → h = d.hdr) ∧
    ((d.page p i).lock = true → (∃ f ∈ p.word off, f.acc = .rwl ∧ f.of v ≠ d.reg f (d.bankOf p i off)) →
      h = KMap.put d.hdr (p.pid i) { d.page p i with lockedWrites := min ((d.page p i).lockedWrites + 1) 65535 })

/-- With 1, 2 or 4 members, every logical address is recovered from its home position and its local address; and for every position and every local address there is a logical address that is homed at that position and has that local address. (R38, R43) -/
def Obligations.HomePositionAndLocalAddressNameThePage : Prop :=
  ∀ m, m ≤ 2 →
    (∀ qla, homePosition m (qla / 4096) < 2 ^ m ∧ qlaOf m (homePosition m (qla / 4096)) (llaOf m qla) = qla) ∧
    (∀ pos lla, pos < 2 ^ m → homePosition m (qlaOf m pos lla / 4096) = pos ∧ llaOf m (qlaOf m pos lla) = lla)

/-- For every raw address of 43 bits: the target is the XOR of RA[13:9], RA[18:14], RA[23:19], RA[28:24] and RA[33:29], the channel is target[4:1] and the subchannel target[0], TA is RA[42:14] above RA[8:0]. With installed memory of 2^k bytes, TA of an installed address is k − 5 bits wide. Two raw addresses with the same target and the same TA are equal. (R404) -/
def Obligations.RawAddressMap : Prop :=
  (∀ ra, ra < 2 ^ 43 →
    targetOf ra = (ra / 2 ^ 9 % 2 ^ 5) ^^^ (ra / 2 ^ 14 % 2 ^ 5) ^^^ (ra / 2 ^ 19 % 2 ^ 5) ^^^ (ra / 2 ^ 24 % 2 ^ 5) ^^^ (ra / 2 ^ 29 % 2 ^ 5) ∧
    targetOf ra < 32 ∧ channelOf ra = targetOf ra / 2 ∧ taOf ra = 2 ^ 9 * (ra / 2 ^ 14 % 2 ^ 29) + ra % 2 ^ 9) ∧
  (∀ (d : Device) (ra : Nat), (d.dramLoc ra).ch = channelOf ra ∧ (d.dramLoc ra).sub = targetOf ra % 2) ∧
  (∀ (d : Device) (ra k : Nat), 14 ≤ k → d.rawBytes = 2 ^ k → ra < d.rawBytes → taOf ra < 2 ^ (k - 5)) ∧
  (∀ a b : Nat, targetOf a = targetOf b → taOf a = taOf b → a = b)

/-- For every organisation of the modules and every raw address of a burst whose TA fits the fields of that organisation, the map from places to raw addresses gives the burst's address back from its channel, subchannel, DIMM, rank, chip ID, bank group, bank, row and column. (R404, R405) -/
def Obligations.DramPlacesNameTheBurst : Prop :=
  ∀ (d : Device) (ra : Nat), ra % 64 = 0 →
    taOf ra < 2 ^ (14 + d.hw.colBits + d.hw.rankBits + d.hw.cidBits + d.hw.rowBits + (if d.hw.dimms = 2 then 1 else 0)) →
    d.rawOf (d.dramLoc ra) = ra

/-- For every raw address, the copy lies on channel (c + 8) mod 16 and on the same subchannel, and the copy of the copy is the burst itself. With memory installed, a burst lies in the device-private area exactly when its copy does. (R69, R426) -/
def Obligations.PrivateCopiesLieOnTheOtherChannel : Prop :=
  (∀ ra : Nat, channelOf (privateCopy ra) = (channelOf ra + 8) % 16 ∧ targetOf (privateCopy ra) % 2 = targetOf ra % 2 ∧
    privateCopy (privateCopy ra) = ra) ∧
  (∀ (d : Device) (ra : Nat), 0 < d.hw.dimms → 0 < d.hw.dimmGib → d.inPrivate (privateCopy ra) = d.inPrivate ra ∧
    (privateCopy ra < d.rawBytes ↔ ra < d.rawBytes))

/-- A burst without errors is CLEAN, and with the poison mask it is POISONED without a correction. Errors confined to one symbol position of the four codewords, whatever their values, are CORRECTED, and after the correction no data symbol is wrong. (R434, R436, R438) -/
def Obligations.DramCodeCorrectsOneSymbol : Prop :=
  burstOutcome [] false = .clean ∧ burstOutcome [] true = .poisoned false ∧
  ∀ (err : List Nat) (j : Nat), j < 10 → (∀ k i, k < 4 → i < 10 → i ≠ j → err.getD (10 * k + i) 0 = 0) →
    (∀ k, k < 4 → err.getD (10 * k + j) 0 < 65536) → (∃ k, k < 4 ∧ err.getD (10 * k + j) 0 ≠ 0) →
    burstOutcome err false = .corrected ∧ ∀ k, k < 4 → residual err k false = false

/-- For every record whose fields fit the layout and which names as many slices as NSLICE says, the word of the record reads back as the record, and it is below 2^256. (R77, R79) -/
def Obligations.LoafRecordsReadBack : Prop :=
  ∀ r : LoafRec, r.state < 8 → r.nslice ≤ 8 → r.bin < 512 → r.qend.length = 3 → (∀ q ∈ r.qend, q < 4096) →
    r.slices.length = r.nslice → (∀ i ∈ r.slices, i < 2 ^ 25) → LoafRec.ofWord r.word = r ∧ r.word < 2 ^ 256
end

