-- ==== Sys2Proof/Laws/Collect.lean ====
section
/-! SUPPORT. What the words of the fault collector show, bit by bit. -/

namespace Sys2Proof.Machine

/-- One bit of the word of a source. -/
theorem getLsbD_source (s k : Nat) (h : s < 112) : (BitVec.ofNat 128 (2 ^ k)).getLsbD s = decide (s = k) := by
  rw [BitVec.getLsbD_ofNat, Nat.testBit_two_pow]
  have h' : s < 128 := by omega
  simp [h', eq_comm]

/-- A bit of a word that collects sources: it was set, or some element names it. -/
theorem foldl_orSource {β : Type} (g : β → Option Nat) (l : List β) (w : BitVec 128) (s : Nat) (h : s < 112) :
    (l.foldl (fun w b => orSource w (g b)) w).getLsbD s = true ↔ w.getLsbD s = true ∨ ∃ b ∈ l, g b = some s := by
  induction l generalizing w with
  | nil => simp
  | cons b l ih =>
    rw [List.foldl_cons, ih]
    have hb : (orSource w (g b)).getLsbD s = true ↔ w.getLsbD s = true ∨ g b = some s := by
      cases hg : g b with
      | none => simp [orSource]
      | some k =>
        simp only [orSource]
        rw [BitVec.getLsbD_or, getLsbD_source s k h, Bool.or_eq_true, decide_eq_true_iff, Option.some_inj, eq_comm (a := s)]
    rw [hb]
    simp only [List.mem_cons, exists_eq_or_imp, or_assoc]

/-- A bit of the sources with a fault of a class that passes a test. -/
theorem errSources_bit (tc : FaultClass) (hdr : KMap PageHdr) (test : FaultClass → Bool) (s : Nat) (h : s < 112) :
    (errSources tc hdr test).getLsbD s = true ↔ ∃ e ∈ hdr, ∃ f ∈ (Page.ofCode (e.1 / 1024)).errFlags,
      e.2.err.getLsbD f.bit = true ∧ test (flagClass tc (Page.ofCode (e.1 / 1024)) f.bit) = true
        ∧ (Page.ofCode (e.1 / 1024)).source (e.1 % 1024) f.bit = some s := by
  let step (w : BitVec 128) (e : Nat × PageHdr) : BitVec 128 :=
    ((Page.ofCode (e.1 / 1024)).errFlags.filter (fun f => e.2.err.getLsbD f.bit && test (flagClass tc (Page.ofCode (e.1 / 1024)) f.bit))).foldl
      (fun w f => orSource w ((Page.ofCode (e.1 / 1024)).source (e.1 % 1024) f.bit)) w
  have key : ∀ (l : KMap PageHdr) (w : BitVec 128), (l.foldl step w).getLsbD s = true ↔ w.getLsbD s = true ∨
      ∃ e ∈ l, ∃ f ∈ (Page.ofCode (e.1 / 1024)).errFlags,
        e.2.err.getLsbD f.bit = true ∧ test (flagClass tc (Page.ofCode (e.1 / 1024)) f.bit) = true
          ∧ (Page.ofCode (e.1 / 1024)).source (e.1 % 1024) f.bit = some s := by
    intro l
    induction l with
    | nil => intro w; simp
    | cons e m ih =>
      intro w
      rw [List.foldl_cons, ih]
      have he : (step w e).getLsbD s = true ↔ w.getLsbD s = true ∨ ∃ f ∈ (Page.ofCode (e.1 / 1024)).errFlags,
          e.2.err.getLsbD f.bit = true ∧ test (flagClass tc (Page.ofCode (e.1 / 1024)) f.bit) = true
            ∧ (Page.ofCode (e.1 / 1024)).source (e.1 % 1024) f.bit = some s := by
        simp only [step]
        rw [foldl_orSource (fun (f : Flag) => (Page.ofCode (e.1 / 1024)).source (e.1 % 1024) f.bit) _ w s h]
        simp only [List.mem_filter, Bool.and_eq_true, and_assoc]
      rw [he]
      simp only [List.mem_cons, exists_eq_or_imp, or_assoc]
  have h0 : errSources tc hdr test = hdr.foldl step 0 := rfl
  rw [h0, key hdr 0, BitVec.ofNat_eq_ofNat, BitVec.getLsbD_zero]
  simp only [Bool.false_eq_true, false_or]

/-- A bit of the sources of the pages whose header passes a test. -/
theorem pageSources_bit (hdr : KMap PageHdr) (test : PageHdr → Bool) (s : Nat) (h : s < 112) :
    (pageSources hdr test).getLsbD s = true ↔ ∃ e ∈ hdr, test e.2 = true ∧ (Page.ofCode (e.1 / 1024)).source (e.1 % 1024) 0 = some s := by
  unfold pageSources
  rw [foldl_orSource (fun (e : Nat × PageHdr) => if test e.2 then (Page.ofCode (e.1 / 1024)).source (e.1 % 1024) 0 else none) hdr 0 s h]
  simp

/-- A bit of the word of a list of sources. -/
theorem sourcesOf_bit (l : List Nat) (s : Nat) (h : s < 112) : (sourcesOf l).getLsbD s = true ↔ s ∈ l := by
  unfold sourcesOf
  rw [foldl_orSource (fun (k : Nat) => some k) l 0 s h]
  simp

/-- A source has a timer after the collector followed exactly when it has a UC fault. -/
theorem nextTimers_isSome (old : KMap EscTimer) (uc : BitVec 128) (now s : Nat) (h : s < 112) :
    (KMap.find (nextTimers old uc now) s).isSome = true ↔ uc.getLsbD s = true := by
  have key : ∀ (l : List Nat) (g : Nat → EscTimer), (KMap.find (l.map (fun s => (s, g s))) s).isSome = true ↔ s ∈ l := by
    intro l g
    induction l with
    | nil => simp [KMap.find]
    | cons a l ih =>
      simp only [List.map_cons, KMap.find, List.mem_cons]
      by_cases ha : a = s
      · simp [ha]
      · simp only [ha, if_false, ih]
        have : ¬ s = a := fun e => ha e.symm
        simp [this]
  unfold nextTimers
  rw [key]
  simp [h]

end Sys2Proof.Machine
end

