-- ==== Sys2Proof/Laws/Exec.lean ====
section
/-! SUPPORT. Every command answers a next state in which the collector follows the flags and the queue is what it was. -/

namespace Sys2Proof.Machine

open Sys2Proof

/-- What a command can do: it changes the device, the collector follows, and the queue is left alone. -/
theorem exec_next (c : Instr) (s : State) : ∃ d : Device, exec c s = .next { s with dev := settle d } := by
  cases c <;> exact ⟨_, rfl⟩

end Sys2Proof.Machine
end

