-- ==== Sys2Proof/Laws/KMap.lean ====
section
/-! SUPPORT. Laws of sparse tables: what a table holds after an entry is written or removed, and that its keys stay strictly rising. -/

namespace Sys2Proof.Machine

variable {α : Type}

/-- A key that is written holds what was written. -/
@[simp] theorem KMap.find_put_self (m : KMap α) (i : Nat) (v : α) : KMap.find (KMap.put m i v) i = some v := by
  induction m with
  | nil => simp [KMap.put, KMap.find]
  | cons e m ih =>
    obtain ⟨k, w⟩ := e
    by_cases h : i = k
    · simp [KMap.put, KMap.find, h]
    · by_cases h2 : i < k
      · simp [KMap.put, KMap.find, h, h2]
      · have : ¬ k = i := fun e => h e.symm
        simp [KMap.put, KMap.find, h, h2, this, ih]

/-- Every other key holds what it held. -/
theorem KMap.find_put_ne (m : KMap α) {i j : Nat} (v : α) (h : j ≠ i) : KMap.find (KMap.put m i v) j = KMap.find m j := by
  induction m with
  | nil =>
    have : ¬ i = j := fun e => h e.symm
    simp [KMap.put, KMap.find, this]
  | cons e m ih =>
    obtain ⟨k, w⟩ := e
    have hj : ¬ i = j := fun e => h e.symm
    by_cases h1 : i = k
    · subst h1; simp [KMap.put, KMap.find, hj]
    · by_cases h2 : i < k
      · simp [KMap.put, KMap.find, h1, h2, hj]
      · simp only [KMap.put, h1, h2, if_false, KMap.find, ih]

/-- What every key holds after one is written. -/
theorem KMap.find_put (m : KMap α) (i j : Nat) (v : α) :
    KMap.find (KMap.put m i v) j = if j = i then some v else KMap.find m j := by
  by_cases h : j = i
  · subst h; simp
  · simp [h, KMap.find_put_ne]

/-- A key that is written reads as what was written. -/
@[simp] theorem KMap.get_put_self (m : KMap α) (a : α) (i : Nat) (v : α) : KMap.get (KMap.put m i v) a i = v := by
  simp [KMap.get]

/-- Every other key reads as before. -/
theorem KMap.get_put_ne (m : KMap α) (a : α) {i j : Nat} (v : α) (h : j ≠ i) :
    KMap.get (KMap.put m i v) a j = KMap.get m a j := by
  simp [KMap.get, KMap.find_put_ne m v h]

/-- What every key reads as after one is written. -/
theorem KMap.get_put (m : KMap α) (a : α) (i j : Nat) (v : α) :
    KMap.get (KMap.put m i v) a j = if j = i then v else KMap.get m a j := by
  by_cases h : j = i
  · subst h; simp
  · simp [h, KMap.get_put_ne]

/-- A removed key holds nothing. -/
@[simp] theorem KMap.find_drop_self (m : KMap α) (i : Nat) : KMap.find (KMap.drop m i) i = none := by
  induction m with
  | nil => simp [KMap.drop, KMap.find]
  | cons e m ih =>
    obtain ⟨k, w⟩ := e
    by_cases h : k = i
    · simpa [KMap.drop, h] using ih
    · simpa [KMap.drop, KMap.find, h] using ih

/-- Removing a key leaves every other. -/
theorem KMap.find_drop_ne (m : KMap α) {i j : Nat} (h : j ≠ i) : KMap.find (KMap.drop m i) j = KMap.find m j := by
  induction m with
  | nil => simp [KMap.drop, KMap.find]
  | cons e m ih =>
    obtain ⟨k, w⟩ := e
    by_cases h1 : k = i
    · have : ¬ k = j := fun e => h (by omega)
      simp only [KMap.find, this, if_false]
      simpa [KMap.drop, h1] using ih
    · by_cases h2 : k = j
      · simp [KMap.drop, KMap.find, h2, h]
      · simpa [KMap.drop, KMap.find, h1, h2] using ih

/-- The keys of a table. -/
theorem KMap.sorted_cons (k : Nat) (w : α) (m : KMap α) :
    KMap.sorted ((k, w) :: m) = true ↔ (∀ e ∈ m, k < e.1) ∧ KMap.sorted m = true := by
  induction m generalizing k w with
  | nil => simp [KMap.sorted]
  | cons e m ih =>
    obtain ⟨b, x⟩ := e
    rw [KMap.sorted, Bool.and_eq_true, decide_eq_true_iff, ih b x]
    constructor
    · rintro ⟨h1, h2, h3⟩
      refine ⟨?_, ?_⟩
      · intro e he
        rcases List.mem_cons.mp he with rfl | he
        · exact h1
        · exact Nat.lt_trans h1 (h2 e he)
      · exact ⟨h2, h3⟩
    · rintro ⟨h1, h2, h3⟩
      exact ⟨h1 (b, x) (by simp), h2, h3⟩

/-- The keys after a write: the old ones and the one written. -/
theorem KMap.mem_put {m : KMap α} {i : Nat} {v : α} {e : Nat × α} (h : e ∈ KMap.put m i v) : e = (i, v) ∨ e ∈ m := by
  induction m with
  | nil => simpa [KMap.put] using h
  | cons x m ih =>
    obtain ⟨k, w⟩ := x
    simp only [KMap.put] at h
    split at h
    · rcases List.mem_cons.mp h with h | h
      · exact .inl h
      · exact .inr (List.mem_cons_of_mem _ h)
    · split at h
      · rcases List.mem_cons.mp h with h | h
        · exact .inl h
        · exact .inr h
      · rcases List.mem_cons.mp h with h | h
        · exact .inr (by simp [h])
        · exact (ih h).imp id (List.mem_cons_of_mem _)

/-- Writing a key keeps the keys strictly rising. -/
theorem KMap.sorted_put {m : KMap α} (i : Nat) (v : α) (h : KMap.sorted m = true) : KMap.sorted (KMap.put m i v) = true := by
  induction m with
  | nil => simp [KMap.put, KMap.sorted]
  | cons x m ih =>
    obtain ⟨k, w⟩ := x
    rw [KMap.sorted_cons] at h
    obtain ⟨h1, h2⟩ := h
    simp only [KMap.put]
    split
    · next e => subst e; exact (KMap.sorted_cons _ _ _).mpr ⟨h1, h2⟩
    · split
      · next lt =>
        refine (KMap.sorted_cons _ _ _).mpr ⟨?_, (KMap.sorted_cons _ _ _).mpr ⟨h1, h2⟩⟩
        intro e he
        rcases List.mem_cons.mp he with rfl | he
        · exact lt
        · exact Nat.lt_trans lt (h1 e he)
      · next ne nlt =>
        refine (KMap.sorted_cons _ _ _).mpr ⟨?_, ih h2⟩
        intro e he
        rcases KMap.mem_put he with rfl | he
        · show k < i
          omega
        · exact h1 e he

/-- Keeping some of the entries keeps the keys strictly rising. -/
theorem KMap.sorted_filter {m : KMap α} (p : Nat × α → Bool) (h : KMap.sorted m = true) : KMap.sorted (m.filter p) = true := by
  induction m with
  | nil => simp [KMap.sorted]
  | cons x m ih =>
    obtain ⟨k, w⟩ := x
    rw [KMap.sorted_cons] at h
    by_cases hp : p (k, w) = true
    · rw [List.filter_cons_of_pos hp, KMap.sorted_cons]
      exact ⟨fun e he => h.1 e (List.mem_filter.mp he).1, ih h.2⟩
    · rw [List.filter_cons_of_neg hp]
      exact ih h.2

/-- A second write of a key replaces the first. -/
@[simp] theorem KMap.put_put (m : KMap α) (i : Nat) (v w : α) : KMap.put (KMap.put m i v) i w = KMap.put m i w := by
  induction m with
  | nil => simp [KMap.put]
  | cons e m ih =>
    obtain ⟨k, x⟩ := e
    by_cases h : i = k
    · simp [KMap.put, h]
    · by_cases h2 : i < k
      · simp [KMap.put, h, h2]
      · simp [KMap.put, h, h2, ih]

/-- Writing what a key holds changes nothing. -/
theorem KMap.put_same {m : KMap α} {i : Nat} {v : α} (s : KMap.sorted m = true) (h : KMap.find m i = some v) :
    KMap.put m i v = m := by
  induction m with
  | nil => simp [KMap.find] at h
  | cons e m ih =>
    obtain ⟨k, x⟩ := e
    by_cases h1 : k = i
    · subst h1; simp [KMap.find] at h; simp [KMap.put, h]
    · have h1' : ¬ i = k := fun e => h1 e.symm
      simp only [KMap.find, h1, if_false] at h
      rw [KMap.sorted_cons] at s
      have hm : (i, v) ∈ m := by
        clear ih s h1 h1'
        induction m with
        | nil => simp [KMap.find] at h
        | cons f m ih2 =>
          obtain ⟨a, b⟩ := f
          by_cases hh : a = i
          · subst hh; simp [KMap.find] at h; simp [h]
          · simp [KMap.find, hh] at h; exact List.mem_cons_of_mem _ (ih2 h)
      have h3 : ¬ i < k := by have := s.1 _ hm; simp at this; omega
      simp only [KMap.put, h1', h3, if_false]
      rw [ih s.2 h]

end Sys2Proof.Machine
end

