-- ==== Sys2Proof/Laws/Memory.lean ====
section
/-! SUPPORT. Laws of memory: a byte reads as it was last written, every other byte is left alone, and every write keeps the canonical
form. -/

namespace Sys2Proof.Machine

/-- The canonical form of a list with a first entry: it is not 0, it lies below the others, and they are canonical. -/
theorem Memory.wf_cons (a : Nat) (b : BitVec 8) (m : Memory) :
    Memory.wf ((a, b) :: m) = true ↔ b ≠ 0 ∧ (∀ e ∈ m, a < e.1) ∧ Memory.wf m = true := by
  induction m generalizing a b with
  | nil => simp [Memory.wf]
  | cons e m ih =>
    obtain ⟨c, x⟩ := e
    rw [Memory.wf, Bool.and_eq_true, Bool.and_eq_true, decide_eq_true_iff, ih c x]
    constructor
    · rintro ⟨⟨h1, h2⟩, h3, h4, h5⟩
      refine ⟨by simpa using h1, ?_, ⟨h3, h4, h5⟩⟩
      intro e he
      rcases List.mem_cons.mp he with rfl | he
      · exact h2
      · exact Nat.lt_trans h2 (h4 e he)
    · rintro ⟨h1, h2, h3⟩
      exact ⟨⟨by simpa using h1, h2 (c, x) (by simp)⟩, h3⟩

/-- An address below every entry reads as 0. -/
theorem Memory.byte_below {m : Memory} {i : Nat} (h : ∀ e ∈ m, i < e.1) : Memory.byte m i = 0 := by
  induction m with
  | nil => rfl
  | cons e m ih =>
    obtain ⟨a, b⟩ := e
    have h1 : i < a := h (a, b) (by simp)
    have h2 : ¬ a = i := by omega
    simp only [Memory.byte, h2, if_false]
    exact ih (fun e he => h e (List.mem_cons_of_mem _ he))

/-- The entries after a write: the old ones and the one written. -/
theorem Memory.mem_setByte {m : Memory} {i : Nat} {v : BitVec 8} {e : Host.Cell} (h : e ∈ Memory.setByte m i v) :
    e = (i, v) ∨ e ∈ m := by
  induction m with
  | nil =>
    simp only [Memory.setByte] at h
    split at h
    · cases h
    · simpa using h
  | cons x m ih =>
    obtain ⟨a, b⟩ := x
    simp only [Memory.setByte] at h
    split at h
    · split at h
      · exact .inr (List.mem_cons_of_mem _ h)
      · rcases List.mem_cons.mp h with h | h
        · exact .inl h
        · exact .inr (List.mem_cons_of_mem _ h)
    · split at h
      · split at h
        · exact .inr h
        · rcases List.mem_cons.mp h with h | h
          · exact .inl h
          · exact .inr h
      · rcases List.mem_cons.mp h with h | h
        · exact .inr (by simp [h])
        · exact (ih h).imp id (List.mem_cons_of_mem _)

/-- A write of one byte keeps the canonical form. -/
theorem Memory.wf_setByte {m : Memory} (i : Nat) (v : BitVec 8) (h : Memory.wf m = true) :
    Memory.wf (Memory.setByte m i v) = true := by
  induction m with
  | nil =>
    simp only [Memory.setByte]
    split
    · rfl
    · next hv => simpa [Memory.wf] using hv
  | cons x m ih =>
    obtain ⟨a, b⟩ := x
    have h' := (Memory.wf_cons a b m).mp h
    obtain ⟨h1, h2, h3⟩ := h'
    simp only [Memory.setByte]
    split
    · next e =>
      split
      · exact h3
      · next hv =>
        subst e
        exact (Memory.wf_cons _ _ _).mpr ⟨hv, h2, h3⟩
    · split
      · next lt =>
        split
        · exact h
        · next hv =>
          refine (Memory.wf_cons _ _ _).mpr ⟨hv, ?_, h⟩
          intro e he
          rcases List.mem_cons.mp he with rfl | he
          · exact lt
          · exact Nat.lt_trans lt (h2 e he)
      · next ne nlt =>
        refine (Memory.wf_cons _ _ _).mpr ⟨h1, ?_, ih h3⟩
        intro e he
        rcases Memory.mem_setByte he with rfl | he
        · show a < i
          omega
        · exact h2 e he

/-- A write of bytes keeps the canonical form. -/
theorem Memory.wf_setBytes {m : Memory} (a : Nat) (l : List Nat) (h : Memory.wf m = true) :
    Memory.wf (Memory.setBytes m a l) = true := by
  induction l generalizing m a with
  | nil => exact h
  | cons v l ih => exact ih (a + 1) (Memory.wf_setByte a _ h)

/-- What every byte reads as after one is written. -/
theorem Memory.byte_setByte {m : Memory} (i j : Nat) (v : BitVec 8) (h : Memory.wf m = true) :
    Memory.byte (Memory.setByte m i v) j = if j = i then v else Memory.byte m j := by
  induction m with
  | nil =>
    simp only [Memory.setByte]
    split
    · next hv => subst hv; simp [Memory.byte]
    · by_cases hj : j = i
      · simp [Memory.byte, hj]
      · have : ¬ i = j := fun e => hj e.symm
        simp [Memory.byte, hj, this]
  | cons x m ih =>
    obtain ⟨a, b⟩ := x
    obtain ⟨h1, h2, h3⟩ := (Memory.wf_cons a b m).mp h
    simp only [Memory.setByte]
    split
    · next e =>
      subst e
      split
      · next hv =>
        subst hv
        by_cases hj : j = i
        · subst hj; simp [Memory.byte_below h2]
        · have : ¬ i = j := fun e => hj e.symm
          simp [Memory.byte, hj, this]
      · by_cases hj : j = i
        · simp [Memory.byte, hj]
        · have : ¬ i = j := fun e => hj e.symm
          simp [Memory.byte, hj, this]
    · next ne =>
      split
      · next lt =>
        split
        · next hv =>
          subst hv
          by_cases hj : j = i
          · subst hj
            have : Memory.byte ((a, b) :: m) j = 0 := by
              apply Memory.byte_below
              intro e he
              rcases List.mem_cons.mp he with rfl | he
              · exact lt
              · exact Nat.lt_trans lt (h2 e he)
            simp [this]
          · simp [hj]
        · by_cases hj : j = i
          · simp [Memory.byte, hj]
          · have : ¬ i = j := fun e => hj e.symm
            simp [Memory.byte, hj, this]
      · simp only [Memory.byte, ih h3]
        by_cases hj : j = i
        · subst hj
          have : ¬ a = j := fun e => ne e.symm
          simp [this]
        · simp [hj]

/-- Bytes outside a write are left alone. -/
theorem Memory.byte_setBytes_out {m : Memory} (a j : Nat) (l : List Nat) (h : Memory.wf m = true) (ho : j < a ∨ a + l.length ≤ j) :
    Memory.byte (Memory.setBytes m a l) j = Memory.byte m j := by
  induction l generalizing m a with
  | nil => rfl
  | cons v l ih =>
    simp only [List.length_cons] at ho
    simp only [Memory.setBytes]
    rw [ih (a + 1) (Memory.wf_setByte a _ h) (by omega), Memory.byte_setByte _ _ _ h]
    have : ¬ j = a := by omega
    simp [this]

/-- Bytes written read back. -/
theorem Memory.bytes_setBytes {m : Memory} (a : Nat) (l : List Nat) (h : Memory.wf m = true) :
    Memory.bytes (Memory.setBytes m a l) a l.length = l.map (fun v => v % 256) := by
  induction l generalizing m a with
  | nil => rfl
  | cons v l ih =>
    simp only [Memory.setBytes, List.length_cons, Memory.bytes, List.map_cons]
    rw [ih (a + 1) (Memory.wf_setByte a _ h)]
    congr 1
    rw [Memory.byte_setBytes_out (a + 1) a l (Memory.wf_setByte a _ h) (by omega), Memory.byte_setByte _ _ _ h]
    simp

end Sys2Proof.Machine
end

