-- ==== Sys2Proof/Laws/State.lean ====
section
/-! SUPPORT. What each named update of the device leaves unchanged: one lemma for each update and field, true by definition. -/

namespace Sys2Proof.Machine

variable (d : Device)

/-! `Device.setReg` changes `regs` only. -/

@[simp] theorem Device.setReg_hw (f : Field) (v i : Nat) : (d.setReg f v i).hw = d.hw := rfl
@[simp] theorem Device.setReg_time (f : Field) (v i : Nat) : (d.setReg f v i).time = d.time := rfl
@[simp] theorem Device.setReg_upAt (f : Field) (v i : Nat) : (d.setReg f v i).upAt = d.upAt := rfl
@[simp] theorem Device.setReg_fresh (f : Field) (v i : Nat) : (d.setReg f v i).fresh = d.fresh := rfl
@[simp] theorem Device.setReg_hdr (f : Field) (v i : Nat) : (d.setReg f v i).hdr = d.hdr := rfl
@[simp] theorem Device.setReg_shadow (f : Field) (v i : Nat) : (d.setReg f v i).shadow = d.shadow := rfl
@[simp] theorem Device.setReg_fc (f : Field) (v i : Nat) : (d.setReg f v i).fc = d.fc := rfl
@[simp] theorem Device.setReg_ldg (f : Field) (v i : Nat) : (d.setReg f v i).ldg = d.ldg := rfl
@[simp] theorem Device.setReg_mgmt (f : Field) (v i : Nat) : (d.setReg f v i).mgmt = d.mgmt := rfl
@[simp] theorem Device.setReg_mem (f : Field) (v i : Nat) : (d.setReg f v i).mem = d.mem := rfl
@[simp] theorem Device.setReg_regions (f : Field) (v i : Nat) : (d.setReg f v i).regions = d.regions := rfl
@[simp] theorem Device.setReg_tier (f : Field) (v i : Nat) : (d.setReg f v i).tier = d.tier := rfl
@[simp] theorem Device.setReg_coh (f : Field) (v i : Nat) : (d.setReg f v i).coh = d.coh := rfl
@[simp] theorem Device.setReg_batch (f : Field) (v i : Nat) : (d.setReg f v i).batch = d.batch := rfl
@[simp] theorem Device.setReg_qos (f : Field) (v i : Nat) : (d.setReg f v i).qos = d.qos := rfl
@[simp] theorem Device.setReg_links (f : Field) (v i : Nat) : (d.setReg f v i).links = d.links := rfl
@[simp] theorem Device.setReg_site (f : Field) (v i : Nat) : (d.setReg f v i).site = d.site := rfl
@[simp] theorem Device.setReg_fail (f : Field) (v i : Nat) : (d.setReg f v i).fail = d.fail := rfl
@[simp] theorem Device.setReg_eng (f : Field) (v i : Nat) : (d.setReg f v i).eng = d.eng := rfl
@[simp] theorem Device.setReg_host (f : Field) (v i : Nat) : (d.setReg f v i).host = d.host := rfl
@[simp] theorem Device.setReg_chans (f : Field) (v i : Nat) : (d.setReg f v i).chans = d.chans := rfl
@[simp] theorem Device.setReg_integ (f : Field) (v i : Nat) : (d.setReg f v i).integ = d.integ := rfl
@[simp] theorem Device.setReg_twin (f : Field) (v i : Nat) : (d.setReg f v i).twin = d.twin := rfl
@[simp] theorem Device.setReg_power (f : Field) (v i : Nat) : (d.setReg f v i).power = d.power := rfl
@[simp] theorem Device.setReg_sec (f : Field) (v i : Nat) : (d.setReg f v i).sec = d.sec := rfl
@[simp] theorem Device.setReg_space (f : Field) (v i : Nat) : (d.setReg f v i).space = d.space := rfl
@[simp] theorem Device.setReg_qid (f : Field) (v i : Nat) : (d.setReg f v i).qid = d.qid := rfl
@[simp] theorem Device.setReg_side (f : Field) (v i : Nat) : (d.setReg f v i).side = d.side := rfl
@[simp] theorem Device.setReg_out (f : Field) (v i : Nat) : (d.setReg f v i).out = d.out := rfl

/-! `Device.setPage` changes `hdr` only. -/

@[simp] theorem Device.setPage_hw (p : Page) (i : Nat) (h : PageHdr) : (d.setPage p i h).hw = d.hw := rfl
@[simp] theorem Device.setPage_time (p : Page) (i : Nat) (h : PageHdr) : (d.setPage p i h).time = d.time := rfl
@[simp] theorem Device.setPage_upAt (p : Page) (i : Nat) (h : PageHdr) : (d.setPage p i h).upAt = d.upAt := rfl
@[simp] theorem Device.setPage_fresh (p : Page) (i : Nat) (h : PageHdr) : (d.setPage p i h).fresh = d.fresh := rfl
@[simp] theorem Device.setPage_regs (p : Page) (i : Nat) (h : PageHdr) : (d.setPage p i h).regs = d.regs := rfl
@[simp] theorem Device.setPage_shadow (p : Page) (i : Nat) (h : PageHdr) : (d.setPage p i h).shadow = d.shadow := rfl
@[simp] theorem Device.setPage_fc (p : Page) (i : Nat) (h : PageHdr) : (d.setPage p i h).fc = d.fc := rfl
@[simp] theorem Device.setPage_ldg (p : Page) (i : Nat) (h : PageHdr) : (d.setPage p i h).ldg = d.ldg := rfl
@[simp] theorem Device.setPage_mgmt (p : Page) (i : Nat) (h : PageHdr) : (d.setPage p i h).mgmt = d.mgmt := rfl
@[simp] theorem Device.setPage_mem (p : Page) (i : Nat) (h : PageHdr) : (d.setPage p i h).mem = d.mem := rfl
@[simp] theorem Device.setPage_regions (p : Page) (i : Nat) (h : PageHdr) : (d.setPage p i h).regions = d.regions := rfl
@[simp] theorem Device.setPage_tier (p : Page) (i : Nat) (h : PageHdr) : (d.setPage p i h).tier = d.tier := rfl
@[simp] theorem Device.setPage_coh (p : Page) (i : Nat) (h : PageHdr) : (d.setPage p i h).coh = d.coh := rfl
@[simp] theorem Device.setPage_batch (p : Page) (i : Nat) (h : PageHdr) : (d.setPage p i h).batch = d.batch := rfl
@[simp] theorem Device.setPage_qos (p : Page) (i : Nat) (h : PageHdr) : (d.setPage p i h).qos = d.qos := rfl
@[simp] theorem Device.setPage_links (p : Page) (i : Nat) (h : PageHdr) : (d.setPage p i h).links = d.links := rfl
@[simp] theorem Device.setPage_site (p : Page) (i : Nat) (h : PageHdr) : (d.setPage p i h).site = d.site := rfl
@[simp] theorem Device.setPage_fail (p : Page) (i : Nat) (h : PageHdr) : (d.setPage p i h).fail = d.fail := rfl
@[simp] theorem Device.setPage_eng (p : Page) (i : Nat) (h : PageHdr) : (d.setPage p i h).eng = d.eng := rfl
@[simp] theorem Device.setPage_host (p : Page) (i : Nat) (h : PageHdr) : (d.setPage p i h).host = d.host := rfl
@[simp] theorem Device.setPage_chans (p : Page) (i : Nat) (h : PageHdr) : (d.setPage p i h).chans = d.chans := rfl
@[simp] theorem Device.setPage_integ (p : Page) (i : Nat) (h : PageHdr) : (d.setPage p i h).integ = d.integ := rfl
@[simp] theorem Device.setPage_twin (p : Page) (i : Nat) (h : PageHdr) : (d.setPage p i h).twin = d.twin := rfl
@[simp] theorem Device.setPage_power (p : Page) (i : Nat) (h : PageHdr) : (d.setPage p i h).power = d.power := rfl
@[simp] theorem Device.setPage_sec (p : Page) (i : Nat) (h : PageHdr) : (d.setPage p i h).sec = d.sec := rfl
@[simp] theorem Device.setPage_space (p : Page) (i : Nat) (h : PageHdr) : (d.setPage p i h).space = d.space := rfl
@[simp] theorem Device.setPage_qid (p : Page) (i : Nat) (h : PageHdr) : (d.setPage p i h).qid = d.qid := rfl
@[simp] theorem Device.setPage_side (p : Page) (i : Nat) (h : PageHdr) : (d.setPage p i h).side = d.side := rfl
@[simp] theorem Device.setPage_out (p : Page) (i : Nat) (h : PageHdr) : (d.setPage p i h).out = d.out := rfl

/-! `Device.send` changes `out` only. -/

@[simp] theorem Device.send_hw (m : Out) : (d.send m).hw = d.hw := rfl
@[simp] theorem Device.send_time (m : Out) : (d.send m).time = d.time := rfl
@[simp] theorem Device.send_upAt (m : Out) : (d.send m).upAt = d.upAt := rfl
@[simp] theorem Device.send_fresh (m : Out) : (d.send m).fresh = d.fresh := rfl
@[simp] theorem Device.send_regs (m : Out) : (d.send m).regs = d.regs := rfl
@[simp] theorem Device.send_hdr (m : Out) : (d.send m).hdr = d.hdr := rfl
@[simp] theorem Device.send_shadow (m : Out) : (d.send m).shadow = d.shadow := rfl
@[simp] theorem Device.send_fc (m : Out) : (d.send m).fc = d.fc := rfl
@[simp] theorem Device.send_ldg (m : Out) : (d.send m).ldg = d.ldg := rfl
@[simp] theorem Device.send_mgmt (m : Out) : (d.send m).mgmt = d.mgmt := rfl
@[simp] theorem Device.send_mem (m : Out) : (d.send m).mem = d.mem := rfl
@[simp] theorem Device.send_regions (m : Out) : (d.send m).regions = d.regions := rfl
@[simp] theorem Device.send_tier (m : Out) : (d.send m).tier = d.tier := rfl
@[simp] theorem Device.send_coh (m : Out) : (d.send m).coh = d.coh := rfl
@[simp] theorem Device.send_batch (m : Out) : (d.send m).batch = d.batch := rfl
@[simp] theorem Device.send_qos (m : Out) : (d.send m).qos = d.qos := rfl
@[simp] theorem Device.send_links (m : Out) : (d.send m).links = d.links := rfl
@[simp] theorem Device.send_site (m : Out) : (d.send m).site = d.site := rfl
@[simp] theorem Device.send_fail (m : Out) : (d.send m).fail = d.fail := rfl
@[simp] theorem Device.send_eng (m : Out) : (d.send m).eng = d.eng := rfl
@[simp] theorem Device.send_host (m : Out) : (d.send m).host = d.host := rfl
@[simp] theorem Device.send_chans (m : Out) : (d.send m).chans = d.chans := rfl
@[simp] theorem Device.send_integ (m : Out) : (d.send m).integ = d.integ := rfl
@[simp] theorem Device.send_twin (m : Out) : (d.send m).twin = d.twin := rfl
@[simp] theorem Device.send_power (m : Out) : (d.send m).power = d.power := rfl
@[simp] theorem Device.send_sec (m : Out) : (d.send m).sec = d.sec := rfl
@[simp] theorem Device.send_space (m : Out) : (d.send m).space = d.space := rfl
@[simp] theorem Device.send_qid (m : Out) : (d.send m).qid = d.qid := rfl
@[simp] theorem Device.send_side (m : Out) : (d.send m).side = d.side := rfl

/-! `Device.nextFree` changes `fresh` only. -/

@[simp] theorem Device.nextFree_hw : (d.nextFree).hw = d.hw := rfl
@[simp] theorem Device.nextFree_time : (d.nextFree).time = d.time := rfl
@[simp] theorem Device.nextFree_upAt : (d.nextFree).upAt = d.upAt := rfl
@[simp] theorem Device.nextFree_regs : (d.nextFree).regs = d.regs := rfl
@[simp] theorem Device.nextFree_hdr : (d.nextFree).hdr = d.hdr := rfl
@[simp] theorem Device.nextFree_shadow : (d.nextFree).shadow = d.shadow := rfl
@[simp] theorem Device.nextFree_fc : (d.nextFree).fc = d.fc := rfl
@[simp] theorem Device.nextFree_ldg : (d.nextFree).ldg = d.ldg := rfl
@[simp] theorem Device.nextFree_mgmt : (d.nextFree).mgmt = d.mgmt := rfl
@[simp] theorem Device.nextFree_mem : (d.nextFree).mem = d.mem := rfl
@[simp] theorem Device.nextFree_regions : (d.nextFree).regions = d.regions := rfl
@[simp] theorem Device.nextFree_tier : (d.nextFree).tier = d.tier := rfl
@[simp] theorem Device.nextFree_coh : (d.nextFree).coh = d.coh := rfl
@[simp] theorem Device.nextFree_batch : (d.nextFree).batch = d.batch := rfl
@[simp] theorem Device.nextFree_qos : (d.nextFree).qos = d.qos := rfl
@[simp] theorem Device.nextFree_links : (d.nextFree).links = d.links := rfl
@[simp] theorem Device.nextFree_site : (d.nextFree).site = d.site := rfl
@[simp] theorem Device.nextFree_fail : (d.nextFree).fail = d.fail := rfl
@[simp] theorem Device.nextFree_eng : (d.nextFree).eng = d.eng := rfl
@[simp] theorem Device.nextFree_host : (d.nextFree).host = d.host := rfl
@[simp] theorem Device.nextFree_chans : (d.nextFree).chans = d.chans := rfl
@[simp] theorem Device.nextFree_integ : (d.nextFree).integ = d.integ := rfl
@[simp] theorem Device.nextFree_twin : (d.nextFree).twin = d.twin := rfl
@[simp] theorem Device.nextFree_power : (d.nextFree).power = d.power := rfl
@[simp] theorem Device.nextFree_sec : (d.nextFree).sec = d.sec := rfl
@[simp] theorem Device.nextFree_space : (d.nextFree).space = d.space := rfl
@[simp] theorem Device.nextFree_qid : (d.nextFree).qid = d.qid := rfl
@[simp] theorem Device.nextFree_side : (d.nextFree).side = d.side := rfl
@[simp] theorem Device.nextFree_out : (d.nextFree).out = d.out := rfl

/-! `Device.setHostLink` changes `host` only. -/

@[simp] theorem Device.setHostLink_hw (p l : Nat) (h : HostLink) : (d.setHostLink p l h).hw = d.hw := rfl
@[simp] theorem Device.setHostLink_time (p l : Nat) (h : HostLink) : (d.setHostLink p l h).time = d.time := rfl
@[simp] theorem Device.setHostLink_upAt (p l : Nat) (h : HostLink) : (d.setHostLink p l h).upAt = d.upAt := rfl
@[simp] theorem Device.setHostLink_fresh (p l : Nat) (h : HostLink) : (d.setHostLink p l h).fresh = d.fresh := rfl
@[simp] theorem Device.setHostLink_regs (p l : Nat) (h : HostLink) : (d.setHostLink p l h).regs = d.regs := rfl
@[simp] theorem Device.setHostLink_hdr (p l : Nat) (h : HostLink) : (d.setHostLink p l h).hdr = d.hdr := rfl
@[simp] theorem Device.setHostLink_shadow (p l : Nat) (h : HostLink) : (d.setHostLink p l h).shadow = d.shadow := rfl
@[simp] theorem Device.setHostLink_fc (p l : Nat) (h : HostLink) : (d.setHostLink p l h).fc = d.fc := rfl
@[simp] theorem Device.setHostLink_ldg (p l : Nat) (h : HostLink) : (d.setHostLink p l h).ldg = d.ldg := rfl
@[simp] theorem Device.setHostLink_mgmt (p l : Nat) (h : HostLink) : (d.setHostLink p l h).mgmt = d.mgmt := rfl
@[simp] theorem Device.setHostLink_mem (p l : Nat) (h : HostLink) : (d.setHostLink p l h).mem = d.mem := rfl
@[simp] theorem Device.setHostLink_regions (p l : Nat) (h : HostLink) : (d.setHostLink p l h).regions = d.regions := rfl
@[simp] theorem Device.setHostLink_tier (p l : Nat) (h : HostLink) : (d.setHostLink p l h).tier = d.tier := rfl
@[simp] theorem Device.setHostLink_coh (p l : Nat) (h : HostLink) : (d.setHostLink p l h).coh = d.coh := rfl
@[simp] theorem Device.setHostLink_batch (p l : Nat) (h : HostLink) : (d.setHostLink p l h).batch = d.batch := rfl
@[simp] theorem Device.setHostLink_qos (p l : Nat) (h : HostLink) : (d.setHostLink p l h).qos = d.qos := rfl
@[simp] theorem Device.setHostLink_links (p l : Nat) (h : HostLink) : (d.setHostLink p l h).links = d.links := rfl
@[simp] theorem Device.setHostLink_site (p l : Nat) (h : HostLink) : (d.setHostLink p l h).site = d.site := rfl
@[simp] theorem Device.setHostLink_fail (p l : Nat) (h : HostLink) : (d.setHostLink p l h).fail = d.fail := rfl
@[simp] theorem Device.setHostLink_eng (p l : Nat) (h : HostLink) : (d.setHostLink p l h).eng = d.eng := rfl
@[simp] theorem Device.setHostLink_chans (p l : Nat) (h : HostLink) : (d.setHostLink p l h).chans = d.chans := rfl
@[simp] theorem Device.setHostLink_integ (p l : Nat) (h : HostLink) : (d.setHostLink p l h).integ = d.integ := rfl
@[simp] theorem Device.setHostLink_twin (p l : Nat) (h : HostLink) : (d.setHostLink p l h).twin = d.twin := rfl
@[simp] theorem Device.setHostLink_power (p l : Nat) (h : HostLink) : (d.setHostLink p l h).power = d.power := rfl
@[simp] theorem Device.setHostLink_sec (p l : Nat) (h : HostLink) : (d.setHostLink p l h).sec = d.sec := rfl
@[simp] theorem Device.setHostLink_space (p l : Nat) (h : HostLink) : (d.setHostLink p l h).space = d.space := rfl
@[simp] theorem Device.setHostLink_qid (p l : Nat) (h : HostLink) : (d.setHostLink p l h).qid = d.qid := rfl
@[simp] theorem Device.setHostLink_side (p l : Nat) (h : HostLink) : (d.setHostLink p l h).side = d.side := rfl
@[simp] theorem Device.setHostLink_out (p l : Nat) (h : HostLink) : (d.setHostLink p l h).out = d.out := rfl

/-! `Device.setChan` changes `chans` only. -/

@[simp] theorem Device.setChan_hw (c : Nat) (x : Channel) : (d.setChan c x).hw = d.hw := rfl
@[simp] theorem Device.setChan_time (c : Nat) (x : Channel) : (d.setChan c x).time = d.time := rfl
@[simp] theorem Device.setChan_upAt (c : Nat) (x : Channel) : (d.setChan c x).upAt = d.upAt := rfl
@[simp] theorem Device.setChan_fresh (c : Nat) (x : Channel) : (d.setChan c x).fresh = d.fresh := rfl
@[simp] theorem Device.setChan_regs (c : Nat) (x : Channel) : (d.setChan c x).regs = d.regs := rfl
@[simp] theorem Device.setChan_hdr (c : Nat) (x : Channel) : (d.setChan c x).hdr = d.hdr := rfl
@[simp] theorem Device.setChan_shadow (c : Nat) (x : Channel) : (d.setChan c x).shadow = d.shadow := rfl
@[simp] theorem Device.setChan_fc (c : Nat) (x : Channel) : (d.setChan c x).fc = d.fc := rfl
@[simp] theorem Device.setChan_ldg (c : Nat) (x : Channel) : (d.setChan c x).ldg = d.ldg := rfl
@[simp] theorem Device.setChan_mgmt (c : Nat) (x : Channel) : (d.setChan c x).mgmt = d.mgmt := rfl
@[simp] theorem Device.setChan_mem (c : Nat) (x : Channel) : (d.setChan c x).mem = d.mem := rfl
@[simp] theorem Device.setChan_regions (c : Nat) (x : Channel) : (d.setChan c x).regions = d.regions := rfl
@[simp] theorem Device.setChan_tier (c : Nat) (x : Channel) : (d.setChan c x).tier = d.tier := rfl
@[simp] theorem Device.setChan_coh (c : Nat) (x : Channel) : (d.setChan c x).coh = d.coh := rfl
@[simp] theorem Device.setChan_batch (c : Nat) (x : Channel) : (d.setChan c x).batch = d.batch := rfl
@[simp] theorem Device.setChan_qos (c : Nat) (x : Channel) : (d.setChan c x).qos = d.qos := rfl
@[simp] theorem Device.setChan_links (c : Nat) (x : Channel) : (d.setChan c x).links = d.links := rfl
@[simp] theorem Device.setChan_site (c : Nat) (x : Channel) : (d.setChan c x).site = d.site := rfl
@[simp] theorem Device.setChan_fail (c : Nat) (x : Channel) : (d.setChan c x).fail = d.fail := rfl
@[simp] theorem Device.setChan_eng (c : Nat) (x : Channel) : (d.setChan c x).eng = d.eng := rfl
@[simp] theorem Device.setChan_host (c : Nat) (x : Channel) : (d.setChan c x).host = d.host := rfl
@[simp] theorem Device.setChan_integ (c : Nat) (x : Channel) : (d.setChan c x).integ = d.integ := rfl
@[simp] theorem Device.setChan_twin (c : Nat) (x : Channel) : (d.setChan c x).twin = d.twin := rfl
@[simp] theorem Device.setChan_power (c : Nat) (x : Channel) : (d.setChan c x).power = d.power := rfl
@[simp] theorem Device.setChan_sec (c : Nat) (x : Channel) : (d.setChan c x).sec = d.sec := rfl
@[simp] theorem Device.setChan_space (c : Nat) (x : Channel) : (d.setChan c x).space = d.space := rfl
@[simp] theorem Device.setChan_qid (c : Nat) (x : Channel) : (d.setChan c x).qid = d.qid := rfl
@[simp] theorem Device.setChan_side (c : Nat) (x : Channel) : (d.setChan c x).side = d.side := rfl
@[simp] theorem Device.setChan_out (c : Nat) (x : Channel) : (d.setChan c x).out = d.out := rfl

/-! `Device.setInteg` changes `integ` only. -/

@[simp] theorem Device.setInteg_hw (x : Integ) : (d.setInteg x).hw = d.hw := rfl
@[simp] theorem Device.setInteg_time (x : Integ) : (d.setInteg x).time = d.time := rfl
@[simp] theorem Device.setInteg_upAt (x : Integ) : (d.setInteg x).upAt = d.upAt := rfl
@[simp] theorem Device.setInteg_fresh (x : Integ) : (d.setInteg x).fresh = d.fresh := rfl
@[simp] theorem Device.setInteg_regs (x : Integ) : (d.setInteg x).regs = d.regs := rfl
@[simp] theorem Device.setInteg_hdr (x : Integ) : (d.setInteg x).hdr = d.hdr := rfl
@[simp] theorem Device.setInteg_shadow (x : Integ) : (d.setInteg x).shadow = d.shadow := rfl
@[simp] theorem Device.setInteg_fc (x : Integ) : (d.setInteg x).fc = d.fc := rfl
@[simp] theorem Device.setInteg_ldg (x : Integ) : (d.setInteg x).ldg = d.ldg := rfl
@[simp] theorem Device.setInteg_mgmt (x : Integ) : (d.setInteg x).mgmt = d.mgmt := rfl
@[simp] theorem Device.setInteg_mem (x : Integ) : (d.setInteg x).mem = d.mem := rfl
@[simp] theorem Device.setInteg_regions (x : Integ) : (d.setInteg x).regions = d.regions := rfl
@[simp] theorem Device.setInteg_tier (x : Integ) : (d.setInteg x).tier = d.tier := rfl
@[simp] theorem Device.setInteg_coh (x : Integ) : (d.setInteg x).coh = d.coh := rfl
@[simp] theorem Device.setInteg_batch (x : Integ) : (d.setInteg x).batch = d.batch := rfl
@[simp] theorem Device.setInteg_qos (x : Integ) : (d.setInteg x).qos = d.qos := rfl
@[simp] theorem Device.setInteg_links (x : Integ) : (d.setInteg x).links = d.links := rfl
@[simp] theorem Device.setInteg_site (x : Integ) : (d.setInteg x).site = d.site := rfl
@[simp] theorem Device.setInteg_fail (x : Integ) : (d.setInteg x).fail = d.fail := rfl
@[simp] theorem Device.setInteg_eng (x : Integ) : (d.setInteg x).eng = d.eng := rfl
@[simp] theorem Device.setInteg_host (x : Integ) : (d.setInteg x).host = d.host := rfl
@[simp] theorem Device.setInteg_chans (x : Integ) : (d.setInteg x).chans = d.chans := rfl
@[simp] theorem Device.setInteg_twin (x : Integ) : (d.setInteg x).twin = d.twin := rfl
@[simp] theorem Device.setInteg_power (x : Integ) : (d.setInteg x).power = d.power := rfl
@[simp] theorem Device.setInteg_sec (x : Integ) : (d.setInteg x).sec = d.sec := rfl
@[simp] theorem Device.setInteg_space (x : Integ) : (d.setInteg x).space = d.space := rfl
@[simp] theorem Device.setInteg_qid (x : Integ) : (d.setInteg x).qid = d.qid := rfl
@[simp] theorem Device.setInteg_side (x : Integ) : (d.setInteg x).side = d.side := rfl
@[simp] theorem Device.setInteg_out (x : Integ) : (d.setInteg x).out = d.out := rfl

/-! `Device.setLink` changes `links` only. -/

@[simp] theorem Device.setLink_hw (k : LinkId) (x : Link) : (d.setLink k x).hw = d.hw := rfl
@[simp] theorem Device.setLink_time (k : LinkId) (x : Link) : (d.setLink k x).time = d.time := rfl
@[simp] theorem Device.setLink_upAt (k : LinkId) (x : Link) : (d.setLink k x).upAt = d.upAt := rfl
@[simp] theorem Device.setLink_fresh (k : LinkId) (x : Link) : (d.setLink k x).fresh = d.fresh := rfl
@[simp] theorem Device.setLink_regs (k : LinkId) (x : Link) : (d.setLink k x).regs = d.regs := rfl
@[simp] theorem Device.setLink_hdr (k : LinkId) (x : Link) : (d.setLink k x).hdr = d.hdr := rfl
@[simp] theorem Device.setLink_shadow (k : LinkId) (x : Link) : (d.setLink k x).shadow = d.shadow := rfl
@[simp] theorem Device.setLink_fc (k : LinkId) (x : Link) : (d.setLink k x).fc = d.fc := rfl
@[simp] theorem Device.setLink_ldg (k : LinkId) (x : Link) : (d.setLink k x).ldg = d.ldg := rfl
@[simp] theorem Device.setLink_mgmt (k : LinkId) (x : Link) : (d.setLink k x).mgmt = d.mgmt := rfl
@[simp] theorem Device.setLink_mem (k : LinkId) (x : Link) : (d.setLink k x).mem = d.mem := rfl
@[simp] theorem Device.setLink_regions (k : LinkId) (x : Link) : (d.setLink k x).regions = d.regions := rfl
@[simp] theorem Device.setLink_tier (k : LinkId) (x : Link) : (d.setLink k x).tier = d.tier := rfl
@[simp] theorem Device.setLink_coh (k : LinkId) (x : Link) : (d.setLink k x).coh = d.coh := rfl
@[simp] theorem Device.setLink_batch (k : LinkId) (x : Link) : (d.setLink k x).batch = d.batch := rfl
@[simp] theorem Device.setLink_qos (k : LinkId) (x : Link) : (d.setLink k x).qos = d.qos := rfl
@[simp] theorem Device.setLink_site (k : LinkId) (x : Link) : (d.setLink k x).site = d.site := rfl
@[simp] theorem Device.setLink_fail (k : LinkId) (x : Link) : (d.setLink k x).fail = d.fail := rfl
@[simp] theorem Device.setLink_eng (k : LinkId) (x : Link) : (d.setLink k x).eng = d.eng := rfl
@[simp] theorem Device.setLink_host (k : LinkId) (x : Link) : (d.setLink k x).host = d.host := rfl
@[simp] theorem Device.setLink_chans (k : LinkId) (x : Link) : (d.setLink k x).chans = d.chans := rfl
@[simp] theorem Device.setLink_integ (k : LinkId) (x : Link) : (d.setLink k x).integ = d.integ := rfl
@[simp] theorem Device.setLink_twin (k : LinkId) (x : Link) : (d.setLink k x).twin = d.twin := rfl
@[simp] theorem Device.setLink_power (k : LinkId) (x : Link) : (d.setLink k x).power = d.power := rfl
@[simp] theorem Device.setLink_sec (k : LinkId) (x : Link) : (d.setLink k x).sec = d.sec := rfl
@[simp] theorem Device.setLink_space (k : LinkId) (x : Link) : (d.setLink k x).space = d.space := rfl
@[simp] theorem Device.setLink_qid (k : LinkId) (x : Link) : (d.setLink k x).qid = d.qid := rfl
@[simp] theorem Device.setLink_side (k : LinkId) (x : Link) : (d.setLink k x).side = d.side := rfl
@[simp] theorem Device.setLink_out (k : LinkId) (x : Link) : (d.setLink k x).out = d.out := rfl

/-! `Device.setStream` changes `twin` only. -/

@[simp] theorem Device.setStream_hw (k : Nat) (x : Stream) : (d.setStream k x).hw = d.hw := rfl
@[simp] theorem Device.setStream_time (k : Nat) (x : Stream) : (d.setStream k x).time = d.time := rfl
@[simp] theorem Device.setStream_upAt (k : Nat) (x : Stream) : (d.setStream k x).upAt = d.upAt := rfl
@[simp] theorem Device.setStream_fresh (k : Nat) (x : Stream) : (d.setStream k x).fresh = d.fresh := rfl
@[simp] theorem Device.setStream_regs (k : Nat) (x : Stream) : (d.setStream k x).regs = d.regs := rfl
@[simp] theorem Device.setStream_hdr (k : Nat) (x : Stream) : (d.setStream k x).hdr = d.hdr := rfl
@[simp] theorem Device.setStream_shadow (k : Nat) (x : Stream) : (d.setStream k x).shadow = d.shadow := rfl
@[simp] theorem Device.setStream_fc (k : Nat) (x : Stream) : (d.setStream k x).fc = d.fc := rfl
@[simp] theorem Device.setStream_ldg (k : Nat) (x : Stream) : (d.setStream k x).ldg = d.ldg := rfl
@[simp] theorem Device.setStream_mgmt (k : Nat) (x : Stream) : (d.setStream k x).mgmt = d.mgmt := rfl
@[simp] theorem Device.setStream_mem (k : Nat) (x : Stream) : (d.setStream k x).mem = d.mem := rfl
@[simp] theorem Device.setStream_regions (k : Nat) (x : Stream) : (d.setStream k x).regions = d.regions := rfl
@[simp] theorem Device.setStream_tier (k : Nat) (x : Stream) : (d.setStream k x).tier = d.tier := rfl
@[simp] theorem Device.setStream_coh (k : Nat) (x : Stream) : (d.setStream k x).coh = d.coh := rfl
@[simp] theorem Device.setStream_batch (k : Nat) (x : Stream) : (d.setStream k x).batch = d.batch := rfl
@[simp] theorem Device.setStream_qos (k : Nat) (x : Stream) : (d.setStream k x).qos = d.qos := rfl
@[simp] theorem Device.setStream_links (k : Nat) (x : Stream) : (d.setStream k x).links = d.links := rfl
@[simp] theorem Device.setStream_site (k : Nat) (x : Stream) : (d.setStream k x).site = d.site := rfl
@[simp] theorem Device.setStream_fail (k : Nat) (x : Stream) : (d.setStream k x).fail = d.fail := rfl
@[simp] theorem Device.setStream_eng (k : Nat) (x : Stream) : (d.setStream k x).eng = d.eng := rfl
@[simp] theorem Device.setStream_host (k : Nat) (x : Stream) : (d.setStream k x).host = d.host := rfl
@[simp] theorem Device.setStream_chans (k : Nat) (x : Stream) : (d.setStream k x).chans = d.chans := rfl
@[simp] theorem Device.setStream_integ (k : Nat) (x : Stream) : (d.setStream k x).integ = d.integ := rfl
@[simp] theorem Device.setStream_power (k : Nat) (x : Stream) : (d.setStream k x).power = d.power := rfl
@[simp] theorem Device.setStream_sec (k : Nat) (x : Stream) : (d.setStream k x).sec = d.sec := rfl
@[simp] theorem Device.setStream_space (k : Nat) (x : Stream) : (d.setStream k x).space = d.space := rfl
@[simp] theorem Device.setStream_qid (k : Nat) (x : Stream) : (d.setStream k x).qid = d.qid := rfl
@[simp] theorem Device.setStream_side (k : Nat) (x : Stream) : (d.setStream k x).side = d.side := rfl
@[simp] theorem Device.setStream_out (k : Nat) (x : Stream) : (d.setStream k x).out = d.out := rfl

/-! `Device.setRing` changes `eng` only. -/

@[simp] theorem Device.setRing_hw (r : Nat) (x : RingQueue) : (d.setRing r x).hw = d.hw := rfl
@[simp] theorem Device.setRing_time (r : Nat) (x : RingQueue) : (d.setRing r x).time = d.time := rfl
@[simp] theorem Device.setRing_upAt (r : Nat) (x : RingQueue) : (d.setRing r x).upAt = d.upAt := rfl
@[simp] theorem Device.setRing_fresh (r : Nat) (x : RingQueue) : (d.setRing r x).fresh = d.fresh := rfl
@[simp] theorem Device.setRing_regs (r : Nat) (x : RingQueue) : (d.setRing r x).regs = d.regs := rfl
@[simp] theorem Device.setRing_hdr (r : Nat) (x : RingQueue) : (d.setRing r x).hdr = d.hdr := rfl
@[simp] theorem Device.setRing_shadow (r : Nat) (x : RingQueue) : (d.setRing r x).shadow = d.shadow := rfl
@[simp] theorem Device.setRing_fc (r : Nat) (x : RingQueue) : (d.setRing r x).fc = d.fc := rfl
@[simp] theorem Device.setRing_ldg (r : Nat) (x : RingQueue) : (d.setRing r x).ldg = d.ldg := rfl
@[simp] theorem Device.setRing_mgmt (r : Nat) (x : RingQueue) : (d.setRing r x).mgmt = d.mgmt := rfl
@[simp] theorem Device.setRing_mem (r : Nat) (x : RingQueue) : (d.setRing r x).mem = d.mem := rfl
@[simp] theorem Device.setRing_regions (r : Nat) (x : RingQueue) : (d.setRing r x).regions = d.regions := rfl
@[simp] theorem Device.setRing_tier (r : Nat) (x : RingQueue) : (d.setRing r x).tier = d.tier := rfl
@[simp] theorem Device.setRing_coh (r : Nat) (x : RingQueue) : (d.setRing r x).coh = d.coh := rfl
@[simp] theorem Device.setRing_batch (r : Nat) (x : RingQueue) : (d.setRing r x).batch = d.batch := rfl
@[simp] theorem Device.setRing_qos (r : Nat) (x : RingQueue) : (d.setRing r x).qos = d.qos := rfl
@[simp] theorem Device.setRing_links (r : Nat) (x : RingQueue) : (d.setRing r x).links = d.links := rfl
@[simp] theorem Device.setRing_site (r : Nat) (x : RingQueue) : (d.setRing r x).site = d.site := rfl
@[simp] theorem Device.setRing_fail (r : Nat) (x : RingQueue) : (d.setRing r x).fail = d.fail := rfl
@[simp] theorem Device.setRing_host (r : Nat) (x : RingQueue) : (d.setRing r x).host = d.host := rfl
@[simp] theorem Device.setRing_chans (r : Nat) (x : RingQueue) : (d.setRing r x).chans = d.chans := rfl
@[simp] theorem Device.setRing_integ (r : Nat) (x : RingQueue) : (d.setRing r x).integ = d.integ := rfl
@[simp] theorem Device.setRing_twin (r : Nat) (x : RingQueue) : (d.setRing r x).twin = d.twin := rfl
@[simp] theorem Device.setRing_power (r : Nat) (x : RingQueue) : (d.setRing r x).power = d.power := rfl
@[simp] theorem Device.setRing_sec (r : Nat) (x : RingQueue) : (d.setRing r x).sec = d.sec := rfl
@[simp] theorem Device.setRing_space (r : Nat) (x : RingQueue) : (d.setRing r x).space = d.space := rfl
@[simp] theorem Device.setRing_qid (r : Nat) (x : RingQueue) : (d.setRing r x).qid = d.qid := rfl
@[simp] theorem Device.setRing_side (r : Nat) (x : RingQueue) : (d.setRing r x).side = d.side := rfl
@[simp] theorem Device.setRing_out (r : Nat) (x : RingQueue) : (d.setRing r x).out = d.out := rfl

/-! `Device.setSitePort` changes `site` only. -/

@[simp] theorem Device.setSitePort_hw (s : Nat) (x : SitePort) : (d.setSitePort s x).hw = d.hw := rfl
@[simp] theorem Device.setSitePort_time (s : Nat) (x : SitePort) : (d.setSitePort s x).time = d.time := rfl
@[simp] theorem Device.setSitePort_upAt (s : Nat) (x : SitePort) : (d.setSitePort s x).upAt = d.upAt := rfl
@[simp] theorem Device.setSitePort_fresh (s : Nat) (x : SitePort) : (d.setSitePort s x).fresh = d.fresh := rfl
@[simp] theorem Device.setSitePort_regs (s : Nat) (x : SitePort) : (d.setSitePort s x).regs = d.regs := rfl
@[simp] theorem Device.setSitePort_hdr (s : Nat) (x : SitePort) : (d.setSitePort s x).hdr = d.hdr := rfl
@[simp] theorem Device.setSitePort_shadow (s : Nat) (x : SitePort) : (d.setSitePort s x).shadow = d.shadow := rfl
@[simp] theorem Device.setSitePort_fc (s : Nat) (x : SitePort) : (d.setSitePort s x).fc = d.fc := rfl
@[simp] theorem Device.setSitePort_ldg (s : Nat) (x : SitePort) : (d.setSitePort s x).ldg = d.ldg := rfl
@[simp] theorem Device.setSitePort_mgmt (s : Nat) (x : SitePort) : (d.setSitePort s x).mgmt = d.mgmt := rfl
@[simp] theorem Device.setSitePort_mem (s : Nat) (x : SitePort) : (d.setSitePort s x).mem = d.mem := rfl
@[simp] theorem Device.setSitePort_regions (s : Nat) (x : SitePort) : (d.setSitePort s x).regions = d.regions := rfl
@[simp] theorem Device.setSitePort_tier (s : Nat) (x : SitePort) : (d.setSitePort s x).tier = d.tier := rfl
@[simp] theorem Device.setSitePort_coh (s : Nat) (x : SitePort) : (d.setSitePort s x).coh = d.coh := rfl
@[simp] theorem Device.setSitePort_batch (s : Nat) (x : SitePort) : (d.setSitePort s x).batch = d.batch := rfl
@[simp] theorem Device.setSitePort_qos (s : Nat) (x : SitePort) : (d.setSitePort s x).qos = d.qos := rfl
@[simp] theorem Device.setSitePort_links (s : Nat) (x : SitePort) : (d.setSitePort s x).links = d.links := rfl
@[simp] theorem Device.setSitePort_fail (s : Nat) (x : SitePort) : (d.setSitePort s x).fail = d.fail := rfl
@[simp] theorem Device.setSitePort_eng (s : Nat) (x : SitePort) : (d.setSitePort s x).eng = d.eng := rfl
@[simp] theorem Device.setSitePort_host (s : Nat) (x : SitePort) : (d.setSitePort s x).host = d.host := rfl
@[simp] theorem Device.setSitePort_chans (s : Nat) (x : SitePort) : (d.setSitePort s x).chans = d.chans := rfl
@[simp] theorem Device.setSitePort_integ (s : Nat) (x : SitePort) : (d.setSitePort s x).integ = d.integ := rfl
@[simp] theorem Device.setSitePort_twin (s : Nat) (x : SitePort) : (d.setSitePort s x).twin = d.twin := rfl
@[simp] theorem Device.setSitePort_power (s : Nat) (x : SitePort) : (d.setSitePort s x).power = d.power := rfl
@[simp] theorem Device.setSitePort_sec (s : Nat) (x : SitePort) : (d.setSitePort s x).sec = d.sec := rfl
@[simp] theorem Device.setSitePort_space (s : Nat) (x : SitePort) : (d.setSitePort s x).space = d.space := rfl
@[simp] theorem Device.setSitePort_qid (s : Nat) (x : SitePort) : (d.setSitePort s x).qid = d.qid := rfl
@[simp] theorem Device.setSitePort_side (s : Nat) (x : SitePort) : (d.setSitePort s x).side = d.side := rfl
@[simp] theorem Device.setSitePort_out (s : Nat) (x : SitePort) : (d.setSitePort s x).out = d.out := rfl

/-! `Device.setSlot` changes `batch` only. -/

@[simp] theorem Device.setSlot_hw (s : Nat) (x : BatchSlot) : (d.setSlot s x).hw = d.hw := rfl
@[simp] theorem Device.setSlot_time (s : Nat) (x : BatchSlot) : (d.setSlot s x).time = d.time := rfl
@[simp] theorem Device.setSlot_upAt (s : Nat) (x : BatchSlot) : (d.setSlot s x).upAt = d.upAt := rfl
@[simp] theorem Device.setSlot_fresh (s : Nat) (x : BatchSlot) : (d.setSlot s x).fresh = d.fresh := rfl
@[simp] theorem Device.setSlot_regs (s : Nat) (x : BatchSlot) : (d.setSlot s x).regs = d.regs := rfl
@[simp] theorem Device.setSlot_hdr (s : Nat) (x : BatchSlot) : (d.setSlot s x).hdr = d.hdr := rfl
@[simp] theorem Device.setSlot_shadow (s : Nat) (x : BatchSlot) : (d.setSlot s x).shadow = d.shadow := rfl
@[simp] theorem Device.setSlot_fc (s : Nat) (x : BatchSlot) : (d.setSlot s x).fc = d.fc := rfl
@[simp] theorem Device.setSlot_ldg (s : Nat) (x : BatchSlot) : (d.setSlot s x).ldg = d.ldg := rfl
@[simp] theorem Device.setSlot_mgmt (s : Nat) (x : BatchSlot) : (d.setSlot s x).mgmt = d.mgmt := rfl
@[simp] theorem Device.setSlot_mem (s : Nat) (x : BatchSlot) : (d.setSlot s x).mem = d.mem := rfl
@[simp] theorem Device.setSlot_regions (s : Nat) (x : BatchSlot) : (d.setSlot s x).regions = d.regions := rfl
@[simp] theorem Device.setSlot_tier (s : Nat) (x : BatchSlot) : (d.setSlot s x).tier = d.tier := rfl
@[simp] theorem Device.setSlot_coh (s : Nat) (x : BatchSlot) : (d.setSlot s x).coh = d.coh := rfl
@[simp] theorem Device.setSlot_qos (s : Nat) (x : BatchSlot) : (d.setSlot s x).qos = d.qos := rfl
@[simp] theorem Device.setSlot_links (s : Nat) (x : BatchSlot) : (d.setSlot s x).links = d.links := rfl
@[simp] theorem Device.setSlot_site (s : Nat) (x : BatchSlot) : (d.setSlot s x).site = d.site := rfl
@[simp] theorem Device.setSlot_fail (s : Nat) (x : BatchSlot) : (d.setSlot s x).fail = d.fail := rfl
@[simp] theorem Device.setSlot_eng (s : Nat) (x : BatchSlot) : (d.setSlot s x).eng = d.eng := rfl
@[simp] theorem Device.setSlot_host (s : Nat) (x : BatchSlot) : (d.setSlot s x).host = d.host := rfl
@[simp] theorem Device.setSlot_chans (s : Nat) (x : BatchSlot) : (d.setSlot s x).chans = d.chans := rfl
@[simp] theorem Device.setSlot_integ (s : Nat) (x : BatchSlot) : (d.setSlot s x).integ = d.integ := rfl
@[simp] theorem Device.setSlot_twin (s : Nat) (x : BatchSlot) : (d.setSlot s x).twin = d.twin := rfl
@[simp] theorem Device.setSlot_power (s : Nat) (x : BatchSlot) : (d.setSlot s x).power = d.power := rfl
@[simp] theorem Device.setSlot_sec (s : Nat) (x : BatchSlot) : (d.setSlot s x).sec = d.sec := rfl
@[simp] theorem Device.setSlot_space (s : Nat) (x : BatchSlot) : (d.setSlot s x).space = d.space := rfl
@[simp] theorem Device.setSlot_qid (s : Nat) (x : BatchSlot) : (d.setSlot s x).qid = d.qid := rfl
@[simp] theorem Device.setSlot_side (s : Nat) (x : BatchSlot) : (d.setSlot s x).side = d.side := rfl
@[simp] theorem Device.setSlot_out (s : Nat) (x : BatchSlot) : (d.setSlot s x).out = d.out := rfl

/-! `Device.setOutcome` changes `batch` only. -/

@[simp] theorem Device.setOutcome_hw (a s : Nat) (x : OutcomeEntry) : (d.setOutcome a s x).hw = d.hw := rfl
@[simp] theorem Device.setOutcome_time (a s : Nat) (x : OutcomeEntry) : (d.setOutcome a s x).time = d.time := rfl
@[simp] theorem Device.setOutcome_upAt (a s : Nat) (x : OutcomeEntry) : (d.setOutcome a s x).upAt = d.upAt := rfl
@[simp] theorem Device.setOutcome_fresh (a s : Nat) (x : OutcomeEntry) : (d.setOutcome a s x).fresh = d.fresh := rfl
@[simp] theorem Device.setOutcome_regs (a s : Nat) (x : OutcomeEntry) : (d.setOutcome a s x).regs = d.regs := rfl
@[simp] theorem Device.setOutcome_hdr (a s : Nat) (x : OutcomeEntry) : (d.setOutcome a s x).hdr = d.hdr := rfl
@[simp] theorem Device.setOutcome_shadow (a s : Nat) (x : OutcomeEntry) : (d.setOutcome a s x).shadow = d.shadow := rfl
@[simp] theorem Device.setOutcome_fc (a s : Nat) (x : OutcomeEntry) : (d.setOutcome a s x).fc = d.fc := rfl
@[simp] theorem Device.setOutcome_ldg (a s : Nat) (x : OutcomeEntry) : (d.setOutcome a s x).ldg = d.ldg := rfl
@[simp] theorem Device.setOutcome_mgmt (a s : Nat) (x : OutcomeEntry) : (d.setOutcome a s x).mgmt = d.mgmt := rfl
@[simp] theorem Device.setOutcome_mem (a s : Nat) (x : OutcomeEntry) : (d.setOutcome a s x).mem = d.mem := rfl
@[simp] theorem Device.setOutcome_regions (a s : Nat) (x : OutcomeEntry) : (d.setOutcome a s x).regions = d.regions := rfl
@[simp] theorem Device.setOutcome_tier (a s : Nat) (x : OutcomeEntry) : (d.setOutcome a s x).tier = d.tier := rfl
@[simp] theorem Device.setOutcome_coh (a s : Nat) (x : OutcomeEntry) : (d.setOutcome a s x).coh = d.coh := rfl
@[simp] theorem Device.setOutcome_qos (a s : Nat) (x : OutcomeEntry) : (d.setOutcome a s x).qos = d.qos := rfl
@[simp] theorem Device.setOutcome_links (a s : Nat) (x : OutcomeEntry) : (d.setOutcome a s x).links = d.links := rfl
@[simp] theorem Device.setOutcome_site (a s : Nat) (x : OutcomeEntry) : (d.setOutcome a s x).site = d.site := rfl
@[simp] theorem Device.setOutcome_fail (a s : Nat) (x : OutcomeEntry) : (d.setOutcome a s x).fail = d.fail := rfl
@[simp] theorem Device.setOutcome_eng (a s : Nat) (x : OutcomeEntry) : (d.setOutcome a s x).eng = d.eng := rfl
@[simp] theorem Device.setOutcome_host (a s : Nat) (x : OutcomeEntry) : (d.setOutcome a s x).host = d.host := rfl
@[simp] theorem Device.setOutcome_chans (a s : Nat) (x : OutcomeEntry) : (d.setOutcome a s x).chans = d.chans := rfl
@[simp] theorem Device.setOutcome_integ (a s : Nat) (x : OutcomeEntry) : (d.setOutcome a s x).integ = d.integ := rfl
@[simp] theorem Device.setOutcome_twin (a s : Nat) (x : OutcomeEntry) : (d.setOutcome a s x).twin = d.twin := rfl
@[simp] theorem Device.setOutcome_power (a s : Nat) (x : OutcomeEntry) : (d.setOutcome a s x).power = d.power := rfl
@[simp] theorem Device.setOutcome_sec (a s : Nat) (x : OutcomeEntry) : (d.setOutcome a s x).sec = d.sec := rfl
@[simp] theorem Device.setOutcome_space (a s : Nat) (x : OutcomeEntry) : (d.setOutcome a s x).space = d.space := rfl
@[simp] theorem Device.setOutcome_qid (a s : Nat) (x : OutcomeEntry) : (d.setOutcome a s x).qid = d.qid := rfl
@[simp] theorem Device.setOutcome_side (a s : Nat) (x : OutcomeEntry) : (d.setOutcome a s x).side = d.side := rfl
@[simp] theorem Device.setOutcome_out (a s : Nat) (x : OutcomeEntry) : (d.setOutcome a s x).out = d.out := rfl

/-! `Device.setGroup` changes `site` only. -/

@[simp] theorem Device.setGroup_hw (g : Nat) (x : Group) : (d.setGroup g x).hw = d.hw := rfl
@[simp] theorem Device.setGroup_time (g : Nat) (x : Group) : (d.setGroup g x).time = d.time := rfl
@[simp] theorem Device.setGroup_upAt (g : Nat) (x : Group) : (d.setGroup g x).upAt = d.upAt := rfl
@[simp] theorem Device.setGroup_fresh (g : Nat) (x : Group) : (d.setGroup g x).fresh = d.fresh := rfl
@[simp] theorem Device.setGroup_regs (g : Nat) (x : Group) : (d.setGroup g x).regs = d.regs := rfl
@[simp] theorem Device.setGroup_hdr (g : Nat) (x : Group) : (d.setGroup g x).hdr = d.hdr := rfl
@[simp] theorem Device.setGroup_shadow (g : Nat) (x : Group) : (d.setGroup g x).shadow = d.shadow := rfl
@[simp] theorem Device.setGroup_fc (g : Nat) (x : Group) : (d.setGroup g x).fc = d.fc := rfl
@[simp] theorem Device.setGroup_ldg (g : Nat) (x : Group) : (d.setGroup g x).ldg = d.ldg := rfl
@[simp] theorem Device.setGroup_mgmt (g : Nat) (x : Group) : (d.setGroup g x).mgmt = d.mgmt := rfl
@[simp] theorem Device.setGroup_mem (g : Nat) (x : Group) : (d.setGroup g x).mem = d.mem := rfl
@[simp] theorem Device.setGroup_regions (g : Nat) (x : Group) : (d.setGroup g x).regions = d.regions := rfl
@[simp] theorem Device.setGroup_tier (g : Nat) (x : Group) : (d.setGroup g x).tier = d.tier := rfl
@[simp] theorem Device.setGroup_coh (g : Nat) (x : Group) : (d.setGroup g x).coh = d.coh := rfl
@[simp] theorem Device.setGroup_batch (g : Nat) (x : Group) : (d.setGroup g x).batch = d.batch := rfl
@[simp] theorem Device.setGroup_qos (g : Nat) (x : Group) : (d.setGroup g x).qos = d.qos := rfl
@[simp] theorem Device.setGroup_links (g : Nat) (x : Group) : (d.setGroup g x).links = d.links := rfl
@[simp] theorem Device.setGroup_fail (g : Nat) (x : Group) : (d.setGroup g x).fail = d.fail := rfl
@[simp] theorem Device.setGroup_eng (g : Nat) (x : Group) : (d.setGroup g x).eng = d.eng := rfl
@[simp] theorem Device.setGroup_host (g : Nat) (x : Group) : (d.setGroup g x).host = d.host := rfl
@[simp] theorem Device.setGroup_chans (g : Nat) (x : Group) : (d.setGroup g x).chans = d.chans := rfl
@[simp] theorem Device.setGroup_integ (g : Nat) (x : Group) : (d.setGroup g x).integ = d.integ := rfl
@[simp] theorem Device.setGroup_twin (g : Nat) (x : Group) : (d.setGroup g x).twin = d.twin := rfl
@[simp] theorem Device.setGroup_power (g : Nat) (x : Group) : (d.setGroup g x).power = d.power := rfl
@[simp] theorem Device.setGroup_sec (g : Nat) (x : Group) : (d.setGroup g x).sec = d.sec := rfl
@[simp] theorem Device.setGroup_space (g : Nat) (x : Group) : (d.setGroup g x).space = d.space := rfl
@[simp] theorem Device.setGroup_qid (g : Nat) (x : Group) : (d.setGroup g x).qid = d.qid := rfl
@[simp] theorem Device.setGroup_side (g : Nat) (x : Group) : (d.setGroup g x).side = d.side := rfl
@[simp] theorem Device.setGroup_out (g : Nat) (x : Group) : (d.setGroup g x).out = d.out := rfl

/-! `Device.setGeos` changes `fail` only. -/

@[simp] theorem Device.setGeos_hw (t : KMap Geometry) : (d.setGeos t).hw = d.hw := rfl
@[simp] theorem Device.setGeos_time (t : KMap Geometry) : (d.setGeos t).time = d.time := rfl
@[simp] theorem Device.setGeos_upAt (t : KMap Geometry) : (d.setGeos t).upAt = d.upAt := rfl
@[simp] theorem Device.setGeos_fresh (t : KMap Geometry) : (d.setGeos t).fresh = d.fresh := rfl
@[simp] theorem Device.setGeos_regs (t : KMap Geometry) : (d.setGeos t).regs = d.regs := rfl
@[simp] theorem Device.setGeos_hdr (t : KMap Geometry) : (d.setGeos t).hdr = d.hdr := rfl
@[simp] theorem Device.setGeos_shadow (t : KMap Geometry) : (d.setGeos t).shadow = d.shadow := rfl
@[simp] theorem Device.setGeos_fc (t : KMap Geometry) : (d.setGeos t).fc = d.fc := rfl
@[simp] theorem Device.setGeos_ldg (t : KMap Geometry) : (d.setGeos t).ldg = d.ldg := rfl
@[simp] theorem Device.setGeos_mgmt (t : KMap Geometry) : (d.setGeos t).mgmt = d.mgmt := rfl
@[simp] theorem Device.setGeos_mem (t : KMap Geometry) : (d.setGeos t).mem = d.mem := rfl
@[simp] theorem Device.setGeos_regions (t : KMap Geometry) : (d.setGeos t).regions = d.regions := rfl
@[simp] theorem Device.setGeos_tier (t : KMap Geometry) : (d.setGeos t).tier = d.tier := rfl
@[simp] theorem Device.setGeos_coh (t : KMap Geometry) : (d.setGeos t).coh = d.coh := rfl
@[simp] theorem Device.setGeos_batch (t : KMap Geometry) : (d.setGeos t).batch = d.batch := rfl
@[simp] theorem Device.setGeos_qos (t : KMap Geometry) : (d.setGeos t).qos = d.qos := rfl
@[simp] theorem Device.setGeos_links (t : KMap Geometry) : (d.setGeos t).links = d.links := rfl
@[simp] theorem Device.setGeos_site (t : KMap Geometry) : (d.setGeos t).site = d.site := rfl
@[simp] theorem Device.setGeos_eng (t : KMap Geometry) : (d.setGeos t).eng = d.eng := rfl
@[simp] theorem Device.setGeos_host (t : KMap Geometry) : (d.setGeos t).host = d.host := rfl
@[simp] theorem Device.setGeos_chans (t : KMap Geometry) : (d.setGeos t).chans = d.chans := rfl
@[simp] theorem Device.setGeos_integ (t : KMap Geometry) : (d.setGeos t).integ = d.integ := rfl
@[simp] theorem Device.setGeos_twin (t : KMap Geometry) : (d.setGeos t).twin = d.twin := rfl
@[simp] theorem Device.setGeos_power (t : KMap Geometry) : (d.setGeos t).power = d.power := rfl
@[simp] theorem Device.setGeos_sec (t : KMap Geometry) : (d.setGeos t).sec = d.sec := rfl
@[simp] theorem Device.setGeos_space (t : KMap Geometry) : (d.setGeos t).space = d.space := rfl
@[simp] theorem Device.setGeos_qid (t : KMap Geometry) : (d.setGeos t).qid = d.qid := rfl
@[simp] theorem Device.setGeos_side (t : KMap Geometry) : (d.setGeos t).side = d.side := rfl
@[simp] theorem Device.setGeos_out (t : KMap Geometry) : (d.setGeos t).out = d.out := rfl

/-! `Device.setDuts` changes `fail` only. -/

@[simp] theorem Device.setDuts_hw (t : KMap Dut) : (d.setDuts t).hw = d.hw := rfl
@[simp] theorem Device.setDuts_time (t : KMap Dut) : (d.setDuts t).time = d.time := rfl
@[simp] theorem Device.setDuts_upAt (t : KMap Dut) : (d.setDuts t).upAt = d.upAt := rfl
@[simp] theorem Device.setDuts_fresh (t : KMap Dut) : (d.setDuts t).fresh = d.fresh := rfl
@[simp] theorem Device.setDuts_regs (t : KMap Dut) : (d.setDuts t).regs = d.regs := rfl
@[simp] theorem Device.setDuts_hdr (t : KMap Dut) : (d.setDuts t).hdr = d.hdr := rfl
@[simp] theorem Device.setDuts_shadow (t : KMap Dut) : (d.setDuts t).shadow = d.shadow := rfl
@[simp] theorem Device.setDuts_fc (t : KMap Dut) : (d.setDuts t).fc = d.fc := rfl
@[simp] theorem Device.setDuts_ldg (t : KMap Dut) : (d.setDuts t).ldg = d.ldg := rfl
@[simp] theorem Device.setDuts_mgmt (t : KMap Dut) : (d.setDuts t).mgmt = d.mgmt := rfl
@[simp] theorem Device.setDuts_mem (t : KMap Dut) : (d.setDuts t).mem = d.mem := rfl
@[simp] theorem Device.setDuts_regions (t : KMap Dut) : (d.setDuts t).regions = d.regions := rfl
@[simp] theorem Device.setDuts_tier (t : KMap Dut) : (d.setDuts t).tier = d.tier := rfl
@[simp] theorem Device.setDuts_coh (t : KMap Dut) : (d.setDuts t).coh = d.coh := rfl
@[simp] theorem Device.setDuts_batch (t : KMap Dut) : (d.setDuts t).batch = d.batch := rfl
@[simp] theorem Device.setDuts_qos (t : KMap Dut) : (d.setDuts t).qos = d.qos := rfl
@[simp] theorem Device.setDuts_links (t : KMap Dut) : (d.setDuts t).links = d.links := rfl
@[simp] theorem Device.setDuts_site (t : KMap Dut) : (d.setDuts t).site = d.site := rfl
@[simp] theorem Device.setDuts_eng (t : KMap Dut) : (d.setDuts t).eng = d.eng := rfl
@[simp] theorem Device.setDuts_host (t : KMap Dut) : (d.setDuts t).host = d.host := rfl
@[simp] theorem Device.setDuts_chans (t : KMap Dut) : (d.setDuts t).chans = d.chans := rfl
@[simp] theorem Device.setDuts_integ (t : KMap Dut) : (d.setDuts t).integ = d.integ := rfl
@[simp] theorem Device.setDuts_twin (t : KMap Dut) : (d.setDuts t).twin = d.twin := rfl
@[simp] theorem Device.setDuts_power (t : KMap Dut) : (d.setDuts t).power = d.power := rfl
@[simp] theorem Device.setDuts_sec (t : KMap Dut) : (d.setDuts t).sec = d.sec := rfl
@[simp] theorem Device.setDuts_space (t : KMap Dut) : (d.setDuts t).space = d.space := rfl
@[simp] theorem Device.setDuts_qid (t : KMap Dut) : (d.setDuts t).qid = d.qid := rfl
@[simp] theorem Device.setDuts_side (t : KMap Dut) : (d.setDuts t).side = d.side := rfl
@[simp] theorem Device.setDuts_out (t : KMap Dut) : (d.setDuts t).out = d.out := rfl

/-! `Device.setTable` changes `regions` only. -/

@[simp] theorem Device.setTable_hw (t : KMap Region) : (d.setTable t).hw = d.hw := rfl
@[simp] theorem Device.setTable_time (t : KMap Region) : (d.setTable t).time = d.time := rfl
@[simp] theorem Device.setTable_upAt (t : KMap Region) : (d.setTable t).upAt = d.upAt := rfl
@[simp] theorem Device.setTable_fresh (t : KMap Region) : (d.setTable t).fresh = d.fresh := rfl
@[simp] theorem Device.setTable_regs (t : KMap Region) : (d.setTable t).regs = d.regs := rfl
@[simp] theorem Device.setTable_hdr (t : KMap Region) : (d.setTable t).hdr = d.hdr := rfl
@[simp] theorem Device.setTable_shadow (t : KMap Region) : (d.setTable t).shadow = d.shadow := rfl
@[simp] theorem Device.setTable_fc (t : KMap Region) : (d.setTable t).fc = d.fc := rfl
@[simp] theorem Device.setTable_ldg (t : KMap Region) : (d.setTable t).ldg = d.ldg := rfl
@[simp] theorem Device.setTable_mgmt (t : KMap Region) : (d.setTable t).mgmt = d.mgmt := rfl
@[simp] theorem Device.setTable_mem (t : KMap Region) : (d.setTable t).mem = d.mem := rfl
@[simp] theorem Device.setTable_tier (t : KMap Region) : (d.setTable t).tier = d.tier := rfl
@[simp] theorem Device.setTable_coh (t : KMap Region) : (d.setTable t).coh = d.coh := rfl
@[simp] theorem Device.setTable_batch (t : KMap Region) : (d.setTable t).batch = d.batch := rfl
@[simp] theorem Device.setTable_qos (t : KMap Region) : (d.setTable t).qos = d.qos := rfl
@[simp] theorem Device.setTable_links (t : KMap Region) : (d.setTable t).links = d.links := rfl
@[simp] theorem Device.setTable_site (t : KMap Region) : (d.setTable t).site = d.site := rfl
@[simp] theorem Device.setTable_fail (t : KMap Region) : (d.setTable t).fail = d.fail := rfl
@[simp] theorem Device.setTable_eng (t : KMap Region) : (d.setTable t).eng = d.eng := rfl
@[simp] theorem Device.setTable_host (t : KMap Region) : (d.setTable t).host = d.host := rfl
@[simp] theorem Device.setTable_chans (t : KMap Region) : (d.setTable t).chans = d.chans := rfl
@[simp] theorem Device.setTable_integ (t : KMap Region) : (d.setTable t).integ = d.integ := rfl
@[simp] theorem Device.setTable_twin (t : KMap Region) : (d.setTable t).twin = d.twin := rfl
@[simp] theorem Device.setTable_power (t : KMap Region) : (d.setTable t).power = d.power := rfl
@[simp] theorem Device.setTable_sec (t : KMap Region) : (d.setTable t).sec = d.sec := rfl
@[simp] theorem Device.setTable_space (t : KMap Region) : (d.setTable t).space = d.space := rfl
@[simp] theorem Device.setTable_qid (t : KMap Region) : (d.setTable t).qid = d.qid := rfl
@[simp] theorem Device.setTable_side (t : KMap Region) : (d.setTable t).side = d.side := rfl
@[simp] theorem Device.setTable_out (t : KMap Region) : (d.setTable t).out = d.out := rfl

/-! `Device.setPower` changes `power` only. -/

@[simp] theorem Device.setPower_hw (x : Power) : (d.setPower x).hw = d.hw := rfl
@[simp] theorem Device.setPower_time (x : Power) : (d.setPower x).time = d.time := rfl
@[simp] theorem Device.setPower_upAt (x : Power) : (d.setPower x).upAt = d.upAt := rfl
@[simp] theorem Device.setPower_fresh (x : Power) : (d.setPower x).fresh = d.fresh := rfl
@[simp] theorem Device.setPower_regs (x : Power) : (d.setPower x).regs = d.regs := rfl
@[simp] theorem Device.setPower_hdr (x : Power) : (d.setPower x).hdr = d.hdr := rfl
@[simp] theorem Device.setPower_shadow (x : Power) : (d.setPower x).shadow = d.shadow := rfl
@[simp] theorem Device.setPower_fc (x : Power) : (d.setPower x).fc = d.fc := rfl
@[simp] theorem Device.setPower_ldg (x : Power) : (d.setPower x).ldg = d.ldg := rfl
@[simp] theorem Device.setPower_mgmt (x : Power) : (d.setPower x).mgmt = d.mgmt := rfl
@[simp] theorem Device.setPower_mem (x : Power) : (d.setPower x).mem = d.mem := rfl
@[simp] theorem Device.setPower_regions (x : Power) : (d.setPower x).regions = d.regions := rfl
@[simp] theorem Device.setPower_tier (x : Power) : (d.setPower x).tier = d.tier := rfl
@[simp] theorem Device.setPower_coh (x : Power) : (d.setPower x).coh = d.coh := rfl
@[simp] theorem Device.setPower_batch (x : Power) : (d.setPower x).batch = d.batch := rfl
@[simp] theorem Device.setPower_qos (x : Power) : (d.setPower x).qos = d.qos := rfl
@[simp] theorem Device.setPower_links (x : Power) : (d.setPower x).links = d.links := rfl
@[simp] theorem Device.setPower_site (x : Power) : (d.setPower x).site = d.site := rfl
@[simp] theorem Device.setPower_fail (x : Power) : (d.setPower x).fail = d.fail := rfl
@[simp] theorem Device.setPower_eng (x : Power) : (d.setPower x).eng = d.eng := rfl
@[simp] theorem Device.setPower_host (x : Power) : (d.setPower x).host = d.host := rfl
@[simp] theorem Device.setPower_chans (x : Power) : (d.setPower x).chans = d.chans := rfl
@[simp] theorem Device.setPower_integ (x : Power) : (d.setPower x).integ = d.integ := rfl
@[simp] theorem Device.setPower_twin (x : Power) : (d.setPower x).twin = d.twin := rfl
@[simp] theorem Device.setPower_sec (x : Power) : (d.setPower x).sec = d.sec := rfl
@[simp] theorem Device.setPower_space (x : Power) : (d.setPower x).space = d.space := rfl
@[simp] theorem Device.setPower_qid (x : Power) : (d.setPower x).qid = d.qid := rfl
@[simp] theorem Device.setPower_side (x : Power) : (d.setPower x).side = d.side := rfl
@[simp] theorem Device.setPower_out (x : Power) : (d.setPower x).out = d.out := rfl

/-! `Device.setDomain` changes `power` only. -/

@[simp] theorem Device.setDomain_hw (n : Nat) (x : Domain) : (d.setDomain n x).hw = d.hw := rfl
@[simp] theorem Device.setDomain_time (n : Nat) (x : Domain) : (d.setDomain n x).time = d.time := rfl
@[simp] theorem Device.setDomain_upAt (n : Nat) (x : Domain) : (d.setDomain n x).upAt = d.upAt := rfl
@[simp] theorem Device.setDomain_fresh (n : Nat) (x : Domain) : (d.setDomain n x).fresh = d.fresh := rfl
@[simp] theorem Device.setDomain_regs (n : Nat) (x : Domain) : (d.setDomain n x).regs = d.regs := rfl
@[simp] theorem Device.setDomain_hdr (n : Nat) (x : Domain) : (d.setDomain n x).hdr = d.hdr := rfl
@[simp] theorem Device.setDomain_shadow (n : Nat) (x : Domain) : (d.setDomain n x).shadow = d.shadow := rfl
@[simp] theorem Device.setDomain_fc (n : Nat) (x : Domain) : (d.setDomain n x).fc = d.fc := rfl
@[simp] theorem Device.setDomain_ldg (n : Nat) (x : Domain) : (d.setDomain n x).ldg = d.ldg := rfl
@[simp] theorem Device.setDomain_mgmt (n : Nat) (x : Domain) : (d.setDomain n x).mgmt = d.mgmt := rfl
@[simp] theorem Device.setDomain_mem (n : Nat) (x : Domain) : (d.setDomain n x).mem = d.mem := rfl
@[simp] theorem Device.setDomain_regions (n : Nat) (x : Domain) : (d.setDomain n x).regions = d.regions := rfl
@[simp] theorem Device.setDomain_tier (n : Nat) (x : Domain) : (d.setDomain n x).tier = d.tier := rfl
@[simp] theorem Device.setDomain_coh (n : Nat) (x : Domain) : (d.setDomain n x).coh = d.coh := rfl
@[simp] theorem Device.setDomain_batch (n : Nat) (x : Domain) : (d.setDomain n x).batch = d.batch := rfl
@[simp] theorem Device.setDomain_qos (n : Nat) (x : Domain) : (d.setDomain n x).qos = d.qos := rfl
@[simp] theorem Device.setDomain_links (n : Nat) (x : Domain) : (d.setDomain n x).links = d.links := rfl
@[simp] theorem Device.setDomain_site (n : Nat) (x : Domain) : (d.setDomain n x).site = d.site := rfl
@[simp] theorem Device.setDomain_fail (n : Nat) (x : Domain) : (d.setDomain n x).fail = d.fail := rfl
@[simp] theorem Device.setDomain_eng (n : Nat) (x : Domain) : (d.setDomain n x).eng = d.eng := rfl
@[simp] theorem Device.setDomain_host (n : Nat) (x : Domain) : (d.setDomain n x).host = d.host := rfl
@[simp] theorem Device.setDomain_chans (n : Nat) (x : Domain) : (d.setDomain n x).chans = d.chans := rfl
@[simp] theorem Device.setDomain_integ (n : Nat) (x : Domain) : (d.setDomain n x).integ = d.integ := rfl
@[simp] theorem Device.setDomain_twin (n : Nat) (x : Domain) : (d.setDomain n x).twin = d.twin := rfl
@[simp] theorem Device.setDomain_sec (n : Nat) (x : Domain) : (d.setDomain n x).sec = d.sec := rfl
@[simp] theorem Device.setDomain_space (n : Nat) (x : Domain) : (d.setDomain n x).space = d.space := rfl
@[simp] theorem Device.setDomain_qid (n : Nat) (x : Domain) : (d.setDomain n x).qid = d.qid := rfl
@[simp] theorem Device.setDomain_side (n : Nat) (x : Domain) : (d.setDomain n x).side = d.side := rfl
@[simp] theorem Device.setDomain_out (n : Nat) (x : Domain) : (d.setDomain n x).out = d.out := rfl

/-! `Device.setHsw` changes `power` only. -/

@[simp] theorem Device.setHsw_hw (x : HotSwap) : (d.setHsw x).hw = d.hw := rfl
@[simp] theorem Device.setHsw_time (x : HotSwap) : (d.setHsw x).time = d.time := rfl
@[simp] theorem Device.setHsw_upAt (x : HotSwap) : (d.setHsw x).upAt = d.upAt := rfl
@[simp] theorem Device.setHsw_fresh (x : HotSwap) : (d.setHsw x).fresh = d.fresh := rfl
@[simp] theorem Device.setHsw_regs (x : HotSwap) : (d.setHsw x).regs = d.regs := rfl
@[simp] theorem Device.setHsw_hdr (x : HotSwap) : (d.setHsw x).hdr = d.hdr := rfl
@[simp] theorem Device.setHsw_shadow (x : HotSwap) : (d.setHsw x).shadow = d.shadow := rfl
@[simp] theorem Device.setHsw_fc (x : HotSwap) : (d.setHsw x).fc = d.fc := rfl
@[simp] theorem Device.setHsw_ldg (x : HotSwap) : (d.setHsw x).ldg = d.ldg := rfl
@[simp] theorem Device.setHsw_mgmt (x : HotSwap) : (d.setHsw x).mgmt = d.mgmt := rfl
@[simp] theorem Device.setHsw_mem (x : HotSwap) : (d.setHsw x).mem = d.mem := rfl
@[simp] theorem Device.setHsw_regions (x : HotSwap) : (d.setHsw x).regions = d.regions := rfl
@[simp] theorem Device.setHsw_tier (x : HotSwap) : (d.setHsw x).tier = d.tier := rfl
@[simp] theorem Device.setHsw_coh (x : HotSwap) : (d.setHsw x).coh = d.coh := rfl
@[simp] theorem Device.setHsw_batch (x : HotSwap) : (d.setHsw x).batch = d.batch := rfl
@[simp] theorem Device.setHsw_qos (x : HotSwap) : (d.setHsw x).qos = d.qos := rfl
@[simp] theorem Device.setHsw_links (x : HotSwap) : (d.setHsw x).links = d.links := rfl
@[simp] theorem Device.setHsw_site (x : HotSwap) : (d.setHsw x).site = d.site := rfl
@[simp] theorem Device.setHsw_fail (x : HotSwap) : (d.setHsw x).fail = d.fail := rfl
@[simp] theorem Device.setHsw_eng (x : HotSwap) : (d.setHsw x).eng = d.eng := rfl
@[simp] theorem Device.setHsw_host (x : HotSwap) : (d.setHsw x).host = d.host := rfl
@[simp] theorem Device.setHsw_chans (x : HotSwap) : (d.setHsw x).chans = d.chans := rfl
@[simp] theorem Device.setHsw_integ (x : HotSwap) : (d.setHsw x).integ = d.integ := rfl
@[simp] theorem Device.setHsw_twin (x : HotSwap) : (d.setHsw x).twin = d.twin := rfl
@[simp] theorem Device.setHsw_sec (x : HotSwap) : (d.setHsw x).sec = d.sec := rfl
@[simp] theorem Device.setHsw_space (x : HotSwap) : (d.setHsw x).space = d.space := rfl
@[simp] theorem Device.setHsw_qid (x : HotSwap) : (d.setHsw x).qid = d.qid := rfl
@[simp] theorem Device.setHsw_side (x : HotSwap) : (d.setHsw x).side = d.side := rfl
@[simp] theorem Device.setHsw_out (x : HotSwap) : (d.setHsw x).out = d.out := rfl

/-! `Device.setCal` changes `power` only. -/

@[simp] theorem Device.setCal_hw (x : Calibration) : (d.setCal x).hw = d.hw := rfl
@[simp] theorem Device.setCal_time (x : Calibration) : (d.setCal x).time = d.time := rfl
@[simp] theorem Device.setCal_upAt (x : Calibration) : (d.setCal x).upAt = d.upAt := rfl
@[simp] theorem Device.setCal_fresh (x : Calibration) : (d.setCal x).fresh = d.fresh := rfl
@[simp] theorem Device.setCal_regs (x : Calibration) : (d.setCal x).regs = d.regs := rfl
@[simp] theorem Device.setCal_hdr (x : Calibration) : (d.setCal x).hdr = d.hdr := rfl
@[simp] theorem Device.setCal_shadow (x : Calibration) : (d.setCal x).shadow = d.shadow := rfl
@[simp] theorem Device.setCal_fc (x : Calibration) : (d.setCal x).fc = d.fc := rfl
@[simp] theorem Device.setCal_ldg (x : Calibration) : (d.setCal x).ldg = d.ldg := rfl
@[simp] theorem Device.setCal_mgmt (x : Calibration) : (d.setCal x).mgmt = d.mgmt := rfl
@[simp] theorem Device.setCal_mem (x : Calibration) : (d.setCal x).mem = d.mem := rfl
@[simp] theorem Device.setCal_regions (x : Calibration) : (d.setCal x).regions = d.regions := rfl
@[simp] theorem Device.setCal_tier (x : Calibration) : (d.setCal x).tier = d.tier := rfl
@[simp] theorem Device.setCal_coh (x : Calibration) : (d.setCal x).coh = d.coh := rfl
@[simp] theorem Device.setCal_batch (x : Calibration) : (d.setCal x).batch = d.batch := rfl
@[simp] theorem Device.setCal_qos (x : Calibration) : (d.setCal x).qos = d.qos := rfl
@[simp] theorem Device.setCal_links (x : Calibration) : (d.setCal x).links = d.links := rfl
@[simp] theorem Device.setCal_site (x : Calibration) : (d.setCal x).site = d.site := rfl
@[simp] theorem Device.setCal_fail (x : Calibration) : (d.setCal x).fail = d.fail := rfl
@[simp] theorem Device.setCal_eng (x : Calibration) : (d.setCal x).eng = d.eng := rfl
@[simp] theorem Device.setCal_host (x : Calibration) : (d.setCal x).host = d.host := rfl
@[simp] theorem Device.setCal_chans (x : Calibration) : (d.setCal x).chans = d.chans := rfl
@[simp] theorem Device.setCal_integ (x : Calibration) : (d.setCal x).integ = d.integ := rfl
@[simp] theorem Device.setCal_twin (x : Calibration) : (d.setCal x).twin = d.twin := rfl
@[simp] theorem Device.setCal_sec (x : Calibration) : (d.setCal x).sec = d.sec := rfl
@[simp] theorem Device.setCal_space (x : Calibration) : (d.setCal x).space = d.space := rfl
@[simp] theorem Device.setCal_qid (x : Calibration) : (d.setCal x).qid = d.qid := rfl
@[simp] theorem Device.setCal_side (x : Calibration) : (d.setCal x).side = d.side := rfl
@[simp] theorem Device.setCal_out (x : Calibration) : (d.setCal x).out = d.out := rfl

/-! `Device.setSec` changes `sec` only. -/

@[simp] theorem Device.setSec_hw (x : Security) : (d.setSec x).hw = d.hw := rfl
@[simp] theorem Device.setSec_time (x : Security) : (d.setSec x).time = d.time := rfl
@[simp] theorem Device.setSec_upAt (x : Security) : (d.setSec x).upAt = d.upAt := rfl
@[simp] theorem Device.setSec_fresh (x : Security) : (d.setSec x).fresh = d.fresh := rfl
@[simp] theorem Device.setSec_regs (x : Security) : (d.setSec x).regs = d.regs := rfl
@[simp] theorem Device.setSec_hdr (x : Security) : (d.setSec x).hdr = d.hdr := rfl
@[simp] theorem Device.setSec_shadow (x : Security) : (d.setSec x).shadow = d.shadow := rfl
@[simp] theorem Device.setSec_fc (x : Security) : (d.setSec x).fc = d.fc := rfl
@[simp] theorem Device.setSec_ldg (x : Security) : (d.setSec x).ldg = d.ldg := rfl
@[simp] theorem Device.setSec_mgmt (x : Security) : (d.setSec x).mgmt = d.mgmt := rfl
@[simp] theorem Device.setSec_mem (x : Security) : (d.setSec x).mem = d.mem := rfl
@[simp] theorem Device.setSec_regions (x : Security) : (d.setSec x).regions = d.regions := rfl
@[simp] theorem Device.setSec_tier (x : Security) : (d.setSec x).tier = d.tier := rfl
@[simp] theorem Device.setSec_coh (x : Security) : (d.setSec x).coh = d.coh := rfl
@[simp] theorem Device.setSec_batch (x : Security) : (d.setSec x).batch = d.batch := rfl
@[simp] theorem Device.setSec_qos (x : Security) : (d.setSec x).qos = d.qos := rfl
@[simp] theorem Device.setSec_links (x : Security) : (d.setSec x).links = d.links := rfl
@[simp] theorem Device.setSec_site (x : Security) : (d.setSec x).site = d.site := rfl
@[simp] theorem Device.setSec_fail (x : Security) : (d.setSec x).fail = d.fail := rfl
@[simp] theorem Device.setSec_eng (x : Security) : (d.setSec x).eng = d.eng := rfl
@[simp] theorem Device.setSec_host (x : Security) : (d.setSec x).host = d.host := rfl
@[simp] theorem Device.setSec_chans (x : Security) : (d.setSec x).chans = d.chans := rfl
@[simp] theorem Device.setSec_integ (x : Security) : (d.setSec x).integ = d.integ := rfl
@[simp] theorem Device.setSec_twin (x : Security) : (d.setSec x).twin = d.twin := rfl
@[simp] theorem Device.setSec_power (x : Security) : (d.setSec x).power = d.power := rfl
@[simp] theorem Device.setSec_space (x : Security) : (d.setSec x).space = d.space := rfl
@[simp] theorem Device.setSec_qid (x : Security) : (d.setSec x).qid = d.qid := rfl
@[simp] theorem Device.setSec_side (x : Security) : (d.setSec x).side = d.side := rfl
@[simp] theorem Device.setSec_out (x : Security) : (d.setSec x).out = d.out := rfl

/-! `Device.setConn` changes `sec` only. -/

@[simp] theorem Device.setConn_hw (c : Nat) (x : SpdmConn) : (d.setConn c x).hw = d.hw := rfl
@[simp] theorem Device.setConn_time (c : Nat) (x : SpdmConn) : (d.setConn c x).time = d.time := rfl
@[simp] theorem Device.setConn_upAt (c : Nat) (x : SpdmConn) : (d.setConn c x).upAt = d.upAt := rfl
@[simp] theorem Device.setConn_fresh (c : Nat) (x : SpdmConn) : (d.setConn c x).fresh = d.fresh := rfl
@[simp] theorem Device.setConn_regs (c : Nat) (x : SpdmConn) : (d.setConn c x).regs = d.regs := rfl
@[simp] theorem Device.setConn_hdr (c : Nat) (x : SpdmConn) : (d.setConn c x).hdr = d.hdr := rfl
@[simp] theorem Device.setConn_shadow (c : Nat) (x : SpdmConn) : (d.setConn c x).shadow = d.shadow := rfl
@[simp] theorem Device.setConn_fc (c : Nat) (x : SpdmConn) : (d.setConn c x).fc = d.fc := rfl
@[simp] theorem Device.setConn_ldg (c : Nat) (x : SpdmConn) : (d.setConn c x).ldg = d.ldg := rfl
@[simp] theorem Device.setConn_mgmt (c : Nat) (x : SpdmConn) : (d.setConn c x).mgmt = d.mgmt := rfl
@[simp] theorem Device.setConn_mem (c : Nat) (x : SpdmConn) : (d.setConn c x).mem = d.mem := rfl
@[simp] theorem Device.setConn_regions (c : Nat) (x : SpdmConn) : (d.setConn c x).regions = d.regions := rfl
@[simp] theorem Device.setConn_tier (c : Nat) (x : SpdmConn) : (d.setConn c x).tier = d.tier := rfl
@[simp] theorem Device.setConn_coh (c : Nat) (x : SpdmConn) : (d.setConn c x).coh = d.coh := rfl
@[simp] theorem Device.setConn_batch (c : Nat) (x : SpdmConn) : (d.setConn c x).batch = d.batch := rfl
@[simp] theorem Device.setConn_qos (c : Nat) (x : SpdmConn) : (d.setConn c x).qos = d.qos := rfl
@[simp] theorem Device.setConn_links (c : Nat) (x : SpdmConn) : (d.setConn c x).links = d.links := rfl
@[simp] theorem Device.setConn_site (c : Nat) (x : SpdmConn) : (d.setConn c x).site = d.site := rfl
@[simp] theorem Device.setConn_fail (c : Nat) (x : SpdmConn) : (d.setConn c x).fail = d.fail := rfl
@[simp] theorem Device.setConn_eng (c : Nat) (x : SpdmConn) : (d.setConn c x).eng = d.eng := rfl
@[simp] theorem Device.setConn_host (c : Nat) (x : SpdmConn) : (d.setConn c x).host = d.host := rfl
@[simp] theorem Device.setConn_chans (c : Nat) (x : SpdmConn) : (d.setConn c x).chans = d.chans := rfl
@[simp] theorem Device.setConn_integ (c : Nat) (x : SpdmConn) : (d.setConn c x).integ = d.integ := rfl
@[simp] theorem Device.setConn_twin (c : Nat) (x : SpdmConn) : (d.setConn c x).twin = d.twin := rfl
@[simp] theorem Device.setConn_power (c : Nat) (x : SpdmConn) : (d.setConn c x).power = d.power := rfl
@[simp] theorem Device.setConn_space (c : Nat) (x : SpdmConn) : (d.setConn c x).space = d.space := rfl
@[simp] theorem Device.setConn_qid (c : Nat) (x : SpdmConn) : (d.setConn c x).qid = d.qid := rfl
@[simp] theorem Device.setConn_side (c : Nat) (x : SpdmConn) : (d.setConn c x).side = d.side := rfl
@[simp] theorem Device.setConn_out (c : Nat) (x : SpdmConn) : (d.setConn c x).out = d.out := rfl

/-! `settle` changes the collector only, and of it what it shows. -/

@[simp] theorem settle_hw : (settle d).hw = d.hw := rfl
@[simp] theorem settle_time : (settle d).time = d.time := rfl
@[simp] theorem settle_upAt : (settle d).upAt = d.upAt := rfl
@[simp] theorem settle_fresh : (settle d).fresh = d.fresh := rfl
@[simp] theorem settle_regs : (settle d).regs = d.regs := rfl
@[simp] theorem settle_hdr : (settle d).hdr = d.hdr := rfl
@[simp] theorem settle_shadow : (settle d).shadow = d.shadow := rfl
@[simp] theorem settle_ldg : (settle d).ldg = d.ldg := rfl
@[simp] theorem settle_mgmt : (settle d).mgmt = d.mgmt := rfl
@[simp] theorem settle_mem : (settle d).mem = d.mem := rfl
@[simp] theorem settle_regions : (settle d).regions = d.regions := rfl
@[simp] theorem settle_tier : (settle d).tier = d.tier := rfl
@[simp] theorem settle_coh : (settle d).coh = d.coh := rfl
@[simp] theorem settle_batch : (settle d).batch = d.batch := rfl
@[simp] theorem settle_qos : (settle d).qos = d.qos := rfl
@[simp] theorem settle_links : (settle d).links = d.links := rfl
@[simp] theorem settle_site : (settle d).site = d.site := rfl
@[simp] theorem settle_fail : (settle d).fail = d.fail := rfl
@[simp] theorem settle_eng : (settle d).eng = d.eng := rfl
@[simp] theorem settle_host : (settle d).host = d.host := rfl
@[simp] theorem settle_chans : (settle d).chans = d.chans := rfl
@[simp] theorem settle_integ : (settle d).integ = d.integ := rfl
@[simp] theorem settle_twin : (settle d).twin = d.twin := rfl
@[simp] theorem settle_power : (settle d).power = d.power := rfl
@[simp] theorem settle_sec : (settle d).sec = d.sec := rfl
@[simp] theorem settle_space : (settle d).space = d.space := rfl
@[simp] theorem settle_qid : (settle d).qid = d.qid := rfl
@[simp] theorem settle_side : (settle d).side = d.side := rfl
@[simp] theorem settle_out : (settle d).out = d.out := rfl
@[simp] theorem settle_fc_escalated : (settle d).fc.escalated = d.fc.escalated := rfl
@[simp] theorem settle_fc_testCls : (settle d).fc.testCls = d.fc.testCls := rfl
@[simp] theorem settle_fc_ftPending : (settle d).fc.ftPending = d.fc.ftPending := rfl
@[simp] theorem settle_fc_reacting : (settle d).fc.reacting = d.fc.reacting := rfl

end Sys2Proof.Machine
end

