-- ==== Sys2Proof/Laws/Home.lean ====
section
/-! SUPPORT. What storing a burst and draining a write queue do: the line read back, every other line, and the queues. -/

namespace Sys2Proof.Machine

theorem lineBytes_length (l : Line) : (lineBytes l).length = 64 := by
  have h : ∀ n v, (leBytes n v).length = n := by intro n; induction n <;> simp_all [leBytes]
  exact h _ _

theorem ofLe_leBytes (n v : Nat) : ofLe ((leBytes n v).map (fun x => x % 256)) = v % 2 ^ (8 * n) := by
  induction n generalizing v with
  | zero => simp [leBytes, ofLe, Nat.mod_one]
  | succ n ih =>
    simp only [leBytes, List.map_cons, ofLe, ih]
    have h : 2 ^ (8 * (n + 1)) = 256 * 2 ^ (8 * n) := by rw [Nat.mul_add, Nat.pow_add]; simp [Nat.mul_comm]
    rw [h, Nat.mod_mul]; simp

/-- A line is read back from its 64 bytes. -/
theorem lineOfBytes_lineBytes (v : Line) : lineOfBytes ((lineBytes v).map (fun x => x % 256)) = v := by
  unfold lineOfBytes
  rw [List.take_of_length_le (by simp [lineBytes_length])]
  unfold lineBytes; rw [ofLe_leBytes]
  apply BitVec.eq_of_toNat_eq
  have h := v.isLt
  rw [BitVec.toNat_ofNat, Nat.mod_mod, Nat.mod_eq_of_lt h]

@[simp] theorem Device.storeBurst_mem (d : Device) (ra : Nat) (v : Line) (p : Bool) :
    (d.storeBurst ra v p).mem = Memory.setBytes d.mem ra (lineBytes v) := by unfold Device.storeBurst; dsimp only

@[simp] theorem Device.storeBurst_chans (d : Device) (ra : Nat) (v : Line) (p : Bool) : (d.storeBurst ra v p).chans = d.chans := by
  unfold Device.storeBurst; dsimp only

@[simp] theorem Device.countSat_mem (d : Device) (f : Field) (i n : Nat) : (d.countSat f i n).mem = d.mem := rfl

/-- What memory holds at a burst depends on memory and on the poison marks. -/
theorem Device.memLine_congr {d e : Device} (h : e.mem = d.mem) (ht : e.tier = d.tier) (b : Nat) : e.memLine b = d.memLine b := by
  unfold Device.memLine; rw [h, ht]

/-- A stored burst reads back, with its poison mark. -/
theorem Device.memLine_storeBurst_self (d : Device) (ra : Nat) (v : Line) (p : Bool) (h : Memory.wf d.mem = true) :
    (d.storeBurst ra v p).memLine ra = (v, p) := by
  unfold Device.memLine Device.storeBurst
  have e : Memory.bytes (Memory.setBytes d.mem ra (lineBytes v)) ra 64 = (lineBytes v).map (fun x => x % 256) := by
    have := Memory.bytes_setBytes ra (lineBytes v) h
    rwa [lineBytes_length] at this
  simp only [e, lineOfBytes_lineBytes, Prod.mk.injEq, true_and]
  cases p <;> simp
  by_cases hc : ra ∈ d.tier.poisoned <;> simp [hc]

theorem Memory.bytes_congr {m n : Memory} (b k : Nat) (h : ∀ j, b ≤ j → j < b + k → Memory.byte m j = Memory.byte n j) :
    Memory.bytes m b k = Memory.bytes n b k := by
  induction k generalizing b with
  | zero => rfl
  | succ k ih =>
    simp only [Memory.bytes]
    rw [h b (by omega) (by omega), ih (b + 1) (fun j h1 h2 => h j (by omega) (by omega))]

/-- Storing a burst changes no other burst. -/
theorem Device.memLine_storeBurst_ne (d : Device) (ra b : Nat) (v : Line) (p : Bool) (h : Memory.wf d.mem = true)
    (h1 : ra % 64 = 0) (h2 : b % 64 = 0) (hn : b ≠ ra) : (d.storeBurst ra v p).memLine b = d.memLine b := by
  unfold Device.memLine Device.storeBurst
  have e : Memory.bytes (Memory.setBytes d.mem ra (lineBytes v)) b 64 = Memory.bytes d.mem b 64 := by
    apply Memory.bytes_congr
    intro j h3 h4
    exact Memory.byte_setBytes_out _ _ _ h (by rw [lineBytes_length]; omega)
  simp only [e, Prod.mk.injEq, true_and]
  cases p <;> simp [hn]
  by_cases hc : ra ∈ d.tier.poisoned <;> simp [hc, hn]

/-! ### Draining -/

theorem Device.drainOne_nil (d : Device) (c sub : Nat) (h : KMap.get (d.chan c).wq [] sub = []) : d.drainOne c sub = d := by
  unfold Device.drainOne; simp only [h]

theorem Device.drainOne_chans (d : Device) (c sub : Nat) (e : WqEntry) (rest : List WqEntry)
    (h : KMap.get (d.chan c).wq [] sub = e :: rest) :
    (d.drainOne c sub).chans = (d.setChan c { d.chan c with wq := KMap.put (d.chan c).wq sub rest }).chans := by
  unfold Device.drainOne; simp only [h]; split <;> rfl

theorem Device.drainOne_mem (d : Device) (c sub : Nat) (e : WqEntry) (rest : List WqEntry)
    (h : KMap.get (d.chan c).wq [] sub = e :: rest) : (d.drainOne c sub).mem = (d.storeBurst e.ra e.data e.poison).mem := by
  unfold Device.drainOne; simp only [h]
  split <;> simp only [Device.setInteg_mem, Device.setReg_mem, Device.countSat_mem, Device.storeBurst_mem, Device.setChan_mem]

theorem Device.drainOne_tier (d : Device) (c sub : Nat) (e : WqEntry) (rest : List WqEntry)
    (h : KMap.get (d.chan c).wq [] sub = e :: rest) : (d.drainOne c sub).tier = (d.storeBurst e.ra e.data e.poison).tier := by
  unfold Device.drainOne; simp only [h]; split <;> rfl

/-- Replacing one queue of a channel: what every queue is then. -/
theorem Device.queue_setChan (d : Device) (c sub : Nat) (q : List WqEntry) (c' s' : Nat) :
    KMap.get ((d.setChan c { d.chan c with wq := KMap.put (d.chan c).wq sub q }).chan c').wq [] s' =
      if c' = c ∧ s' = sub then q else KMap.get (d.chan c').wq [] s' := by
  simp only [Device.chan, Device.setChan, KMap.get_put]
  by_cases h : c' = c <;> by_cases h2 : s' = sub <;> simp [h, h2, KMap.get_put]

/-- A drain takes the oldest entry off its queue and leaves every other queue. -/
theorem Device.queue_drainOne (d : Device) (c sub c' s' : Nat) :
    KMap.get ((d.drainOne c sub).chan c').wq [] s' =
      if c' = c ∧ s' = sub then (KMap.get (d.chan c).wq [] sub).tail else KMap.get (d.chan c').wq [] s' := by
  cases h : KMap.get (d.chan c).wq [] sub with
  | nil =>
    rw [Device.drainOne_nil d c sub h]
    split
    · next hh => rw [hh.1, hh.2, h]; rfl
    · rfl
  | cons e rest =>
    have hq := Device.queue_setChan d c sub rest c' s'
    rw [List.tail_cons, ← hq]
    unfold Device.chan; rw [Device.drainOne_chans d c sub e rest h]; rfl

/-- A drain puts the oldest entry's data where its address is. -/
theorem Device.memLine_drainOne (d : Device) (c sub : Nat) (e : WqEntry) (rest : List WqEntry)
    (h : KMap.get (d.chan c).wq [] sub = e :: rest) (b : Nat) :
    (d.drainOne c sub).memLine b = (d.storeBurst e.ra e.data e.poison).memLine b :=
  Device.memLine_congr (Device.drainOne_mem d c sub e rest h) (Device.drainOne_tier d c sub e rest h) b

/-- Waking a channel changes no queue, no memory and no poison mark. -/
theorem Device.wakeChan_keeps (d : Device) (c : Nat) :
    (∀ c' s', KMap.get ((d.wakeChan c).chan c').wq [] s' = KMap.get (d.chan c').wq [] s') ∧
    (d.wakeChan c).mem = d.mem ∧ ∀ b, (d.wakeChan c).memLine b = d.memLine b := by
  unfold Device.wakeChan; dsimp only
  split
  · refine ⟨fun c' s' => ?_, rfl, fun _ => rfl⟩
    simp only [Device.chan, Device.setChan, KMap.get_put]
    split
    · next h => rw [h]
    · rfl
  · exact ⟨fun _ _ => rfl, rfl, fun _ => rfl⟩

end Sys2Proof.Machine
end

