-- ==== Sys2Proof/Laws/Ops.lean ====
section
/-! SUPPORT. What the shared operations over registers, page headers, flags and messages do: one lemma for each. -/

namespace Sys2Proof.Machine

/-! ### Registers -/

/-- Fields of a page that exist have different keys. -/
theorem Field.key_inj {f g : Field} {i j : Nat} (hi : i < 1024) (hj : j < 1024) (hf : f.off < 4096) (hg : g.off < 4096)
    (fl : f.lo < 32) (gl : g.lo < 32) :
    f.key i = g.key j ↔ f.page.code = g.page.code ∧ i = j ∧ f.off = g.off ∧ f.lo = g.lo := by
  unfold Field.key Page.pid
  constructor
  · intro h; omega
  · rintro ⟨h1, h2, h3, h4⟩; rw [h1, h2, h3, h4]

/-- A field that is stored reads back, cut to its width. -/
@[simp] theorem Device.reg_setReg_self (d : Device) (f : Field) (v i : Nat) : (d.setReg f v i).reg f i = v % 2 ^ f.width := by
  simp [Device.reg, Device.setReg]

/-- Every other field reads as before. -/
theorem Device.reg_setReg_ne (d : Device) {f g : Field} (v : Nat) {i j : Nat} (h : g.key j ≠ f.key i) :
    (d.setReg f v i).reg g j = d.reg g j := by
  simp [Device.reg, Device.setReg, KMap.get_put_ne _ _ _ h]

/-- Every field of another page type reads as before, at any offset that a page has. -/
theorem Device.reg_setReg_page (d : Device) {f g : Field} (v : Nat) {i j : Nat} (h : f.page.code ≠ g.page.code)
    (hi : i < 1024) (hj : j < 1024) (hf : f.off < 4096) (hg : g.off < 4096) (fl : f.lo < 32) (gl : g.lo < 32) :
    (d.setReg f v i).reg g j = d.reg g j :=
  d.reg_setReg_ne v (fun e => h ((Field.key_inj hj hi hg hf gl fl).1 e).1.symm)

/-- The state of a host link reads back. -/
@[simp] theorem Device.hostLink_setHostLink_self (d : Device) (p l : Nat) (h : HostLink) :
    (d.setHostLink p l h).hostLink p l = h := by
  simp [Device.hostLink, Device.setHostLink]

/-- A second store of a host link's state replaces the first. -/
@[simp] theorem Device.setHostLink_setHostLink (d : Device) (p l : Nat) (h k : HostLink) :
    (d.setHostLink p l h).setHostLink p l k = d.setHostLink p l k := by
  simp [Device.setHostLink]

/-- Other host links are left alone. -/
theorem Device.hostLink_setHostLink_ne (d : Device) {p l q m : Nat} (h : HostLink) (hk : 2 * q + m ≠ 2 * p + l) :
    (d.setHostLink p l h).hostLink q m = d.hostLink q m := by
  simp [Device.hostLink, Device.setHostLink, KMap.get_put_ne _ _ _ hk]

/-- Registers do not depend on page headers. -/
@[simp] theorem Device.reg_setPage (d : Device) (p : Page) (i : Nat) (h : PageHdr) (f : Field) (j : Nat) :
    (d.setPage p i h).reg f j = d.reg f j := rfl

/-- Registers do not depend on messages. -/
@[simp] theorem Device.reg_send (d : Device) (m : Out) (f : Field) (j : Nat) : (d.send m).reg f j = d.reg f j := rfl

/-- Registers do not depend on the collector. -/
@[simp] theorem reg_settle (d : Device) (f : Field) (j : Nat) : (settle d).reg f j = d.reg f j := rfl

/-- A counter that wraps holds the sum, cut to its width. -/
@[simp] theorem Device.reg_countWrap_self (d : Device) (f : Field) (i n : Nat) :
    (d.countWrap f i n).reg f i = (d.reg f i + n) % 2 ^ f.width := by
  simp [Device.countWrap]

/-- A counter that stops holds the sum or its largest value. -/
theorem Device.reg_countSat_self (d : Device) (f : Field) (i n : Nat) :
    (d.countSat f i n).reg f i = min (d.reg f i + n) (2 ^ f.width - 1) := by
  have h : 0 < 2 ^ f.width := Nat.pow_pos (by omega)
  rw [Device.countSat, Device.reg_setReg_self, Nat.mod_eq_of_lt]
  omega

/-- A store that the reserved encodings allow. -/
theorem Device.store_ok (d : Device) (f : Field) (v i : Nat) (h : f.minV ≤ v % 2 ^ f.width ∧ v % 2 ^ f.width ≤ f.maxV) :
    d.store f v i = d.setReg f v i := by
  simp [Device.store, h, Device.setReg]

/-- A store of a reserved encoding keeps the field. -/
theorem Device.store_reserved (d : Device) (f : Field) (v i : Nat) (h : ¬(f.minV ≤ v % 2 ^ f.width ∧ v % 2 ^ f.width ≤ f.maxV)) :
    d.store f v i = d := by
  simp only [Device.store]
  rw [if_neg h]

/-! ### Page headers -/

/-- A page's header reads back. -/
@[simp] theorem Device.page_setPage_self (d : Device) (p : Page) (i : Nat) (h : PageHdr) : (d.setPage p i h).page p i = h := by
  simp [Device.page, Device.setPage]

/-- Every other page's header is left alone. -/
theorem Device.page_setPage_ne (d : Device) {p q : Page} {i j : Nat} (h : PageHdr) (hk : q.pid j ≠ p.pid i) :
    (d.setPage p i h).page q j = d.page q j := by
  simp [Device.page, Device.setPage, KMap.get_put_ne _ _ _ hk]

/-- Page headers do not depend on registers. -/
@[simp] theorem Device.page_setReg (d : Device) (f : Field) (v i : Nat) (p : Page) (j : Nat) :
    (d.setReg f v i).page p j = d.page p j := rfl

/-- Page headers do not depend on messages. -/
@[simp] theorem Device.page_send (d : Device) (m : Out) (p : Page) (j : Nat) : (d.send m).page p j = d.page p j := rfl

/-- Page headers do not depend on the collector. -/
@[simp] theorem page_settle (d : Device) (p : Page) (j : Nat) : (settle d).page p j = d.page p j := rfl

/-! ### Flags -/

/-- An enabled event sets its flag and advances the sequence. -/
theorem Device.setEvtBit_on (d : Device) (p : Page) (i bit : Nat) (h : (d.page p i).evtEn.getLsbD bit = true) :
    d.setEvtBit p i bit = d.setPage p i { d.page p i with evt := (d.page p i).evt ||| BitVec.ofNat 16 (2 ^ bit),
                                                          evtSeq := (d.page p i).evtSeq + 1 } := by
  simp [Device.setEvtBit, h]

/-- A disabled event sets nothing. -/
theorem Device.setEvtBit_off (d : Device) (p : Page) (i bit : Nat) (h : (d.page p i).evtEn.getLsbD bit = false) :
    d.setEvtBit p i bit = d := by
  simp [Device.setEvtBit, h]

/-- An event of another page than the ledger's sets its flag and does nothing else. -/
theorem Device.evt_eq (d : Device) (f : Flag) (i : Nat) (h : f.page ≠ .ledger) : d.evt f i = d.setEvtBit f.page i f.bit := by
  simp [Device.evt, h]

/-- Setting an event flag changes the page headers only. -/
theorem Device.setEvtBit_regs (d : Device) (p : Page) (i bit : Nat) : (d.setEvtBit p i bit).regs = d.regs := by
  simp only [Device.setEvtBit]; split <;> rfl

/-- ERR_CLR and EVT_CLR with another sequence number than the current one have no effect (R645). -/
theorem Device.clear_stale (d : Device) (p : Page) (i seq : Nat) (ag : Agent) :
    (seq ≠ (d.page p i).errSeq.toNat → d.clearErr p i seq ag = d) ∧ (seq ≠ (d.page p i).evtSeq.toNat → d.clearEvt p i seq = d) := by
  constructor <;> intro h <;> simp [Device.clearErr, Device.clearEvt, h]

/-! ### The queue -/

/-- A command that is an operation on the device leaves the queue alone and lets the collector follow. -/
theorem State.run_eq (f : Device → Device) (s : State) : s.run f = .next { s with dev := settle (f s.dev) } := rfl

end Sys2Proof.Machine
end

