-- ==== Sys2Proof/Laws/Report.lean ====
section
/-! SUPPORT. What reporting can do: raising a flag, writing a record and sending an interrupt change registers, page headers, the
collector, the ledger, the host links' logs and pending interrupts, and what is sent; nothing else of the device. -/

namespace Sys2Proof.Machine

/-- The second device differs from the first in what reporting touches, and in nothing else. -/
def Device.Reports (d e : Device) : Prop :=
  ∃ regs hdr fc ldg host out, e = { d with regs := regs, hdr := hdr, fc := fc, ldg := ldg, host := host, out := out }

theorem Device.Reports.refl (d : Device) : d.Reports d := ⟨_, _, _, _, _, _, rfl⟩

theorem Device.Reports.trans {a b c : Device} (h : a.Reports b) (k : b.Reports c) : a.Reports c := by
  obtain ⟨_, _, _, _, _, _, rfl⟩ := h
  obtain ⟨_, _, _, _, _, _, rfl⟩ := k
  exact ⟨_, _, _, _, _, _, rfl⟩

/-- A fold of operations that each only report only reports. -/
theorem Device.Reports.foldl {α : Type} (f : Device → α → Device) (h : ∀ (d : Device) (a : α), d.Reports (f d a)) (l : List α) (d : Device) :
    d.Reports (l.foldl f d) := by
  induction l generalizing d with
  | nil => exact .refl d
  | cons a l ih => exact (h d a).trans (ih _)

theorem Device.ldg_reports (d : Device) (x : Ledger) : d.Reports { d with ldg := x } := ⟨_, _, _, _, _, _, rfl⟩
theorem Device.fc_reports (d : Device) (x : Collector) : d.Reports { d with fc := x } := ⟨_, _, _, _, _, _, rfl⟩
theorem Device.host_reports (d : Device) (x : HostPorts) : d.Reports { d with host := x } := ⟨_, _, _, _, _, _, rfl⟩
theorem Device.setReg_reports (d : Device) (f : Field) (v i : Nat) : d.Reports (d.setReg f v i) := ⟨_, _, _, _, _, _, rfl⟩
theorem Device.countSat_reports (d : Device) (f : Field) (i n : Nat) : d.Reports (d.countSat f i n) := d.setReg_reports _ _ _
theorem Device.setPage_reports (d : Device) (p : Page) (i : Nat) (h : PageHdr) : d.Reports (d.setPage p i h) := ⟨_, _, _, _, _, _, rfl⟩
theorem Device.send_reports (d : Device) (m : Out) : d.Reports (d.send m) := ⟨_, _, _, _, _, _, rfl⟩
theorem Device.setHostLink_reports (d : Device) (p l : Nat) (h : HostLink) : d.Reports (d.setHostLink p l h) := ⟨_, _, _, _, _, _, rfl⟩
theorem Device.setErrBit_reports (d : Device) (p : Page) (i bit : Nat) : d.Reports (d.setErrBit p i bit) := d.setPage_reports _ _ _

theorem Device.setEvtBit_reports (d : Device) (p : Page) (i bit : Nat) : d.Reports (d.setEvtBit p i bit) := by
  unfold Device.setEvtBit; dsimp only; split
  · exact d.setPage_reports _ _ _
  · exact .refl d

theorem Device.msix_reports (d : Device) (p l v : Nat) : d.Reports (d.msix p l v) := by
  unfold Device.msix; dsimp only; split
  · exact d.send_reports _
  · split
    · exact .refl d
    · exact d.setHostLink_reports _ _ _

theorem Device.eventIrq_reports (d : Device) : d.Reports d.eventIrq := by
  unfold Device.eventIrq
  refine Device.Reports.foldl _ ?_ _ d
  intro e k; dsimp only; split
  · exact e.msix_reports _ _ _
  · exact .refl e

theorem Device.evt_reports (d : Device) (f : Flag) (i : Nat) : d.Reports (d.evt f i) := by
  unfold Device.evt; dsimp only; split
  · exact (d.setEvtBit_reports _ _ _).trans (Device.eventIrq_reports _)
  · exact d.setEvtBit_reports _ _ _

theorem Device.eventLog_reports (d : Device) (r : Record) : d.Reports (d.eventLog r) := by
  unfold Device.eventLog; split
  · exact .refl d
  · refine Device.Reports.foldl _ ?_ _ d
    intro e i; dsimp only; split
    · exact .refl e
    · split
      · exact (e.host_reports _).trans (Device.msix_reports _ _ _ _)
      · exact e.host_reports _

theorem Device.putRecord_reports (d : Device) (r : Record) (held : Bool) : d.Reports (d.putRecord r held) := by
  unfold Device.putRecord; dsimp only
  by_cases h1 : (!d.ledgerOpen) = true
  · rw [if_pos h1]; exact (d.ldg_reports _).trans (Device.eventLog_reports _ _)
  · rw [if_neg h1]
    by_cases h2 : d.hasEntry held = true
    · rw [if_pos h2]; exact (d.ldg_reports _).trans (Device.eventLog_reports _ _)
    · rw [if_neg h2]
      have g : d.Reports { (d.countSat LEDGER.RECORDS_LOST.COUNT).setEvtBit .ledger 0 4 with
          ldg := { ((d.countSat LEDGER.RECORDS_LOST.COUNT).setEvtBit .ledger 0 4).ldg with lostMark := true } } :=
        ((d.countSat_reports _ _ _).trans (Device.setEvtBit_reports _ _ _ _)).trans (Device.ldg_reports _ _)
      split
      · exact g.trans (Device.eventIrq_reports _)
      · exact g

theorem Device.closeCoalesce_reports (d : Device) (e : Coalesce) : d.Reports (d.closeCoalesce e) := by
  unfold Device.closeCoalesce; split
  · exact .refl d
  · exact d.putRecord_reports _ _

/-- Writing a record only reports. -/
theorem Device.record_reports (d : Device) (r : Record) (ident : List Nat) : d.Reports (d.record r ident) := by
  unfold Device.record
  by_cases h : r.alone = true
  · rw [if_pos h]; exact d.putRecord_reports _ _
  · rw [if_neg h]; dsimp only; split
    · exact d.ldg_reports _
    · have p := d.putRecord_reports r false
      generalize d.putRecord r false = e at p ⊢
      split
      · exact p
      · split
        · exact p.trans (e.ldg_reports _)
        · split
          · exact p
          · exact p.trans ((e.ldg_reports _).trans (Device.closeCoalesce_reports _ _))

theorem Device.raiseFatal_reports (d : Device) (s : Nat) (escalated : Bool) : d.Reports (d.raiseFatal s escalated) :=
  ⟨_, _, _, _, _, _, rfl⟩

theorem Device.newFault_reports (d : Device) (p : Page) (i bit : Nat) (c : FaultClass) (a b : Bool) : d.Reports (d.newFault p i bit c a b) := by
  unfold Device.newFault
  cases c with
  | none => exact .refl d
  | ce =>
    dsimp only; split
    · exact (d.countSat_reports _ _ _).trans (Device.eventIrq_reports _)
    · exact d.countSat_reports _ _ _
  | uc =>
    have g : ∀ x : Device, d.Reports x → d.Reports (if !b && x.flagReg FC.FC_CTL.IRQ_UC then x.eventIrq else x) := by
      intro x hx; split
      · exact hx.trans x.eventIrq_reports
      · exact hx
    dsimp only
    refine g _ ?_
    split
    · exact d.countSat_reports _ _ _
    · exact (d.countSat_reports _ _ _).trans (Device.fc_reports _ _)
  | ft => exact d.raiseFatal_reports _ _

/-- Raising an error flag only reports. -/
theorem Device.raise_reports (d : Device) (f : Flag) (i : Nat) (info ident : List Nat) (noted : Bool) :
    d.Reports (d.raise f i info ident noted) := by
  unfold Device.raise; dsimp only
  have a := d.setErrBit_reports f.page i f.bit
  generalize d.setErrBit f.page i f.bit = e at a ⊢
  have n : ∀ x : Device, d.Reports x → d.Reports (if (d.page f.page i).err.getLsbD f.bit && flagClass d.fc.testCls f.page f.bit == .ft then x else
      x.newFault f.page i f.bit (flagClass d.fc.testCls f.page f.bit) (d.sourceHas (sourceByte f.page i f.bit) .ce)
        (d.sourceHas (sourceByte f.page i f.bit) .uc)) := by
    intro x hx; split
    · exact hx
    · exact hx.trans (x.newFault_reports _ _ _ _ _ _)
  refine n _ ?_
  split
  · split
    · exact a.trans (Device.record_reports _ _ _)
    · exact a
  · exact a.trans (Device.record_reports _ _ _)

/-- What only reports keeps memory, the channels, the tiers, the directory, the twin's state, the links and the power state. -/
theorem Device.Reports.keeps {d e : Device} (h : d.Reports e) :
    e.mem = d.mem ∧ e.chans = d.chans ∧ e.tier = d.tier ∧ e.coh = d.coh ∧ e.twin = d.twin ∧ e.links = d.links ∧ e.power = d.power ∧
      e.sec = d.sec ∧ e.regions = d.regions ∧ e.batch = d.batch ∧ e.fail = d.fail ∧ e.eng = d.eng ∧ e.site = d.site ∧ e.qos = d.qos ∧
      e.integ = d.integ ∧ e.time = d.time := by
  obtain ⟨_, _, _, _, _, _, rfl⟩ := h
  exact ⟨rfl, rfl, rfl, rfl, rfl, rfl, rfl, rfl, rfl, rfl, rfl, rfl, rfl, rfl, rfl, rfl⟩

end Sys2Proof.Machine
end

