-- ==== Sys2Proof/Machine/SiteWire.lean ====
section
/-! DEFINITION. The request flits of site links as bytes, and the command that each spells (Site Transactions, R252 to R254). -/

namespace Sys2Proof.Machine

/-- The request header of R252. -/
structure ReqHeader where
  opcode : Nat
  batch : Bool
  sync : Bool
  size : Nat
  tag : Nat
  deadline : Nat
  addr : Nat
  arg : List Nat
  operands : List Nat
  reserved : Bool
  deriving DecidableEq, Repr

/-- The header in the payload of a request flit; `reserved` tells that a reserved bit of it is 1. -/
def reqHeader (b : List Nat) : ReqHeader :=
  let at_ (i n : Nat) : Nat := ofLe ((b.drop i).take n)
  let flags := b.getD 1 0
  { opcode := b.getD 0 0, batch := bitOf flags 0, sync := bitOf flags 1, size := bitsOf flags 2 2, tag := at_ 2 2, deadline := at_ 4 2,
    addr := at_ 6 6, arg := (b.drop 12).take 4, operands := (b.drop 16).take 48,
    reserved := bitsOf flags 4 4 != 0 || bitsOf (at_ 6 6) 46 2 != 0 }

/-- The pool of an opcode's request flit (R253). -/
def opcodePool (opcode : Nat) : Nat := if 1 ≤ opcode ∧ opcode ≤ 4 then cmdPool else svcPool

/-- The number of data flits that follow a request flit (R253). -/
def dataFlits (h : ReqHeader) : Nat :=
  if h.opcode = 0x02 then sizeLines h.size else if h.opcode = 0x03 ∨ h.opcode = 0x10 then 1 else 0

/-- The bytes of a header field are all 0. -/
def allZero (l : List Nat) : Bool := l.all (fun v => v == 0)

/-- Is the request malformed by its encoding: a reserved bit or an unused field that is not 0, a BATCH flag where R163 has none, a reserved opcode,
ATOP, SIZE or SUBOP, a COUNT outside 1 to 6 (R254)? ADDR, ARG and OPERANDS count as reserved where an opcode does not use them; SYNC and SIZE, which are
fields of every header, do not (DEDUCED, log entry 127). -/
def ReqHeader.malformed (h : ReqHeader) : Bool :=
  let a (i : Nat) : Nat := h.arg.getD i 0
  let plain := !h.batch
  let noAddr := h.addr == 0
  h.reserved || match h.opcode with
    | 0x01 => !(allZero h.arg && allZero h.operands) || h.size == 3
    | 0x02 => !(allZero h.arg && allZero h.operands)
    | 0x03 => h.size != 0 || !(allZero h.arg && allZero (h.operands.drop 8))
    | 0x04 => !plain || decide (3 ≤ a 0 % 4) || decide (8 ≤ a 0) || a 1 != 0 || !(allZero (h.operands.drop 16))
    | 0x10 => !plain || !noAddr || !(allZero h.operands)
    | 0x11 => !plain || !noAddr || a 0 == 0 || decide (6 < a 0) || !(allZero (h.arg.drop 1)) || !(allZero (h.operands.drop (8 * a 0)))
    | 0x20 | 0x21 => !plain || !noAddr || decide (64 ≤ a 0) || !(allZero (h.arg.drop 1)) || !(allZero h.operands)
    | 0x22 => !plain || !noAddr || decide (64 ≤ a 0) || !(allZero h.operands)
    | 0x30 | 0x31 | 0x32 | 0x41 => !plain || !noAddr || !(allZero h.arg) || !(allZero h.operands)
    | 0x40 => !plain || !noAddr || decide (2 ≤ a 0) || (a 0 == 0 && a 1 != 0) || decide (8 ≤ a 1) || !(allZero (h.arg.drop 2)) || !(allZero h.operands)
    | _ => true

/-- The command that an accepted request spells: the payload of its request flit, the pool of that flit and the lines of its data flits. A malformed
one, and one in the WDATA pool, is RESERVED_OPCODE; a WRITE with SIZE 3 stays a WRITE, whose protocol error is R254's. -/
def siteCommand (site : Nat) (payload : List Nat) (pl : Nat) (data : List Line) : Instr :=
  let h := reqHeader payload
  let a (i : Nat) : Nat := h.arg.getD i 0
  let o (i n : Nat) : Nat := ofLe ((h.operands.drop i).take n)
  let first := data.getD 0 0
  if pl = 1 ∨ h.malformed then .reservedOpcode site h.opcode h.tag h.deadline h.sync h.size pl data.length
  else match h.opcode with
    | 0x01 => .read site h.tag h.deadline h.sync h.batch h.size h.addr
    | 0x02 => .write site h.tag h.deadline h.batch h.size h.addr data
    | 0x03 => .writeMasked site h.tag h.deadline h.batch h.addr (BitVec.ofNat 64 (o 0 8)) first
    | 0x04 => .atomic site h.tag h.deadline h.addr (if a 0 % 4 = 0 then .fetchAdd else if a 0 % 4 = 1 then .swap else .cas) (bitOf (a 0) 2)
        (o 0 8) (o 8 8) (ofLe ((h.arg.drop 2).take 2))
    | 0x10 => .failOr site h.tag h.deadline (ofLe h.arg) first
    | 0x11 => .failRec site h.tag h.deadline ((List.range (a 0)).map (fun i => o (8 * i) 8))
    | 0x20 => .mcastJoin site h.tag h.deadline (a 0)
    | 0x21 => .mcastLeave site h.tag h.deadline (a 0)
    | 0x22 => .mcastPull site h.tag h.deadline h.sync (a 0) (ofLe (h.arg.drop 1))
    | 0x30 => .batchOpen site h.tag h.deadline
    | 0x31 => .batchCommit site h.tag h.deadline
    | 0x32 => .batchAbort site h.tag h.deadline
    | 0x40 => if a 0 = 0 then .statusSite site h.tag h.deadline else .statusBatchOutcome site h.tag h.deadline (bitsOf (a 1) 2 1) (a 1 % 4)
    | _ => .time site h.tag h.deadline

end Sys2Proof.Machine
end

