-- ==== Sys2Proof/Tests/Slice0.lean ====
section
/-! SUPPORT. The model's own tests: which operands are ill formed, the worked examples of the spec, and for every obligation
a state and operands that meet the hypotheses of each of its clauses. -/

namespace Sys2Proof.Tests

open Sys2Proof Sys2Proof.Machine

-- The proofs below are large: elaborated one at a time they stay within the memory that a check has.
set_option Elab.async false

/-- The device right after reset. -/
abbrev D0 : Device := State.reset.dev

/-- Reset, with link 1/0 up for memory, its host ID valid, a window enabled and a decoder committed. -/
def hostD : Device :=
  ((D0.setHostLink 1 0 { state := .upMem, contained := false, biEnable := true, decoders := [(0, { hpa := 0, size := 2 ^ 28 })] }).setReg
    (HOST.HOST_ID.VALID 0) 1 1).setReg (HOST.WIN_CFG.WIN_EN 0) 1 1

/-- A read of line 7 by a host. -/
def req (host : Nat) : Request :=
  { origin := .host 1 0 9, who := host, win := 0, arr := 0, cls := 0, deadline := 0, qla := 448, op := .hostRead .a }

/-- Reset, with line 7 owned by host 3. -/
def dirD : Device := { D0 with coh := { dir := [(7, { state := 2, ptrs := [{ host := 3, win := 0, arr := 0 }] })] } }

/-- A host link up, with a snoop to its host in flight. -/
def snoopD : Device :=
  { hostD with coh := { dir := [(7, { state := 2, ptrs := [{ host := 0, win := 0, arr := 0 }] })]
                        snoops := [{ sid := 5, line := 7, kind := .inv, target := { host := 0, win := 0, arr := 0 }, broadcast := false, use := .request, start := 0 }] } }

/-- Reset, with a region of both populations at 0 to 16 GiB that every host and site may write. -/
def rgn0 : Region := { base := 0, size := 16, pop := 1, hostAcc := 2, siteAcc := 2, hostMask := 2 ^ 32 - 1, sgMask := 2 ^ 64 - 1 }

/-- Window 3 is bound to link 1/0, over a region, and its slot is in a state. -/
def winD (st : SlotState) : Device :=
  { (((D0.setReg BWIN.WIN_BIND.VALID 1 3).setReg BWIN.WIN_BIND.PORT 1 3).setSlot 1027 { state := st, bseq := 9, home := some 0 }) with
    regions := { table := [(2, rgn0)] } }

/-- Site 9 is up. -/
def siteD : Device := D0.setLink (.site 9) { state := .active }

/-- Site 9 is up and its DUT is bound to a geometry of one block of 16 by 16 cells. -/
def failD : Device :=
  { ((siteD.setReg SITE.SITE_DUT.VALID 1 9).setReg SITE.SITE_DUT.DUT 4 9) with
    fail := { geos := [(1, { dies := 1, banks := 1, blocks := 1, rows := 16, srows := 0, cols := 16, scols := 0 })]
              duts := [(4, { geo := 1, bmap := 0, tally := 2 ^ 20 })] } }

/-- Site 9 is up and group 5 streams 8 blocks of a region. -/
def mcD : Device :=
  { ((siteD.setReg MCAST.GRP_CTL.ENABLE 1 5).setReg MCAST.GRP_LEN.BLOCKS 8 5) with regions := { table := [(2, rgn0)] } }

/-- The only device of its quartet, in service. -/
def soloD : Device := { D0 with twin := { svc := .solo } }

/-- A region is staged, and the device is in service alone. -/
def rgnD : Device :=
  { ((soloD.setReg REGION.RGN_BASE.BASE_GIB 64).setReg REGION.RGN_SIZE.SIZE_GIB 1).setReg REGION.RGN_ATTR.CAP 1 |>.setReg REGION.RGN_ATTR.POP 1 with
    regions := { table := [(2, rgn0)] } }

/-- Reset, with page 0 of a type locked. -/
def lockD (p : Page) : Device := D0.setPage p 0 { lock := true }

/-- A descriptor of the Assayer: DUT 4, one block. -/
def jobDesc : List Nat := [1, 0, 0, 0, 4, 0, 0, 0, 0, 0, 0, 0, 1, 0, 0, 0] ++ List.replicate 20 0 ++ [1] ++ List.replicate 27 0

/-- A descriptor of the DMA engine: 64 bytes from address 0 to address 4096. -/
def dmaDesc (op : Nat) : List Nat :=
  [op, 0, 0, 0, 0, 0, 0, 0] ++ List.replicate 8 0 ++ [0, 16, 0, 0, 0, 0, 0, 0] ++ [64, 0, 0, 0] ++ List.replicate 4 0

/-- A descriptor waits at the front of DMA queue 3. -/
def dmaD (op : Nat) : Device := { D0 with eng := { dma := [{ id := 1, ring := 103, desc := dmaDesc op }] } }

/-- Loaf 0 is PLAIN, in a region of both populations, on the only device in service. -/
def plainD : Device := { soloD with mem := [(2 ^ 30 * 3964, 66)], regions := { table := [(2, rgn0)] } }

/-- The Baker runs. -/
def runD : Device := D0.setReg BAKER.BAKER_CTL.RUN 1

/-- Channel 0 is active. -/
def chD : Device := { D0 with chans := [(0, { state := .active })] }

/-- Channel 0 is active and a burst waits in its write queue. -/
def wqD : Device := { D0 with chans := [(0, { state := .active, wq := [(0, [{ ra := 0, data := 5, poison := false }])] })] }

/-- The twin's messages arrive by P4. -/
def peerD : Device := { D0.setLink (.peer 4) { state := .active } with twin := { peerOk := [4] } }

/-- A ledger record. -/
def rec1 : Record := { seq := 1, time := 0, type := 0x10, source := 0, cls := 1 }

/-- A record waits for the ledger's writer. -/
def recD : Device := { D0 with ldg := { queue := [rec1], nextSeq := 2 } }

/-- A peer link in a state. -/
def linkD (p : Nat) (x : Link) : Device := D0.setLink (.peer p) x

/-- Droop domain 14 in a state. -/
def domD (x : Domain) : Device := { D0 with power := { domains := [(14, x)] } }

/-- The hot-swap controller in a state. -/
def hswD (st : HswState) : Device := { D0 with power := { hsw := { state := st } } }

/-- A rekey in a phase. -/
def rekeyD (n : Nat) : Device := D0.setReg MINT.REKEY_STAT.PHASE n

/-- Eight token failures: the lockout. -/
def lockoutD : Device := (D0.setReg FWSEC.DBG_STAT.LOCKOUT 1).setReg FWSEC.DBG_STAT.FAILS 8

/-- The write queue of channel 0 holds one burst, its own. -/
theorem wqD_placed : WritesPlaced wqD := by
  intro c s
  by_cases hc : c = 0
  · subst hc
    by_cases hs : s = 0
    · subst hs; exact ⟨by decide, by decide⟩
    · have h : KMap.get (wqD.chan 0).wq [] s = [] := by
        have : ¬ 0 = s := fun h => hs h.symm
        simp [Device.chan, wqD, KMap.get, KMap.find, this]
      rw [h]; exact ⟨by simp, .nil⟩
  · have h : KMap.get (wqD.chan c).wq [] s = [] := by
      have : ¬ 0 = c := fun h => hc h.symm
      simp [Device.chan, wqD, KMap.get, KMap.find, this]
    rw [h]; exact ⟨by simp, .nil⟩

/-- The Baker runs and the loaf of page 0 is PLAIN. -/
def bakeD : Device := plainD.setReg BAKER.BAKER_CTL.RUN 1

/-- Its lines as a migration gathers them. -/
def bakeX : Device × List QuarterSrc × Nat :=
  bakeD.gather 0 (bakeD.reg BAKER.BAKER_CTL.CLASS) (bakeD.loaf 0) false (fun _ => none) (fun _ => false)

/-- A triple is made of its parts. -/
theorem triple_eta {α β γ : Type} (x : α × β × γ) : x = (x.1, x.2.1, x.2.2) := rfl

/-- The device after reset some time later. -/
def laterS : State := { dev := { D0 with time := 5 }, pending := [] }

/-- Its collector agrees with the flags: none is set. -/
theorem laterS_collected : Collected laterS.dev where
  summary := by intro s _; simp [HasFault, laterS, D0, State.reset]
  uc := by intro s _; simp [HasFault, laterS, D0, State.reset]
  timers := by intro s _; simp [HasFault, laterS, D0, State.reset, KMap.find]
  events := by intro s _; simp [HasPage, laterS, D0, State.reset]
  accesses := by intro s _; simp [HasPage, laterS, D0, State.reset]
  line := by decide

/-- A site read that waits to be sent on again, by a peer link or at this device. -/
def fwd (link : Option Nat) : Forward := { fid := 1, req := { req 4 with op := .siteRead 1 false }, link := link }

/-- Raw debug access is open and the data register has just been loaded for a read of bytes 64 on. -/
def rawE : Device :=
  { D0.setReg FWSEC.DBG_STAT.SCOPE 3 with
    sec := { (D0.setReg FWSEC.DBG_STAT.SCOPE 3).sec with tapInstr := 3, tapAddr := 66, tapData := 0 } }

/-- A read whose data are not poisoned. -/
theorem quad_eta {α β γ : Type} (x : α × β × Bool × γ) (h : x.2.2.1 = false) : x = (x.1, x.2.1, false, x.2.2.2) := by
  rw [← h]

/-- An answer to the fetch of an Assayer descriptor has come back on queue 15, from a ring in a state. -/
def asD (kind status : Nat) (x : RingQueue) : Device :=
  { D0 with eng := { rings := [(15, x)], inbox := [{ kind := kind, q := 15, qla := 0, status := status, bytes := List.replicate 64 0 }] } }

/-- A job of DUT 4, with answers to the writes of its result. -/
def jobD (j : Job) (l : List Nat) : Device :=
  { (failD.setReg ASSAY.Q_CTL.BIND_VALID 1 14).setReg ASSAY.Q_CTL.PORT 1 14 with
    eng := { jobs := [j], inbox := l.map (fun st => { kind := 5, q := 1, qla := 0, status := st }) }
    host := (hostD.setHostLink 1 0 { hostD.hostLink 1 0 with bme := true }).host, regions := { table := [(2, rgn0)] }, twin := { svc := .solo } }

/-- The DUT of the jobs. -/
def jobT : DutCtx := (failD.dut 4).getD { id := 0, b := { geo := 0, bmap := 0, tally := 0 }, g := { dies := 0, banks := 0, blocks := 0, rows := 0, srows := 0, cols := 0, scols := 0 } }

/-- A running job whose counters have been read and are 0: its result goes to local or (RLOC) host memory, and it has `n` blocks. -/
def jobRead (rloc n : Nat) : Job :=
  { id := 1, queue := 14, running := true
    desc := [1, 0, 0, 0, 4, 0, 2 * rloc, 0, 0, 0, 0, 0, n, 0, 0, 0] ++ List.replicate 48 0
    lines := (failD.tallyLines jobT (geoDims jobT.g).aLost ++ failD.tallyLines jobT (geoDims jobT.g).aBlk).map (fun a => (a, (0, false))) }

/-- An answer to the fetch of a DMA descriptor has come back on queue 3, from a ring in a state. -/
def dqD (op status : Nat) (x : RingQueue) : Device :=
  { D0 with eng := { rings := [(103, { x with fetching := true })], inbox := [{ kind := 2, q := 103, qla := 0, status := status, bytes := dmaDesc op }] } }

/-- What is left to say of a descriptor that the engine works on. -/
structure RunPart where
  phase : Nat := 0
  stop : Option Nat := none
  got : List Nat := []

/-- A copy of 64 bytes at the front of DMA queue 3. -/
def runE (x : RunPart) : Device :=
  { D0 with eng := { dma := [{ id := 1, ring := 103, desc := dmaDesc 1, phase := x.phase, stop := x.stop, got := x.got }] } }

/-- A descriptor of the DMA engine that copies 64 bytes from address 0 of a space. -/
def dmaDesc' (space : Nat) : List Nat := [1, 0, 0, 0, space, 0, 0, 0] ++ (dmaDesc 1).drop 8

/-- A frame of loaf 0 in a device in service alone; its loaf is PLAIN, or ZERO in a region of the Elastic capacity. -/
def frameD (plain : Bool) (cap tier : Nat) (f : Frame) : Device :=
  { plainD with
    mem := if plain then plainD.mem else []
    regions := { table := [(2, { rgn0 with cap := cap, tier := tier })] }
    tier := { frames := [(0, f)] } }

/-- Its record is read. -/
def frameE (d : Device) : Device := (d.cancelMigration 0).touchRecord 0 0

/-- Its lines as a writeback gathers them. -/
def frameX (d : Device) (bake : Bool) (f : Frame) : Device × List QuarterSrc × Nat :=
  (frameE d).gather 0 0 ((frameE d).loaf 0) bake (d.handOf 0 f []) (fun i => (KMap.find ([] : KMap T0Line) i).isSome)

/-- The lines of a loaf with record `r` as a migration gathers them. -/
def migX (d : Device) (k : MigKind) (r : LoafRec) : Device × List QuarterSrc × Nat :=
  d.gather 0 (d.reg BAKER.BAKER_CTL.CLASS) r (k == .relocate) (fun i => KMap.find d.tier.fetched (64 * 0 + i)) (fun _ => false)

/-- The record of a BAKED loaf of four zero quarters. -/
def zeroRec : LoafRec := { state := 3, nslice := 1, bin := 0, qend := [1, 2, 3], slices := [0] }

/-- A loaf migrates. -/
def migD (k : MigKind) (w : Option (Nat × Nat)) : Device :=
  { runD with tier := { migrations := [{ lpn := 5, kind := k, oldRec := 0, newRec := 0, newBytes := [], waiting := w }] } }

/-- A line of a PLAIN loaf that is always baked was fetched from the twin as poison. -/
def poisD : Device :=
  let d := frameD true 1 2 { snap := some [] }
  { d with tier := { d.tier with fetched := [(0, { data := 0, poison := true })] } }

/-- A pair is made of its parts. -/
theorem pair_eta {α β : Type} (x : α × β) (y : β) (h : x.2 = y) : x = (x.1, y) := by rw [← h]

/-- A read waits in the queue of channel 2, within no deadline. -/
def schE : ChanEntry := { cls := 0, deadline := 0, deq := 64, order := 0, ra := 0, write := false }

/-- The queue of channel 2 with it. -/
def schD : Device := { D0 with qos := { queues := [(2, [schE])] } }

/-- The costs of the waiting requests of each class. -/
def schCost (d : Device) (k : Nat) : Option Nat :=
  (nextOf (((d.chanQueue 2).filter (fun e => !((d.chanQueue 2).any (fun x => x.ra == e.ra && decide (x.order < e.order))))).filter (fun e => e.cls == k))).map (fun e => e.deq)

/-- A request waits at its home for room in the queue of channel 0, which holds `n` entries. -/
def heldD (n : Nat) : Device :=
  { plainD with
    coh := { queue := [{ req 4 with held := true, op := .siteRead 1 false, deadline := 1, qla := 0 }] }
    chans := (List.range 16).map (fun k => (k, { state := .active }))
    qos := { queues := [(0, List.replicate n schE)] } }

/-- How the rotation over the held requests goes. -/
def heldX : Device × Option Nat := (heldD 0).drr (16 + 0) (fun k => (((heldD 0).heldFor 0).find? (fun x => x.1.cls == k)).map (fun x => x.2))

/-- A pair of twins in service; all channels are ACTIVE but those given. -/
def pairD (l : KMap Channel) : Device :=
  { D0 with twin := { svc := .paired, twinSvc := .paired }
            chans := l ++ (List.range 16).map (fun k => (k, { state := .active })) }

/-- The scrubber runs, at loaf 1. -/
def scrD : Device := { (D0.setReg INTEG.SCRUB_CTL.EN 1).setReg INTEG.SCRUB_POS.LPN 1 with twin := { svc := .solo } }

/-- Line 7 is in Tier 0, clean or dirty; the twin may serve. -/
def t0D (dirty : Bool) (twin : Nat) : Device :=
  { D0 with tier := { frames := [(0, { lines := [(7, { data := 5, dirty := dirty })] })] }
            twin := { twinSvc := if twin = 1 then .solo else .start } }

/-- A batch holds line 7. -/
def shD (b : HomeBatch) : Device := { D0 with batch := { home := [{ b with shadow := [(7, { data := 5 })] }] } }

/-- A row that holds a loaf is retired, and the twin serves. -/
def retD : Device :=
  { plainD with
    twin := { svc := .solo, twinSvc := .solo }
    tier := { used := [0, 1, 2, 3, 4, 5, 6, 7] }
    integ := { retire := some { op := 1, key := (plainD.dramLoc 0).rowKey, result := 0 } } }

/-- The source of a resync, at loaf 0. -/
def srcD : Device := { plainD with twin := { svc := .solo, resyncRun := true, resyncSource := true } }

/-- The steward serves this device over P4. -/
def stewD : Device := { peerD with twin := { peerD.twin with stewarded := true } }

/-- A UC fault of the tiers has been raised; its timer has run for a time. -/
def escD (t : Nat) : Device :=
  let d := D0.raise TIER.flag.QUARTER_CORRUPT 0 [] []
  { d with power := { d.power with aon := t } }

/-! ### Every clause of every obligation has a case -/

theorem witness_EmptyQueueStepIsOneTick :
    (∃ (d : Device), (d.power.mainOn = true) ∧ (d.power.hubReset = false) ∧ (d.power.auxOk = true) ∧ ((d.power.aon + 1) % 1000 ≠ 0) ∧ (d.power.plan.armed = none) ∧ ((∀ p, (d.link (.peer p)).txFrame = []))) ∧
    (∃ (s : State), (s.pending = []) ∧ (s.dev.power.mainOn = false) ∧ (s.dev.power.auxOk = false)) :=
  ⟨⟨D0, by decide +kernel, by decide +kernel, by decide +kernel, by decide +kernel, by decide +kernel, fun _ => rfl⟩,
   ⟨{ State.reset with dev := { D0 with power := { mainOn := false, auxOk := false } } }, by decide +kernel, by decide +kernel, by decide +kernel⟩⟩

theorem witness_QueueDrainsInOrder :
    (∃ (s : State) (a : List Instr) (b : List Instr), (s.pending = a ++ b)) :=
  ⟨{ State.reset with pending := [.lockAll .firmware, .queryCmdStart] }, [.lockAll .firmware], [.queryCmdStart], by decide +kernel⟩

theorem witness_CollectorAgreesAfterEveryStep :
    (∃ (s : State) (t : State), (Collected s.dev) ∧ (step s = .next t)) ∧
    (∃ (c : Instr) (s : State) (t : State), (exec c s = .next t)) :=
  ⟨⟨laterS, _, laterS_collected, rfl⟩,
   ⟨.queryCmdStart, State.reset, _, rfl⟩⟩

theorem witness_HostMemoryRequestsGoToTheirHome :
    (∃ (d : Device) (p : Nat) (l : Nat) (dpa : Nat) (m : MetaValue), (p < 4) ∧ (l < 2) ∧ ((d.hostLink p l).state = .upMem) ∧ (d.hostValid p l = true) ∧ (d.hostDup p l = false) ∧ (d.windowOn p l (d.windowDecode p l dpa).1 = true) ∧ ((d.hostLink p l).decodes dpa = true) ∧ ((d.hostLink p l).biEnable = true) ∧ (m ≠ .a)) :=
  ⟨hostD, 1, 0, 64, .i, by decide +kernel, by decide +kernel, by decide +kernel, by decide +kernel, by decide +kernel, by decide +kernel, by decide +kernel, by decide +kernel, by decide +kernel⟩

theorem witness_DirectoryGrantsOfReads :
    (∃ (d : Device) (r : Request) (line : Nat), (d.ownsLine r line = true)) ∧
    (∃ (d : Device) (r : Request) (line : Nat), (d.ownsLine r line = false) ∧ (d.coh.noGrant.contains r.arr = true)) ∧
    (∃ (d : Device) (r : Request) (line : Nat), (d.ownsLine r line = false) ∧ (d.coh.noGrant.contains r.arr = false) ∧ ((KMap.find d.coh.dir line).isSome = true)) :=
  ⟨⟨dirD, req 3, 7, by decide +kernel⟩,
   ⟨{ dirD with coh := { dirD.coh with noGrant := [0] } }, req 4, 7, by decide +kernel, by decide +kernel⟩,
   ⟨dirD, req 4, 7, by decide +kernel, by decide +kernel, by decide +kernel⟩⟩

theorem witness_MailboxReportsOnALink :
    (∃ (d : Device) (p : Nat) (l : Nat), ((d.hostLink p l).up = true) ∧ (d.fwAlive = true)) :=
  ⟨hostD, 1, 0, by decide +kernel, by decide +kernel⟩

theorem witness_EventLogsAndFirmwareOfTheMailbox :
    (∃ (d : Device) (p : Nat) (l : Nat) (k : Nat) (seqs : List Nat) (a : List Record) (b : List Record), ((d.hostLink p l).up = true) ∧ (d.fwAlive = true) ∧ (k < 4) ∧ ((d.evLog p l k).recs = a ++ b) ∧ (a.map Record.seq = seqs)) ∧
    (∃ (d : Device) (p : Nat) (l : Nat) (slot : Nat) (off : Nat) (data : List Nat), ((d.hostLink p l).up = true) ∧ (d.fwAlive = true) ∧ (d.mgmtLink p l = true) ∧ (slot = 1 ∨ slot = 2) ∧ (slot - 1 ≠ d.runSlot) ∧ (off + data.length ≤ 0x2000000)) ∧
    (∃ (d : Device) (p : Nat) (l : Nat) (slot : Nat) (off : Nat) (data : List Nat), ((d.hostLink p l).up = true) ∧ (d.fwAlive = true) ∧ (d.mgmtLink p l = true) ∧ (slot = 1 ∨ slot = 2) ∧ (slot - 1 = d.runSlot) ∧ (off + data.length ≤ 0x2000000)) ∧
    (∃ (d : Device) (p : Nat) (l : Nat) (slot : Nat), ((d.hostLink p l).up = true) ∧ (d.fwAlive = true) ∧ (d.mgmtLink p l = true) ∧ (1 ≤ slot) ∧ (slot ≤ 2)) :=
  ⟨⟨hostD.setEvLog 1 0 3 { recs := [rec1, rec1] }, 1, 0, 3, [1], [rec1], [rec1], by decide +kernel, by decide +kernel, by decide +kernel, by decide +kernel, by decide +kernel⟩,
   ⟨hostD, 1, 0, 2, 0x2000000 - 3, [1, 2, 3], by decide +kernel, by decide +kernel, by decide +kernel, by decide +kernel, by decide +kernel, by decide +kernel⟩,
   ⟨{ hostD with sec := { run := some { slot := 1 } } }, 1, 0, 2, 0, [1, 2, 3], by decide +kernel, by decide +kernel, by decide +kernel, by decide +kernel, by decide +kernel, by decide +kernel⟩,
   ⟨hostD, 1, 0, 1, by decide +kernel, by decide +kernel, by decide +kernel, by decide +kernel, by decide +kernel⟩⟩

theorem witness_DoeAndSpdmResponder :
    (∃ (d : Device) (p : Nat) (l : Nat), ((d.hostLink p l).up = true) ∧ (d.fwAlive = true)) ∧
    (∃ (d : Device) (c : Nat), (d.connOk c = true) ∧ ((d.conn c).version = 0)) ∧
    (∃ (d : Device) (c : Nat) (i : Nat), (d.connOk c = true) ∧ ((d.conn c).version ≠ 0) ∧ (1 ≤ i) ∧ (i ≤ 8)) ∧
    (∃ (d : Device) (c : Nat) (i : Nat), (d.connOk c = true) ∧ ((d.conn c).version ≠ 0) ∧ (d.mintOk = true) ∧ ((d.conn c).freeSession = some i)) ∧
    (∃ (d : Device) (c : Nat) (i : Nat), (d.connOk c = true) ∧ ((d.conn c).version ≠ 0) ∧ ((d.conn c).open_ i = true)) ∧
    (∃ (d : Device) (c : Nat) (t : List Nat), (d.connOk c = true) ∧ ((d.conn c).held = some t)) ∧
    (∃ (d : Device) (c : Nat), (d.connOk c = true) ∧ ((d.conn c).held = none)) :=
  ⟨⟨hostD, 1, 0, by decide +kernel, by decide +kernel⟩,
   ⟨hostD, 8, by decide +kernel, by decide +kernel⟩,
   ⟨hostD.setConn 8 { version := 0x12 }, 8, 8, by decide +kernel, by decide +kernel, by decide +kernel, by decide +kernel⟩,
   ⟨hostD.setConn 8 { version := 0x12 }, 8, _, by decide +kernel, by decide +kernel, by decide +kernel, rfl⟩,
   ⟨hostD.setConn 2 { version := 0x13, sessions := [1] }, 2, 1, by decide +kernel, by decide +kernel, by decide +kernel⟩,
   ⟨hostD.setConn 2 { held := some [1] }, 2, _, by decide +kernel, rfl⟩,
   ⟨hostD, 9, by decide +kernel, by decide +kernel⟩⟩

theorem witness_HostFunctionControls :
    (∃ (d : Device) (p : Nat) (l : Nat) (mrrs : Nat) (cto : Nat), ((d.hostLink p l).up = true) ∧ (mrrs ∈ [128, 256, 512, 1024, 2048, 4096]) ∧ (cto ∈ [0, 1, 2, 5, 6, 9, 10, 13, 14])) ∧
    (∃ (d : Device) (p : Nat) (l : Nat) (n : Nat) (size : Nat) (skip : Nat) (iw : Nat) (bi : Bool), ((d.hostLink p l).up = true) ∧ ((d.hostLink p l).mayCommit n size skip iw bi = true)) ∧
    (∃ (d : Device) (p : Nat) (l : Nat) (n : Nat) (size : Nat) (skip : Nat) (iw : Nat) (bi : Bool), ((d.hostLink p l).up = true) ∧ ((d.hostLink p l).mayCommit n size skip iw bi = false) ∧ ((d.hostLink p l).decErr.contains n = false)) ∧
    (∃ (d : Device) (p : Nat) (l : Nat) (t : OutTag) (tag : Nat), ((d.hostLink p l).tags.find? (fun x => x.tag + (if x.gen then 2 ^ 13 else 0) == tag) = some t)) ∧
    (∃ (d : Device) (p : Nat) (l : Nat) (tag : Nat), ((d.hostLink p l).tags.find? (fun x => x.tag + (if x.gen then 2 ^ 13 else 0) == tag) = none)) ∧
    (∃ (d : Device) (p : Nat) (l : Nat) (t : OutTag) (tag : Nat), ((d.hostLink p l).tags.find? (fun x => x.tag == tag && decide (x.sent + KMap.get cplTimes 40000000 (d.hostLink p l).cto ≤ d.time)) = some t)) ∧
    (∃ (t : OutTag), (t.old = true)) ∧
    (∃ (d : Device) (t : OutTag), (t.old = false) ∧ (t.kind ≠ 8 ∨ d.eng.dma.any (fun x => x.id == t.q) = true)) :=
  ⟨⟨hostD, 1, 0, 4096, 14, by decide +kernel, by decide +kernel, by decide +kernel⟩,
   ⟨hostD, 1, 0, 15, 2 ^ 28, 2 ^ 44, 0, true, by decide +kernel, by decide +kernel⟩,
   ⟨hostD, 1, 0, 16, 2 ^ 28, 0, 0, true, by decide +kernel, by decide +kernel, by decide +kernel⟩,
   ⟨D0.setHostLink 1 0 { tags := [{ tag := 5, addr := 0, len := 64, kind := 1, q := 0, off := 0 }] }, 1, 0, _, 5, rfl⟩,
   ⟨D0, 1, 0, 5, by decide +kernel⟩,
   ⟨{ D0.setHostLink 1 0 { tags := [{ tag := 5, addr := 0, len := 64, kind := 1, q := 0, off := 0 }] } with time := 50000000 }, 1, 0, _, 5, rfl⟩,
   ⟨{ tag := 5, addr := 0, len := 64, kind := 1, q := 0, off := 0, old := true }, by decide +kernel⟩,
   ⟨{ D0 with eng := { dma := [{ id := 3, ring := 103, desc := dmaDesc 1 }] } }, { tag := 5, addr := 0, len := 64, kind := 8, q := 3, off := 0 }, by decide +kernel, by decide +kernel⟩⟩

theorem witness_HostResetsAndLoss :
    (∃ (d : Device) (p : Nat) (l : Nat), ((d.hostLink p l).up = true) ∧ ((d.hostLink p l).flr = false)) ∧
    (∃ (d : Device) (p : Nat) (l : Nat), ((d.hostLink p l).flr = true) ∧ ((d.hostLink p l).flrAt + 90000000 ≤ d.time)) ∧
    (∃ (d : Device) (p : Nat) (l : Nat), ((d.hostLink p l).flr = true) ∧ (d.time < (d.hostLink p l).flrAt + 90000000)) ∧
    (∃ (d : Device) (p : Nat) (l : Nat), ((d.hostLink p l).up = true) ∧ ((d.hostLink p l).bme = true)) ∧
    (∃ (d : Device) (p : Nat) (l : Nat), ((d.hostLink p l).up = true) ∧ ((d.hostLink p l).resetting = false) ∧ (d.hostValid p l = true)) ∧
    (∃ (d : Device) (p : Nat) (l : Nat), ((d.hostLink p l).up = true) ∧ ((d.hostLink p l).resetting = false) ∧ (d.hostValid p l = false)) ∧
    (∃ (d : Device) (p : Nat) (l : Nat) (e : Device), (d.linkPresent p l = true) ∧ ((d.hostLink p l).contained = false) ∧ (d.host.perst.contains p = false) ∧ (e = d.setHostLink p l (d.hostLink p l))) ∧
    (∃ (d : Device) (p : Nat) (l : Nat) (e : Device), (d.linkPresent p l = true) ∧ ((d.hostLink p l).contained = false) ∧ (d.host.perst.contains p = false) ∧ (e = d.setHostLink p l { d.hostLink p l with held := true })) ∧
    (∃ (d : Device) (p : Nat) (l : Nat) (e : Device), (d.linkPresent p l = true) ∧ ((d.hostLink p l).contained = false) ∧ (d.host.perst.contains p = false) ∧ ((d.hostLink p l).held = true) ∧ (e = d.setHostLink p l { d.hostLink p l with held := false })) ∧
    (∃ (d : Device) (p : Nat), (p < 4) ∧ (d.host.perst.contains p = false)) ∧
    (∃ (d : Device) (p : Nat), (d.host.perst.contains p = true)) ∧
    (∃ (d : Device) (p : Nat) (l : Nat), ((d.hostLink p l).state = .training) ∧ (d.linkPresent p l = true)) ∧
    (∃ (d : Device) (p : Nat) (l : Nat), (d.linkPresent p l = true) ∧ ((d.hostLink p l).contained = false) ∧ ((d.hostLink p l).up = true)) ∧
    (∃ (d : Device) (p : Nat) (l : Nat) (k : Nat), (d.linkPresent p l = true) ∧ ((d.hostLink p l).contained = false) ∧ (1 ≤ k) ∧ (k ≤ 7)) ∧
    (∃ (d : Device) (p : Nat) (l : Nat) (ag : Agent), ((d.hostLink p l).contained = true) ∧ (d.linkPresent p l = true) ∧ (d.mayRelease ag p l = true) ∧ ((d.hostLink p l).sweepPend = true)) ∧
    (∃ (d : Device) (p : Nat) (l : Nat) (ag : Agent), ((d.hostLink p l).contained = true) ∧ (d.linkPresent p l = true) ∧ (d.mayRelease ag p l = true) ∧ ((d.hostLink p l).sweepPend = false)) :=
  ⟨⟨hostD, 1, 0, by decide +kernel, by decide +kernel⟩,
   ⟨{ D0.setHostLink 1 0 { flr := true } with time := 90000000 }, 1, 0, by decide +kernel, by decide +kernel⟩,
   ⟨{ D0.setHostLink 1 0 { flr := true } with time := 89999999 }, 1, 0, by decide +kernel, by decide +kernel⟩,
   ⟨D0.setHostLink 1 0 { state := .upIo, bme := true }, 1, 0, by decide +kernel, by decide +kernel⟩,
   ⟨hostD, 1, 0, by decide +kernel, by decide +kernel, by decide +kernel⟩,
   ⟨D0.setHostLink 1 0 { state := .upIo }, 1, 0, by decide +kernel, by decide +kernel, by decide +kernel⟩,
   ⟨hostD, 1, 0, _, by decide +kernel, by decide +kernel, by decide +kernel, rfl⟩,
   ⟨hostD, 1, 0, _, by decide +kernel, by decide +kernel, by decide +kernel, rfl⟩,
   ⟨D0.setHostLink 1 0 { state := .down, contained := false, held := true }, 1, 0, _, by decide +kernel, by decide +kernel, by decide +kernel, by decide +kernel, rfl⟩,
   ⟨D0, 3, by decide +kernel, by decide +kernel⟩,
   ⟨{ D0 with host := { perst := [2] } }, 2, by decide +kernel⟩,
   ⟨D0.setHostLink 1 0 { state := .training, contained := false }, 1, 0, by decide +kernel, by decide +kernel⟩,
   ⟨hostD, 1, 0, by decide +kernel, by decide +kernel, by decide +kernel⟩,
   ⟨hostD, 1, 0, 7, by decide +kernel, by decide +kernel, by decide +kernel, by decide +kernel⟩,
   ⟨D0.setHostLink 1 0 { sweepPend := true }, 1, 0, .endpoint, by decide +kernel, by decide +kernel, by decide +kernel, by decide +kernel⟩,
   ⟨D0, 1, 0, .firmware, by decide +kernel, by decide +kernel, by decide +kernel, by decide +kernel⟩⟩

theorem witness_SnoopAnswersAndTimeouts :
    (∃ (d : Device) (sid : Nat) (p : Nat) (l : Nat) (own : Option Snoop) (ans : SnoopAnswer) (s : Snoop), ((d.hostLink p l).state = .upMem) ∧ (ans ≠ .blk) ∧ (own = some s) ∧ (d.coh.snoops.find? (fun s => s.sid == sid) = some s)) ∧
    (∃ (d : Device) (p : Nat) (l : Nat) (own : Option Snoop) (rem : Option RemoteSnoop) (ans : SnoopAnswer) (x : RemoteSnoop), ((d.hostLink p l).state = .upMem) ∧ (ans ≠ .blk) ∧ (own = none) ∧ (rem = some x) ∧ (x.part = false ∨ x.expired = true)) ∧
    (∃ (d : Device) (p : Nat) (l : Nat) (own : Option Snoop) (rem : Option RemoteSnoop) (late : Option LateSnoop) (ans : SnoopAnswer) (x : LateSnoop), ((d.hostLink p l).state = .upMem) ∧ (ans ≠ .blk) ∧ (own = none) ∧ (rem = none) ∧ (late = some x)) ∧
    (∃ (d : Device) (p : Nat) (l : Nat) (own : Option Snoop) (rem : Option RemoteSnoop) (late : Option LateSnoop) (ans : SnoopAnswer), ((d.hostLink p l).state = .upMem) ∧ (ans ≠ .blk) ∧ (own = none) ∧ (rem = none) ∧ (late = none)) ∧
    (∃ (d : Device) (sid : Nat) (s : Snoop), (d.coh.snoops.find? (fun s => s.sid == sid && s.target.host != 33) = some s) ∧ (d.power.aon < s.start + 1000 * d.reg COH.BI_TIMEOUT.US)) ∧
    (∃ (d : Device) (sid : Nat) (s : Snoop), (d.coh.snoops.find? (fun s => s.sid == sid && s.target.host != 33) = some s) ∧ (s.start + 1000 * d.reg COH.BI_TIMEOUT.US ≤ d.power.aon)) ∧
    (∃ (d : Device) (sid : Nat), (d.coh.snoops.find? (fun s => s.sid == sid && s.target.host != 33) = none) ∧ (d.coh.remote.find? (fun s => s.sid == sid && s.part && !s.expired) = none)) ∧
    (∃ (line : Nat) (t : Ptr) (f : Device), (f.isStale t.host line = false) ∧ ((f.coh.stale.filter (fun x => homeSlice x.2.1 == homeSlice line)).length < 64)) :=
  ⟨⟨snoopD, 5, 1, 0, snoopD.coh.snoops.head?, .rspI, _, by decide +kernel, by decide +kernel, rfl, by decide +kernel⟩,
   ⟨{ hostD with coh := { remote := [{ sid := 5, home := 2, frm := 2, kind := .inv, host := 0, win := 0, qla := 448 }] } }, 1, 0, none, some { sid := 5, home := 2, frm := 2, kind := .inv, host := 0, win := 0, qla := 448 }, .rspI, _, by decide +kernel, by decide +kernel, by decide +kernel, rfl, by decide +kernel⟩,
   ⟨{ hostD with coh := { late := [⟨5, 0, 0, 0, 7⟩] } }, 1, 0, none, none, some ⟨5, 0, 0, 0, 7⟩, .rspI, _, by decide +kernel, by decide +kernel, by decide +kernel, by decide +kernel, rfl⟩,
   ⟨hostD, 1, 0, none, none, none, .rspI, by decide +kernel, by decide +kernel, by decide +kernel, by decide +kernel, by decide +kernel⟩,
   ⟨{ snoopD with power := { aon := 1000 * snoopD.reg COH.BI_TIMEOUT.US - 1 } }, 5, _, rfl, by decide +kernel⟩,
   ⟨{ snoopD with power := { aon := 1000 * snoopD.reg COH.BI_TIMEOUT.US } }, 5, _, rfl, by decide +kernel⟩,
   ⟨hostD, 5, by decide +kernel, by decide +kernel⟩,
   ⟨7, { host := 3, win := 0, arr := 0 }, dirD, by decide +kernel, by decide +kernel⟩⟩

theorem witness_DirectoryQueriesAndSweeps :
    (∃ (d : Device) (set : Nat), (d.setOvf set = false ∨ ((d.waysOf set).length = 16 ∧ (d.waysOf set).all (fun e => e.2.pin) = true))) ∧
    (∃ (d : Device) (set : Nat), (d.setOvf set = true) ∧ (¬((d.waysOf set).length = 16 ∧ (d.waysOf set).all (fun e => e.2.pin) = true))) ∧
    (∃ (d : Device), (d.coh.lossSweep = false)) ∧
    (∃ (d : Device), (d.coh.lossSweep = true)) ∧
    (∃ (d : Device) (arr : Nat), (d.coh.flushWait.contains arr = false)) ∧
    (∃ (d : Device) (arr : Nat), (d.coh.flushWait.contains arr = true)) :=
  ⟨⟨D0, 0, by decide +kernel⟩,
   ⟨{ D0 with coh := { log := [7] } }, dirSet 7, by decide +kernel, by decide +kernel⟩,
   ⟨D0, by decide +kernel⟩,
   ⟨{ D0 with coh := { lossSweep := true } }, by decide +kernel⟩,
   ⟨D0, 3, by decide +kernel⟩,
   ⟨{ D0 with coh := { flushWait := [3] } }, 3, by decide +kernel⟩⟩

theorem witness_BatchWindowsActOnTheirSlot :
    (∃ (d : Device) (n : Nat) (p : Nat) (l : Nat), (d.winBound n p l = false)) ∧
    (∃ (d : Device) (n : Nat) (p : Nat) (l : Nat) (off : Nat) (len : Nat), (d.winBound n p l = true) ∧ (apertureOk off len = false)) ∧
    (∃ (d : Device) (n : Nat) (p : Nat) (l : Nat) (off : Nat) (bytes : List (Nat × Bool)) (v : Line) (m : BitVec 64), (d.winBound n p l = true) ∧ (apertureOk off bytes.length = true) ∧ (v = lineOfBytes (List.replicate (off % 64) 0 ++ bytes.map Prod.fst)) ∧ (m = BitVec.ofNat 64 (((bytes.zip (List.range 64)).filter (fun e => e.1.2)).foldl (fun k e => k + 2 ^ (off % 64 + e.2)) 0)) ∧ (d.batchWriteHome (d.winReq n off 0 0 (.siteWriteMasked v m true)) = none)) ∧
    (∃ (d : Device) (n : Nat) (p : Nat) (l : Nat) (off : Nat) (bytes : List (Nat × Bool)), (d.winBound n p l = true) ∧ (apertureOk off bytes.length = false)) ∧
    (∃ (d : Device) (n : Nat) (p : Nat) (l : Nat) (off : Nat) (bytes : List (Nat × Bool)) (home : Nat) (v : Line) (m : BitVec 64) (e : Device), (d.winBound n p l = true) ∧ (apertureOk off bytes.length = true) ∧ (v = lineOfBytes (List.replicate (off % 64) 0 ++ bytes.map Prod.fst)) ∧ (m = BitVec.ofNat 64 (((bytes.zip (List.range 64)).filter (fun e => e.1.2)).foldl (fun k e => k + 2 ^ (off % 64 + e.2)) 0)) ∧ (d.batchWriteHome (d.winReq n off 0 0 (.siteWriteMasked v m true)) = some home) ∧ ((e.slot (1024 + n)).state = .opened)) ∧
    (∃ (d : Device) (n : Nat) (p : Nat) (l : Nat) (off : Nat) (bytes : List (Nat × Bool)) (home : Nat) (v : Line) (m : BitVec 64) (e : Device), (d.winBound n p l = true) ∧ (apertureOk off bytes.length = true) ∧ (v = lineOfBytes (List.replicate (off % 64) 0 ++ bytes.map Prod.fst)) ∧ (m = BitVec.ofNat 64 (((bytes.zip (List.range 64)).filter (fun e => e.1.2)).foldl (fun k e => k + 2 ^ (off % 64 + e.2)) 0)) ∧ (d.batchWriteHome (d.winReq n off 0 0 (.siteWriteMasked v m true)) = some home) ∧ ((e.slot (1024 + n)).state = .free)) ∧
    (∃ (d : Device) (n : Nat) (p : Nat) (l : Nat) (off : Nat) (bytes : List (Nat × Bool)) (home : Nat) (v : Line) (m : BitVec 64) (e : Device), (d.winBound n p l = true) ∧ (apertureOk off bytes.length = true) ∧ (v = lineOfBytes (List.replicate (off % 64) 0 ++ bytes.map Prod.fst)) ∧ (m = BitVec.ofNat 64 (((bytes.zip (List.range 64)).filter (fun e => e.1.2)).foldl (fun k e => k + 2 ^ (off % 64 + e.2)) 0)) ∧ (d.batchWriteHome (d.winReq n off 0 0 (.siteWriteMasked v m true)) = some home) ∧ ((e.slot (1024 + n)).state = .committing)) ∧
    (∃ (d : Device) (n : Nat) (p : Nat) (l : Nat) (off : Nat) (bytes : List (Nat × Bool)) (home : Nat) (v : Line) (m : BitVec 64) (e : Device), (d.winBound n p l = true) ∧ (apertureOk off bytes.length = true) ∧ (v = lineOfBytes (List.replicate (off % 64) 0 ++ bytes.map Prod.fst)) ∧ (m = BitVec.ofNat 64 (((bytes.zip (List.range 64)).filter (fun e => e.1.2)).foldl (fun k e => k + 2 ^ (off % 64 + e.2)) 0)) ∧ (d.batchWriteHome (d.winReq n off 0 0 (.siteWriteMasked v m true)) = some home) ∧ ((e.slot (1024 + n)).state = .aborted)) ∧
    (∃ (d : Device) (n : Nat) (p : Nat) (l : Nat) (off : Nat) (len : Nat), (d.winBound n p l = true) ∧ (apertureOk off len = true) ∧ ((d.slot (1024 + n)).state = .opened ∨ (d.slot (1024 + n)).state = .committing)) ∧
    (∃ (d : Device) (n : Nat) (p : Nat) (l : Nat) (off : Nat) (len : Nat), (d.winBound n p l = true) ∧ (apertureOk off len = true) ∧ ((d.slot (1024 + n)).state = .free ∨ (d.slot (1024 + n)).state = .aborted)) ∧
    (∃ (d : Device) (n : Nat) (p : Nat) (l : Nat) (h : Nat), (d.winBound n p l = true) ∧ ((d.slot (1024 + n)).state = .opened) ∧ ((d.slot (1024 + n)).home = some h)) ∧
    (∃ (d : Device) (n : Nat) (p : Nat) (l : Nat), (d.winBound n p l = true) ∧ ((d.slot (1024 + n)).state = .aborted)) ∧
    (∃ (d : Device) (n : Nat) (p : Nat) (l : Nat), (d.winBound n p l = true) ∧ ((d.slot (1024 + n)).state = .free ∨ (d.slot (1024 + n)).state = .committing)) ∧
    (∃ (d : Device) (n : Nat) (p : Nat) (l : Nat), (d.winBound n p l = true) ∧ ((d.slot (1024 + n)).state = .free)) ∧
    (∃ (d : Device) (n : Nat) (p : Nat) (l : Nat), (d.winBound n p l = true) ∧ ((d.slot (1024 + n)).state ≠ .free)) :=
  ⟨⟨D0, 3, 1, 0, by decide +kernel⟩,
   ⟨winD .free, 3, 1, 0, 1, 4, by decide +kernel, by decide +kernel⟩,
   ⟨{ winD .free with regions := {} }, 3, 1, 0, 64, [(1, true), (2, true), (3, true), (4, true)], _, _, by decide +kernel, by decide +kernel, rfl, rfl, by decide +kernel⟩,
   ⟨winD .free, 3, 1, 0, 2, [(1, true), (2, true), (3, true), (4, true)], by decide +kernel, by decide +kernel⟩,
   ⟨winD .opened, 3, 1, 0, 64, [(1, true), (2, true), (3, true), (4, true)], _, _, _, (winD .opened).chargeBytes 0 4, by decide +kernel, by decide +kernel, rfl, rfl, rfl, by decide +kernel⟩,
   ⟨winD .free, 3, 1, 0, 64, [(1, true), (2, true), (3, true), (4, true)], _, _, _, (winD .free).chargeBytes 0 4, by decide +kernel, by decide +kernel, rfl, rfl, rfl, by decide +kernel⟩,
   ⟨winD .committing, 3, 1, 0, 64, [(1, true), (2, true), (3, true), (4, true)], _, _, _, (winD .committing).chargeBytes 0 4, by decide +kernel, by decide +kernel, rfl, rfl, rfl, by decide +kernel⟩,
   ⟨winD .aborted, 3, 1, 0, 64, [(1, true), (2, true), (3, true), (4, true)], _, _, _, (winD .aborted).chargeBytes 0 4, by decide +kernel, by decide +kernel, rfl, rfl, rfl, by decide +kernel⟩,
   ⟨winD .committing, 3, 1, 0, 0, 64, by decide +kernel, by decide +kernel, by decide +kernel⟩,
   ⟨winD .aborted, 3, 1, 0, 4092, 4, by decide +kernel, by decide +kernel, by decide +kernel⟩,
   ⟨winD .opened, 3, 1, 0, _, by decide +kernel, by decide +kernel, rfl⟩,
   ⟨winD .aborted, 3, 1, 0, by decide +kernel, by decide +kernel⟩,
   ⟨winD .committing, 3, 1, 0, by decide +kernel, by decide +kernel⟩,
   ⟨winD .free, 3, 1, 0, by decide +kernel, by decide +kernel⟩,
   ⟨winD .aborted, 3, 1, 0, by decide +kernel, by decide +kernel⟩⟩

theorem witness_BatchTimeoutsAndOutcomes :
    (∃ (d : Device) (slot : Nat), ((d.slot slot).state = .opened)) ∧
    (∃ (d : Device) (slot : Nat), ((d.slot slot).state ≠ .opened)) ∧
    (∃ (d : Device) (slot : Nat) (arr : Nat), (d.batch.home.find? (fun b => b.slot == slot && b.arr == arr && b.committing) = none)) ∧
    (∃ (d : Device) (slot : Nat) (arr : Nat) (b : HomeBatch), (d.batch.home.find? (fun b => b.slot == slot && b.arr == arr && b.committing) = some b) ∧ (b.sent = true ∨ (∃ x ∈ b.shadow, b.owned.contains x.1 = false ∨ d.linePend x.1 = true))) ∧
    (∃ (d : Device) (slot : Nat) (arr : Nat) (b : HomeBatch), (d.batch.home.find? (fun b => b.slot == slot && b.arr == arr && b.committing) = some b) ∧ (b.sent = false) ∧ ((∀ x ∈ b.shadow, b.owned.contains x.1 = true ∧ d.linePend x.1 = false)) ∧ ((∀ x ∈ b.shadow, d.mirrored (lpnOf x.1) = false))) ∧
    (∃ (d : Device) (slot : Nat) (arr : Nat) (b : HomeBatch) (x : Nat × T0Line) (rest : List (Nat × T0Line)), (d.batch.home.find? (fun b => b.slot == slot && b.arr == arr && b.committing) = some b) ∧ (b.sent = false) ∧ ((∀ x ∈ b.shadow, b.owned.contains x.1 = true ∧ d.linePend x.1 = false)) ∧ (b.shadow = x :: rest) ∧ ((∃ y ∈ b.shadow, d.mirrored (lpnOf y.1) = true))) ∧
    (∃ (d : Device) (slot : Nat) (bseq : Nat) (home : Nat) (heir : Nat) (arr : Nat) (cond : Prop), ((cond ↔ (d.slot slot).state = .committing ∧ (d.slot slot).home = some home ∧ (d.slot slot).bseq = bseq ∧ arr = d.myArr ∧ home ≠ arr ∧ d.inSvc home = false ∧ heir = (home + 4) % 8 ∧ d.inSvc heir = true)) ∧ (cond)) ∧
    (∃ (d : Device) (slot : Nat) (bseq : Nat) (home : Nat) (heir : Nat) (arr : Nat) (cond : Prop), ((cond ↔ (d.slot slot).state = .committing ∧ (d.slot slot).home = some home ∧ (d.slot slot).bseq = bseq ∧ arr = d.myArr ∧ home ≠ arr ∧ d.inSvc home = false ∧ heir = (home + 4) % 8 ∧ d.inSvc heir = true)) ∧ (¬cond)) :=
  ⟨⟨winD .opened, 1027, by decide +kernel⟩,
   ⟨winD .committing, 1027, by decide +kernel⟩,
   ⟨D0, 7, 2, by decide +kernel⟩,
   ⟨{ D0 with batch := { home := [{ slot := 7, arr := 2, bseq := 1, committing := true, sent := true }] } }, 7, 2, _, rfl, .inl rfl⟩,
   ⟨{ D0 with batch := { home := [{ slot := 7, arr := 2, bseq := 1, committing := true, owned := [9], shadow := [(9, { data := 1 })] }] } }, 7, 2, _, rfl, by decide +kernel, by decide +kernel, by decide +kernel⟩,
   ⟨{ D0 with twin := { svc := .solo, twinSvc := .resync, resyncPos := 1, resyncRun := true, resyncSource := true }, batch := { home := [{ slot := 7, arr := 2, bseq := 1, committing := true, owned := [9], shadow := [(9, { data := 1 })] }] } }, 7, 2, _, _, _, rfl, by decide +kernel, by decide +kernel, rfl, by decide +kernel⟩,
   ⟨{ D0.setSlot 7 { state := .committing, home := some 1, bseq := 3 } with twin := { inService := [0, 5] } }, 7, 3, 1, 5, 0, _, .rfl, by decide +kernel⟩,
   ⟨{ D0.setSlot 7 { state := .committing, home := some 1, bseq := 3 } with twin := { inService := [0, 1] } }, 7, 3, 1, 5, 0, _, .rfl, by decide +kernel⟩⟩

theorem witness_SiteReadsWritesAndAtomics :
    (∃ (d : Device) (s : Nat) (size : Nat) (addr : Nat) (bad : Nat), (d.siteUp s = true) ∧ (size < 3) ∧ (addr % (64 * sizeLines size) = 0) ∧ (addr < 2 ^ 46) ∧ (bad % (64 * sizeLines size) ≠ 0)) ∧
    (∃ (d : Device) (s : Nat) (addr : Nat), (d.siteUp s = true) ∧ (addr % 64 ≠ 0)) ∧
    (∃ (d : Device) (s : Nat) (addr : Nat), (d.siteUp s = true) ∧ (addr % 64 = 0) ∧ (addr < 2 ^ 46)) ∧
    (∃ (d : Device) (s : Nat) (addr : Nat) (wide : Bool), (d.siteUp s = true) ∧ (addr % (if wide then 8 else 4) = 0) ∧ (addr < 2 ^ 46)) ∧
    (∃ (d : Device) (s : Nat) (addr : Nat) (wide : Bool), (d.siteUp s = true) ∧ (addr % (if wide then 8 else 4) ≠ 0)) :=
  ⟨⟨siteD, 9, 2, 1024, 64, by decide +kernel, by decide +kernel, by decide +kernel, by decide +kernel, by decide +kernel⟩,
   ⟨siteD, 9, 63, by decide +kernel, by decide +kernel⟩,
   ⟨siteD, 9, 2 ^ 46 - 64, by decide +kernel, by decide +kernel, by decide +kernel⟩,
   ⟨siteD, 9, 8, true, by decide +kernel, by decide +kernel, by decide +kernel⟩,
   ⟨siteD, 9, 4, true, by decide +kernel, by decide +kernel⟩⟩

theorem witness_SiteBatchAndStatusCommands :
    (∃ (d : Device) (s : Nat), (d.siteUp s = true) ∧ ((d.slot s).state = .free)) ∧
    (∃ (d : Device) (s : Nat), (d.siteUp s = true) ∧ ((d.slot s).state ≠ .free)) ∧
    (∃ (d : Device) (s : Nat), (d.siteUp s = true) ∧ ((d.slot s).state = .opened) ∧ ((d.slot s).home = none)) ∧
    (∃ (d : Device) (s : Nat) (h : Nat), (d.siteUp s = true) ∧ ((d.slot s).state = .opened) ∧ ((d.slot s).home = some h)) ∧
    (∃ (d : Device) (s : Nat), (d.siteUp s = true) ∧ ((d.slot s).state = .aborted)) ∧
    (∃ (d : Device) (s : Nat), (d.siteUp s = true) ∧ ((d.slot s).state = .free ∨ (d.slot s).state = .committing)) ∧
    (∃ (d : Device) (s : Nat) (q : Nat), (d.siteUp s = true) ∧ (q < 8)) ∧
    (∃ (d : Device) (s : Nat) (pl : Nat), (d.siteUp s = true) ∧ (pl ≠ 1)) :=
  ⟨⟨siteD, 9, by decide +kernel, by decide +kernel⟩,
   ⟨siteD.setSlot 9 { state := .aborted }, 9, by decide +kernel, by decide +kernel⟩,
   ⟨siteD.setSlot 9 { state := .opened }, 9, by decide +kernel, by decide +kernel, by decide +kernel⟩,
   ⟨siteD.setSlot 9 { state := .opened, home := some 2 }, 9, _, by decide +kernel, by decide +kernel, rfl⟩,
   ⟨siteD.setSlot 9 { state := .aborted }, 9, by decide +kernel, by decide +kernel⟩,
   ⟨siteD.setSlot 9 { state := .committing }, 9, by decide +kernel, by decide +kernel⟩,
   ⟨siteD, 9, 7, by decide +kernel, by decide +kernel⟩,
   ⟨siteD, 9, 3, by decide +kernel, by decide +kernel⟩⟩

theorem witness_SiteFailAndMulticastCommands :
    (∃ (d : Device) (s : Nat) (tag : Nat) (dl : Nat) (a : Device × Nat), (d.siteUp s = true) ∧ (a = d.siteAccept s 0x10 tag dl false 0 svcPool 1) ∧ (a.1.siteDut s = none)) ∧
    (∃ (d : Device) (s : Nat) (tag : Nat) (dl : Nat) (line : Nat) (a : Device × Nat) (t : DutCtx), (d.siteUp s = true) ∧ (a = d.siteAccept s 0x10 tag dl false 0 svcPool 1) ∧ (a.1.siteDut s = some t) ∧ ((geoDims t.g).nb * (geoDims t.g).bl ≤ line)) ∧
    (∃ (d : Device) (s : Nat) (tag : Nat) (dl : Nat) (line : Nat) (a : Device × Nat) (t : DutCtx), (d.siteUp s = true) ∧ (a = d.siteAccept s 0x10 tag dl false 0 svcPool 1) ∧ (a.1.siteDut s = some t) ∧ (line < (geoDims t.g).nb * (geoDims t.g).bl)) ∧
    (∃ (d : Device) (s : Nat) (tag : Nat) (dl : Nat) (recs : List Nat) (a : Device × Nat), (d.siteUp s = true) ∧ (a = d.siteAccept s 0x11 tag dl false 0 svcPool 0) ∧ (recs = [] ∨ 6 < recs.length ∨ recs.any (fun r => bitsOf r 56 8 != 0) = true)) ∧
    (∃ (d : Device) (s : Nat) (tag : Nat) (dl : Nat) (recs : List Nat) (a : Device × Nat), (d.siteUp s = true) ∧ (a = d.siteAccept s 0x11 tag dl false 0 svcPool 0) ∧ (recs ≠ []) ∧ (recs.length ≤ 6) ∧ (recs.any (fun r => bitsOf r 56 8 != 0) = false) ∧ (a.1.siteDut s = none)) ∧
    (∃ (d : Device) (s : Nat) (tag : Nat) (dl : Nat) (recs : List Nat) (a : Device × Nat) (t : DutCtx), (d.siteUp s = true) ∧ (a = d.siteAccept s 0x11 tag dl false 0 svcPool 0) ∧ (recs ≠ []) ∧ (recs.length ≤ 6) ∧ (recs.any (fun r => bitsOf r 56 8 != 0) = false) ∧ (a.1.siteDut s = some t)) ∧
    (∃ (d : Device) (s : Nat) (tag : Nat) (dl : Nat) (g : Nat) (a : Device × Nat), (d.siteUp s = true) ∧ (a = d.siteAccept s 0x20 tag dl false 0 svcPool 0) ∧ (g < 64) ∧ (a.1.pageOn .mcast = true) ∧ (a.1.groupOn g = true) ∧ (a.1.siteMayJoin s g = true)) ∧
    (∃ (d : Device) (s : Nat) (tag : Nat) (dl : Nat) (g : Nat) (a : Device × Nat), (d.siteUp s = true) ∧ (a = d.siteAccept s 0x20 tag dl false 0 svcPool 0) ∧ (g < 64) ∧ (a.1.pageOn .mcast = true) ∧ (a.1.groupOn g = true) ∧ (a.1.siteMayJoin s g = false)) ∧
    (∃ (d : Device) (s : Nat) (tag : Nat) (dl : Nat) (g : Nat) (a : Device × Nat), (d.siteUp s = true) ∧ (a = d.siteAccept s 0x20 tag dl false 0 svcPool 0) ∧ (g < 64) ∧ (a.1.groupOn g = false ∨ a.1.pageOn .mcast = false)) ∧
    (∃ (d : Device) (s : Nat) (tag : Nat) (dl : Nat) (a : Device × Nat), (d.siteUp s = true) ∧ (a = d.siteAccept s 0x21 tag dl false 0 svcPool 0)) ∧
    (∃ (d : Device) (s : Nat) (tag : Nat) (dl : Nat) (sync : Bool) (g : Nat) (b : Nat) (a : Device × Nat), (d.siteUp s = true) ∧ (a = d.siteAccept s 0x22 tag dl sync 16 svcPool 0) ∧ (a.1.pageOn .mcast = false ∨ a.1.groupOn g = false ∨ (a.1.group g).members.contains s = false ∨ a.1.groupLen g ≤ b)) ∧
    (∃ (d : Device) (s : Nat) (tag : Nat) (dl : Nat) (sync : Bool) (g : Nat) (b : Nat) (a : Device × Nat), (d.siteUp s = true) ∧ (a = d.siteAccept s 0x22 tag dl sync 16 svcPool 0) ∧ (a.1.pageOn .mcast = true) ∧ (a.1.groupOn g = true) ∧ ((a.1.group g).members.contains s = true) ∧ (b < a.1.groupLen g) ∧ (b < (a.1.group g).low)) ∧
    (∃ (d : Device) (s : Nat) (tag : Nat) (dl : Nat) (sync : Bool) (g : Nat) (b : Nat) (a : Device × Nat) (x : Group) (ls : List (Line × Bool)), (d.siteUp s = true) ∧ (a = d.siteAccept s 0x22 tag dl sync 16 svcPool 0) ∧ (a.1.pageOn .mcast = true) ∧ (a.1.groupOn g = true) ∧ ((a.1.group g).members.contains s = true) ∧ (b < a.1.groupLen g) ∧ ((a.1.group g).low ≤ b) ∧ (KMap.find x.blocks b = some ls)) ∧
    (∃ (d : Device) (s : Nat) (tag : Nat) (dl : Nat) (sync : Bool) (g : Nat) (b : Nat) (a : Device × Nat) (x : Group) (f : Fill), (d.siteUp s = true) ∧ (a = d.siteAccept s 0x22 tag dl sync 16 svcPool 0) ∧ (a.1.pageOn .mcast = true) ∧ (a.1.groupOn g = true) ∧ ((a.1.group g).members.contains s = true) ∧ (b < a.1.groupLen g) ∧ ((a.1.group g).low ≤ b) ∧ (KMap.find x.blocks b = none) ∧ (x.fills.find? (fun f => f.block == b && !f.dropped) = some f)) ∧
    (∃ (d : Device) (s : Nat) (tag : Nat) (dl : Nat) (sync : Bool) (g : Nat) (b : Nat) (a : Device × Nat) (x : Group), (d.siteUp s = true) ∧ (a = d.siteAccept s 0x22 tag dl sync 16 svcPool 0) ∧ (a.1.pageOn .mcast = true) ∧ (a.1.groupOn g = true) ∧ ((a.1.group g).members.contains s = true) ∧ (b < a.1.groupLen g) ∧ ((a.1.group g).low ≤ b) ∧ (KMap.find x.blocks b = none) ∧ (x.fills.find? (fun f => f.block == b && !f.dropped) = none)) :=
  ⟨⟨siteD, 9, 1, 0, _, by decide +kernel, rfl, by decide +kernel⟩,
   ⟨failD, 9, 1, 0, 2 ^ 20, _, _, by decide +kernel, rfl, rfl, by decide +kernel⟩,
   ⟨failD, 9, 1, 0, 0, _, _, by decide +kernel, rfl, rfl, by decide +kernel⟩,
   ⟨siteD, 9, 1, 0, [], _, by decide +kernel, rfl, by decide +kernel⟩,
   ⟨siteD, 9, 1, 0, [0], _, by decide +kernel, rfl, by decide +kernel, by decide +kernel, by decide +kernel, by decide +kernel⟩,
   ⟨failD, 9, 1, 0, [0, 1, 2, 3, 4, 5], _, _, by decide +kernel, rfl, by decide +kernel, by decide +kernel, by decide +kernel, rfl⟩,
   ⟨mcD, 9, 1, 0, 5, _, by decide +kernel, rfl, by decide +kernel, by decide +kernel, by decide +kernel, by decide +kernel⟩,
   ⟨{ mcD with regions := {} }, 9, 1, 0, 5, _, by decide +kernel, rfl, by decide +kernel, by decide +kernel, by decide +kernel, by decide +kernel⟩,
   ⟨mcD, 9, 1, 0, 63, _, by decide +kernel, rfl, by decide +kernel, by decide +kernel⟩,
   ⟨mcD, 9, 1, 0, _, by decide +kernel, rfl⟩,
   ⟨mcD, 9, 1, 0, false, 5, 8, _, by decide +kernel, rfl, by decide +kernel⟩,
   ⟨mcD.setGroup 5 { members := [9], low := 1 }, 9, 1, 0, false, 5, 0, _, by decide +kernel, rfl, by decide +kernel, by decide +kernel, by decide +kernel, by decide +kernel, by decide +kernel⟩,
   ⟨mcD.setGroup 5 { members := [9], blocks := [(2, [])] }, 9, 1, 0, false, 5, 2, _, { members := [9], blocks := [(2, [])] }, _, by decide +kernel, rfl, by decide +kernel, by decide +kernel, by decide +kernel, by decide +kernel, by decide +kernel, rfl⟩,
   ⟨mcD.setGroup 5 { members := [9], fills := [{ block := 7, demand := false }] }, 9, 1, 0, false, 5, 7, _, { members := [9], fills := [{ block := 7, demand := false }] }, _, by decide +kernel, rfl, by decide +kernel, by decide +kernel, by decide +kernel, by decide +kernel, by decide +kernel, by decide +kernel, rfl⟩,
   ⟨mcD.setGroup 5 { members := [9] }, 9, 1, 0, false, 5, 7, _, { members := [9] }, by decide +kernel, rfl, by decide +kernel, by decide +kernel, by decide +kernel, by decide +kernel, by decide +kernel, by decide +kernel, by decide +kernel⟩⟩

theorem witness_MulticastGroupsAndFills :
    (∃ (d : Device) (g : Nat), ((d.page .mcast).lock = false) ∧ (d.hw.gradeH = false) ∧ (d.groupOn g = false) ∧ ((d.group g).disabling = false) ∧ (d.groupSource g = true)) ∧
    (∃ (d : Device) (g : Nat), ((d.page .mcast).lock = false) ∧ (d.hw.gradeH = false) ∧ (d.groupOn g = false) ∧ ((d.group g).disabling = false) ∧ (d.groupSource g = false)) ∧
    (∃ (d : Device) (g : Nat), ((d.page .mcast).lock = false) ∧ (d.hw.gradeH = false) ∧ (d.groupOn g = false) ∧ ((d.group g).disabling = true)) ∧
    (∃ (d : Device) (g : Nat), ((d.page .mcast).lock = false) ∧ (d.hw.gradeH = false) ∧ (d.groupOn g = true) ∧ ((d.group g).fills = [])) ∧
    (∃ (d : Device) (g : Nat) (k : Nat) (v : Nat), ((d.page .mcast).lock = false) ∧ (d.hw.gradeH = false) ∧ (d.groupOn g = true) ∧ (v % 2 ^ (groupField k).width = d.reg (groupField k) g)) ∧
    (∃ (d : Device) (g : Nat) (k : Nat) (v : Nat), ((d.page .mcast).lock = false) ∧ (d.hw.gradeH = false) ∧ (d.groupOn g = true) ∧ (v % 2 ^ (groupField k).width ≠ d.reg (groupField k) g)) ∧
    (∃ (d : Device) (g : Nat) (b : Nat), ((d.page .mcast).lock = false) ∧ (d.hw.gradeH = false) ∧ ((d.takeInbox 6 (fillNo g b)).2 = [])) ∧
    (∃ (d : Device) (g : Nat) (b : Nat) (a : EngineAnswer) (as : List EngineAnswer) (f : Fill) (e : Device), ((d.page .mcast).lock = false) ∧ (d.hw.gradeH = false) ∧ ((d.takeInbox 6 (fillNo g b)).2 = a :: as) ∧ ((e.group g).fills.find? (fun f => f.block == b && f.started) = some f)) :=
  ⟨⟨mcD.setReg MCAST.GRP_CTL.ENABLE 0 5, 5, by decide +kernel, by decide +kernel, by decide +kernel, by decide +kernel, by decide +kernel⟩,
   ⟨D0, 5, by decide +kernel, by decide +kernel, by decide +kernel, by decide +kernel, by decide +kernel⟩,
   ⟨D0.setGroup 5 { disabling := true }, 5, by decide +kernel, by decide +kernel, by decide +kernel, by decide +kernel⟩,
   ⟨mcD, 5, by decide +kernel, by decide +kernel, by decide +kernel, by decide +kernel⟩,
   ⟨mcD, 5, 0, mcD.reg (groupField 0) 5, by decide +kernel, by decide +kernel, by decide +kernel, by decide +kernel⟩,
   ⟨mcD, 5, 0, 1, by decide +kernel, by decide +kernel, by decide +kernel, by decide +kernel⟩,
   ⟨D0, 5, 2, by decide +kernel, by decide +kernel, by decide +kernel⟩,
   ⟨{ mcD.setGroup 5 { fills := [{ block := 2, demand := false, started := true }] } with eng := { inbox := [{ kind := 6, q := 5 * 2 ^ 24 + 2, qla := 0, status := 0 }] } }, 5, 2, _, _, _, mcD.setGroup 5 { fills := [{ block := 2, demand := false, started := true }] }, by decide +kernel, by decide +kernel, rfl, rfl⟩⟩

theorem witness_RegionCommandsOfTheCoordinator :
    (∃ (d : Device) (rid : Nat) (r : Region), ((d.page .region).lock = false) ∧ (d.regions.cmd = none) ∧ (KMap.find d.regions.table rid = some r)) ∧
    (∃ (d : Device) (rid : Nat), ((d.page .region).lock = false) ∧ (d.regions.cmd = none) ∧ (KMap.find d.regions.table rid = none)) ∧
    (∃ (d : Device) (o : Int) (rid : Nat) (b : Bool) (c : Instr), ((d.page .region).lock = false) ∧ (d.regions.cmd.isSome = true) ∧ ((c = .create o ∨ c = .destroy rid b ∨ c = .modify rid ∨ c = .rgnRead rid))) ∧
    (∃ (d : Device) (e : Device) (k : Nat), (e.coordinator = some k) ∧ (k ≠ d.myArr)) ∧
    (∃ (d : Device) (a : RegionAsk) (e : Device) (code : Nat) (id : Nat) (y : TableCmd) (r : Region), (e.coordinator = some d.myArr) ∧ (d.regions.exec = none) ∧ (d.regions.asks = []) ∧ (TableCmd.ofFail y = false) ∧ (e.askResult a = (code, id, y, some r))) ∧
    (∃ (d : Device) (a : RegionAsk) (e : Device) (code : Nat) (id : Nat) (y : TableCmd), (e.coordinator = some d.myArr) ∧ (d.regions.exec = none) ∧ (d.regions.asks = []) ∧ (TableCmd.ofFail y = false) ∧ (e.askResult a = (code, id, y, none)) ∧ (code ≠ 0)) ∧
    (∃ (d : Device) (a : RegionAsk) (e : Device) (id : Nat) (y : TableCmd), (e.coordinator = some d.myArr) ∧ (d.regions.exec = none) ∧ (d.regions.asks = []) ∧ (TableCmd.ofFail y = false) ∧ (e.askResult a = (0, id, y, none))) ∧
    (∃ (d : Device) (free : Int) (r : Region) (rid : Nat), (d.createResult r free = 0) ∧ (d.freeRid = some rid)) ∧
    (∃ (d : Device) (free : Int) (r : Region), (d.createResult r free ≠ 0)) ∧
    (∃ (e : Device), (e.regions.cmd = none)) ∧
    (∃ (e : Device) (c : RegionCmd), (e.regions.cmd = some c) ∧ (c.ask.isSome = true)) ∧
    (∃ (e : Device) (c : RegionCmd), (e.regions.cmd = some c) ∧ (c.ask = none)) :=
  ⟨⟨rgnD, 2, _, by decide +kernel, by decide +kernel, rfl⟩,
   ⟨D0, 2, by decide +kernel, by decide +kernel, by decide +kernel⟩,
   ⟨{ D0 with regions := { cmd := some { result := 0, rid := 2 } } }, 0, 2, true, .rgnRead 2, by decide +kernel, by decide +kernel, by decide +kernel⟩,
   ⟨{ D0 with twin := { svc := .solo, inService := [0] }, qid := 3 }, { D0 with twin := { svc := .solo, inService := [0] }, qid := 3 }, _, rfl, by decide +kernel⟩,
   ⟨rgnD, { frm := 0, free := 0, busy := false, cmd := .read 2 }, rgnD, 0, 2, .read 2, rgn0, by decide +kernel, by decide +kernel, by decide +kernel, by decide +kernel, by decide +kernel⟩,
   ⟨rgnD, { frm := 0, free := 0, busy := true, cmd := .destroy 2 }, rgnD, 6, 2, .destroy 2, by decide +kernel, by decide +kernel, by decide +kernel, by decide +kernel, by decide +kernel, by decide +kernel⟩,
   ⟨rgnD, { frm := 0, free := 0, busy := false, cmd := .destroy 2 }, rgnD, 2, .destroy 2, by decide +kernel, by decide +kernel, by decide +kernel, by decide +kernel, by decide +kernel⟩,
   ⟨rgnD, 0, rgnD.staged, 1, by decide +kernel, by decide +kernel⟩,
   ⟨D0, 0, D0.staged, by decide +kernel⟩,
   ⟨D0, by decide +kernel⟩,
   ⟨{ D0 with regions := { cmd := some { result := 0, rid := 2, ask := some { frm := 0, free := 0, busy := false, cmd := .read 2 } } } }, _, rfl, by decide +kernel⟩,
   ⟨{ D0 with regions := { cmd := some { result := 0, rid := 2 } } }, _, rfl, by decide +kernel⟩⟩

theorem witness_SpaceAndWindowRegisters :
    (∃ (d : Device), ((d.page .region).lock = false)) ∧
    (∃ (d : Device) (tib : _), ((d.page .region).lock = true) ∧ (d.changes REGION.SPACE_PEND.LOGICAL_TIB_NEXT tib 0 = true)) ∧
    (∃ (d : Device) (p : Nat) (l : Nat) (n : Nat), ((d.page .host p).lock = false) ∧ (n < 64) ∧ (lbaseFits (d.reg (HOST.WIN_LBASE.LBASE l) p) n = false)) ∧
    (∃ (d : Device) (p : Nat) (l : Nat) (n : Nat), ((d.page .host p).lock = false) ∧ (n < 64) ∧ (p < 4) ∧ (l < 2) ∧ (lbaseFits (d.reg (HOST.WIN_LBASE.LBASE l) p) n = true)) ∧
    (∃ (d : Device) (p : Nat) (l : Nat) (v : Nat), ((d.page .host p).lock = false) ∧ (v < 1024) ∧ (lbaseFits v (d.reg (HOST.WIN_CFG.WIN_SIZE_LOG2 l) p) = true)) ∧
    (∃ (d : Device) (p : Nat) (l : Nat) (v : Nat), ((d.page .host p).lock = false) ∧ (v < 1024) ∧ (lbaseFits v (d.reg (HOST.WIN_CFG.WIN_SIZE_LOG2 l) p) = false)) ∧
    (∃ (d : Device) (p : Nat) (l : Nat) (v : Nat), ((d.page .host p).lock = true) ∧ (d.changes (HOST.WIN_LBASE.LBASE l) v p = true)) :=
  ⟨⟨D0, by decide +kernel⟩,
   ⟨lockD .region, 8, by decide +kernel, by decide +kernel⟩,
   ⟨D0.setReg (HOST.WIN_LBASE.LBASE 0) 1 2, 2, 0, 44, by decide +kernel, by decide +kernel, by decide +kernel⟩,
   ⟨D0, 3, 1, 36, by decide +kernel, by decide +kernel, by decide +kernel, by decide +kernel, by decide +kernel⟩,
   ⟨D0, 2, 0, 0, by decide +kernel, by decide +kernel, by decide +kernel⟩,
   ⟨D0, 2, 0, 1, by decide +kernel, by decide +kernel, by decide +kernel⟩,
   ⟨lockD .host, 0, 0, 1, by decide +kernel, by decide +kernel⟩⟩

theorem witness_FailCommandsOnTheTables :
    (∃ (d : Device) (id : Nat) (g : Geometry), ((d.page .fail).lock = false) ∧ (d.hw.gradeH = false) ∧ (d.fail.run = none) ∧ (KMap.find d.fail.geos (id % 1024) = some g)) ∧
    (∃ (d : Device) (id : Nat), ((d.page .fail).lock = false) ∧ (d.hw.gradeH = false) ∧ (d.fail.run = none) ∧ (KMap.find d.fail.geos (id % 1024) = none)) ∧
    (∃ (d : Device) (id : Nat), ((d.page .fail).lock = false) ∧ (d.hw.gradeH = false) ∧ (d.fail.run = none) ∧ (KMap.find d.fail.duts (id % 1024) = none)) ∧
    (∃ (d : Device) (id : Nat) (b : Dut), ((d.page .fail).lock = false) ∧ (d.hw.gradeH = false) ∧ (d.fail.run = none) ∧ (KMap.find d.fail.duts (id % 1024) = some b)) ∧
    (∃ (d : Device) (id : Nat) (k : Instr) (b : Bool), ((d.page .fail).lock = false) ∧ (d.hw.gradeH = false) ∧ (d.fail.run.isSome = true) ∧ (k ∈ [Instr.geoSet id, .geoClear id, .geoRead id, .dutBind id, .dutUnbind id b, .dutClear id b, .dutRebuild id b, .dutRead id])) ∧
    (∃ (d : Device) (a : RegionAsk) (x : FailRun) (n : Nat) (y : TableCmd) (code : Nat), (d.fail.run = some x) ∧ (x.ask.isSome = true) ∧ (d.coordinator = some d.myArr) ∧ (d.regions.exec = none) ∧ (d.regions.asks = []) ∧ (a.frm = d.myArr) ∧ (TableCmd.ofFail y = true) ∧ (d.askResult a = (code, n, y, none)) ∧ (code ≠ 0)) ∧
    (∃ (d : Device) (a : RegionAsk) (x : FailRun) (n : Nat) (y : TableCmd) (code : Nat), (d.fail.run = some x) ∧ (x.ask.isSome = true) ∧ (d.coordinator = some d.myArr) ∧ (d.regions.exec = none) ∧ (d.regions.asks = []) ∧ (a.frm = d.myArr) ∧ (TableCmd.ofFail y = true) ∧ (d.askResult a = (code, n, y, none)) ∧ (code = 0)) ∧
    (∃ (d : Device) (k : Nat), (d.coordinator = some k) ∧ (k ≠ d.myArr)) ∧
    (∃ (d : Device), (d.allReachable = false)) ∧
    (∃ (d : Device) (id : Nat), (d.allReachable = true) ∧ ((KMap.find d.fail.duts id).isSome = true)) ∧
    (∃ (d : Device) (id : Nat) (b : Dut), (d.allReachable = true) ∧ (KMap.find d.fail.duts id = none) ∧ (KMap.find d.fail.geos b.geo = none)) ∧
    (∃ (d : Device) (id : Nat) (b : Dut) (h : Geometry), (d.allReachable = true) ∧ (KMap.find d.fail.duts id = none) ∧ (KMap.find d.fail.geos b.geo = some h)) ∧
    (∃ (id : Nat) (c : TableCmd), (c = .dutUnbind id ∨ c = .dutClear id ∨ c = .dutRebuild id)) ∧
    (∃ (e : Device), (e.fail.run = none)) ∧
    (∃ (e : Device) (c : FailRun), (e.fail.run = some c) ∧ (c.ask.isSome = true)) ∧
    (∃ (e : Device) (c : FailRun), (e.fail.run = some c) ∧ (c.ask = none)) :=
  ⟨⟨{ D0 with fail := failD.fail }, 1025, _, by decide +kernel, by decide +kernel, by decide +kernel, rfl⟩,
   ⟨D0, 255, by decide +kernel, by decide +kernel, by decide +kernel, by decide +kernel⟩,
   ⟨D0, 1023, by decide +kernel, by decide +kernel, by decide +kernel, by decide +kernel⟩,
   ⟨{ D0 with fail := failD.fail }, 4, _, by decide +kernel, by decide +kernel, by decide +kernel, rfl⟩,
   ⟨{ D0 with fail := { run := some { op := 1, id := 2, result := 0 } } }, 5, .geoClear 5, false, by decide +kernel, by decide +kernel, by decide +kernel, by decide +kernel⟩,
   ⟨{ soloD with fail := { run := some { op := 1, id := 256, result := 0, ask := some { frm := 0, free := 0, busy := false, cmd := .geoClear 256 } } } }, { frm := 0, free := 0, busy := false, cmd := .geoClear 256 }, _, 256, .geoClear 256, 2, rfl, by decide +kernel, by decide +kernel, by decide +kernel, by decide +kernel, by decide +kernel, by decide +kernel, rfl, by decide +kernel⟩,
   ⟨{ soloD with fail := { run := some { op := 1, id := 255, result := 0, ask := some { frm := 0, free := 0, busy := false, cmd := .geoClear 255 } } } }, { frm := 0, free := 0, busy := false, cmd := .geoClear 255 }, _, 255, .geoClear 255, 0, rfl, by decide +kernel, by decide +kernel, by decide +kernel, by decide +kernel, by decide +kernel, by decide +kernel, rfl, by decide +kernel⟩,
   ⟨{ D0 with twin := { svc := .solo, inService := [0] }, qid := 3 }, _, rfl, by decide +kernel⟩,
   ⟨D0, by decide +kernel⟩,
   ⟨{ soloD with fail := failD.fail }, 4, by decide +kernel, by decide +kernel⟩,
   ⟨{ soloD with fail := failD.fail }, 5, { geo := 2, bmap := 0, tally := 0 }, by decide +kernel, by decide +kernel, by decide +kernel⟩,
   ⟨{ soloD with fail := failD.fail }, 5, { geo := 1, bmap := 0, tally := 0 }, _, by decide +kernel, by decide +kernel, rfl⟩,
   ⟨5, .dutRebuild 5, .inr (.inr rfl)⟩,
   ⟨D0, by decide +kernel⟩,
   ⟨{ D0 with fail := { run := some { op := 1, id := 2, result := 0, ask := some { frm := 0, free := 0, busy := false, cmd := .geoClear 2 } } } }, _, rfl, by decide +kernel⟩,
   ⟨{ D0 with fail := { run := some { op := 1, id := 2, result := 0 } } }, _, rfl, by decide +kernel⟩⟩

theorem witness_QueueDoorbellsAndControls :
    (∃ (d : Device) (r : Nat) (q : Nat) (v : Nat) (k : Nat) (t : Instr) (h : Instr) (e : Instr) (x : Instr) (a : Instr) (c : Instr), ((d.hw.gradeH = false ∧ q < 16 ∧ r = q ∧ t = .assaySqTail q v ∧ h = .assayCqHead q v ∧ e = .assayEnable q ∧ x = .assayDisable q ∧ a = .assayAbort q ∧ c = .assayCfgWrite q k v ∧ (d.page .assay).lock = false) ∨ (d.hubUp = true ∧ q < 4 ∧ r = 100 + q ∧ t = .dmaSqTail q v ∧ h = .dmaCqHead q v ∧ e = .dmaEnable q ∧ x = .dmaDisable q ∧ a = .dmaAbort q ∧ c = .dmaCfgWrite q k v ∧ (d.page .dma).lock = false)) ∧ ((d.ring r).state = 1) ∧ (v < d.sqSize r)) ∧
    (∃ (d : Device) (r : Nat) (q : Nat) (v : Nat) (k : Nat) (t : Instr) (h : Instr) (e : Instr) (x : Instr) (a : Instr) (c : Instr), ((d.hw.gradeH = false ∧ q < 16 ∧ r = q ∧ t = .assaySqTail q v ∧ h = .assayCqHead q v ∧ e = .assayEnable q ∧ x = .assayDisable q ∧ a = .assayAbort q ∧ c = .assayCfgWrite q k v ∧ (d.page .assay).lock = false) ∨ (d.hubUp = true ∧ q < 4 ∧ r = 100 + q ∧ t = .dmaSqTail q v ∧ h = .dmaCqHead q v ∧ e = .dmaEnable q ∧ x = .dmaDisable q ∧ a = .dmaAbort q ∧ c = .dmaCfgWrite q k v ∧ (d.page .dma).lock = false)) ∧ ((d.ring r).state = 1) ∧ (d.sqSize r ≤ v)) ∧
    (∃ (d : Device) (r : Nat) (q : Nat) (v : Nat) (k : Nat) (t : Instr) (h : Instr) (e : Instr) (x : Instr) (a : Instr) (c : Instr), ((d.hw.gradeH = false ∧ q < 16 ∧ r = q ∧ t = .assaySqTail q v ∧ h = .assayCqHead q v ∧ e = .assayEnable q ∧ x = .assayDisable q ∧ a = .assayAbort q ∧ c = .assayCfgWrite q k v ∧ (d.page .assay).lock = false) ∨ (d.hubUp = true ∧ q < 4 ∧ r = 100 + q ∧ t = .dmaSqTail q v ∧ h = .dmaCqHead q v ∧ e = .dmaEnable q ∧ x = .dmaDisable q ∧ a = .dmaAbort q ∧ c = .dmaCfgWrite q k v ∧ (d.page .dma).lock = false)) ∧ ((d.ring r).state = 1) ∧ (v < d.cqSize r)) ∧
    (∃ (d : Device) (r : Nat) (q : Nat) (v : Nat) (k : Nat) (t : Instr) (h : Instr) (e : Instr) (x : Instr) (a : Instr) (c : Instr), ((d.hw.gradeH = false ∧ q < 16 ∧ r = q ∧ t = .assaySqTail q v ∧ h = .assayCqHead q v ∧ e = .assayEnable q ∧ x = .assayDisable q ∧ a = .assayAbort q ∧ c = .assayCfgWrite q k v ∧ (d.page .assay).lock = false) ∨ (d.hubUp = true ∧ q < 4 ∧ r = 100 + q ∧ t = .dmaSqTail q v ∧ h = .dmaCqHead q v ∧ e = .dmaEnable q ∧ x = .dmaDisable q ∧ a = .dmaAbort q ∧ c = .dmaCfgWrite q k v ∧ (d.page .dma).lock = false)) ∧ ((d.ring r).state = 1) ∧ (d.cqSize r ≤ v)) ∧
    (∃ (d : Device) (r : Nat) (q : Nat) (v : Nat) (k : Nat) (t : Instr) (h : Instr) (e : Instr) (x : Instr) (a : Instr) (c : Instr), ((d.hw.gradeH = false ∧ q < 16 ∧ r = q ∧ t = .assaySqTail q v ∧ h = .assayCqHead q v ∧ e = .assayEnable q ∧ x = .assayDisable q ∧ a = .assayAbort q ∧ c = .assayCfgWrite q k v ∧ (d.page .assay).lock = false) ∨ (d.hubUp = true ∧ q < 4 ∧ r = 100 + q ∧ t = .dmaSqTail q v ∧ h = .dmaCqHead q v ∧ e = .dmaEnable q ∧ x = .dmaDisable q ∧ a = .dmaAbort q ∧ c = .dmaCfgWrite q k v ∧ (d.page .dma).lock = false)) ∧ ((d.ring r).state ≠ 1)) ∧
    (∃ (d : Device) (r : Nat) (q : Nat) (v : Nat) (k : Nat) (t : Instr) (h : Instr) (e : Instr) (x : Instr) (a : Instr) (c : Instr), ((d.hw.gradeH = false ∧ q < 16 ∧ r = q ∧ t = .assaySqTail q v ∧ h = .assayCqHead q v ∧ e = .assayEnable q ∧ x = .assayDisable q ∧ a = .assayAbort q ∧ c = .assayCfgWrite q k v ∧ (d.page .assay).lock = false) ∨ (d.hubUp = true ∧ q < 4 ∧ r = 100 + q ∧ t = .dmaSqTail q v ∧ h = .dmaCqHead q v ∧ e = .dmaEnable q ∧ x = .dmaDisable q ∧ a = .dmaAbort q ∧ c = .dmaCfgWrite q k v ∧ (d.page .dma).lock = false)) ∧ ((d.ring r).disabling = true)) ∧
    (∃ (d : Device) (r : Nat) (q : Nat) (v : Nat) (k : Nat) (t : Instr) (h : Instr) (e : Instr) (x : Instr) (a : Instr) (c : Instr), ((d.hw.gradeH = false ∧ q < 16 ∧ r = q ∧ t = .assaySqTail q v ∧ h = .assayCqHead q v ∧ e = .assayEnable q ∧ x = .assayDisable q ∧ a = .assayAbort q ∧ c = .assayCfgWrite q k v ∧ (d.page .assay).lock = false) ∨ (d.hubUp = true ∧ q < 4 ∧ r = 100 + q ∧ t = .dmaSqTail q v ∧ h = .dmaCqHead q v ∧ e = .dmaEnable q ∧ x = .dmaDisable q ∧ a = .dmaAbort q ∧ c = .dmaCfgWrite q k v ∧ (d.page .dma).lock = false)) ∧ ((d.ring r).disabling = true ∨ d.ringReg r ASSAY.Q_CTL.ENABLE DMA.Q_CTL.ENABLE = 1)) ∧
    (∃ (d : Device) (r : Nat) (q : Nat) (v : Nat) (k : Nat) (t : Instr) (h : Instr) (e : Instr) (x : Instr) (a : Instr) (c : Instr), ((d.hw.gradeH = false ∧ q < 16 ∧ r = q ∧ t = .assaySqTail q v ∧ h = .assayCqHead q v ∧ e = .assayEnable q ∧ x = .assayDisable q ∧ a = .assayAbort q ∧ c = .assayCfgWrite q k v ∧ (d.page .assay).lock = false) ∨ (d.hubUp = true ∧ q < 4 ∧ r = 100 + q ∧ t = .dmaSqTail q v ∧ h = .dmaCqHead q v ∧ e = .dmaEnable q ∧ x = .dmaDisable q ∧ a = .dmaAbort q ∧ c = .dmaCfgWrite q k v ∧ (d.page .dma).lock = false)) ∧ ((d.ring r).state ≠ 0) ∧ ((d.ring r).disabling = false)) ∧
    (∃ (d : Device) (r : Nat) (q : Nat) (v : Nat) (k : Nat) (t : Instr) (h : Instr) (e : Instr) (x : Instr) (a : Instr) (c : Instr), ((d.hw.gradeH = false ∧ q < 16 ∧ r = q ∧ t = .assaySqTail q v ∧ h = .assayCqHead q v ∧ e = .assayEnable q ∧ x = .assayDisable q ∧ a = .assayAbort q ∧ c = .assayCfgWrite q k v ∧ (d.page .assay).lock = false) ∨ (d.hubUp = true ∧ q < 4 ∧ r = 100 + q ∧ t = .dmaSqTail q v ∧ h = .dmaCqHead q v ∧ e = .dmaEnable q ∧ x = .dmaDisable q ∧ a = .dmaAbort q ∧ c = .dmaCfgWrite q k v ∧ (d.page .dma).lock = false)) ∧ ((d.ring r).state = 0) ∧ ((d.ring r).disabling = false)) ∧
    (∃ (d : Device) (r : Nat) (q : Nat) (v : Nat) (k : Nat) (t : Instr) (h : Instr) (e : Instr) (x : Instr) (a : Instr) (c : Instr), ((d.hw.gradeH = false ∧ q < 16 ∧ r = q ∧ t = .assaySqTail q v ∧ h = .assayCqHead q v ∧ e = .assayEnable q ∧ x = .assayDisable q ∧ a = .assayAbort q ∧ c = .assayCfgWrite q k v ∧ (d.page .assay).lock = false) ∨ (d.hubUp = true ∧ q < 4 ∧ r = 100 + q ∧ t = .dmaSqTail q v ∧ h = .dmaCqHead q v ∧ e = .dmaEnable q ∧ x = .dmaDisable q ∧ a = .dmaAbort q ∧ c = .dmaCfgWrite q k v ∧ (d.page .dma).lock = false)) ∧ ((d.ring r).disabling = false) ∧ (d.ringReg r ASSAY.Q_CTL.ENABLE DMA.Q_CTL.ENABLE ≠ 1)) :=
  ⟨⟨D0.setRing 15 { state := 1 }, 15, 15, 1, 0, _, _, _, _, _, _, .inl ⟨by decide, by decide, rfl, rfl, rfl, rfl, rfl, rfl, rfl, by decide⟩, by decide +kernel, by decide +kernel⟩,
   ⟨D0.setRing 103 { state := 1 }, 103, 3, 99999, 0, _, _, _, _, _, _, .inr ⟨by decide, by decide, rfl, rfl, rfl, rfl, rfl, rfl, rfl, by decide⟩, by decide +kernel, by decide +kernel⟩,
   ⟨D0.setRing 103 { state := 1 }, 103, 3, 1, 0, _, _, _, _, _, _, .inr ⟨by decide, by decide, rfl, rfl, rfl, rfl, rfl, rfl, rfl, by decide⟩, by decide +kernel, by decide +kernel⟩,
   ⟨D0.setRing 15 { state := 1 }, 15, 15, 99999, 0, _, _, _, _, _, _, .inl ⟨by decide, by decide, rfl, rfl, rfl, rfl, rfl, rfl, rfl, by decide⟩, by decide +kernel, by decide +kernel⟩,
   ⟨D0, 15, 15, 0, 0, _, _, _, _, _, _, .inl ⟨by decide, by decide, rfl, rfl, rfl, rfl, rfl, rfl, rfl, by decide⟩, by decide +kernel⟩,
   ⟨D0.setRing 15 { disabling := true }, 15, 15, 0, 0, _, _, _, _, _, _, .inl ⟨by decide, by decide, rfl, rfl, rfl, rfl, rfl, rfl, rfl, by decide⟩, by decide +kernel⟩,
   ⟨D0.setReg (ASSAY.Q_CTL.ENABLE) 1 15, 15, 15, 0, 0, _, _, _, _, _, _, .inl ⟨by decide, by decide, rfl, rfl, rfl, rfl, rfl, rfl, rfl, by decide⟩, by decide +kernel⟩,
   ⟨D0.setRing 100 { state := 2 }, 100, 0, 0, 0, _, _, _, _, _, _, .inr ⟨by decide, by decide, rfl, rfl, rfl, rfl, rfl, rfl, rfl, by decide⟩, by decide +kernel, by decide +kernel⟩,
   ⟨D0, 0, 0, 0, 0, _, _, _, _, _, _, .inl ⟨by decide, by decide, rfl, rfl, rfl, rfl, rfl, rfl, rfl, by decide⟩, by decide +kernel, by decide +kernel⟩,
   ⟨D0, 100, 0, 0, 0, _, _, _, _, _, _, .inr ⟨by decide, by decide, rfl, rfl, rfl, rfl, rfl, rfl, rfl, by decide⟩, by decide +kernel, by decide +kernel⟩⟩

theorem witness_AssayerJobsAndDescriptors :
    (∃ (d : Device) (q : Nat), (q < 16) ∧ ((d.takeInbox 0 q).2 = [])) ∧
    (∃ (d : Device) (q : Nat) (g : Device) (a : EngineAnswer) (as : List EngineAnswer), (q < 16) ∧ ((d.takeInbox 0 q).2 = a :: as) ∧ ((g.ring q).state ≠ 1)) ∧
    (∃ (d : Device) (q : Nat) (g : Device) (a : EngineAnswer) (as : List EngineAnswer) (f : Device) (e : Device) (b : List Nat), (q < 16) ∧ ((d.takeInbox 0 q).2 = a :: as) ∧ ((g.ring q).state = 1) ∧ (f = g.setRing q { g.ring q with fetching := false, head := ((g.ring q).head + 1) % g.sqSize q }) ∧ (e = { f with eng := { f.eng with nextJob := f.eng.nextJob + 1 } }) ∧ (b = g.entryOf q a) ∧ (readStatus a ≠ 0)) ∧
    (∃ (d : Device) (q : Nat) (g : Device) (a : EngineAnswer) (as : List EngineAnswer) (f : Device) (e : Device) (b : List Nat), (q < 16) ∧ ((d.takeInbox 0 q).2 = a :: as) ∧ ((g.ring q).state = 1) ∧ (f = g.setRing q { g.ring q with fetching := false, head := ((g.ring q).head + 1) % g.sqSize q }) ∧ (e = { f with eng := { f.eng with nextJob := f.eng.nextJob + 1 } }) ∧ (b = g.entryOf q a) ∧ (readStatus a = 0) ∧ ((g.ring q).aborting = true ∨ (g.ring q).disabling = true)) ∧
    (∃ (d : Device) (q : Nat) (g : Device) (a : EngineAnswer) (as : List EngineAnswer) (f : Device) (e : Device) (b : List Nat) (st : Nat), (q < 16) ∧ ((d.takeInbox 0 q).2 = a :: as) ∧ ((g.ring q).state = 1) ∧ (f = g.setRing q { g.ring q with fetching := false, head := ((g.ring q).head + 1) % g.sqSize q }) ∧ (e = { f with eng := { f.eng with nextJob := f.eng.nextJob + 1 } }) ∧ (b = g.entryOf q a) ∧ (readStatus a = 0) ∧ ((g.ring q).aborting = false) ∧ ((g.ring q).disabling = false) ∧ (e.jobCheck b = some st)) ∧
    (∃ (d : Device) (q : Nat) (g : Device) (a : EngineAnswer) (as : List EngineAnswer) (f : Device) (e : Device) (b : List Nat), (q < 16) ∧ ((d.takeInbox 0 q).2 = a :: as) ∧ ((g.ring q).state = 1) ∧ (f = g.setRing q { g.ring q with fetching := false, head := ((g.ring q).head + 1) % g.sqSize q }) ∧ (e = { f with eng := { f.eng with nextJob := f.eng.nextJob + 1 } }) ∧ (b = g.entryOf q a) ∧ (readStatus a = 0) ∧ ((g.ring q).aborting = false) ∧ ((g.ring q).disabling = false) ∧ (e.jobCheck b = none)) ∧
    (∃ (d : Device) (j : Job), (d.pageOn .assay = true) ∧ (d.enginesHeld = false) ∧ (d.unitsBusy < 8) ∧ (d.nextJob = some j)) ∧
    (∃ (d : Device), (d.pageOn .assay = false ∨ d.enginesHeld = true ∨ 8 ≤ d.unitsBusy ∨ d.nextJob = none)) ∧
    (∃ (id : Nat) (e : Device), (e.job id = none)) ∧
    (∃ (id : Nat) (e : Device) (j : Job), (e.job id = some j) ∧ (j.running = false ∨ e.enginesHeld = true ∨ e.dut j.dut = none)) ∧
    (∃ (id : Nat) (e : Device) (j : Job) (t : DutCtx), (e.job id = some j) ∧ (j.running = true) ∧ (e.enginesHeld = false) ∧ (e.dut j.dut = some t) ∧ (j.entry.isSome = true) ∧ ((e.eng.inbox.filter (fun a => a.kind == 5 && a.q == j.id)).length < j.sent)) ∧
    (∃ (id : Nat) (e : Device) (j : Job) (t : DutCtx) (as : List EngineAnswer), (e.job id = some j) ∧ (j.running = true) ∧ (e.enginesHeld = false) ∧ (e.dut j.dut = some t) ∧ (j.entry.isSome = true) ∧ (j.sent ≤ (e.eng.inbox.filter (fun a => a.kind == 5 && a.q == j.id)).length) ∧ (as.any (fun a => a.status == 3) = true)) ∧
    (∃ (id : Nat) (e : Device) (j : Job) (t : DutCtx) (as : List EngineAnswer), (e.job id = some j) ∧ (j.running = true) ∧ (e.enginesHeld = false) ∧ (e.dut j.dut = some t) ∧ (j.entry.isSome = true) ∧ (j.sent ≤ (e.eng.inbox.filter (fun a => a.kind == 5 && a.q == j.id)).length) ∧ (as.any (fun a => a.status == 3) = false) ∧ (as.any (fun a => a.status == 2) = true)) ∧
    (∃ (id : Nat) (e : Device) (j : Job) (t : DutCtx) (as : List EngineAnswer), (e.job id = some j) ∧ (j.running = true) ∧ (e.enginesHeld = false) ∧ (e.dut j.dut = some t) ∧ (j.entry.isSome = true) ∧ (j.sent ≤ (e.eng.inbox.filter (fun a => a.kind == 5 && a.q == j.id)).length) ∧ (as.any (fun a => a.status == 3) = false) ∧ (as.any (fun a => a.status == 2) = false)) ∧
    (∃ (id : Nat) (e : Device) (j : Job) (t : DutCtx) (keys : List Nat), (e.job id = some j) ∧ (j.running = true) ∧ (e.enginesHeld = false) ∧ (e.dut j.dut = some t) ∧ (j.entry = none) ∧ (e.jobReads t j = .need keys)) ∧
    (∃ (id : Nat) (e : Device) (j : Job) (t : DutCtx) (r : Repair) (f : Device), (e.job id = some j) ∧ (j.running = true) ∧ (e.enginesHeld = false) ∧ (e.dut j.dut = some t) ∧ (j.entry = none) ∧ ((e.jobReads t j = .early r ∧ f = e.jobWrite j t r) ∨ (∃ a b x, e.jobReads t j = .full a b x ∧ f = e.jobWrite j t { x with changed := decide (a ≠ b) })) ∧ (f.job id = none)) ∧
    (∃ (id : Nat) (e : Device) (j : Job) (t : DutCtx) (r : Repair) (f : Device) (k : Job), (e.job id = some j) ∧ (j.running = true) ∧ (e.enginesHeld = false) ∧ (e.dut j.dut = some t) ∧ (j.entry = none) ∧ ((e.jobReads t j = .early r ∧ f = e.jobWrite j t r) ∨ (∃ a b x, e.jobReads t j = .full a b x ∧ f = e.jobWrite j t { x with changed := decide (a ≠ b) })) ∧ (f.job id = some k) ∧ (k.entry = none ∨ k.next ≠ j.next)) ∧
    (∃ (id : Nat) (e : Device) (j : Job) (t : DutCtx) (r : Repair) (f : Device) (k : Job), (e.job id = some j) ∧ (j.running = true) ∧ (e.enginesHeld = false) ∧ (e.dut j.dut = some t) ∧ (j.entry = none) ∧ ((e.jobReads t j = .early r ∧ f = e.jobWrite j t r) ∨ (∃ a b x, e.jobReads t j = .full a b x ∧ f = e.jobWrite j t { x with changed := decide (a ≠ b) })) ∧ (f.job id = some k) ∧ (k.entry.isSome = true) ∧ (k.next = j.next)) :=
  ⟨⟨D0, 15, by decide +kernel, by decide +kernel⟩,
   ⟨asD 0 0 { fetching := true }, 15, (asD 0 0 { fetching := true }).takeInbox 0 15 |>.1, _, _, by decide +kernel, rfl, by decide +kernel⟩,
   ⟨asD 0 3 { state := 1, fetching := true }, 15, (asD 0 3 { state := 1, fetching := true }).takeInbox 0 15 |>.1, _, _, _, _, _, by decide +kernel, rfl, by decide +kernel, rfl, rfl, rfl, by decide +kernel⟩,
   ⟨asD 0 0 { state := 1, fetching := true, aborting := true }, 15, (asD 0 0 { state := 1, fetching := true, aborting := true }).takeInbox 0 15 |>.1, _, _, _, _, _, by decide +kernel, rfl, by decide +kernel, rfl, rfl, rfl, by decide +kernel, .inl rfl⟩,
   ⟨asD 0 0 { state := 1, fetching := true }, 15, (asD 0 0 { state := 1, fetching := true }).takeInbox 0 15 |>.1, _, _, _, _, _, _, by decide +kernel, rfl, by decide +kernel, rfl, rfl, rfl, by decide +kernel, by decide +kernel, by decide +kernel, rfl⟩,
   ⟨{ failD with eng := { rings := [(15, { state := 1, fetching := true })], inbox := [{ kind := 0, q := 15, qla := 0, status := 0, bytes := jobDesc }] } }, 15, (({ failD with eng := { rings := [(15, { state := 1, fetching := true })], inbox := [{ kind := 0, q := 15, qla := 0, status := 0, bytes := jobDesc }] } } : Device).takeInbox 0 15).1, _, _, _, _, _, by decide +kernel, rfl, by decide +kernel, rfl, rfl, rfl, by decide +kernel, by decide +kernel, by decide +kernel, by decide +kernel⟩,
   ⟨{ D0 with eng := { jobs := [{ id := 1, queue := 15, desc := jobDesc }] } }, _, by decide +kernel, by decide +kernel, by decide +kernel, rfl⟩,
   ⟨D0, by decide +kernel⟩,
   ⟨1, D0, by decide +kernel⟩,
   ⟨1, jobD { id := 1, queue := 15, desc := jobDesc } [], _, rfl, .inl rfl⟩,
   ⟨1, jobD { id := 1, queue := 15, desc := jobDesc, running := true, entry := some [1], sent := 1 } [], _, _, rfl, by decide +kernel, by decide +kernel, rfl, by decide +kernel, by decide +kernel⟩,
   ⟨1, jobD { id := 1, queue := 15, desc := jobDesc, running := true, entry := some [1], sent := 1 } [3], _, _, [{ kind := 5, q := 1, qla := 0, status := 3 }], rfl, by decide +kernel, by decide +kernel, rfl, by decide +kernel, by decide +kernel, by decide +kernel⟩,
   ⟨1, jobD { id := 1, queue := 15, desc := jobDesc, running := true, entry := some [1], sent := 1 } [2], _, _, [{ kind := 5, q := 1, qla := 0, status := 2 }], rfl, by decide +kernel, by decide +kernel, rfl, by decide +kernel, by decide +kernel, by decide +kernel, by decide +kernel⟩,
   ⟨1, jobD { id := 1, queue := 15, desc := jobDesc, running := true, entry := some [1], sent := 1 } [0], _, _, [{ kind := 5, q := 1, qla := 0, status := 0 }], rfl, by decide +kernel, by decide +kernel, rfl, by decide +kernel, by decide +kernel, by decide +kernel, by decide +kernel⟩,
   ⟨1, jobD { id := 1, queue := 15, desc := jobDesc, running := true } [], _, _, _, rfl, by decide +kernel, by decide +kernel, rfl, by decide +kernel, rfl⟩,
   ⟨1, jobD (jobRead 1 1) [], jobRead 1 1, jobT, { outcome := 0 }, (jobD (jobRead 1 1) []).jobWrite (jobRead 1 1) jobT { outcome := 0 }, by decide +kernel, by decide +kernel, by decide +kernel, by decide +kernel, by decide +kernel, .inl ⟨by decide +kernel, rfl⟩, by decide +kernel⟩,
   ⟨1, jobD (jobRead 1 2) [], jobRead 1 2, jobT, { outcome := 0 }, (jobD (jobRead 1 2) []).jobWrite (jobRead 1 2) jobT { outcome := 0 }, ((jobD (jobRead 1 2) []).jobWrite (jobRead 1 2) jobT { outcome := 0 }).eng.jobs.headD (jobRead 1 2), by decide +kernel, by decide +kernel, by decide +kernel, by decide +kernel, by decide +kernel, .inl ⟨by decide +kernel, rfl⟩, by decide +kernel, by decide +kernel⟩,
   ⟨1, jobD (jobRead 0 1) [], jobRead 0 1, jobT, { outcome := 0 }, (jobD (jobRead 0 1) []).jobWrite (jobRead 0 1) jobT { outcome := 0 }, ((jobD (jobRead 0 1) []).jobWrite (jobRead 0 1) jobT { outcome := 0 }).eng.jobs.headD (jobRead 0 1), by decide +kernel, by decide +kernel, by decide +kernel, by decide +kernel, by decide +kernel, .inl ⟨by decide +kernel, rfl⟩, by decide +kernel, by decide +kernel, by decide +kernel⟩⟩

theorem witness_DmaDescriptorsCopiesAndFills :
    (∃ (d : Device) (q : Nat), (d.hubUp = true) ∧ (q < 4) ∧ ((d.takeInbox 2 (100 + q)).2 = [])) ∧
    (∃ (d : Device) (q : Nat) (g : Device) (a : EngineAnswer) (as : List EngineAnswer), (d.hubUp = true) ∧ (q < 4) ∧ ((d.takeInbox 2 (100 + q)).2 = a :: as) ∧ ((g.ring (100 + q)).state ≠ 1)) ∧
    (∃ (d : Device) (q : Nat) (g : Device) (a : EngineAnswer) (as : List EngineAnswer) (f : Device) (e : Device) (x : DmaRun), (d.hubUp = true) ∧ (q < 4) ∧ ((d.takeInbox 2 (100 + q)).2 = a :: as) ∧ ((g.ring (100 + q)).state = 1) ∧ (f = g.setRing (100 + q) { g.ring (100 + q) with fetching := false, head := ((g.ring (100 + q)).head + 1) % g.sqSize (100 + q) }) ∧ (x = { id := g.eng.nextJob, ring := 100 + q, desc := g.entryOf (100 + q) a }) ∧ (e = { f with eng := { f.eng with nextJob := f.eng.nextJob + 1 } }) ∧ (readStatus a ≠ 0)) ∧
    (∃ (d : Device) (q : Nat) (g : Device) (a : EngineAnswer) (as : List EngineAnswer) (f : Device) (e : Device) (x : DmaRun), (d.hubUp = true) ∧ (q < 4) ∧ ((d.takeInbox 2 (100 + q)).2 = a :: as) ∧ ((g.ring (100 + q)).state = 1) ∧ (f = g.setRing (100 + q) { g.ring (100 + q) with fetching := false, head := ((g.ring (100 + q)).head + 1) % g.sqSize (100 + q) }) ∧ (x = { id := g.eng.nextJob, ring := 100 + q, desc := g.entryOf (100 + q) a }) ∧ (e = { f with eng := { f.eng with nextJob := f.eng.nextJob + 1 } }) ∧ (readStatus a = 0) ∧ ((g.ring (100 + q)).aborting = true ∨ (g.ring (100 + q)).disabling = true)) ∧
    (∃ (d : Device) (q : Nat) (g : Device) (a : EngineAnswer) (as : List EngineAnswer) (f : Device) (e : Device) (x : DmaRun), (d.hubUp = true) ∧ (q < 4) ∧ ((d.takeInbox 2 (100 + q)).2 = a :: as) ∧ ((g.ring (100 + q)).state = 1) ∧ (f = g.setRing (100 + q) { g.ring (100 + q) with fetching := false, head := ((g.ring (100 + q)).head + 1) % g.sqSize (100 + q) }) ∧ (x = { id := g.eng.nextJob, ring := 100 + q, desc := g.entryOf (100 + q) a }) ∧ (e = { f with eng := { f.eng with nextJob := f.eng.nextJob + 1 } }) ∧ (readStatus a = 0) ∧ ((g.ring (100 + q)).aborting = false) ∧ ((g.ring (100 + q)).disabling = false) ∧ (e.dmaOk x = true)) ∧
    (∃ (d : Device) (q : Nat) (g : Device) (a : EngineAnswer) (as : List EngineAnswer) (f : Device) (e : Device) (x : DmaRun), (d.hubUp = true) ∧ (q < 4) ∧ ((d.takeInbox 2 (100 + q)).2 = a :: as) ∧ ((g.ring (100 + q)).state = 1) ∧ (f = g.setRing (100 + q) { g.ring (100 + q) with fetching := false, head := ((g.ring (100 + q)).head + 1) % g.sqSize (100 + q) }) ∧ (x = { id := g.eng.nextJob, ring := 100 + q, desc := g.entryOf (100 + q) a }) ∧ (e = { f with eng := { f.eng with nextJob := f.eng.nextJob + 1 } }) ∧ (readStatus a = 0) ∧ ((g.ring (100 + q)).aborting = false) ∧ ((g.ring (100 + q)).disabling = false) ∧ (e.dmaOk x = false)) ∧
    (∃ (d : Device) (q : Nat) (n : Nat) (c : Instr) (fill : _), (d.hubUp = true) ∧ (q < 4) ∧ ((c = .copy q n ∧ fill = false) ∨ (c = .fill q n ∧ fill = true)) ∧ (d.enginesHeld = true ∨ d.dmaFront (100 + q) = none)) ∧
    (∃ (d : Device) (q : Nat) (n : Nat) (c : Instr) (fill : _) (x : DmaRun), (d.hubUp = true) ∧ (q < 4) ∧ ((c = .copy q n ∧ fill = false) ∨ (c = .fill q n ∧ fill = true)) ∧ (d.dmaFront (100 + q) = some x) ∧ (x.fill ≠ fill ∨ (x.busy = false ∧ d.dmaTurn q = false))) ∧
    (∃ (d : Device) (q : Nat) (n : Nat) (c : Instr) (fill : _) (x : DmaRun), (d.hubUp = true) ∧ (q < 4) ∧ ((c = .copy q n ∧ fill = false) ∨ (c = .fill q n ∧ fill = true)) ∧ (d.dmaFront (100 + q) = some x) ∧ (d.enginesHeld = false) ∧ (0 < n) ∧ (x.fill = fill) ∧ (x.busy = true)) ∧
    (∃ (d : Device) (q : Nat) (n : Nat) (c : Instr) (fill : _) (x : DmaRun), (d.hubUp = true) ∧ (q < 4) ∧ ((c = .copy q n ∧ fill = false) ∨ (c = .fill q n ∧ fill = true)) ∧ (d.dmaFront (100 + q) = some x) ∧ (d.enginesHeld = false) ∧ (0 < n) ∧ (x.fill = fill) ∧ (x.busy = false) ∧ (d.dmaTurn q = true)) ∧
    (∃ (d : Device) (q : Nat) (r : Nat) (e : Device), (d.hubUp = true) ∧ (q < 4) ∧ (e.dmaFront r = none)) ∧
    (∃ (d : Device) (q : Nat) (r : Nat) (e : Device) (x : DmaRun) (y : DmaRun) (g : Device), (d.hubUp = true) ∧ (q < 4) ∧ (e.dmaFront r = some x) ∧ (y = { x with busy := true }) ∧ (x.phase ≠ 0) ∧ (g = (e.takeInbox 3 x.id).1) ∧ ((e.takeInbox 3 x.id).2 = [])) ∧
    (∃ (d : Device) (q : Nat) (r : Nat) (e : Device) (x : DmaRun) (y : DmaRun) (g : Device) (a : EngineAnswer) (as : List EngineAnswer), (d.hubUp = true) ∧ (q < 4) ∧ (e.dmaFront r = some x) ∧ (y = { x with busy := true }) ∧ (x.phase ≠ 0) ∧ (g = (e.takeInbox 3 x.id).1) ∧ ((e.takeInbox 3 x.id).2 = a :: as)) ∧
    (∃ (d : Device) (q : Nat) (r : Nat) (e : Device) (x : DmaRun) (y : DmaRun), (d.hubUp = true) ∧ (q < 4) ∧ (e.dmaFront r = some x) ∧ (y = { x with busy := true }) ∧ (x.phase = 0) ∧ (x.stop.isSome = true) ∧ (x.got = [])) ∧
    (∃ (d : Device) (q : Nat) (r : Nat) (e : Device) (x : DmaRun) (y : DmaRun), (d.hubUp = true) ∧ (q < 4) ∧ (e.dmaFront r = some x) ∧ (y = { x with busy := true }) ∧ (x.phase = 0) ∧ (x.stop = none ∨ x.got ≠ []) ∧ (x.got = [] ∨ (x.dstSpace ≠ 3 ∧ x.got.length < x.chunk ∧ (x.dstSpace = 1 ∧ y.endsShort = true → False)))) ∧
    (∃ (d : Device) (q : Nat) (r : Nat) (e : Device) (x : DmaRun) (y : DmaRun), (d.hubUp = true) ∧ (q < 4) ∧ (e.dmaFront r = some x) ∧ (y = { x with busy := true }) ∧ (x.phase = 0) ∧ (x.stop = none ∨ x.got ≠ []) ∧ (x.got ≠ []) ∧ ((x.dstSpace = 3 ∨ x.chunk ≤ x.got.length ∨ (x.dstSpace = 1 ∧ y.endsShort = true)))) ∧
    (∃ (d : Device) (q : Nat) (x : DmaRun) (a : Nat), (d.hubUp = true) ∧ (q < 4) ∧ (a = x.src + x.moved + x.got.length) ∧ (x.fill = true)) ∧
    (∃ (d : Device) (q : Nat) (x : DmaRun) (a : Nat), (d.hubUp = true) ∧ (q < 4) ∧ (a = x.src + x.moved + x.got.length) ∧ (x.fill = false) ∧ (x.srcSpace = 0)) ∧
    (∃ (d : Device) (q : Nat) (x : DmaRun) (a : Nat), (d.hubUp = true) ∧ (q < 4) ∧ (a = x.src + x.moved + x.got.length) ∧ (x.fill = false) ∧ (x.srcSpace = 1)) ∧
    (∃ (d : Device) (q : Nat) (x : DmaRun) (a : Nat) (m : Nat), (d.hubUp = true) ∧ (q < 4) ∧ (a = x.src + x.moved + x.got.length) ∧ (x.fill = false) ∧ (x.srcSpace = 2) ∧ (d.rawBlocked a = some m)) ∧
    (∃ (d : Device) (q : Nat) (x : DmaRun) (a : Nat), (d.hubUp = true) ∧ (q < 4) ∧ (a = x.src + x.moved + x.got.length) ∧ (x.fill = false) ∧ (x.srcSpace = 2) ∧ (d.rawBlocked a = none) ∧ (d.rawServes a = false)) ∧
    (∃ (d : Device) (q : Nat) (x : DmaRun) (a : Nat) (e : Device) (v : Line) (p : Bool), (d.hubUp = true) ∧ (q < 4) ∧ (a = x.src + x.moved + x.got.length) ∧ (x.fill = false) ∧ (x.srcSpace = 2) ∧ (d.rawBlocked a = none) ∧ (d.rawServes a = true) ∧ (d.dmaRaw (d.ringClass x.ring) a = (e, v, p))) ∧
    (∃ (d : Device) (q : Nat) (x : DmaRun) (a : Nat) (e : Device) (v : Nat), (d.hubUp = true) ∧ (q < 4) ∧ (a = x.src + x.moved + x.got.length) ∧ (x.fill = false) ∧ (x.srcSpace = 3) ∧ (d.readReg (.dma (x.ring % 100)) a = (e, v))) ∧
    (∃ (d : Device) (q : Nat) (e : Device), (d.hubUp = true) ∧ (q < 4) ∧ (e.dmaFront (100 + q) = none)) ∧
    (∃ (d : Device) (q : Nat) (e : Device) (x : DmaRun), (d.hubUp = true) ∧ (q < 4) ∧ (e.dmaFront (100 + q) = some x) ∧ (x.stop = none ∨ x.phase ≠ 0 ∨ x.got ≠ [])) ∧
    (∃ (d : Device) (q : Nat) (e : Device) (x : DmaRun) (st : Nat), (d.hubUp = true) ∧ (q < 4) ∧ (e.dmaFront (100 + q) = some x) ∧ (x.stop = some st) ∧ (x.phase = 0) ∧ (x.got = [])) :=
  ⟨⟨D0, 3, by decide +kernel, by decide +kernel, by decide +kernel⟩,
   ⟨dqD 1 0 {}, 3, (dqD 1 0 {}).takeInbox 2 103 |>.1, _, _, by decide +kernel, by decide +kernel, rfl, by decide +kernel⟩,
   ⟨dqD 1 3 { state := 1 }, 3, (dqD 1 3 { state := 1 }).takeInbox 2 103 |>.1, _, _, _, _, _, by decide +kernel, by decide +kernel, rfl, by decide +kernel, rfl, rfl, rfl, by decide +kernel⟩,
   ⟨dqD 1 0 { state := 1, disabling := true }, 3, (dqD 1 0 { state := 1, disabling := true }).takeInbox 2 103 |>.1, _, _, _, _, _, by decide +kernel, by decide +kernel, rfl, by decide +kernel, rfl, rfl, rfl, by decide +kernel, .inr rfl⟩,
   ⟨dqD 1 0 { state := 1 }, 3, (dqD 1 0 { state := 1 }).takeInbox 2 103 |>.1, _, _, _, _, _, by decide +kernel, by decide +kernel, rfl, by decide +kernel, rfl, rfl, rfl, by decide +kernel, by decide +kernel, by decide +kernel, by decide +kernel⟩,
   ⟨dqD 3 0 { state := 1 }, 3, (dqD 3 0 { state := 1 }).takeInbox 2 103 |>.1, _, _, _, _, _, by decide +kernel, by decide +kernel, rfl, by decide +kernel, rfl, rfl, rfl, by decide +kernel, by decide +kernel, by decide +kernel, by decide +kernel⟩,
   ⟨{ D0 with twin := { held500 := true } }, 3, 1, .copy 3 1, false, by decide +kernel, by decide +kernel, by decide +kernel, by decide +kernel⟩,
   ⟨dmaD 1, 3, 1, .fill 3 1, true, _, by decide +kernel, by decide +kernel, by decide +kernel, rfl, by decide +kernel⟩,
   ⟨{ D0 with eng := { dma := [{ id := 1, ring := 103, desc := dmaDesc 1, busy := true }] } }, 3, 1, .copy 3 1, false, _, by decide +kernel, by decide +kernel, by decide +kernel, rfl, by decide +kernel, by decide +kernel, by decide +kernel, by decide +kernel⟩,
   ⟨dmaD 2, 3, 1, .fill 3 1, true, _, by decide +kernel, by decide +kernel, by decide +kernel, rfl, by decide +kernel, by decide +kernel, by decide +kernel, by decide +kernel, by decide +kernel⟩,
   ⟨D0, 3, 103, D0, by decide +kernel, by decide +kernel, by decide +kernel⟩,
   ⟨D0, 3, 103, runE { phase := 1 }, _, _, _, by decide +kernel, by decide +kernel, rfl, rfl, by decide +kernel, rfl, by decide +kernel⟩,
   ⟨D0, 3, 103, { runE { phase := 1 } with eng := { (runE { phase := 1 }).eng with inbox := [{ kind := 3, q := 1, qla := 0, status := 0 }] } }, _, _, _, _, _, by decide +kernel, by decide +kernel, rfl, rfl, by decide +kernel, rfl, rfl⟩,
   ⟨D0, 3, 103, runE { stop := some 4 }, _, _, by decide +kernel, by decide +kernel, rfl, rfl, by decide +kernel, by decide +kernel, by decide +kernel⟩,
   ⟨D0, 3, 103, runE {}, _, _, by decide +kernel, by decide +kernel, rfl, rfl, by decide +kernel, .inl rfl, .inl rfl⟩,
   ⟨D0, 3, 103, runE { got := List.replicate 64 0 }, _, _, by decide +kernel, by decide +kernel, rfl, rfl, by decide +kernel, .inl rfl, by decide +kernel, by decide +kernel⟩,
   ⟨D0, 3, { id := 1, ring := 103, desc := dmaDesc 2 }, _, by decide +kernel, by decide +kernel, rfl, by decide +kernel⟩,
   ⟨D0, 3, { id := 1, ring := 103, desc := dmaDesc 1 }, _, by decide +kernel, by decide +kernel, rfl, by decide +kernel, by decide +kernel⟩,
   ⟨D0, 3, { id := 1, ring := 103, desc := dmaDesc' 1 }, _, by decide +kernel, by decide +kernel, rfl, by decide +kernel, by decide +kernel⟩,
   ⟨D0, 3, { id := 1, ring := 103, desc := dmaDesc' 2 }, _, 3, by decide +kernel, by decide +kernel, rfl, by decide +kernel, by decide +kernel, by decide +kernel⟩,
   ⟨D0.setReg FWSEC.DBG_STAT.SCOPE 3, 3, { id := 1, ring := 103, desc := dmaDesc' 2 }, _, by decide +kernel, by decide +kernel, rfl, by decide +kernel, by decide +kernel, by decide +kernel, by decide +kernel⟩,
   ⟨{ D0.setReg FWSEC.DBG_STAT.SCOPE 3 with chans := (List.range 16).map (fun k => (k, { state := .active })) }, 3, { id := 1, ring := 103, desc := dmaDesc' 2 }, _, _, _, _, by decide +kernel, by decide +kernel, rfl, by decide +kernel, by decide +kernel, by decide +kernel, by decide +kernel, rfl⟩,
   ⟨D0, 3, { id := 1, ring := 103, desc := dmaDesc' 3 }, _, _, _, by decide +kernel, by decide +kernel, rfl, by decide +kernel, by decide +kernel, rfl⟩,
   ⟨D0, 3, D0, by decide +kernel, by decide +kernel, by decide +kernel⟩,
   ⟨D0, 3, dmaD 1, _, by decide +kernel, by decide +kernel, rfl, .inl rfl⟩,
   ⟨D0, 3, { D0 with eng := { dma := [{ id := 1, ring := 103, desc := dmaDesc 1, stop := some 4 }] } }, _, 4, by decide +kernel, by decide +kernel, rfl, by decide +kernel, by decide +kernel, by decide +kernel⟩⟩

theorem witness_FramesSweepsAndMigrations :
    (∃ (d : Device) (lpn : Nat), (d.frame lpn = none)) ∧
    (∃ (d : Device) (lpn : Nat) (f : Frame), (d.frame lpn = some f) ∧ (f.snap = none) ∧ ((f.lines.keep (fun _ t => t.dirty)).isEmpty = true)) ∧
    (∃ (d : Device) (lpn : Nat) (f : Frame), (d.frame lpn = some f) ∧ (f.snap = none) ∧ ((f.lines.keep (fun _ t => t.dirty)).isEmpty = false)) ∧
    (∃ (d : Device) (lpn : Nat) (f : Frame) (snap : KMap T0Line) (bake : Bool) (hand : _) (carry : _), (d.frame lpn = some f) ∧ (f.snap = some snap) ∧ (bake = (bakes (d.loaf lpn) (d.loafPolicy lpn).1 (d.loafPolicy lpn).2 && !(snap.any (fun e => e.2.poison)))) ∧ (hand = d.handOf lpn f snap) ∧ (carry = (fun q => bake && !((List.range 16).any (fun i => (KMap.find snap (16 * q + i)).isSome)))) ∧ (d.writebackWaits lpn hand = true)) ∧
    (∃ (d : Device) (lpn : Nat) (f : Frame) (snap : KMap T0Line) (bake : Bool) (hand : _) (carry : _), (d.frame lpn = some f) ∧ (f.snap = some snap) ∧ (bake = (bakes (d.loaf lpn) (d.loafPolicy lpn).1 (d.loafPolicy lpn).2 && !(snap.any (fun e => e.2.poison)))) ∧ (hand = d.handOf lpn f snap) ∧ (carry = (fun q => bake && !((List.range 16).any (fun i => (KMap.find snap (16 * q + i)).isSome)))) ∧ (d.writebackWaits lpn hand = false) ∧ (d.twinServes = true) ∧ ((d.outLines lpn hand carry).isEmpty = false)) ∧
    (∃ (d : Device) (lpn : Nat) (f : Frame) (snap : KMap T0Line) (bake : Bool) (hand : _) (carry : _) (e : Device) (r : LoafRec), (d.frame lpn = some f) ∧ (f.snap = some snap) ∧ (bake = (bakes (d.loaf lpn) (d.loafPolicy lpn).1 (d.loafPolicy lpn).2 && !(snap.any (fun e => e.2.poison)))) ∧ (hand = d.handOf lpn f snap) ∧ (carry = (fun q => bake && !((List.range 16).any (fun i => (KMap.find snap (16 * q + i)).isSome)))) ∧ (d.writebackWaits lpn hand = false) ∧ (d.twinServes = false ∨ (d.outLines lpn hand carry).isEmpty = true) ∧ (e = (d.cancelMigration lpn).touchRecord lpn f.cls) ∧ (r = e.loaf lpn) ∧ (r.plain = true) ∧ (bake = false) ∧ (e.snapServes r snap = true)) ∧
    (∃ (d : Device) (lpn : Nat) (f : Frame) (snap : KMap T0Line) (bad : Option Nat) (bake : Bool) (hand : _) (carry : _) (e : Device) (r : LoafRec) (g : Device) (qs : List QuarterSrc) (n : Nat) (p : Plan), (d.frame lpn = some f) ∧ (f.snap = some snap) ∧ (bake = (bakes (d.loaf lpn) (d.loafPolicy lpn).1 (d.loafPolicy lpn).2 && !(snap.any (fun e => e.2.poison)))) ∧ (hand = d.handOf lpn f snap) ∧ (carry = (fun q => bake && !((List.range 16).any (fun i => (KMap.find snap (16 * q + i)).isSome)))) ∧ (d.writebackWaits lpn hand = false) ∧ (d.twinServes = false ∨ (d.outLines lpn hand carry).isEmpty = true) ∧ (e = (d.cancelMigration lpn).touchRecord lpn f.cls) ∧ (r = e.loaf lpn) ∧ (r.plain = false ∨ bake = true ∨ e.snapServes r snap = false) ∧ (e.gather lpn f.cls r bake hand (fun i => (KMap.find snap i).isSome) = (g, qs, n)) ∧ (planWriteback r (d.loafPolicy lpn).1 (d.loafPolicy lpn).2 qs = p) ∧ ((p = .zero ∨ ∃ s q, p = .baked s q)) ∧ (bad = none)) ∧
    (∃ (d : Device) (lpn : Nat) (f : Frame) (snap : KMap T0Line) (bad : Option Nat) (bake : Bool) (hand : _) (carry : _) (e : Device) (r : LoafRec) (g : Device) (qs : List QuarterSrc) (n : Nat) (p : Plan) (x : _), (d.frame lpn = some f) ∧ (f.snap = some snap) ∧ (bake = (bakes (d.loaf lpn) (d.loafPolicy lpn).1 (d.loafPolicy lpn).2 && !(snap.any (fun e => e.2.poison)))) ∧ (hand = d.handOf lpn f snap) ∧ (carry = (fun q => bake && !((List.range 16).any (fun i => (KMap.find snap (16 * q + i)).isSome)))) ∧ (d.writebackWaits lpn hand = false) ∧ (d.twinServes = false ∨ (d.outLines lpn hand carry).isEmpty = true) ∧ (e = (d.cancelMigration lpn).touchRecord lpn f.cls) ∧ (r = e.loaf lpn) ∧ (r.plain = false ∨ bake = true ∨ e.snapServes r snap = false) ∧ (e.gather lpn f.cls r bake hand (fun i => (KMap.find snap i).isSome) = (g, qs, n)) ∧ (planWriteback r (d.loafPolicy lpn).1 (d.loafPolicy lpn).2 qs = p) ∧ ((p = .zero ∨ ∃ s q, p = .baked s q)) ∧ (bad = some x)) ∧
    (∃ (d : Device) (lpn : Nat) (f : Frame) (snap : KMap T0Line) (bake : Bool) (hand : _) (carry : _) (e : Device) (r : LoafRec) (g : Device) (qs : List QuarterSrc) (n : Nat), (d.frame lpn = some f) ∧ (f.snap = some snap) ∧ (bake = (bakes (d.loaf lpn) (d.loafPolicy lpn).1 (d.loafPolicy lpn).2 && !(snap.any (fun e => e.2.poison)))) ∧ (hand = d.handOf lpn f snap) ∧ (carry = (fun q => bake && !((List.range 16).any (fun i => (KMap.find snap (16 * q + i)).isSome)))) ∧ (d.writebackWaits lpn hand = false) ∧ (d.twinServes = false ∨ (d.outLines lpn hand carry).isEmpty = true) ∧ (e = (d.cancelMigration lpn).touchRecord lpn f.cls) ∧ (r = e.loaf lpn) ∧ (r.plain = false ∨ bake = true ∨ e.snapServes r snap = false) ∧ (e.gather lpn f.cls r bake hand (fun i => (KMap.find snap i).isSome) = (g, qs, n)) ∧ (planWriteback r (d.loafPolicy lpn).1 (d.loafPolicy lpn).2 qs = .plain) ∧ (r.plain = true) ∧ (e.snapServes r snap = true)) ∧
    (∃ (d : Device) (lpn : Nat) (f : Frame) (snap : KMap T0Line) (bake : Bool) (hand : _) (carry : _) (e : Device) (r : LoafRec) (g : Device) (qs : List QuarterSrc) (n : Nat), (d.frame lpn = some f) ∧ (f.snap = some snap) ∧ (bake = (bakes (d.loaf lpn) (d.loafPolicy lpn).1 (d.loafPolicy lpn).2 && !(snap.any (fun e => e.2.poison)))) ∧ (hand = d.handOf lpn f snap) ∧ (carry = (fun q => bake && !((List.range 16).any (fun i => (KMap.find snap (16 * q + i)).isSome)))) ∧ (d.writebackWaits lpn hand = false) ∧ (d.twinServes = false ∨ (d.outLines lpn hand carry).isEmpty = true) ∧ (e = (d.cancelMigration lpn).touchRecord lpn f.cls) ∧ (r = e.loaf lpn) ∧ (r.plain = false ∨ bake = true ∨ e.snapServes r snap = false) ∧ (e.gather lpn f.cls r bake hand (fun i => (KMap.find snap i).isSome) = (g, qs, n)) ∧ (planWriteback r (d.loafPolicy lpn).1 (d.loafPolicy lpn).2 qs = .plain) ∧ (r.plain = false ∨ e.snapServes r snap = false)) ∧
    (∃ (d : Device), (d.flagReg BAKER.BAKER_CTL.RUN = true) ∧ (d.paused = false) ∧ (d.tier.sweeping = false)) ∧
    (∃ (d : Device), (d.flagReg BAKER.BAKER_CTL.RUN = true) ∧ (d.paused = false) ∧ (d.tier.sweeping = true) ∧ (d.tier.sweepDue = true)) ∧
    (∃ (d : Device), (d.flagReg BAKER.BAKER_CTL.RUN = true) ∧ (d.paused = false) ∧ (d.tier.sweeping = true) ∧ (d.tier.sweepDue = false)) ∧
    (∃ (d : Device), (d.flagReg BAKER.BAKER_CTL.RUN = false ∨ d.paused = true)) ∧
    (∃ (d : Device) (lpn : Nat), (d.flagReg BAKER.BAKER_CTL.RUN = false ∨ d.paused = true ∨ d.tier.migrations.any (fun m => m.lpn == lpn) = true ∨ 32 ≤ d.tier.migrations.length ∨ d.tier.sweepSkip.contains lpn = true ∨ d.homesLoaf lpn = false ∨ d.regionOfLine (64 * lpn) = none)) ∧
    (∃ (d : Device) (lpn : Nat) (g : Region) (i : Nat) (e : Device) (k : MigKind), (d.flagReg BAKER.BAKER_CTL.RUN = true) ∧ (d.paused = false) ∧ (d.tier.migrations.any (fun m => m.lpn == lpn) = false) ∧ (d.tier.migrations.length < 32) ∧ (d.tier.sweepSkip.contains lpn = false) ∧ (d.homesLoaf lpn = true) ∧ (d.regionOfLine (64 * lpn) = some (i, g)) ∧ (e = d.touchRecord lpn (d.reg BAKER.BAKER_CTL.CLASS)) ∧ ((e.bakeCandidate lpn g = true ∧ k = .bake) ∨ (e.bakeCandidate lpn g = false ∧ e.mayPromote lpn = true ∧ k = .promote) ∨ (e.bakeCandidate lpn g = false ∧ e.mayPromote lpn = false ∧ e.mayRelocate lpn = true ∧ k = .relocate)) ∧ (e.twinServes = true) ∧ ((e.migLines lpn k).isEmpty = false)) ∧
    (∃ (d : Device) (lpn : Nat) (g : Region) (i : Nat) (e : Device) (k : MigKind), (d.flagReg BAKER.BAKER_CTL.RUN = true) ∧ (d.paused = false) ∧ (d.tier.migrations.any (fun m => m.lpn == lpn) = false) ∧ (d.tier.migrations.length < 32) ∧ (d.tier.sweepSkip.contains lpn = false) ∧ (d.homesLoaf lpn = true) ∧ (d.regionOfLine (64 * lpn) = some (i, g)) ∧ (e = d.touchRecord lpn (d.reg BAKER.BAKER_CTL.CLASS)) ∧ ((e.bakeCandidate lpn g = true ∧ k = .bake) ∨ (e.bakeCandidate lpn g = false ∧ e.mayPromote lpn = true ∧ k = .promote) ∨ (e.bakeCandidate lpn g = false ∧ e.mayPromote lpn = false ∧ e.mayRelocate lpn = true ∧ k = .relocate)) ∧ (e.twinServes = false ∨ (e.migLines lpn k).isEmpty = true)) ∧
    (∃ (d : Device) (lpn : Nat) (g : Region) (i : Nat) (e : Device), (d.flagReg BAKER.BAKER_CTL.RUN = true) ∧ (d.paused = false) ∧ (d.tier.migrations.any (fun m => m.lpn == lpn) = false) ∧ (d.tier.migrations.length < 32) ∧ (d.tier.sweepSkip.contains lpn = false) ∧ (d.homesLoaf lpn = true) ∧ (d.regionOfLine (64 * lpn) = some (i, g)) ∧ (e = d.touchRecord lpn (d.reg BAKER.BAKER_CTL.CLASS)) ∧ (e.bakeCandidate lpn g = false) ∧ (e.mayPromote lpn = false) ∧ (e.mayRelocate lpn = false)) ∧
    (∃ (d : Device) (lpn : Nat) (k : MigKind) (r : LoafRec) (e : Device) (qs : List QuarterSrc) (n : Nat), (d.gather lpn (d.reg BAKER.BAKER_CTL.CLASS) r (k == .relocate) (fun i => KMap.find d.tier.fetched (64 * lpn + i)) (fun _ => false) = (e, qs, n)) ∧ ((k == .promote && qs.any QuarterSrc.corrupt) = true)) ∧
    (∃ (d : Device) (lpn : Nat) (k : MigKind) (r : LoafRec) (e : Device) (qs : List QuarterSrc) (n : Nat), (d.gather lpn (d.reg BAKER.BAKER_CTL.CLASS) r (k == .relocate) (fun i => KMap.find d.tier.fetched (64 * lpn + i)) (fun _ => false) = (e, qs, n)) ∧ ((k == .promote && qs.any QuarterSrc.corrupt) = false) ∧ (d.loafHurt r = true)) ∧
    (∃ (d : Device) (lpn : Nat) (k : MigKind) (r : LoafRec) (e : Device) (qs : List QuarterSrc) (n : Nat) (cls : _), (d.gather lpn (d.reg BAKER.BAKER_CTL.CLASS) r (k == .relocate) (fun i => KMap.find d.tier.fetched (64 * lpn + i)) (fun _ => false) = (e, qs, n)) ∧ ((k == .promote && qs.any QuarterSrc.corrupt) = false) ∧ (d.loafHurt r = false) ∧ (cls = e.reg BAKER.BAKER_CTL.CLASS) ∧ (qs.any QuarterSrc.poisoned = true)) ∧
    (∃ (d : Device) (lpn : Nat) (k : MigKind) (r : LoafRec) (e : Device) (qs : List QuarterSrc) (n : Nat) (cls : _), (d.gather lpn (d.reg BAKER.BAKER_CTL.CLASS) r (k == .relocate) (fun i => KMap.find d.tier.fetched (64 * lpn + i)) (fun _ => false) = (e, qs, n)) ∧ ((k == .promote && qs.any QuarterSrc.corrupt) = false) ∧ (d.loafHurt r = false) ∧ (cls = e.reg BAKER.BAKER_CTL.CLASS) ∧ (qs.any QuarterSrc.poisoned = false) ∧ (k = .promote)) ∧
    (∃ (d : Device) (lpn : Nat) (k : MigKind) (r : LoafRec) (e : Device) (qs : List QuarterSrc) (n : Nat) (cls : _), (d.gather lpn (d.reg BAKER.BAKER_CTL.CLASS) r (k == .relocate) (fun i => KMap.find d.tier.fetched (64 * lpn + i)) (fun _ => false) = (e, qs, n)) ∧ ((k == .promote && qs.any QuarterSrc.corrupt) = false) ∧ (d.loafHurt r = false) ∧ (cls = e.reg BAKER.BAKER_CTL.CLASS) ∧ (qs.any QuarterSrc.poisoned = false) ∧ (k ≠ .promote)) ∧
    (∃ (d : Device) (lpn : Nat) (m : Migration), (d.tier.migrations.find? (fun m => m.lpn == lpn) = some m) ∧ (m.waiting.isSome = true) ∧ (d.mirrored lpn = true)) ∧
    (∃ (d : Device) (lpn : Nat) (m : Migration), (d.tier.migrations.find? (fun m => m.lpn == lpn) = some m) ∧ (m.waiting = none ∨ d.mirrored lpn = false) ∧ (m.kind = .bake)) ∧
    (∃ (d : Device) (lpn : Nat) (m : Migration), (d.tier.migrations.find? (fun m => m.lpn == lpn) = some m) ∧ (m.waiting = none ∨ d.mirrored lpn = false) ∧ (m.kind = .promote)) ∧
    (∃ (d : Device) (lpn : Nat) (m : Migration), (d.tier.migrations.find? (fun m => m.lpn == lpn) = some m) ∧ (m.waiting = none ∨ d.mirrored lpn = false) ∧ (m.kind = .relocate)) ∧
    (∃ (d : Device) (lpn : Nat), (d.tier.migrations.find? (fun m => m.lpn == lpn) = none)) :=
  ⟨⟨D0, 5, by decide +kernel⟩,
   ⟨{ D0 with tier := { frames := [(5, { lines := [(3, { data := 1 })] })] } }, 5, _, rfl, rfl, by decide +kernel⟩,
   ⟨{ D0 with tier := { frames := [(5, { lines := [(3, { data := 1, dirty := true })] })] } }, 5, _, rfl, rfl, by decide +kernel⟩,
   ⟨{ frameD true 0 0 { snap := some [] } with chans := (List.range 16).map (fun k => (k, { state := .failed })) }, 0, _, [], _, _, _, rfl, rfl, rfl, rfl, rfl, by decide +kernel⟩,
   ⟨{ frameD true 0 0 { snap := some [] } with twin := { svc := .solo, twinSvc := .solo } }, 0, _, [], _, _, _, rfl, rfl, rfl, rfl, rfl, by decide +kernel, by decide +kernel, by decide +kernel⟩,
   ⟨frameD true 0 0 { snap := some [] }, 0, _, [], _, _, _, _, _, rfl, rfl, rfl, rfl, rfl, by decide +kernel, by decide +kernel, rfl, rfl, by decide +kernel, by decide +kernel, by decide +kernel⟩,
   ⟨frameD false 1 0 { snap := some [] }, 0, _, [], none, true, _, _, _, _, (frameX (frameD false 1 0 { snap := some [] }) true { snap := some [] }).1, (frameX (frameD false 1 0 { snap := some [] }) true { snap := some [] }).2.1, (frameX (frameD false 1 0 { snap := some [] }) true { snap := some [] }).2.2, .zero, rfl, rfl, by decide +kernel, rfl, rfl, by decide +kernel, by decide +kernel, rfl, rfl, by decide +kernel, triple_eta (frameX (frameD false 1 0 { snap := some [] }) true { snap := some [] }), by decide +kernel, .inl rfl, by decide +kernel⟩,
   ⟨frameD false 1 0 { snap := some [] }, 0, _, [], some 15, true, _, _, _, _, (frameX (frameD false 1 0 { snap := some [] }) true { snap := some [] }).1, (frameX (frameD false 1 0 { snap := some [] }) true { snap := some [] }).2.1, (frameX (frameD false 1 0 { snap := some [] }) true { snap := some [] }).2.2, .zero, 15, rfl, rfl, by decide +kernel, rfl, rfl, by decide +kernel, by decide +kernel, rfl, rfl, by decide +kernel, triple_eta (frameX (frameD false 1 0 { snap := some [] }) true { snap := some [] }), by decide +kernel, .inl rfl, by decide +kernel⟩,
   ⟨poisD, 0, _, [], true, _, _, _, _, (frameX poisD true { snap := some [] }).1, (frameX poisD true { snap := some [] }).2.1, (frameX poisD true { snap := some [] }).2.2, rfl, rfl, by decide +kernel, rfl, rfl, by decide +kernel, by decide +kernel, rfl, rfl, by decide +kernel, triple_eta (frameX poisD true { snap := some [] }), by decide +kernel, by decide +kernel, by decide +kernel⟩,
   ⟨frameD false 0 0 { snap := some [] }, 0, _, [], false, _, _, _, _, (frameX (frameD false 0 0 { snap := some [] }) false { snap := some [] }).1, (frameX (frameD false 0 0 { snap := some [] }) false { snap := some [] }).2.1, (frameX (frameD false 0 0 { snap := some [] }) false { snap := some [] }).2.2, rfl, rfl, by decide +kernel, rfl, rfl, by decide +kernel, by decide +kernel, rfl, rfl, by decide +kernel, triple_eta (frameX (frameD false 0 0 { snap := some [] }) false { snap := some [] }), by decide +kernel, by decide +kernel⟩,
   ⟨runD, by decide +kernel, rfl, by decide +kernel⟩,
   ⟨{ runD with tier := { sweeping := true, sweepDue := true } }, by decide +kernel, by decide +kernel, by decide +kernel, by decide +kernel⟩,
   ⟨{ runD with tier := { sweeping := true } }, by decide +kernel, by decide +kernel, by decide +kernel, by decide +kernel⟩,
   ⟨D0.setReg BAKER.BAKER_CTL.RUN 0, by decide +kernel⟩,
   ⟨D0.setReg BAKER.BAKER_CTL.RUN 0, 0, by decide +kernel⟩,
   ⟨{ bakeD with twin := { svc := .solo, twinSvc := .solo } }, 0, rgn0, 2, _, .bake, by decide +kernel, rfl, by decide +kernel, by decide +kernel, by decide +kernel, by decide +kernel, by decide +kernel, rfl, .inl ⟨by decide +kernel, rfl⟩, by decide +kernel, by decide +kernel⟩,
   ⟨bakeD, 0, rgn0, 2, _, .bake, by decide +kernel, rfl, by decide +kernel, by decide +kernel, by decide +kernel, by decide +kernel, by decide +kernel, rfl, .inl ⟨by decide +kernel, rfl⟩, by decide +kernel⟩,
   ⟨{ bakeD with tier := { heat := [(0, 5)] } }, 0, rgn0, 2, _, by decide +kernel, rfl, by decide +kernel, by decide +kernel, by decide +kernel, by decide +kernel, by decide +kernel, rfl, by decide +kernel, by decide +kernel, by decide +kernel⟩,
   ⟨bakeD, 0, .promote, { zeroRec with qend := [0, 0, 0] }, (migX bakeD .promote { zeroRec with qend := [0, 0, 0] }).1, (migX bakeD .promote { zeroRec with qend := [0, 0, 0] }).2.1, (migX bakeD .promote { zeroRec with qend := [0, 0, 0] }).2.2, triple_eta (migX bakeD .promote { zeroRec with qend := [0, 0, 0] }), by decide +kernel⟩,
   ⟨{ bakeD with integ := { errs := [(0, [1, 2, 3])] } }, 0, .bake, bakeD.loaf 0, (migX { bakeD with integ := { errs := [(0, [1, 2, 3])] } } .bake (bakeD.loaf 0)).1, (migX { bakeD with integ := { errs := [(0, [1, 2, 3])] } } .bake (bakeD.loaf 0)).2.1, (migX { bakeD with integ := { errs := [(0, [1, 2, 3])] } } .bake (bakeD.loaf 0)).2.2, triple_eta (migX { bakeD with integ := { errs := [(0, [1, 2, 3])] } } .bake (bakeD.loaf 0)), by decide +kernel, by decide +kernel⟩,
   ⟨{ bakeD with tier := { fetched := [(0, { data := 0, poison := true })] } }, 0, .bake, bakeD.loaf 0, (migX { bakeD with tier := { fetched := [(0, { data := 0, poison := true })] } } .bake (bakeD.loaf 0)).1, (migX { bakeD with tier := { fetched := [(0, { data := 0, poison := true })] } } .bake (bakeD.loaf 0)).2.1, (migX { bakeD with tier := { fetched := [(0, { data := 0, poison := true })] } } .bake (bakeD.loaf 0)).2.2, _, triple_eta (migX { bakeD with tier := { fetched := [(0, { data := 0, poison := true })] } } .bake (bakeD.loaf 0)), by decide +kernel, by decide +kernel, rfl, by decide +kernel⟩,
   ⟨bakeD, 0, .promote, zeroRec, (migX bakeD .promote zeroRec).1, (migX bakeD .promote zeroRec).2.1, (migX bakeD .promote zeroRec).2.2, _, triple_eta (migX bakeD .promote zeroRec), by decide +kernel, by decide +kernel, rfl, by decide +kernel, by decide +kernel⟩,
   ⟨bakeD, 0, .bake, bakeD.loaf 0, (migX bakeD .bake (bakeD.loaf 0)).1, (migX bakeD .bake (bakeD.loaf 0)).2.1, (migX bakeD .bake (bakeD.loaf 0)).2.2, _, triple_eta (migX bakeD .bake (bakeD.loaf 0)), by decide +kernel, by decide +kernel, rfl, by decide +kernel, by decide +kernel⟩,
   ⟨{ migD .bake (some (0, 1)) with twin := { svc := .paired } }, 5, _, rfl, rfl, by decide +kernel⟩,
   ⟨migD .bake none, 5, _, rfl, .inl rfl, by decide +kernel⟩,
   ⟨migD .promote none, 5, _, rfl, .inl rfl, by decide +kernel⟩,
   ⟨migD .relocate none, 5, _, rfl, .inl rfl, by decide +kernel⟩,
   ⟨D0, 0, by decide +kernel⟩⟩

theorem witness_PoolAudit :
    (∃ (d : Device), (d.flagReg TIER.AUDIT_CMD.BUSY = true)) ∧
    (∃ (d : Device), (d.flagReg TIER.AUDIT_CMD.BUSY = false)) :=
  ⟨⟨D0.setReg TIER.AUDIT_CMD.BUSY 1, by decide +kernel⟩,
   ⟨D0, by decide +kernel⟩⟩

theorem witness_AdmissionAndDemotion :
    (∃ (d : Device), (d.qos.applying = true) ∧ ((d.admission d.stagedTable d.qos.applyFigs).1 = 0)) ∧
    (∃ (d : Device), (d.qos.applying = true) ∧ ((d.admission d.stagedTable d.qos.applyFigs).1 ≠ 0)) ∧
    (∃ (d : Device), (d.qos.applying = true) ∧ (d.qos.recompDue = false)) ∧
    (∃ (d : Device), (d.qos.applying = true) ∧ (d.qos.recompDue = true)) ∧
    (∃ (d : Device) (f : Device), (d.qos.applying = false) ∧ ((List.range 3).all (fun r => decide (d.figures.getD r 0 ≤ d.qos.figs.getD r 0)) = true ∨ f.flagReg QOS.ADMIT_CTL.AUTO_RESTORE = false)) ∧
    (∃ (d : Device) (f : Device) (r : Nat), (d.qos.applying = false) ∧ ((List.range 3).find? (fun r => decide (d.qos.figs.getD r 0 < d.figures.getD r 0)) = some r) ∧ (f.flagReg QOS.ADMIT_CTL.AUTO_RESTORE = true)) ∧
    (∃ (d : Device) (s : Nat) (on : Bool), (d.hw.gradeH = false) ∧ (s < 1024) ∧ ((d.page .site s).lock = false) ∧ (on = (d.qos.sitePend.any (fun e => e.1 == s) || d.qos.siteWait.any (fun e => e.1 == s))) ∧ (on = false) ∧ (d.qos.applying = false)) ∧
    (∃ (d : Device) (s : Nat) (on : Bool), (d.hw.gradeH = false) ∧ (s < 1024) ∧ ((d.page .site s).lock = false) ∧ (on = (d.qos.sitePend.any (fun e => e.1 == s) || d.qos.siteWait.any (fun e => e.1 == s))) ∧ (on = false) ∧ (d.qos.applying = true)) ∧
    (∃ (d : Device) (s : Nat) (on : Bool), (d.hw.gradeH = false) ∧ (s < 1024) ∧ ((d.page .site s).lock = false) ∧ (on = (d.qos.sitePend.any (fun e => e.1 == s) || d.qos.siteWait.any (fun e => e.1 == s))) ∧ (on = true)) ∧
    (∃ (d : Device) (s : Nat), (d.qos.sitePend.find? (fun e => e.1 == s) = none)) ∧
    (∃ (d : Device) (s : Nat) (x : Nat × Nat) (e : Device), (d.qos.sitePend.find? (fun e => e.1 == s) = some x) ∧ (d.siteFits d.qos.table d.qos.fraction s x.2 = true)) ∧
    (∃ (d : Device) (s : Nat) (x : Nat × Nat) (e : Device), (d.qos.sitePend.find? (fun e => e.1 == s) = some x) ∧ (d.siteFits d.qos.table d.qos.fraction s x.2 = false)) ∧
    (∃ (d : Device) (s : Nat) (x : Nat × Nat) (e : Device), (d.qos.sitePend.find? (fun e => e.1 == s) = some x) ∧ (d.qos.siteNext.find? (fun y => y.1 == s) = none)) ∧
    (∃ (d : Device) (s : Nat) (x : Nat × Nat) (e : Device) (n : Nat × Nat), (d.qos.sitePend.find? (fun e => e.1 == s) = some x) ∧ (d.qos.siteNext.find? (fun y => y.1 == s) = some n)) ∧
    (∃ (d : Device) (c : Nat) (free : List ChanEntry) (e : ChanEntry), (free = (d.chanQueue c).filter (fun e => !((d.chanQueue c).any (fun x => x.ra == e.ra && decide (x.order < e.order))))) ∧ (earliest (free.filter (fun e => d.urgent e.cls e.deadline)) = some e)) ∧
    (∃ (d : Device) (c : Nat) (free : List ChanEntry) (f : Device) (k : Option Nat), (free = (d.chanQueue c).filter (fun e => !((d.chanQueue c).any (fun x => x.ra == e.ra && decide (x.order < e.order))))) ∧ (earliest (free.filter (fun e => d.urgent e.cls e.deadline)) = none) ∧ (d.drr c (fun k => (nextOf (free.filter (fun e => e.cls == k))).map (fun e => e.deq)) = (f, k)) ∧ (k = none)) ∧
    (∃ (d : Device) (c : Nat) (free : List ChanEntry) (f : Device) (k : Option Nat) (j : Nat), (free = (d.chanQueue c).filter (fun e => !((d.chanQueue c).any (fun x => x.ra == e.ra && decide (x.order < e.order))))) ∧ (earliest (free.filter (fun e => d.urgent e.cls e.deadline)) = none) ∧ (d.drr c (fun k => (nextOf (free.filter (fun e => e.cls == k))).map (fun e => e.deq)) = (f, k)) ∧ (k = some j)) ∧
    (∃ (d : Device) (c : Nat), (d.chanQueue c = [])) ∧
    (∃ (d : Device) (c : Nat) (r : Request), (d.urgentHeld c = some r) ∧ ((d.chanQueue c).length = 127)) ∧
    (∃ (d : Device) (c : Nat), (d.urgentHeld c = none ∨ (d.chanQueue c).length ≠ 127)) ∧
    (∃ (c : Nat) (e : Device) (f : Device), (e.drr (16 + c) (fun k => ((e.heldFor c).find? (fun x => x.1.cls == k)).map (fun x => x.2)) = (f, none))) ∧
    (∃ (c : Nat) (e : Device) (f : Device) (k : Nat), (e.drr (16 + c) (fun k => ((e.heldFor c).find? (fun x => x.1.cls == k)).map (fun x => x.2)) = (f, some k))) :=
  ⟨⟨{ D0 with qos := { applying := true } }, by decide +kernel, by decide +kernel⟩,
   ⟨{ D0.setReg QOS.CLS_G_DEQ.RATE 100 0 with qos := { applying := true } }, by decide +kernel, by decide +kernel⟩,
   ⟨{ D0 with qos := { applying := true } }, by decide +kernel, by decide +kernel⟩,
   ⟨{ D0 with qos := { applying := true, recompDue := true } }, by decide +kernel, by decide +kernel⟩,
   ⟨{ D0 with qos := { figs := [2 ^ 40, 2 ^ 40, 2 ^ 40] } }, { D0 with qos := { figs := D0.figures } }, by decide +kernel, by decide +kernel⟩,
   ⟨{ D0.setReg QOS.ADMIT_CTL.AUTO_RESTORE 1 with chans := (List.range 16).map (fun k => (k, { state := .active })), qos := { figs := [0, 0, 0] } }, D0.setReg QOS.ADMIT_CTL.AUTO_RESTORE 1, 0, by decide +kernel, by decide +kernel, by decide +kernel⟩,
   ⟨D0, 1023, _, by decide +kernel, by decide +kernel, by decide +kernel, rfl, by decide +kernel, by decide +kernel⟩,
   ⟨{ D0 with qos := { applying := true } }, 1023, _, by decide +kernel, by decide +kernel, by decide +kernel, rfl, by decide +kernel, by decide +kernel⟩,
   ⟨{ D0 with qos := { sitePend := [(1023, 2)] } }, 1023, _, by decide +kernel, by decide +kernel, by decide +kernel, rfl, by decide +kernel⟩,
   ⟨D0, 1023, by decide +kernel⟩,
   ⟨{ D0 with qos := { sitePend := [(7, 2)] } }, 7, _, D0, rfl, by decide +kernel⟩,
   ⟨{ D0 with qos := { sitePend := [(7, 2)], table := { gSite := List.replicate 16 (2 ^ 20) } } }, 7, _, D0, rfl, by decide +kernel⟩,
   ⟨{ D0 with qos := { sitePend := [(7, 2)] } }, 7, _, D0, rfl, by decide +kernel⟩,
   ⟨{ D0 with qos := { sitePend := [(7, 2)], siteNext := [(7, 3)] } }, 7, _, D0, _, rfl, rfl⟩,
   ⟨{ D0 with qos := { queues := [(2, [{ cls := 0, deadline := 1, deq := 0, order := 0, ra := 0, write := false }])] } }, 2, _, _, rfl, rfl⟩,
   ⟨D0, 2, _, D0, none, rfl, by decide +kernel, by decide +kernel, by decide +kernel⟩,
   ⟨schD, 2, _, (schD.drr 2 (schCost schD)).1, some 0, 0, rfl, by decide +kernel, pair_eta (schD.drr 2 (schCost schD)) _ (by decide +kernel), by decide +kernel⟩,
   ⟨D0, 2, by decide +kernel⟩,
   ⟨heldD 127, 0, ((heldD 127).urgentHeld 0).getD (req 0), by decide +kernel, by decide +kernel⟩,
   ⟨D0, 2, by decide +kernel⟩,
   ⟨2, D0, D0, by decide +kernel⟩,
   ⟨0, heldD 0, heldX.1, 0, pair_eta heldX _ (by decide +kernel)⟩⟩

theorem witness_ChannelRequestsAndDrains :
    (∃ (d : Device) (ra : Nat), ((d.chan (channelOf ra)).inService = false ∨ d.rawBytes ≤ ra)) ∧
    (∃ (d : Device) (ra : Nat) (n : Nat) (new : List Nat), ((d.chan (channelOf ra)).inService = true) ∧ (ra < d.rawBytes) ∧ (new = (sliceBursts ra n).filter (fun a => (d.wqFind a).isNone)) ∧ (32 < (KMap.get (d.chan (channelOf ra)).rq [] (targetOf ra % 2)).length + new.length)) ∧
    (∃ (d : Device) (ra : Nat) (n : Nat) (new : List Nat), ((d.chan (channelOf ra)).inService = true) ∧ (ra < d.rawBytes) ∧ (new = (sliceBursts ra n).filter (fun a => (d.wqFind a).isNone)) ∧ ((KMap.get (d.chan (channelOf ra)).rq [] (targetOf ra % 2)).length + new.length ≤ 32) ∧ (new = [])) ∧
    (∃ (d : Device) (ra : Nat) (n : Nat) (new : List Nat), ((d.chan (channelOf ra)).inService = true) ∧ (ra < d.rawBytes) ∧ (new = (sliceBursts ra n).filter (fun a => (d.wqFind a).isNone)) ∧ ((KMap.get (d.chan (channelOf ra)).rq [] (targetOf ra % 2)).length + new.length ≤ 32) ∧ (new ≠ [])) ∧
    (∃ (d : Device) (ra : Nat) (a : Nat) (q : List Nat) (ahead : List Nat), (a = 64 * (ra / 64)) ∧ (q = KMap.get (d.chan (channelOf a)).rq [] (targetOf a % 2)) ∧ (ahead = (if q.contains a then q.takeWhile (fun x => x != a) else [])) ∧ ((d.chan (channelOf a)).inService = false ∨ d.rawBytes ≤ a ∨ (d.chan (channelOf a)).draining.contains (targetOf a % 2) = true ∨ d.mayPass (channelOf a) a ahead = false)) ∧
    (∃ (d : Device) (ra : Nat) (a : Nat) (q : List Nat) (ahead : List Nat) (e : Device), (a = 64 * (ra / 64)) ∧ (q = KMap.get (d.chan (channelOf a)).rq [] (targetOf a % 2)) ∧ (ahead = (if q.contains a then q.takeWhile (fun x => x != a) else [])) ∧ ((d.chan (channelOf a)).inService = true) ∧ (a < d.rawBytes) ∧ ((d.chan (channelOf a)).draining.contains (targetOf a % 2) = false) ∧ (d.mayPass (channelOf a) a ahead = true) ∧ ((e.wqFind a).isSome = true ∨ e.underTest a = true)) ∧
    (∃ (d : Device) (ra : Nat) (a : Nat) (q : List Nat) (ahead : List Nat) (e : Device), (a = 64 * (ra / 64)) ∧ (q = KMap.get (d.chan (channelOf a)).rq [] (targetOf a % 2)) ∧ (ahead = (if q.contains a then q.takeWhile (fun x => x != a) else [])) ∧ ((d.chan (channelOf a)).inService = true) ∧ (a < d.rawBytes) ∧ ((d.chan (channelOf a)).draining.contains (targetOf a % 2) = false) ∧ (d.mayPass (channelOf a) a ahead = true) ∧ (e.wqFind a = none) ∧ (e.underTest a = false)) ∧
    (∃ (d : Device) (c : Nat) (sub : Nat) (aged : _) (due : _), (due = (decide (d.reg DDRCH.WDRAIN.HIGH c ≤ d.wqLen c sub) || (d.rqEmpty c sub && decide (0 < d.wqLen c sub)) || (aged && decide (0 < d.wqLen c sub)))) ∧ ((d.chan c).inService = false ∨ 2 ≤ sub ∨ due = false)) ∧
    (∃ (d : Device) (c : Nat) (sub : Nat) (aged : _) (due : _) (e : Device), (due = (decide (d.reg DDRCH.WDRAIN.HIGH c ≤ d.wqLen c sub) || (d.rqEmpty c sub && decide (0 < d.wqLen c sub)) || (aged && decide (0 < d.wqLen c sub)))) ∧ ((d.chan c).inService = true) ∧ (sub < 2) ∧ (due = true) ∧ (e.wqLen c sub = 0)) ∧
    (∃ (d : Device) (c : Nat) (sub : Nat) (aged : _) (due : _) (e : Device), (due = (decide (d.reg DDRCH.WDRAIN.HIGH c ≤ d.wqLen c sub) || (d.rqEmpty c sub && decide (0 < d.wqLen c sub)) || (aged && decide (0 < d.wqLen c sub)))) ∧ ((d.chan c).inService = true) ∧ (sub < 2) ∧ (due = true) ∧ (e.wqLen c sub ≠ 0) ∧ ((e.chan c).draining.contains sub = true)) ∧
    (∃ (d : Device) (c : Nat) (sub : Nat) (aged : _) (due : _) (e : Device), (due = (decide (d.reg DDRCH.WDRAIN.HIGH c ≤ d.wqLen c sub) || (d.rqEmpty c sub && decide (0 < d.wqLen c sub)) || (aged && decide (0 < d.wqLen c sub)))) ∧ ((d.chan c).inService = true) ∧ (sub < 2) ∧ (due = true) ∧ (e.wqLen c sub ≠ 0) ∧ ((e.chan c).draining.contains sub = false)) ∧
    (∃ (d : Device) (c : Nat) (sub : Nat), (d.wqLen c sub ≤ d.reg DDRCH.WDRAIN.LOW c) ∧ (d.rqEmpty c sub = false)) ∧
    (∃ (d : Device) (c : Nat) (sub : Nat), (d.reg DDRCH.WDRAIN.LOW c < d.wqLen c sub ∨ d.rqEmpty c sub = true)) ∧
    (∃ (d : Device) (c : Nat), ((d.chan c).state ≠ .active)) ∧
    (∃ (d : Device) (c : Nat) (rank : Nat) (b : Bool), ((d.chan c).state = .active) ∧ (b = true) ∧ (KMap.get (d.chan c).postponed 0 rank < 4)) ∧
    (∃ (d : Device) (c : Nat) (rank : Nat) (b : Bool), ((d.chan c).state = .active) ∧ (b = false ∨ 4 ≤ KMap.get (d.chan c).postponed 0 rank)) ∧
    (∃ (d : Device) (c : Nat), ((d.chan c).inService = false)) ∧
    (∃ (d : Device) (c : Nat) (ok : _) (times : List Nat), ((d.chan c).inService = true) ∧ (ok = true) ∧ (times.length < 16)) ∧
    (∃ (d : Device) (c : Nat) (ok : _) (times : List Nat), ((d.chan c).inService = true) ∧ (ok = false ∨ 16 ≤ times.length)) :=
  ⟨⟨D0, 64, by decide +kernel⟩,
   ⟨{ D0 with chans := [(0, { state := .active, rq := [(0, List.replicate 25 512)] })] }, 0, 8, _, by decide +kernel, by decide +kernel, rfl, by decide +kernel⟩,
   ⟨wqD, 0, 1, _, by decide +kernel, by decide +kernel, rfl, by decide +kernel, by decide +kernel⟩,
   ⟨{ D0 with chans := [(0, { state := .active, rq := [(0, List.replicate 24 512)] })] }, 0, 8, _, by decide +kernel, by decide +kernel, rfl, by decide +kernel, by decide +kernel⟩,
   ⟨D0, 0, _, _, _, rfl, rfl, rfl, .inl (by decide +kernel)⟩,
   ⟨wqD, 0, _, _, _, wqD, rfl, rfl, rfl, by decide +kernel, by decide +kernel, by decide +kernel, by decide +kernel, by decide +kernel⟩,
   ⟨chD, 0, _, _, _, chD, rfl, rfl, rfl, by decide +kernel, by decide +kernel, by decide +kernel, by decide +kernel, by decide +kernel, by decide +kernel⟩,
   ⟨chD, 0, 2, false, _, rfl, by decide +kernel⟩,
   ⟨wqD, 0, 0, true, true, chD, by decide +kernel, by decide +kernel, by decide +kernel, by decide +kernel, by decide +kernel⟩,
   ⟨wqD, 0, 0, false, _, { D0 with chans := [(0, { state := .active, draining := [0], wq := [(0, [{ ra := 0, data := 5, poison := false }])] })] }, rfl, by decide +kernel, by decide +kernel, by decide +kernel, by decide +kernel, by decide +kernel⟩,
   ⟨wqD, 0, 0, false, _, wqD, rfl, by decide +kernel, by decide +kernel, by decide +kernel, by decide +kernel, by decide +kernel⟩,
   ⟨{ D0 with chans := [(0, { rq := [(1, [64])] })] }, 0, 1, by decide +kernel, by decide +kernel⟩,
   ⟨chD, 0, 0, by decide +kernel⟩,
   ⟨D0, 0, by decide +kernel⟩,
   ⟨chD, 0, 1, true, by decide +kernel, by decide +kernel, by decide +kernel⟩,
   ⟨{ D0 with chans := [(0, { state := .active, postponed := [(1, 4)] })] }, 0, 1, true, by decide +kernel, by decide +kernel⟩,
   ⟨D0, 0, by decide +kernel⟩,
   ⟨chD, 0, true, List.replicate 15 0, by decide +kernel, by decide +kernel, by decide +kernel⟩,
   ⟨chD, 0, true, List.replicate 16 0, by decide +kernel, by decide +kernel⟩⟩

theorem witness_SelfRefreshAndRetrains :
    (∃ (d : Device) (c : Nat) (idle : _), (idle = ((d.chanQueue c).isEmpty && (d.chan c).wq.all (fun q => q.2.isEmpty) && (d.chan c).rq.all (fun q => q.2.isEmpty))) ∧ (d.flagReg DDRCH.CH_CFG.SR_EN c = true) ∧ ((d.chan c).state = .active) ∧ (idle = true)) ∧
    (∃ (d : Device) (c : Nat) (idle : _), (idle = ((d.chanQueue c).isEmpty && (d.chan c).wq.all (fun q => q.2.isEmpty) && (d.chan c).rq.all (fun q => q.2.isEmpty))) ∧ (d.flagReg DDRCH.CH_CFG.SR_EN c = false ∨ (d.chan c).state ≠ .active ∨ idle = false)) ∧
    (∃ (d : Device) (c : Nat), ((d.chan c).heldScrub = [])) ∧
    (∃ (d : Device) (c : Nat), ((d.chan c).heldScrub ≠ [])) ∧
    (∃ (d : Device), (d.twin.svc ≠ .paired ∨ d.twinServes = false ∨ (List.range 16).all (fun k => (d.chan k).inService) = false)) ∧
    (∃ (d : Device) (c : Nat), (d.twin.svc = .paired) ∧ (d.twinServes = true) ∧ ((List.range 16).all (fun k => (d.chan k).inService) = true) ∧ ((d.chan c).state = .selfRefresh)) ∧
    (∃ (d : Device) (c : Nat), (d.twin.svc = .paired) ∧ (d.twinServes = true) ∧ ((List.range 16).all (fun k => (d.chan k).inService) = true) ∧ ((d.chan c).state ≠ .selfRefresh)) ∧
    (∃ (d : Device) (c : Nat) (t : ProofTest), (d.integ.test = some t) ∧ (channelOf t.ra = c)) ∧
    (∃ (d : Device) (c : Nat), (d.integ.test = none ∨ (∃ t, d.integ.test = some t ∧ channelOf t.ra ≠ c))) ∧
    (∃ (d : Device) (c : Nat), ((d.chan c).state = .retraining) ∧ ((d.chan c).attempts < 2)) ∧
    (∃ (d : Device) (c : Nat), ((d.chan c).state = .retraining) ∧ (2 ≤ (d.chan c).attempts)) ∧
    (∃ (d : Device) (c : Nat), ((d.chan c).state ≠ .retraining)) :=
  ⟨⟨chD.setReg DDRCH.CH_CFG.SR_EN 1 0, 0, _, rfl, by decide +kernel, by decide +kernel, by decide +kernel⟩,
   ⟨D0.setReg DDRCH.CH_CFG.SR_EN 0 3, 3, _, rfl, by decide +kernel⟩,
   ⟨chD, 0, by decide +kernel⟩,
   ⟨{ D0 with chans := [(0, { heldScrub := [(0, [])] })] }, 0, by decide +kernel⟩,
   ⟨D0, by decide +kernel⟩,
   ⟨pairD [(0, { state := .selfRefresh })], 0, by decide +kernel, by decide +kernel, by decide +kernel, by decide +kernel⟩,
   ⟨pairD [], 15, by decide +kernel, by decide +kernel, by decide +kernel, by decide +kernel⟩,
   ⟨{ D0 with integ := { test := some { row := 0, ra := 0 } } }, 0, _, rfl, by decide +kernel⟩,
   ⟨D0, 0, .inl rfl⟩,
   ⟨{ D0 with chans := [(15, { state := .retraining, attempts := 1 })] }, 15, by decide +kernel, by decide +kernel⟩,
   ⟨{ D0 with chans := [(15, { state := .retraining, attempts := 2 })] }, 15, by decide +kernel, by decide +kernel⟩,
   ⟨chD, 0, by decide +kernel⟩⟩

theorem witness_ScrubberProoferPatrolAndRetirement :
    (∃ (d : Device) (c : Nat), ((d.page .ddrch c).lock = false)) ∧
    (∃ (d : Device), (d.paused = true ∨ d.flagReg INTEG.SCRUB_CTL.EN = false ∨ d.pageOn .integ = false ∨ d.twin.svc = .start)) ∧
    (∃ (d : Device) (e : Device) (x : Option Nat), (d.paused = false) ∧ (d.flagReg INTEG.SCRUB_CTL.EN = true) ∧ (d.pageOn .integ = true) ∧ (d.twin.svc ≠ .start) ∧ (d.scrubNext 6 = (e, x))) ∧
    (∃ (d : Device), (d.integ.queue = [])) ∧
    (∃ (d : Device) (row : Nat) (ra : Nat) (rest : _), (d.integ.queue = (row, ra) :: rest) ∧ (d.paused = true ∨ d.integ.test.isSome = true ∨ d.flagReg INTEG.PROOF_CTL.EN = false ∨ (d.chan (channelOf ra)).inService = false)) ∧
    (∃ (d : Device) (row : Nat) (ra : Nat) (rest : _), (d.integ.queue = (row, ra) :: rest) ∧ (d.paused = false) ∧ (d.integ.test = none) ∧ (d.flagReg INTEG.PROOF_CTL.EN = true) ∧ ((d.chan (channelOf ra)).inService = true)) ∧
    (∃ (d : Device) (t : ProofTest), (d.integ.test = some t) ∧ (t.patterns < 4)) ∧
    (∃ (d : Device) (t : ProofTest) (e : Device) (v : Nat), (d.integ.test = some t) ∧ (4 ≤ t.patterns) ∧ (v = (if t.lanes ≠ 0 then 2 else if (d.integ.history.find? (fun e => e.1 == t.row)).any (fun e => decide (d.time ≤ e.2 + 1000000000 * (86400 * d.reg INTEG.PROOF_CTL.WINDOW_D))) = true then 1 else 0))) ∧
    (∃ (area : Nat) (item : Nat) (e : Device), (area ≠ 0 ∨ e.frame (lpnOf item) = none)) ∧
    (∃ (area : Nat) (item : Nat) (e : Device) (times : List Nat), (area = 0) ∧ ((e.frame (lpnOf item)).isSome = true) ∧ (times = e.time :: (KMap.get e.integ.fixes [] (lpnOf item)).filter (fun t => decide (e.time < t + 86400 * 1000000000))) ∧ (times.length < 3)) ∧
    (∃ (area : Nat) (item : Nat) (e : Device) (times : List Nat), (area = 0) ∧ ((e.frame (lpnOf item)).isSome = true) ∧ (times = e.time :: (KMap.get e.integ.fixes [] (lpnOf item)).filter (fun t => decide (e.time < t + 86400 * 1000000000))) ∧ (3 ≤ times.length)) ∧
    (∃ (d : Device) (item : Nat) (e : Device), (e = d.countSat INTEG.T0_UNCORRS.COUNT) ∧ (e.t0Line item = none)) ∧
    (∃ (d : Device) (item : Nat) (e : Device) (t : T0Line) (f : Frame) (g : Device), (e = d.countSat INTEG.T0_UNCORRS.COUNT) ∧ (e.t0Line item = some t) ∧ (e.frame (lpnOf item) = some f) ∧ (g = { e with tier := { e.tier with frames := KMap.put e.tier.frames (lpnOf item) { f with lines := KMap.drop f.lines (item % 64) } } }) ∧ (t.dirty = false)) ∧
    (∃ (d : Device) (item : Nat) (e : Device) (t : T0Line) (f : Frame) (g : Device), (e = d.countSat INTEG.T0_UNCORRS.COUNT) ∧ (e.t0Line item = some t) ∧ (e.frame (lpnOf item) = some f) ∧ (g = { e with tier := { e.tier with frames := KMap.put e.tier.frames (lpnOf item) { f with lines := KMap.drop f.lines (item % 64) } } }) ∧ (t.dirty = true) ∧ (e.twinServes = true)) ∧
    (∃ (d : Device) (item : Nat) (e : Device) (t : T0Line) (f : Frame) (g : Device), (e = d.countSat INTEG.T0_UNCORRS.COUNT) ∧ (e.t0Line item = some t) ∧ (e.frame (lpnOf item) = some f) ∧ (g = { e with tier := { e.tier with frames := KMap.put e.tier.frames (lpnOf item) { f with lines := KMap.drop f.lines (item % 64) } } }) ∧ (t.dirty = true) ∧ (e.twinServes = false)) ∧
    (∃ (d : Device) (item : Nat) (e : Device) (old : LoafRec), (e = d.countSat INTEG.T0_UNCORRS.COUNT) ∧ (e.chans.any (fun x => x.2.pinned.contains item) = true) ∧ (old = LoafRec.ofWord (e.recordWord item))) ∧
    (∃ (d : Device) (item : Nat) (e : Device), (e = d.countSat INTEG.T0_UNCORRS.COUNT) ∧ (e.chans.any (fun x => x.2.pinned.contains item) = false)) ∧
    (∃ (d : Device) (item : Nat) (e : Device), (e = d.countSat INTEG.T0_UNCORRS.COUNT) ∧ (e.batch.home.find? (fun b => (KMap.find b.shadow item).isSome) = none)) ∧
    (∃ (d : Device) (item : Nat) (e : Device) (b : HomeBatch), (e = d.countSat INTEG.T0_UNCORRS.COUNT) ∧ (e.batch.home.find? (fun b => (KMap.find b.shadow item).isSome) = some b) ∧ (b.committing = false)) ∧
    (∃ (d : Device) (item : Nat) (e : Device) (b : HomeBatch), (e = d.countSat INTEG.T0_UNCORRS.COUNT) ∧ (e.batch.home.find? (fun b => (KMap.find b.shadow item).isSome) = some b) ∧ (b.committing = true) ∧ (b.sent = false)) ∧
    (∃ (d : Device) (item : Nat) (e : Device) (b : HomeBatch) (g : Device), (e = d.countSat INTEG.T0_UNCORRS.COUNT) ∧ (e.batch.home.find? (fun b => (KMap.find b.shadow item).isSome) = some b) ∧ (b.committing = true) ∧ (b.sent = true) ∧ (g.twinServes = false)) ∧
    (∃ (d : Device) (item : Nat) (e : Device) (b : HomeBatch) (g : Device), (e = d.countSat INTEG.T0_UNCORRS.COUNT) ∧ (e.batch.home.find? (fun b => (KMap.find b.shadow item).isSome) = some b) ∧ (b.committing = true) ∧ (b.sent = true) ∧ (g.twinServes = true)) ∧
    (∃ (d : Device), ((d.page .integ).lock = false) ∧ (d.flagReg INTEG.RETIRE_CMD.BUSY = false)) ∧
    (∃ (d : Device), ((d.page .integ).lock = false) ∧ (d.flagReg INTEG.RETIRE_CMD.BUSY = true)) ∧
    (∃ (d : Device), (d.integ.retire = none)) ∧
    (∃ (d : Device) (run : RetireRun), (d.integ.retire = some run) ∧ (d.retireWaits run = true)) ∧
    (∃ (d : Device) (run : RetireRun) (x : _), (d.integ.retire = some run) ∧ (d.retireWaits run = false) ∧ ((run.result = 0 → d.retireFits (run.op == 2) (run.bank) = false → x = 1)) ∧ ((run.result ≠ 0 ∨ d.retireFits (run.op == 2) run.bank = true → x = run.result)) ∧ (x = 0) ∧ ((d.retireFetches run).isEmpty = false)) ∧
    (∃ (d : Device) (run : RetireRun) (x : _), (d.integ.retire = some run) ∧ (d.retireWaits run = false) ∧ ((run.result = 0 → d.retireFits (run.op == 2) (run.bank) = false → x = 1)) ∧ ((run.result ≠ 0 ∨ d.retireFits (run.op == 2) run.bank = true → x = run.result)) ∧ (x ≠ 0 ∨ (d.retireFetches run).isEmpty = true) ∧ (x ≠ 0)) ∧
    (∃ (d : Device) (run : RetireRun) (x : _), (d.integ.retire = some run) ∧ (d.retireWaits run = false) ∧ ((run.result = 0 → d.retireFits (run.op == 2) (run.bank) = false → x = 1)) ∧ ((run.result ≠ 0 ∨ d.retireFits (run.op == 2) run.bank = true → x = run.result)) ∧ (x ≠ 0 ∨ (d.retireFetches run).isEmpty = true) ∧ (x = 0) ∧ (run.op = 2)) ∧
    (∃ (d : Device) (run : RetireRun) (x : _), (d.integ.retire = some run) ∧ (d.retireWaits run = false) ∧ ((run.result = 0 → d.retireFits (run.op == 2) (run.bank) = false → x = 1)) ∧ ((run.result ≠ 0 ∨ d.retireFits (run.op == 2) run.bank = true → x = run.result)) ∧ (x ≠ 0 ∨ (d.retireFetches run).isEmpty = true) ∧ (x ≠ 0 ∨ run.op ≠ 2)) :=
  ⟨⟨D0, 15, by decide +kernel⟩,
   ⟨D0.setReg INTEG.SCRUB_CTL.EN 0, by decide +kernel⟩,
   ⟨scrD, (scrD.scrubNext 6).1, (scrD.scrubNext 6).2, by decide +kernel, by decide +kernel, by decide +kernel, by decide +kernel, pair_eta (scrD.scrubNext 6) _ rfl⟩,
   ⟨D0, by decide +kernel⟩,
   ⟨{ D0 with integ := { queue := [(0, 0)] } }, 0, 0, [], by decide +kernel, by decide +kernel⟩,
   ⟨{ chD.setReg INTEG.PROOF_CTL.EN 1 with integ := { queue := [(0, 0)] } }, 0, 0, [], by decide +kernel, by decide +kernel, by decide +kernel, by decide +kernel, by decide +kernel⟩,
   ⟨{ D0 with integ := { test := some { row := 0, ra := 0, patterns := 3 } } }, _, rfl, by decide +kernel⟩,
   ⟨{ D0 with integ := { test := some { row := 0, ra := 0, patterns := 4, lanes := 1 } } }, _, D0, _, rfl, by decide +kernel, rfl⟩,
   ⟨1, 7, D0, by decide +kernel⟩,
   ⟨0, 7, t0D false 0, _, by decide +kernel, by decide +kernel, rfl, by decide +kernel⟩,
   ⟨0, 7, { t0D false 0 with integ := { fixes := [(0, [0, 0])] } }, _, by decide +kernel, by decide +kernel, rfl, by decide +kernel⟩,
   ⟨D0, 7, _, rfl, by decide +kernel⟩,
   ⟨t0D false 0, 7, _, _, _, _, rfl, rfl, rfl, rfl, by decide +kernel⟩,
   ⟨t0D true 1, 7, _, _, _, _, rfl, rfl, rfl, rfl, by decide +kernel, by decide +kernel⟩,
   ⟨t0D true 0, 7, _, _, _, _, rfl, rfl, rfl, rfl, by decide +kernel, by decide +kernel⟩,
   ⟨{ D0 with chans := [(3, { pinned := [7] })] }, 7, _, _, rfl, by decide +kernel, rfl⟩,
   ⟨D0, 7, _, rfl, by decide +kernel⟩,
   ⟨D0, 7, _, rfl, by decide +kernel⟩,
   ⟨shD { slot := 7, arr := 2, bseq := 1 }, 7, _, _, rfl, rfl, by decide +kernel⟩,
   ⟨shD { slot := 7, arr := 2, bseq := 1, committing := true }, 7, _, _, rfl, rfl, by decide +kernel, by decide +kernel⟩,
   ⟨shD { slot := 7, arr := 2, bseq := 1, committing := true, sent := true }, 7, _, _, D0, rfl, rfl, by decide +kernel, by decide +kernel, by decide +kernel⟩,
   ⟨shD { slot := 7, arr := 2, bseq := 1, committing := true, sent := true }, 7, _, _, { D0 with twin := { twinSvc := .solo } }, rfl, rfl, by decide +kernel, by decide +kernel, by decide +kernel⟩,
   ⟨D0, by decide +kernel, by decide +kernel⟩,
   ⟨D0.setReg INTEG.RETIRE_CMD.BUSY 1, by decide +kernel, by decide +kernel⟩,
   ⟨D0, by decide +kernel⟩,
   ⟨{ D0 with integ := { retire := some { op := 2, key := 0, result := 0 } } }, _, rfl, by decide +kernel⟩,
   ⟨retD, _, 0, rfl, by decide +kernel, by decide +kernel, by decide +kernel, by decide +kernel, by decide +kernel⟩,
   ⟨{ D0 with integ := { retire := some { op := 1, key := 0, result := 2 } } }, _, 2, rfl, by decide +kernel, by decide +kernel, by decide +kernel, by decide +kernel, by decide +kernel⟩,
   ⟨{ chD with integ := { retire := some { op := 2, key := 0, result := 0 } } }, _, 0, rfl, by decide +kernel, by decide +kernel, by decide +kernel, by decide +kernel, by decide +kernel, by decide +kernel⟩,
   ⟨{ chD with integ := { retire := some { op := 1, key := 0, result := 0 } } }, _, 0, rfl, by decide +kernel, by decide +kernel, by decide +kernel, by decide +kernel, by decide +kernel⟩⟩

theorem witness_PeerMessagesArriveOnce :
    (∃ (d : Device) (k : Nat) (m : StreamMsg), ((k = 0 ∨ (k = 1 ∧ ∀ x, (d.stream 0).early.find? (fun y => y.tseq == (d.stream 0).applied) = some x → d.streamHolds 0 x.msg = true))) ∧ ((d.stream k).early.find? (fun y => y.tseq == (d.stream k).applied) = some m) ∧ (d.streamHolds k m.msg = false)) ∧
    (∃ (d : Device), ((∀ k x, k < 2 → (d.stream k).early.find? (fun y => y.tseq == (d.stream k).applied) = some x → d.streamHolds k x.msg = true))) :=
  ⟨⟨{ D0 with twin := { streams := [(0, { applied := 65535, early := [{ tseq := 65535, msg := .timeSync 0 0 0 false }] })] } }, 0, _, .inl rfl, rfl, by decide +kernel⟩,
   ⟨D0, (by intro k x hk h; match k, hk with | 0, _ => simp [Device.stream, D0, State.reset, KMap.get, KMap.find] at h | 1, _ => simp [Device.stream, D0, State.reset, KMap.get, KMap.find] at h)⟩⟩

theorem witness_WhatPeerMessagesDo :
    (∃ (d : Device) (m : PeerMsg), (isMirror m = true) ∧ (d.twin.svc ≠ .resync) ∧ (d.twin.svc ≠ .paired) ∧ (d.twin.svc ≠ .handingOver)) ∧
    (∃ (d : Device) (line : Nat) (v : Line) (pz : _) (cls : _) (e : Device), (d.twin.svc = .resync ∨ d.twin.svc = .paired ∨ d.twin.svc = .handingOver) ∧ (e = d.putT0 line { data := v, poison := pz || d.isToken line v, dirty := true } cls)) ∧
    (∃ (d : Device) (line : Nat) (other : _), (d.twin.svc = .resync ∨ d.twin.svc = .paired ∨ d.twin.svc = .handingOver) ∧ (other ≠ line)) ∧
    (∃ (d : Device) (dest : Nat), (dest ≠ d.myArr)) ∧
    (∃ (d : Device) (arr : Nat) (x : _) (y : _), (d.coh.flushWait = [x, arr, y]) ∧ (x ≠ arr) ∧ (y ≠ arr)) ∧
    (∃ (c : TableCmd), ((∀ frm free busy x, c ≠ .ask frm free busy x)) ∧ ((∀ fail code id r, c ≠ .result fail code id r)) ∧ ((∀ frm, c ≠ .done frm)) ∧ ((∀ rid s, c ≠ .drop rid s))) ∧
    (∃ (d : Device), (d.twin.svc ≠ .resync) ∧ (d.twin.svc ≠ .join)) ∧
    (∃ (d : Device), (d.twin.svc = .resync) ∧ (d.twin.resyncAcked = false)) ∧
    (∃ (d : Device), (d.twin.svc = .resync) ∧ (d.twin.resyncAcked = true)) ∧
    (∃ (d : Device) (s : Nat) (q : Nat), ((∀ c ∈ d.coh.csWait, ¬ (c.stream = s ∧ c.tseq = q)))) ∧
    (∃ (d : Device) (p : Nat) (i : PeerInfo) (c : Nat) (e : Device), (c = d.helloFails p i) ∧ (c ≠ 0) ∧ (p < 3) ∧ (e = ({ d with twin := { d.twin with peerOk := d.twin.peerOk.filter (fun q => q != p) } } : Device)) ∧ (d.twin.failed.contains (p, c) = true)) ∧
    (∃ (d : Device) (p : Nat) (i : PeerInfo) (c : Nat) (e : Device), (c = d.helloFails p i) ∧ (c ≠ 0) ∧ (p < 3) ∧ (e = ({ d with twin := { d.twin with peerOk := d.twin.peerOk.filter (fun q => q != p) } } : Device)) ∧ (d.twin.failed.contains (p, c) = false)) :=
  ⟨⟨D0, .mirrorLine 7 0 false 0 none, by decide +kernel, by decide +kernel, by decide +kernel, by decide +kernel⟩,
   ⟨{ D0 with twin := { svc := .resync } }, 7, 5, false, 3, _, .inl rfl, rfl⟩,
   ⟨{ D0 with twin := { svc := .paired } }, 7, 8, by decide +kernel, by decide +kernel⟩,
   ⟨D0, 7, by decide +kernel⟩,
   ⟨{ D0 with coh := { flushWait := [1, 2, 3] } }, 2, 1, 3, by decide +kernel, by decide +kernel, by decide +kernel⟩,
   ⟨.read 2, (by intros; simp), (by intros; simp), (by intros; simp), (by intros; simp)⟩,
   ⟨D0, by decide +kernel, by decide +kernel⟩,
   ⟨{ D0 with twin := { svc := .resync } }, by decide +kernel, by decide +kernel⟩,
   ⟨{ D0 with twin := { svc := .resync, resyncAcked := true } }, by decide +kernel, by decide +kernel⟩,
   ⟨D0, 1, 5, by decide⟩,
   ⟨{ D0 with twin := { failed := [(2, 2)] } }, 2, { side := 0, qid := 0, logicalTib := 16, members := 4 }, _, _, rfl, by decide +kernel, by decide +kernel, rfl, by decide +kernel⟩,
   ⟨D0, 2, { side := 0, qid := 0, logicalTib := 16, members := 4 }, _, _, rfl, by decide +kernel, by decide +kernel, rfl, by decide +kernel⟩⟩

theorem witness_ServiceStatesOfTheTwins :
    (∃ (d : Device), (d.twin.resyncRun = true ∨ d.twinLinkUp = false)) ∧
    (∃ (d : Device) (e : Device), (d.twin.resyncRun = false) ∧ (d.twinLinkUp = true) ∧ (d.twin.svc = .join) ∧ (d.twin.twinSvc = .solo) ∧ (e = (((({ d with twin := { d.twin with resyncRun := true, resyncSource := false, resyncPos := 0, resyncBytes := 0, resyncCur := [] } } : Device).setReg TWIN.RESYNC_STAT.RUN 1).setReg TWIN.RESYNC_STAT.SOURCE 0).setReg TWIN.RESYNC_POS.LPN 0).setReg TWIN.RESYNC_GIB.GIB 0)) ∧
    (∃ (d : Device) (e : Device), (d.twin.resyncRun = false) ∧ (d.twinLinkUp = true) ∧ (d.twin.svc = .solo) ∧ (d.twin.twinSvc = .join ∨ d.twin.twinSvc = .resync) ∧ (e = ((((({ d with twin := { d.twin with resyncRun := true, resyncSource := true, resyncPos := 0, resyncBytes := 0, resyncCur := [] } } : Device).setReg TWIN.RESYNC_STAT.RUN 1).setReg TWIN.RESYNC_STAT.SOURCE 1).setReg TWIN.RESYNC_POS.LPN 0).setReg TWIN.RESYNC_GIB.GIB 0).newPoisonKey)) ∧
    (∃ (d : Device), (d.twin.resyncRun = false) ∧ (d.twinLinkUp = true) ∧ (¬ (d.twin.svc = .join ∧ d.twin.twinSvc = .solo)) ∧ (¬ (d.twin.svc = .solo ∧ (d.twin.twinSvc = .join ∨ d.twin.twinSvc = .resync)))) ∧
    (∃ (d : Device), (d.twin.resyncRun = false ∨ d.twin.resyncSource = false ∨ d.twin.svc ≠ .solo)) ∧
    (∃ (d : Device) (lpn : Nat) (e : Device) (f : Device), (d.twin.resyncRun = true) ∧ (d.twin.resyncSource = true) ∧ (d.twin.svc = .solo) ∧ (d.resyncNext = some lpn) ∧ (e = d.resyncSnoop lpn) ∧ (f = e.resyncLoaf lpn) ∧ (d.resyncWaits lpn = true)) ∧
    (∃ (d : Device) (lpn : Nat) (e : Device) (f : Device), (d.twin.resyncRun = true) ∧ (d.twin.resyncSource = true) ∧ (d.twin.svc = .solo) ∧ (d.resyncNext = some lpn) ∧ (e = d.resyncSnoop lpn) ∧ (f = e.resyncLoaf lpn) ∧ (d.resyncWaits lpn = false) ∧ (e.resyncAwaits lpn = true)) ∧
    (∃ (d : Device) (lpn : Nat) (e : Device) (f : Device), (d.twin.resyncRun = true) ∧ (d.twin.resyncSource = true) ∧ (d.twin.svc = .solo) ∧ (d.resyncNext = some lpn) ∧ (e = d.resyncSnoop lpn) ∧ (f = e.resyncLoaf lpn) ∧ (d.resyncWaits lpn = false) ∧ (e.resyncAwaits lpn = false)) ∧
    (∃ (d : Device) (e : Device), (d.twin.resyncRun = true) ∧ (d.twin.resyncSource = true) ∧ (d.twin.svc = .solo) ∧ (d.resyncNext = none) ∧ (e = ({ d with twin := { d.twin with resyncPos := d.nloaf } } : Device).setReg TWIN.RESYNC_POS.LPN d.nloaf) ∧ (d.coh.csWait.isEmpty = false)) ∧
    (∃ (d : Device) (e : Device), (d.twin.resyncRun = true) ∧ (d.twin.resyncSource = true) ∧ (d.twin.svc = .solo) ∧ (d.resyncNext = none) ∧ (e = ({ d with twin := { d.twin with resyncPos := d.nloaf } } : Device).setReg TWIN.RESYNC_POS.LPN d.nloaf) ∧ (d.coh.csWait.isEmpty = true)) ∧
    (∃ (d : Device) (e : Device) (f : Device), (d.twin.resyncRun = true) ∧ (e = (((({ d with twin := { d.twin with resyncRun := false, resyncPos := 0, resyncBytes := 0 } } : Device).setReg TWIN.RESYNC_STAT.RUN 0).setReg TWIN.RESYNC_POS.LPN 0).setReg TWIN.RESYNC_GIB.GIB 0)) ∧ (f = (e.countSat TWIN.RESYNCS_RESTARTED.COUNT).evt TWIN.flag.RESYNC_RESTART) ∧ (d.twin.svc ≠ .resync)) ∧
    (∃ (d : Device) (e : Device) (f : Device) (g : Device), (d.twin.resyncRun = true) ∧ (e = (((({ d with twin := { d.twin with resyncRun := false, resyncPos := 0, resyncBytes := 0 } } : Device).setReg TWIN.RESYNC_STAT.RUN 0).setReg TWIN.RESYNC_POS.LPN 0).setReg TWIN.RESYNC_GIB.GIB 0)) ∧ (f = (e.countSat TWIN.RESYNCS_RESTARTED.COUNT).evt TWIN.flag.RESYNC_RESTART) ∧ (d.twin.svc = .resync) ∧ (g = f.wipeRecords.wipePages)) ∧
    (∃ (d : Device), (d.twin.svc = .join) ∧ ((d.side = 1 ∧ d.twinServes = false) ∨ d.twinLinkUp = false)) ∧
    (∃ (d : Device), (d.twin.svc ≠ .join ∨ (d.twinLinkUp = true ∧ (d.side ≠ 1 ∨ d.twinServes = true)))) ∧
    (∃ (d : Device) (e : Device), (e = { d with twin := { d.twin with hbIn := false } }) ∧ ((d.twin.svc = .paired ∨ d.twin.svc = .handingOver) ∧ d.twinLinkUp = true)) ∧
    (∃ (d : Device) (e : Device), (e = { d with twin := { d.twin with hbIn := false } }) ∧ (¬ ((d.twin.svc = .paired ∨ d.twin.svc = .handingOver) ∧ d.twinLinkUp = true))) ∧
    (∃ (d : Device) (e : Device), (e = { d with twin := { d.twin with hbIn := false } }) ∧ (d.twin.svc = .solo)) ∧
    (∃ (d : Device), ((d.twin.svc = .paired ∨ d.twin.svc = .handingOver)) ∧ (d.twinLinkUp = false) ∧ (d.twin.hbIn = true) ∧ (d.side = 0)) ∧
    (∃ (d : Device), (d.twinLinkUp = true ∨ d.twin.hbIn = false ∨ d.side ≠ 0 ∨ (d.twin.svc ≠ .paired ∧ d.twin.svc ≠ .handingOver))) ∧
    (∃ (d : Device), (d.twin.svc ≠ .paired ∨ d.twin.twinSvc ≠ .paired ∨ d.twin.hand.isNone = false ∨ d.twin.gained.isEmpty = false)) ∧
    (∃ (d : Device), (d.twin.svc = .paired) ∧ (d.twin.twinSvc = .paired) ∧ (d.twin.hand.isNone = true) ∧ (d.twin.gained.isEmpty = true)) ∧
    (∃ (d : Device), (d.twin.svc ≠ .paired ∨ d.twin.twinSvc ≠ .paired ∨ d.twin.leads = true ∨ d.twin.gained.isEmpty = false)) ∧
    (∃ (d : Device), (d.twin.svc = .paired) ∧ (d.twin.twinSvc = .paired) ∧ (d.twin.leads = false) ∧ (d.twin.gained.isEmpty = true)) ∧
    (∃ (d : Device), (d.twin.hand = none)) ∧
    (∃ (d : Device) (h : Hand), (d.twin.hand = some h) ∧ (h.step = 0)) ∧
    (∃ (d : Device) (h : Hand), (d.twin.hand = some h) ∧ (h.step ≠ 0)) ∧
    (∃ (d : Device) (h : Hand), (d.twin.hand = some h) ∧ (h.step ≠ 2 ∨ d.site.ports.any (fun e => !e.2.reqs.isEmpty) = true)) ∧
    (∃ (d : Device) (h : Hand) (e : Device), (d.twin.hand = some h) ∧ (h.step = 2) ∧ (d.site.ports.any (fun e => !e.2.reqs.isEmpty) = false) ∧ (e = (d.withdraw 2).evt TWIN.flag.HANDOVER_DONE)) ∧
    (∃ (d : Device), (d.twin.resetAfter = false)) ∧
    (∃ (d : Device), (d.twin.resetAfter = true)) ∧
    (∃ (e : Device) (f : Forward), (e.regionOf f.req.qla = none) ∧ (f.link.isSome = true)) ∧
    (∃ (f : Forward), (f.link = none)) ∧
    (∃ (d : Device) (e : Device), (e = [0, 1, 2, 3, 4].foldl (fun (e : Device) p => if (e.link (.peer p)).state = .active ∧ e.twin.peerOk.contains p = true then e.peerSend p none (.timeSync e.time 0 0 false) else e) d) ∧ (e.twin.timeLocked = false ∨ (∃ a, e.coordinator = some a ∧ (a = e.myArr ∨ (e.routeTo a).isSome = true)))) ∧
    (∃ (d : Device) (e : Device), (e = [0, 1, 2, 3, 4].foldl (fun (e : Device) p => if (e.link (.peer p)).state = .active ∧ e.twin.peerOk.contains p = true then e.peerSend p none (.timeSync e.time 0 0 false) else e) d) ∧ (e.twin.timeLocked = true) ∧ (e.coordinator = none ∨ (∃ a, e.coordinator = some a ∧ a ≠ e.myArr ∧ (e.routeTo a).isNone = true))) ∧
    (∃ (d : Device) (v : Via) (id : Nat) (addr : Nat) (x : Option Nat), (v.p < 3 ∨ d.mayArrive v.p (.stewReq id addr x) = false)) ∧
    (∃ (d : Device) (v : Via) (id : Nat) (addr : Nat) (x : Option Nat) (e : Device), (3 ≤ v.p) ∧ (d.mayArrive v.p (.stewReq id addr x) = true) ∧ (e = d.consumeMsg v.p (.stewReq id addr x)) ∧ (e.twin.stewarded = false ∨ e.stewBarred addr = true)) ∧
    (∃ (d : Device) (v : Via) (id : Nat) (addr : Nat) (x : Option Nat) (e : Device), (3 ≤ v.p) ∧ (d.mayArrive v.p (.stewReq id addr x) = true) ∧ (e = d.consumeMsg v.p (.stewReq id addr x)) ∧ (e.twin.stewarded = true) ∧ (e.stewBarred addr = false) ∧ (addr % 4 ≠ 0)) ∧
    (∃ (d : Device) (v : Via) (id : Nat) (addr : Nat) (x : Option Nat) (e : Device) (y : Nat), (3 ≤ v.p) ∧ (d.mayArrive v.p (.stewReq id addr x) = true) ∧ (e = d.consumeMsg v.p (.stewReq id addr x)) ∧ (e.twin.stewarded = true) ∧ (e.stewBarred addr = false) ∧ (addr % 4 = 0) ∧ (x = some y)) ∧
    (∃ (d : Device) (v : Via) (id : Nat) (addr : Nat) (x : Option Nat) (e : Device), (3 ≤ v.p) ∧ (d.mayArrive v.p (.stewReq id addr x) = true) ∧ (e = d.consumeMsg v.p (.stewReq id addr x)) ∧ (e.twin.stewarded = true) ∧ (e.stewBarred addr = false) ∧ (addr % 4 = 0) ∧ (x = none)) ∧
    (∃ (d : Device) (v : Via) (id : Nat) (ok : _) (value : Nat), (v.p < 3 ∨ d.mayArrive v.p (.stewRsp id ok value) = false)) ∧
    (∃ (d : Device) (v : Via) (id : Nat) (ok : _) (value : Nat), (3 ≤ v.p) ∧ (d.mayArrive v.p (.stewRsp id ok value) = true)) :=
  ⟨⟨D0, by decide +kernel⟩,
   ⟨{ D0 with twin := { svc := .join, twinSvc := .solo, peerOk := [4] } }, _, by decide +kernel, by decide +kernel, by decide +kernel, by decide +kernel, rfl⟩,
   ⟨{ D0 with twin := { svc := .solo, twinSvc := .resync, peerOk := [3] } }, _, by decide +kernel, by decide +kernel, by decide +kernel, by decide +kernel, rfl⟩,
   ⟨{ D0 with twin := { svc := .join, twinSvc := .join, peerOk := [3] } }, by decide +kernel, by decide +kernel, by decide +kernel, by decide +kernel⟩,
   ⟨D0, by decide +kernel⟩,
   ⟨{ srcD with chans := (List.range 16).map (fun k => (k, { state := .retraining })) }, 0, _, _, by decide +kernel, by decide +kernel, by decide +kernel, by decide +kernel, rfl, rfl, by decide +kernel⟩,
   ⟨{ srcD with coh := { snoops := [{ sid := 5, line := 7, kind := .cur, target := { host := 0, win := 0, arr := 0 }, broadcast := false, use := .copy, start := 0 }] } }, 0, ({ srcD with coh := { snoops := [{ sid := 5, line := 7, kind := .cur, target := { host := 0, win := 0, arr := 0 }, broadcast := false, use := .copy, start := 0 }] } } : Device).resyncSnoop 0, _, by decide +kernel, by decide +kernel, by decide +kernel, by decide +kernel, rfl, rfl, by decide +kernel, by decide +kernel⟩,
   ⟨srcD, 0, srcD.resyncSnoop 0, _, by decide +kernel, by decide +kernel, by decide +kernel, by decide +kernel, rfl, rfl, by decide +kernel, by decide +kernel⟩,
   ⟨{ D0 with twin := { svc := .solo, resyncRun := true, resyncSource := true }, coh := { csWait := [⟨0, 5, .engine⟩] } }, _, by decide +kernel, by decide +kernel, by decide +kernel, by decide +kernel, rfl, by decide +kernel⟩,
   ⟨{ D0 with twin := { svc := .solo, resyncRun := true, resyncSource := true } }, _, by decide +kernel, by decide +kernel, by decide +kernel, by decide +kernel, rfl, by decide +kernel⟩,
   ⟨{ D0 with twin := { svc := .solo, resyncRun := true } }, _, _, by decide +kernel, rfl, rfl, by decide +kernel⟩,
   ⟨{ D0 with twin := { svc := .resync, resyncRun := true } }, _, _, _, by decide +kernel, rfl, rfl, by decide +kernel, rfl⟩,
   ⟨{ D0 with side := 1, twin := { svc := .join } }, by decide +kernel, by decide +kernel⟩,
   ⟨{ D0 with side := 1, twin := { svc := .join, peerOk := [3], twinSvc := .solo } }, by decide +kernel⟩,
   ⟨{ D0 with twin := { svc := .handingOver, peerOk := [3] } }, _, rfl, by decide +kernel⟩,
   ⟨{ D0 with twin := { svc := .paired, hbIn := true } }, _, rfl, by decide +kernel⟩,
   ⟨soloD, _, rfl, by decide +kernel⟩,
   ⟨{ D0 with twin := { svc := .paired, hbIn := true } }, by decide +kernel, by decide +kernel, by decide +kernel, by decide +kernel⟩,
   ⟨{ D0 with side := 1 }, by decide +kernel⟩,
   ⟨D0, by decide +kernel⟩,
   ⟨{ D0 with twin := { svc := .paired, twinSvc := .paired } }, by decide +kernel, by decide +kernel, by decide +kernel, by decide +kernel⟩,
   ⟨{ D0 with twin := { leads := true } }, by decide +kernel⟩,
   ⟨{ D0 with twin := { svc := .paired, twinSvc := .paired } }, by decide +kernel, by decide +kernel, by decide +kernel, by decide +kernel⟩,
   ⟨D0, by decide +kernel⟩,
   ⟨{ D0 with twin := { hand := some { withdraw := true } } }, _, rfl, by decide +kernel⟩,
   ⟨{ D0 with twin := { hand := some { withdraw := true, step := 2 } } }, _, rfl, by decide +kernel⟩,
   ⟨{ D0 with twin := { hand := some { withdraw := true, step := 1 } } }, _, rfl, by decide +kernel⟩,
   ⟨{ D0 with twin := { svc := .handingOver, hand := some { withdraw := true, step := 2 } } }, _, _, rfl, by decide +kernel, rfl, rfl⟩,
   ⟨D0, by decide +kernel⟩,
   ⟨{ D0 with twin := { resetAfter := true } }, by decide +kernel⟩,
   ⟨D0, { fwd (some 4) with req := { (fwd (some 4)).req with qla := 2 ^ 45 } }, by decide +kernel, by decide +kernel⟩,
   ⟨fwd none, by decide +kernel⟩,
   ⟨D0, _, rfl, .inl (by decide +kernel)⟩,
   ⟨{ D0 with twin := { timeLocked := true } }, _, rfl, by decide +kernel, .inl (by decide +kernel)⟩,
   ⟨peerD, { p := 2, tseq := some 0 }, 1, 0, none, by decide +kernel⟩,
   ⟨peerD, { p := 4, tseq := some 0 }, 1, 0, none, _, by decide +kernel, by decide +kernel, rfl, .inl rfl⟩,
   ⟨stewD, { p := 4 }, 1, 0x1A10A, none, stewD.consumeMsg 4 (.stewReq 1 0x1A10A none), by decide +kernel, by decide +kernel, rfl, by decide +kernel, by decide +kernel, by decide +kernel⟩,
   ⟨stewD, { p := 4 }, 1, 0x1A108, some 5, stewD.consumeMsg 4 (.stewReq 1 0x1A108 (some 5)), 5, by decide +kernel, by decide +kernel, rfl, by decide +kernel, by decide +kernel, by decide +kernel, by decide +kernel⟩,
   ⟨stewD, { p := 4 }, 1, 0x1A108, none, stewD.consumeMsg 4 (.stewReq 1 0x1A108 none), by decide +kernel, by decide +kernel, rfl, by decide +kernel, by decide +kernel, by decide +kernel, by decide +kernel⟩,
   ⟨D0, { p := 4 }, 1, true, 5, by decide +kernel⟩,
   ⟨peerD, { p := 4 }, 1, true, 5, by decide +kernel, by decide +kernel⟩⟩

theorem witness_ResetsAndPackageLinks :
    (∃ (d : Device), (d.power.auxOk = false)) ∧
    (∃ (d : Device), (d.power.auxOk = true)) ∧
    (∃ (d : Device) (cause : Nat), (d.power.mainOn = false ∨ 6 < cause)) ∧
    (∃ (d : Device) (cause : Nat), (d.power.mainOn = true) ∧ (cause ≤ 6)) ∧
    (∃ (d : Device), (d.power.hubReset = true)) ∧
    (∃ (d : Device) (e : Device), (d.power.hubReset = false) ∧ (e = d.deviceReset 0)) ∧
    (∃ (d : Device) (c : Nat) (x : Channel) (e : Device), (x = d.chan c) ∧ (d.hubUp = true) ∧ (c < 16) ∧ (x.state = .training) ∧ (x.fast = false) ∧ (e = (d.setReg DDRCH.CH_STAT.FAST_TRAIN 0 c).evt DDRCH.flag.FULL_TRAIN c)) ∧
    (∃ (d : Device) (c : Nat) (x : Channel) (e : Device), (x = d.chan c) ∧ (d.hubUp = true) ∧ (c < 16) ∧ (x.state = .training) ∧ (x.fast = true) ∧ (e = d.setReg DDRCH.CH_STAT.FAST_TRAIN 1 c)) ∧
    (∃ (d : Device) (c : Nat) (x : Channel), (x = d.chan c) ∧ (d.hubUp = true) ∧ (c < 16) ∧ (x.state = .training) ∧ (x.attempts < 2)) ∧
    (∃ (d : Device) (c : Nat) (x : Channel), (x = d.chan c) ∧ (d.hubUp = true) ∧ (c < 16) ∧ (x.state = .training) ∧ (2 ≤ x.attempts)) ∧
    (∃ (d : Device) (c : Nat), (d.hubUp = false ∨ (d.chan c).state ≠ .training ∨ 16 ≤ c)) ∧
    (∃ (d : Device), (d.hubUp = false ∨ d.twin.svc ≠ .start ∨ d.power.hold = true ∨ d.sec.run = none ∨ (∃ c, c < 16 ∧ d.startsWith c = false))) ∧
    (∃ (d : Device), (d.hubUp = true) ∧ (d.twin.svc = .start) ∧ (d.power.hold = false) ∧ (d.sec.run.isSome = true) ∧ ((∀ c, c < 16 → d.startsWith c = true)) ∧ (d.mintOk = true)) ∧
    (∃ (d : Device), (d.hubUp = true) ∧ (d.twin.svc = .start) ∧ (d.power.hold = false) ∧ (d.sec.run.isSome = true) ∧ ((∀ c, c < 16 → d.startsWith c = true)) ∧ (d.mintOk = false)) ∧
    (∃ (d : Device) (n : Nat), (n < 6) ∧ (KMap.get d.power.d2d 0 n < 16)) ∧
    (∃ (d : Device) (n : Nat), (n < 6) ∧ (16 ≤ KMap.get d.power.d2d 0 n)) ∧
    (∃ (n : Nat), (6 ≤ n)) ∧
    (∃ (d : Device), (d.power.sbTries < 16)) ∧
    (∃ (d : Device), (16 ≤ d.power.sbTries)) :=
  ⟨⟨{ D0 with power := { auxOk := false } }, rfl⟩,
   ⟨D0, rfl⟩,
   ⟨D0, 7, by decide +kernel⟩,
   ⟨D0, 6, rfl, by decide +kernel⟩,
   ⟨{ D0 with power := { hubReset := true } }, rfl⟩,
   ⟨D0, _, rfl, rfl⟩,
   ⟨D0, 15, _, _, rfl, by decide +kernel, by decide +kernel, by decide +kernel, by decide +kernel, rfl⟩,
   ⟨{ D0 with chans := [(15, { fast := true })] }, 15, _, _, rfl, by decide +kernel, by decide +kernel, by decide +kernel, by decide +kernel, rfl⟩,
   ⟨{ D0 with chans := [(15, { attempts := 1 })] }, 15, _, rfl, by decide +kernel, by decide +kernel, by decide +kernel, by decide +kernel⟩,
   ⟨{ D0 with chans := [(15, { attempts := 2 })] }, 15, _, rfl, by decide +kernel, by decide +kernel, by decide +kernel, by decide +kernel⟩,
   ⟨chD, 0, by decide +kernel⟩,
   ⟨D0, .inr (.inr (.inr (.inr ⟨0, by decide, by decide⟩)))⟩,
   ⟨{ D0 with chans := (List.range 16).map (fun k => (k, { state := .active })) }, rfl, by decide +kernel, by decide +kernel, by decide +kernel, by decide +kernel, by decide +kernel⟩,
   ⟨{ D0 with chans := (List.range 16).map (fun k => (k, { state := .active })), sec := { D0.sec with outOk := false } }, rfl, by decide +kernel, by decide +kernel, by decide +kernel, by decide +kernel, by decide +kernel⟩,
   ⟨{ D0 with power := { d2d := [(5, 15)] } }, 5, by decide +kernel, by decide +kernel⟩,
   ⟨{ D0 with power := { d2d := [(5, 16)] } }, 5, by decide +kernel, by decide +kernel⟩,
   ⟨6, by decide +kernel⟩,
   ⟨{ D0 with power := { sbTries := 15 } }, by decide +kernel⟩,
   ⟨{ D0 with power := { sbTries := 16 } }, by decide +kernel⟩⟩

theorem witness_FaultsEscalationAndTheFatalReaction :
    (∃ (d : Device) (p : Page) (i : Nat) (f : Flag), (p.errFlags.find? (fun x => x.bit == f.bit) = some f) ∧ (i < Page.count d.hw.gradeH p) ∧ ((p ≠ .mint ∧ p ≠ .secalm) ∨ f.cls = .none)) ∧
    (∃ (d : Device) (p : Page) (i : Nat) (f : Flag), (p.errFlags.find? (fun x => x.bit == f.bit) = some f) ∧ (i < Page.count d.hw.gradeH p) ∧ (p = .mint ∨ p = .secalm) ∧ (f.cls ≠ .none)) ∧
    (∃ (d : Device) (p : Page) (i : Nat) (bit : Nat), (p.errFlags.find? (fun x => x.bit == bit) = none ∨ Page.count d.hw.gradeH p ≤ i)) ∧
    (∃ (d : Device) (e : Device), (d.hubUp = true) ∧ (d.mgmt.run0 = true) ∧ (d.mgmt.run1 = true) ∧ (e = ({ d with mgmt := { d.mgmt with run0 := false, active := if d.mgmt.active = 0 then 1 else d.mgmt.active } } : Device))) ∧
    (∃ (d : Device) (e : Device), (d.hubUp = true) ∧ (d.mgmt.run0 = true) ∧ (d.mgmt.run1 = true) ∧ (e = ({ d with mgmt := { d.mgmt with run1 := false, active := if d.mgmt.active = 1 then 0 else d.mgmt.active } } : Device))) ∧
    (∃ (d : Device) (e : Device), (d.hubUp = true) ∧ (d.mgmt.run0 = true) ∧ (d.mgmt.run1 = false) ∧ (e = ({ d with mgmt := { d.mgmt with run0 := false } } : Device))) ∧
    (∃ (d : Device) (e : Device), (d.hubUp = true) ∧ (d.mgmt.run1 = true) ∧ (d.mgmt.run0 = false) ∧ (e = ({ d with mgmt := { d.mgmt with run1 := false } } : Device))) ∧
    (∃ (d : Device) (n : Nat), (2 ≤ n ∨ (if n = 0 then d.mgmt.run0 else d.mgmt.run1) = false ∨ d.hubUp = false)) ∧
    (∃ (d : Device) (s : Nat) (since : _) (flag : _) (e : Device), (KMap.find d.fc.timers s = some (.running since flag)) ∧ (d.sourceHas s .uc = true) ∧ (since + 1000000 * d.reg FC.FC_CTL.ESC_MS ≤ d.power.aon) ∧ (e = (({ d with fc := { d.fc with timers := KMap.put d.fc.timers s .expired, escalated := d.fc.escalated ++ [s] } } : Device).countSat FC.ESCALATIONS.COUNT))) ∧
    (∃ (d : Device) (s : Nat), (d.sourceHas s .uc = false ∨ KMap.find d.fc.timers s = none ∨ KMap.find d.fc.timers s = some .expired ∨ (∃ since flag, KMap.find d.fc.timers s = some (.running since flag) ∧ d.power.aon < since + 1000000 * d.reg FC.FC_CTL.ESC_MS))) ∧
    (∃ (d : Device), (d.fc.ftPending = [] ∨ d.hubUp = false)) ∧
    (∃ (d : Device) (held : _) (e : Device), (d.hubUp = true) ∧ (d.fc.ftPending ≠ []) ∧ (held = (d.twin.mgmtLost && !d.twin.stewarded)) ∧ (e = ((d.containAll 4).withdraw 1).fatalRecords held) ∧ ((d.page .pwr).err.getLsbD PWR.flag.THERM_TRIP.bit = true)) ∧
    (∃ (d : Device) (held : _) (e : Device), (d.hubUp = true) ∧ (d.fc.ftPending ≠ []) ∧ (held = (d.twin.mgmtLost && !d.twin.stewarded)) ∧ (e = ((d.containAll 4).withdraw 1).fatalRecords held) ∧ ((d.page .pwr).err.getLsbD PWR.flag.THERM_TRIP.bit = false) ∧ (held = false)) ∧
    (∃ (d : Device) (held : _) (e : Device), (d.hubUp = true) ∧ (d.fc.ftPending ≠ []) ∧ (held = (d.twin.mgmtLost && !d.twin.stewarded)) ∧ (e = ((d.containAll 4).withdraw 1).fatalRecords held) ∧ ((d.page .pwr).err.getLsbD PWR.flag.THERM_TRIP.bit = false) ∧ (held = true) ∧ (e.twin.held500 = false)) ∧
    (∃ (d : Device) (held : _) (e : Device), (d.hubUp = true) ∧ (d.fc.ftPending ≠ []) ∧ (held = (d.twin.mgmtLost && !d.twin.stewarded)) ∧ (e = ((d.containAll 4).withdraw 1).fatalRecords held) ∧ ((d.page .pwr).err.getLsbD PWR.flag.THERM_TRIP.bit = false) ∧ (held = true) ∧ (e.twin.held500 = true)) ∧
    (∃ (d : Device), ((d.page .fc).lock = true)) ∧
    (∃ (d : Device) (cls : _) (e : Device) (c : FaultClass), ((d.page .fc).lock = false) ∧ (e = d.store FC.FC_TEST.CLASS cls) ∧ (c = FaultClass.ofCode (e.reg FC.FC_TEST.CLASS)) ∧ (e.fc.testCls = c)) ∧
    (∃ (d : Device) (cls : _) (e : Device) (c : FaultClass) (g : Device), ((d.page .fc).lock = false) ∧ (e = d.store FC.FC_TEST.CLASS cls) ∧ (c = FaultClass.ofCode (e.reg FC.FC_TEST.CLASS)) ∧ (e.fc.testCls ≠ c) ∧ (g = e.dropErr FC.flag.TEST)) ∧
    (∃ (d : Device) (t : _), (t < 4) ∧ (d.tier.diesOut.contains t = false)) ∧
    (∃ (d : Device) (t : _), (4 ≤ t ∨ d.tier.diesOut.contains t = true)) ∧
    (∃ (d : Device) (n : Nat) (e : Coalesce), (d.ldg.coal[n]? = some e) ∧ (e.opened + 1000000 * d.reg LEDGER.LDG_CTL.COALESCE_MS ≤ d.power.aon)) ∧
    (∃ (d : Device) (n : Nat) (e : Coalesce), (d.ldg.coal[n]? = some e) ∧ (d.power.aon < e.opened + 1000000 * d.reg LEDGER.LDG_CTL.COALESCE_MS)) ∧
    (∃ (d : Device) (n : Nat), (d.ldg.coal.length ≤ n)) :=
  ⟨⟨D0, .coh, 0, COH.flag.HOST_DUP, by decide +kernel, by decide +kernel, by decide +kernel⟩,
   ⟨D0, .mint, 0, Page.mint.errFlags.headD COH.flag.HOST_DUP, by decide +kernel, by decide +kernel, by decide +kernel, by decide +kernel⟩,
   ⟨D0, .coh, 0, 31, by decide +kernel⟩,
   ⟨D0, _, by decide +kernel, by decide +kernel, by decide +kernel, rfl⟩,
   ⟨D0, _, by decide +kernel, by decide +kernel, by decide +kernel, rfl⟩,
   ⟨{ D0 with mgmt := { run1 := false } }, _, by decide +kernel, by decide +kernel, by decide +kernel, rfl⟩,
   ⟨{ D0 with mgmt := { run0 := false } }, _, by decide +kernel, by decide +kernel, by decide +kernel, rfl⟩,
   ⟨D0, 2, by decide +kernel⟩,
   ⟨escD (1000000 * D0.reg FC.FC_CTL.ESC_MS), 100, 0, _, _, rfl, by decide +kernel, by decide +kernel, rfl⟩,
   ⟨escD (1000000 * D0.reg FC.FC_CTL.ESC_MS - 1), 100, .inr (.inr (.inr ⟨0, _, rfl, by decide +kernel⟩))⟩,
   ⟨D0, by decide +kernel⟩,
   ⟨{ D0.setPage .pwr 0 { err := 2 ^ PWR.flag.THERM_TRIP.bit } with fc := { ftPending := [(5, true)] } }, _, _, by decide +kernel, by decide +kernel, rfl, rfl, by decide +kernel⟩,
   ⟨{ D0 with fc := { ftPending := [(5, true)] } }, _, _, by decide +kernel, by decide +kernel, rfl, rfl, by decide +kernel, rfl⟩,
   ⟨{ D0 with fc := { ftPending := [(5, true)] }, twin := { mgmtLost := true } }, _, _, by decide +kernel, by decide +kernel, rfl, rfl, by decide +kernel, rfl, by decide +kernel⟩,
   ⟨{ D0 with fc := { ftPending := [(5, true)] }, twin := { mgmtLost := true, held500 := true } }, _, _, by decide +kernel, by decide +kernel, rfl, rfl, by decide +kernel, rfl, by decide +kernel⟩,
   ⟨lockD .fc, by decide +kernel⟩,
   ⟨{ D0 with fc := { testCls := FaultClass.ofCode 3 } }, 3, _, _, by decide +kernel, rfl, rfl, by decide +kernel⟩,
   ⟨{ D0 with fc := { testCls := FaultClass.ofCode 1 } }, 3, _, _, _, by decide +kernel, rfl, rfl, by decide +kernel, rfl⟩,
   ⟨D0, 3, by decide +kernel, by decide +kernel⟩,
   ⟨{ D0 with tier := { diesOut := [3] } }, 3, by decide +kernel⟩,
   ⟨{ D0 with power := { aon := 1000000 * D0.reg LEDGER.LDG_CTL.COALESCE_MS }, ldg := { coal := [{ key := [1], seqRef := 0, source := 0, pageId := 0, cls := 0, tLast := 0 }] } }, 0, _, rfl, by decide +kernel⟩,
   ⟨{ D0 with ldg := { coal := [{ key := [1], seqRef := 0, source := 0, pageId := 0, cls := 0, tLast := 0 }] } }, 0, _, rfl, by decide +kernel⟩,
   ⟨D0, 0, by decide +kernel⟩⟩

theorem witness_LedgerWriterAndReaders :
    (∃ (d : Device), (d.ldg.queue = [])) ∧
    (∃ (d : Device) (r : Record) (rest : _) (sec : Nat) (n : Nat) (g : Ledger), (d.ldg.queue = r :: rest) ∧ (sec = d.ldg.sectorAt d.ldg.pos) ∧ (n = KMap.get d.ldg.counts 0 sec + 1) ∧ (g = (({ d.ldg with counts := KMap.put d.ldg.counts sec n, queue := rest, recs := KMap.put d.ldg.recs (64 * d.ldg.pos + d.ldg.slot) r } : Ledger).pushLast r).advance) ∧ (r.seq ≠ 2 ^ 64 - 1) ∧ (n < 10 ^ 9)) ∧
    (∃ (d : Device) (r : Record) (rest : _) (sec : Nat) (n : Nat) (g : Ledger), (d.ldg.queue = r :: rest) ∧ (sec = d.ldg.sectorAt d.ldg.pos) ∧ (n = KMap.get d.ldg.counts 0 sec + 1) ∧ (g = (({ d.ldg with counts := KMap.put d.ldg.counts sec n, queue := rest, recs := KMap.put d.ldg.recs (64 * d.ldg.pos + d.ldg.slot) r } : Ledger).pushLast r).advance) ∧ (r.seq ≠ 2 ^ 64 - 1) ∧ (10 ^ 9 ≤ n)) ∧
    (∃ (d : Device) (r : Record) (rest : _) (sec : Nat) (n : Nat) (g : Ledger), (d.ldg.queue = r :: rest) ∧ (sec = d.ldg.sectorAt d.ldg.pos) ∧ (n = KMap.get d.ldg.counts 0 sec + 1) ∧ (g = (({ d.ldg with counts := KMap.put d.ldg.counts sec n, queue := rest, recs := KMap.put d.ldg.recs (64 * d.ldg.pos + d.ldg.slot) r } : Ledger).pushLast r).advance) ∧ (r.seq = 2 ^ 64 - 1) ∧ (n < 10 ^ 9)) ∧
    (∃ (d : Device) (r : Record) (rest : _) (sec : Nat) (n : Nat) (g : Ledger), (d.ldg.queue = r :: rest) ∧ (sec = d.ldg.sectorAt d.ldg.pos) ∧ (n = KMap.get d.ldg.counts 0 sec + 1) ∧ (g = (({ d.ldg with counts := KMap.put d.ldg.counts sec n, queue := rest, recs := KMap.put d.ldg.recs (64 * d.ldg.pos + d.ldg.slot) r } : Ledger).pushLast r).advance) ∧ (r.seq = 2 ^ 64 - 1) ∧ (10 ^ 9 ≤ n)) ∧
    (∃ (d : Device), (d.power.auxOk = false)) ∧
    (∃ (d : Device) (s : Bool) (n : Nat), (d.power.auxOk = true) ∧ (n = 0 ∨ 4 < n ∨ (s = true ∧ n = 4))) ∧
    (∃ (d : Device) (s : Bool) (q : Nat) (n : Nat) (rs : _) (b : List Nat), (d.power.auxOk = true) ∧ (0 < n) ∧ (n ≤ 3 ∨ (s = false ∧ n = 4)) ∧ (rs = (List.range n).map (fun i => d.ldg.readSeq (q + i))) ∧ (b = rs.flatMap (fun r => (r.2.map Record.bytes).getD [])) ∧ (rs.any (fun r => r.1 == 2) = true)) ∧
    (∃ (d : Device) (s : Bool) (q : Nat) (n : Nat) (rs : _) (b : List Nat), (d.power.auxOk = true) ∧ (0 < n) ∧ (n ≤ 3 ∨ (s = false ∧ n = 4)) ∧ (rs = (List.range n).map (fun i => d.ldg.readSeq (q + i))) ∧ (b = rs.flatMap (fun r => (r.2.map Record.bytes).getD [])) ∧ (rs.any (fun r => r.1 == 2) = false) ∧ (rs.any (fun r => r.1 == 1) = true)) ∧
    (∃ (d : Device) (s : Bool) (q : Nat) (n : Nat) (rs : _) (b : List Nat), (d.power.auxOk = true) ∧ (0 < n) ∧ (n ≤ 3 ∨ (s = false ∧ n = 4)) ∧ (rs = (List.range n).map (fun i => d.ldg.readSeq (q + i))) ∧ (b = rs.flatMap (fun r => (r.2.map Record.bytes).getD [])) ∧ (rs.any (fun r => r.1 == 2) = false) ∧ (rs.any (fun r => r.1 == 1) = false)) ∧
    (∃ (d : Device) (i : Nat), (d.power.auxOk = true) ∧ (64 ≤ i)) ∧
    (∃ (d : Device) (i : Nat) (r : Record), (d.power.auxOk = true) ∧ (i < 64) ∧ (d.ldg.lastWords[i]? = some r)) ∧
    (∃ (d : Device) (i : Nat), (d.power.auxOk = true) ∧ (i < 64) ∧ (d.ldg.lastWords[i]? = none)) ∧
    (∃ (d : Device) (f : Nat), (d.power.auxOk = true) ∧ (1504 < f)) ∧
    (∃ (d : Device) (f : Nat), (d.power.auxOk = true) ∧ (f ≤ 1504)) ∧
    (∃ (d : Device) (last : _) (i : Nat) (e : Device) (st : Nat) (r : Option Record), (e = (d.setReg LEDGER.RD_CMD.LAST_WORDS (if last = true then 1 else 0)).setReg LEDGER.RD_CMD.INDEX i) ∧ ((if last = true then e.ldg.readLast (i % 64) else e.ldg.readSeq (e.regPair LEDGER.RD_SEQ_LO.SEQ LEDGER.RD_SEQ_HI.SEQ)) = (st, r)) ∧ (r = none)) ∧
    (∃ (d : Device) (last : _) (i : Nat) (e : Device) (st : Nat) (r : Option Record) (x : Record), (e = (d.setReg LEDGER.RD_CMD.LAST_WORDS (if last = true then 1 else 0)).setReg LEDGER.RD_CMD.INDEX i) ∧ ((if last = true then e.ldg.readLast (i % 64) else e.ldg.readSeq (e.regPair LEDGER.RD_SEQ_LO.SEQ LEDGER.RD_SEQ_HI.SEQ)) = (st, r)) ∧ (r = some x)) ∧
    (∃ (g : Ledger) (q : Nat), ((∀ r, r ∈ KMap.vals g.recs → r.seq ≠ q))) ∧
    (∃ (g : Ledger) (q : Nat), ((∃ r, r ∈ KMap.vals g.recs ∧ r.seq = q)) ∧ ((∀ r, r ∈ KMap.vals g.recs → r.seq = q → r.torn = true))) ∧
    (∃ (d : Device) (g : Ledger), (g = (if d.ldg.noteSecond = d.power.aon / 10 ^ 9 then d.ldg else { d.ldg with noteSecond := d.power.aon / 10 ^ 9, notes := 0 })) ∧ (100 ≤ g.notes)) ∧
    (∃ (d : Device) (g : Ledger) (det : List Nat), (g = (if d.ldg.noteSecond = d.power.aon / 10 ^ 9 then d.ldg else { d.ldg with noteSecond := d.power.aon / 10 ^ 9, notes := 0 })) ∧ (g.notes < 100) ∧ (det = noteData.flatMap (fun f => leBytes 4 (d.reg f)))) :=
  ⟨⟨D0, rfl⟩,
   ⟨recD, _, _, _, _, _, rfl, rfl, rfl, rfl, by decide +kernel, by decide +kernel⟩,
   ⟨{ recD with ldg := { queue := [rec1], nextSeq := 2, counts := [(0, 10 ^ 9 - 1)] } }, _, _, _, _, _, rfl, rfl, rfl, rfl, by decide +kernel, by decide +kernel⟩,
   ⟨{ D0 with ldg := { queue := [{ rec1 with seq := 2 ^ 64 - 1 }], nextSeq := 2 } }, _, _, _, _, _, rfl, rfl, rfl, rfl, rfl, by decide +kernel⟩,
   ⟨{ D0 with ldg := { queue := [{ rec1 with seq := 2 ^ 64 - 1 }], nextSeq := 2, counts := [(0, 10 ^ 9 - 1)] } }, _, _, _, _, _, rfl, rfl, rfl, rfl, rfl, by decide +kernel⟩,
   ⟨{ D0 with power := { auxOk := false } }, rfl⟩,
   ⟨D0, true, 4, rfl, by decide +kernel⟩,
   ⟨{ D0 with ldg := { recs := [(0, { rec1 with torn := true })], nextSeq := 2 } }, true, 1, 1, _, _, rfl, by decide +kernel, by decide +kernel, rfl, rfl, by decide +kernel⟩,
   ⟨{ D0 with ldg := { recs := [(0, rec1)], nextSeq := 2 } }, true, 1, 3, _, _, rfl, by decide +kernel, by decide +kernel, rfl, rfl, by decide +kernel, by decide +kernel⟩,
   ⟨{ D0 with ldg := { recs := [(0, rec1)], nextSeq := 2 } }, true, 1, 1, _, _, rfl, by decide +kernel, by decide +kernel, rfl, rfl, by decide +kernel, by decide +kernel⟩,
   ⟨D0, 64, rfl, by decide +kernel⟩,
   ⟨{ D0 with ldg := { lastWords := [rec1] } }, 0, _, rfl, by decide +kernel, rfl⟩,
   ⟨D0, 63, rfl, by decide +kernel, by decide +kernel⟩,
   ⟨D0, 1505, rfl, by decide +kernel⟩,
   ⟨D0, 1504, rfl, by decide +kernel⟩,
   ⟨D0, false, 0, _, _, none, rfl, rfl, rfl⟩,
   ⟨{ D0 with ldg := { lastWords := [rec1] } }, true, 0, _, _, some rec1, _, rfl, rfl, rfl⟩,
   ⟨{}, 1, (by intro r h; cases h)⟩,
   ⟨{ recs := [(0, { rec1 with torn := true })] }, 1, ⟨_, .head _, rfl⟩, (by intro r h _; cases h with | head => rfl | tail _ h => cases h)⟩,
   ⟨{ D0 with ldg := { notes := 100 } }, _, rfl, by decide +kernel⟩,
   ⟨{ D0 with ldg := { notes := 99 } }, _, _, rfl, by decide +kernel, rfl⟩⟩

theorem witness_LinkTraining :
    (∃ (d : Device) (k : LinkId) (x : Link), (x = d.link k) ∧ (x.state = .detect)) ∧
    (∃ (d : Device) (k : LinkId) (x : Link), (x = d.link k) ∧ (x.state ≠ .detect)) ∧
    (∃ (d : Device) (k : LinkId) (x : Link) (f : TrainFields) (e : Device), (x = d.link k) ∧ (x.state = .ts1) ∧ (e = d.setLink k { x with heard := some (f.linkId, f.port) }) ∧ (x.trainCount < 7)) ∧
    (∃ (d : Device) (k : LinkId) (x : Link) (f : TrainFields) (e : Device), (x = d.link k) ∧ (x.state = .ts1) ∧ (e = d.setLink k { x with heard := some (f.linkId, f.port) }) ∧ (7 ≤ x.trainCount)) ∧
    (∃ (d : Device) (k : LinkId) (x : Link), (x = d.link k) ∧ (x.state = .active)) ∧
    (∃ (d : Device) (k : LinkId) (x : Link), (x = d.link k) ∧ (x.state = .disabled ∨ x.state = .quiet ∨ x.state = .detect ∨ x.state = .sleep ∨ x.state = .ending)) ∧
    (∃ (d : Device) (k : LinkId) (x : Link), (x = d.link k) ∧ (x.state = .disabled ∨ x.state = .quiet ∨ x.state = .detect ∨ x.state = .sleep ∨ x.state = .ts1)) ∧
    (∃ (d : Device) (k : LinkId) (x : Link), (x = d.link k) ∧ (x.state ≠ .ending)) ∧
    (∃ (d : Device) (k : LinkId) (x : Link) (f : TrainFields) (b : Nat), (x = d.link k) ∧ (x.state = .ts2) ∧ (d.ts2Fails k f = some b) ∧ (b = 0)) ∧
    (∃ (d : Device) (k : LinkId) (x : Link) (f : TrainFields) (b : Nat), (x = d.link k) ∧ (x.state = .ts2) ∧ (d.ts2Fails k f = some b) ∧ (b ≠ 0)) ∧
    (∃ (d : Device) (k : LinkId) (x : Link) (f : TrainFields) (n : Nat) (g : TrainFields) (e : Device), (x = d.link k) ∧ (x.state = .ts2) ∧ (d.ts2Fails k f = none) ∧ (g = { f with lane := 0 }) ∧ (n = (if x.lastTs2 = some g then x.trainCount + 1 else 1)) ∧ (e = d.setLink k { x with heard := some (f.linkId, f.port), lastTs2 := some g, trainCount := n, ts2Sent := x.ts2Sent + 1 }) ∧ (¬ (8 ≤ n ∧ 16 ≤ x.ts2Sent + 1))) ∧
    (∃ (d : Device) (k : LinkId) (x : Link) (f : TrainFields) (n : Nat) (g : TrainFields) (e : Device), (x = d.link k) ∧ (x.state = .ts2) ∧ (d.ts2Fails k f = none) ∧ (g = { f with lane := 0 }) ∧ (n = (if x.lastTs2 = some g then x.trainCount + 1 else 1)) ∧ (e = d.setLink k { x with heard := some (f.linkId, f.port), lastTs2 := some g, trainCount := n, ts2Sent := x.ts2Sent + 1 }) ∧ (8 ≤ n ∧ 16 ≤ x.ts2Sent + 1)) ∧
    (∃ (d : Device) (k : LinkId) (x : Link) (f : TrainFields), (x = d.link k) ∧ (x.state = .ts2 ∨ x.state = .ending) ∧ (x.lastTs2 = some f)) ∧
    (∃ (d : Device) (k : LinkId) (x : Link), (x = d.link k) ∧ (x.state = .ts2 ∨ x.state = .ending) ∧ (x.lastTs2 = none)) ∧
    (∃ (d : Device) (k : LinkId) (x : Link) (f : TrainFields), (x = d.link k) ∧ (x.state = .ending) ∧ (x.lastTs2 = some f)) ∧
    (∃ (d : Device) (k : LinkId) (x : Link), (x = d.link k) ∧ (x.state = .ending) ∧ (x.lastTs2 = none)) ∧
    (∃ (d : Device) (k : LinkId) (x : Link), (x = d.link k) ∧ (x.state = .detect ∨ x.state = .ts1 ∨ x.state = .ts2 ∨ x.state = .ending)) ∧
    (∃ (d : Device) (k : LinkId) (x : Link), (x = d.link k) ∧ (x.state = .active ∨ x.state = .sleep ∨ x.state = .quiet ∨ x.state = .disabled)) ∧
    (∃ (d : Device) (k : LinkId) (x : Link), (x = d.link k) ∧ (x.state = .quiet)) ∧
    (∃ (d : Device) (k : LinkId) (x : Link), (x = d.link k) ∧ (x.state ≠ .quiet)) ∧
    (∃ (d : Device) (k : LinkId) (x : Link), (x = d.link k) ∧ (x.graceRun = false ∨ x.state = .active ∨ x.state = .sleep)) ∧
    (∃ (d : Device) (k : LinkId) (x : Link) (e : Device), (x = d.link k) ∧ (x.graceRun = true) ∧ (x.state ≠ .active) ∧ (x.state ≠ .sleep) ∧ (e = (d.linkEvt k 2).flush k ((x.epoch + 1) % 256)) ∧ (x.state = .ts2)) ∧
    (∃ (d : Device) (k : LinkId) (x : Link) (e : Device), (x = d.link k) ∧ (x.graceRun = true) ∧ (x.state ≠ .active) ∧ (x.state ≠ .sleep) ∧ (e = (d.linkEvt k 2).flush k ((x.epoch + 1) % 256)) ∧ (x.state ≠ .ts2)) ∧
    (∃ (d : Device) (k : LinkId) (x : Link) (live : _), (x = d.link k) ∧ (live = (match k with | .site s => d.siteLive s | .peer p => d.peerLive p)) ∧ (x.state ≠ .disabled ∨ live = false)) ∧
    (∃ (d : Device) (k : LinkId) (x : Link) (live : _), (x = d.link k) ∧ (live = (match k with | .site s => d.siteLive s | .peer p => d.peerLive p)) ∧ (x.state = .disabled) ∧ (live = true)) ∧
    (∃ (d : Device) (k : LinkId) (x : Link), (x = d.link k) ∧ (x.state = .sleep ∨ x.state = .detect ∨ x.state = .ts1 ∨ x.state = .ts2 ∨ x.state = .ending)) ∧
    (∃ (d : Device) (k : LinkId) (x : Link), (x = d.link k) ∧ (x.state = .quiet ∨ x.state = .disabled) ∧ (d.hasLink k = true)) ∧
    (∃ (d : Device) (k : LinkId) (x : Link), (x = d.link k) ∧ (x.state = .quiet ∨ x.state = .disabled) ∧ (d.hasLink k = false)) :=
  ⟨⟨linkD 4 { state := .detect }, .peer 4, _, rfl, by decide +kernel⟩,
   ⟨D0, .peer 4, _, rfl, by decide +kernel⟩,
   ⟨linkD 4 { state := .ts1, trainCount := 6 }, .peer 4, _, { role := 2 }, _, rfl, by decide +kernel, rfl, by decide +kernel⟩,
   ⟨linkD 4 { state := .ts1, trainCount := 7 }, .peer 4, _, { role := 2 }, _, rfl, by decide +kernel, rfl, by decide +kernel⟩,
   ⟨linkD 4 { state := .active }, .peer 4, _, rfl, by decide +kernel⟩,
   ⟨linkD 4 { state := .sleep }, .peer 4, _, rfl, .inr (.inr (.inr (.inl rfl)))⟩,
   ⟨linkD 4 { state := .ts1 }, .peer 4, _, rfl, .inr (.inr (.inr (.inr rfl)))⟩,
   ⟨linkD 4 { state := .ts2 }, .peer 4, _, rfl, by decide +kernel⟩,
   ⟨linkD 4 { state := .ts2, lanes := 0 }, .peer 4, _, { role := 2, lanes := 0 }, _, rfl, by decide +kernel, rfl, rfl⟩,
   ⟨D0.setLink (.site 9) { state := .ts2 }, .site 9, _, { role := 2 }, _, rfl, by decide +kernel, rfl, by decide +kernel⟩,
   ⟨linkD 4 { state := .ts2, lanes := 15 }, .peer 4, _, { role := 2, lanes := 15 }, _, _, _, rfl, by decide +kernel, rfl, rfl, rfl, rfl, by decide +kernel⟩,
   ⟨linkD 4 { state := .ts2, lanes := 15, lastTs2 := some { role := 2, lanes := 15 }, trainCount := 7, ts2Sent := 15 }, .peer 4, _, { role := 2, lanes := 15 }, _, _, _, rfl, by decide +kernel, rfl, rfl, rfl, rfl, by decide +kernel⟩,
   ⟨linkD 4 { state := .ending, lastTs2 := some { role := 2 } }, .peer 4, _, _, rfl, .inr rfl, rfl⟩,
   ⟨linkD 4 { state := .ending }, .peer 4, _, rfl, .inr rfl, rfl⟩,
   ⟨linkD 4 { state := .ending, lastTs2 := some { role := 2 } }, .peer 4, _, _, rfl, rfl, rfl⟩,
   ⟨linkD 4 { state := .ending }, .peer 4, _, rfl, rfl, rfl⟩,
   ⟨linkD 4 { state := .ending }, .peer 4, _, rfl, .inr (.inr (.inr rfl))⟩,
   ⟨linkD 4 { state := .disabled }, .peer 4, _, rfl, .inr (.inr (.inr rfl))⟩,
   ⟨linkD 4 { state := .quiet }, .peer 4, _, rfl, by decide +kernel⟩,
   ⟨linkD 4 { state := .detect }, .peer 4, _, rfl, by decide +kernel⟩,
   ⟨linkD 4 { state := .sleep, graceRun := true }, .peer 4, _, rfl, .inr (.inr rfl)⟩,
   ⟨linkD 4 { state := .ts2, graceRun := true }, .peer 4, _, _, rfl, by decide +kernel, by decide +kernel, by decide +kernel, rfl, by decide +kernel⟩,
   ⟨linkD 4 { state := .detect, graceRun := true }, .peer 4, _, _, rfl, by decide +kernel, by decide +kernel, by decide +kernel, rfl, by decide +kernel⟩,
   ⟨linkD 4 { state := .active }, .peer 4, _, _, rfl, rfl, .inl (by decide +kernel)⟩,
   ⟨soloD.setLink (.site 9) { state := .disabled }, .site 9, _, _, rfl, rfl, by decide +kernel, by decide +kernel⟩,
   ⟨linkD 4 { state := .ending }, .peer 4, _, rfl, .inr (.inr (.inr (.inr rfl)))⟩,
   ⟨D0.setLink (.peer 4) { state := .quiet }, .peer 4, _, rfl, .inl rfl, by decide +kernel⟩,
   ⟨D0.setLink (.peer 9) { state := .disabled }, .peer 9, _, rfl, .inr rfl, by decide +kernel⟩⟩

theorem witness_LinkFlitsFramesAndSleep :
    (∃ (d : Device) (k : LinkId) (x : Link) (s : Nat), (x = d.link k) ∧ (k = .site s) ∧ (x.state = .active)) ∧
    (∃ (d : Device) (k : LinkId) (x : Link), (x = d.link k) ∧ ((∃ p, k = .peer p) ∨ x.state ≠ .active)) ∧
    (∃ (d : Device) (k : LinkId) (x : Link) (h : FlitHdr) (n : Nat) (c : Instr) (f : Device → Device) (e : Device), (x = d.link k) ∧ (e = d.headerErrs k n) ∧ ((c, f) ∈ [((.txnFlit k h n : Instr), fun (e : Device) => if h.ftype = 2 then e.linkFalls k 3 else e.rxTxn k h), (.idleFlit k h n, fun e => e.rxIdle k h), (.retrain k ⟨h, n⟩, fun e => e.linkFalls k 6), (.disable k ⟨h, n⟩, fun e => e.linkFalls k 8), (.sleepReq k ⟨h, n⟩, fun e => e.sleepAsked k), (.sleepAck k ⟨h, n⟩, fun e => if (e.link k).sleepSent = true then e.sleepNow k else e), (.sleepNak k ⟨h, n⟩, fun e => if (e.link k).sleepSent = true then e.setLink k { e.link k with sleepSent := false, holdTxn := false } else e)]) ∧ (x.state ≠ .active)) ∧
    (∃ (d : Device) (k : LinkId) (x : Link) (h : FlitHdr) (n : Nat) (c : Instr) (f : Device → Device) (e : Device), (x = d.link k) ∧ (e = d.headerErrs k n) ∧ ((c, f) ∈ [((.txnFlit k h n : Instr), fun (e : Device) => if h.ftype = 2 then e.linkFalls k 3 else e.rxTxn k h), (.idleFlit k h n, fun e => e.rxIdle k h), (.retrain k ⟨h, n⟩, fun e => e.linkFalls k 6), (.disable k ⟨h, n⟩, fun e => e.linkFalls k 8), (.sleepReq k ⟨h, n⟩, fun e => e.sleepAsked k), (.sleepAck k ⟨h, n⟩, fun e => if (e.link k).sleepSent = true then e.sleepNow k else e), (.sleepNak k ⟨h, n⟩, fun e => if (e.link k).sleepSent = true then e.setLink k { e.link k with sleepSent := false, holdTxn := false } else e)]) ∧ (x.state = .active) ∧ (x.badHeader h = true)) ∧
    (∃ (d : Device) (k : LinkId) (x : Link) (h : FlitHdr) (n : Nat) (c : Instr) (f : Device → Device) (e : Device) (g : Device), (x = d.link k) ∧ (e = d.headerErrs k n) ∧ ((c, f) ∈ [((.txnFlit k h n : Instr), fun (e : Device) => if h.ftype = 2 then e.linkFalls k 3 else e.rxTxn k h), (.idleFlit k h n, fun e => e.rxIdle k h), (.retrain k ⟨h, n⟩, fun e => e.linkFalls k 6), (.disable k ⟨h, n⟩, fun e => e.linkFalls k 8), (.sleepReq k ⟨h, n⟩, fun e => e.sleepAsked k), (.sleepAck k ⟨h, n⟩, fun e => if (e.link k).sleepSent = true then e.sleepNow k else e), (.sleepNak k ⟨h, n⟩, fun e => if (e.link k).sleepSent = true then e.setLink k { e.link k with sleepSent := false, holdTxn := false } else e)]) ∧ (x.state = .active) ∧ (x.badHeader h = false) ∧ (g = e.takeHeader k h) ∧ ((g.link k).state = .active)) ∧
    (∃ (d : Device) (k : LinkId) (x : Link) (h : FlitHdr) (n : Nat) (c : Instr) (f : Device → Device) (e : Device) (g : Device), (x = d.link k) ∧ (e = d.headerErrs k n) ∧ ((c, f) ∈ [((.txnFlit k h n : Instr), fun (e : Device) => if h.ftype = 2 then e.linkFalls k 3 else e.rxTxn k h), (.idleFlit k h n, fun e => e.rxIdle k h), (.retrain k ⟨h, n⟩, fun e => e.linkFalls k 6), (.disable k ⟨h, n⟩, fun e => e.linkFalls k 8), (.sleepReq k ⟨h, n⟩, fun e => e.sleepAsked k), (.sleepAck k ⟨h, n⟩, fun e => if (e.link k).sleepSent = true then e.sleepNow k else e), (.sleepNak k ⟨h, n⟩, fun e => if (e.link k).sleepSent = true then e.setLink k { e.link k with sleepSent := false, holdTxn := false } else e)]) ∧ (x.state = .active) ∧ (x.badHeader h = false) ∧ (g = e.takeHeader k h) ∧ ((g.link k).state ≠ .active)) ∧
    (∃ (d : Device) (k : LinkId) (x : Link) (n : Nat) (e : Device) (g : Device), (x = d.link k) ∧ (e = d.headerErrs k n) ∧ (g = e.linkCount k SITE.CRC_ERRS.COUNT PEER.CRC_ERRS.COUNT) ∧ (x.state = .active)) ∧
    (∃ (d : Device) (k : LinkId) (x : Link) (n : Nat) (e : Device) (g : Device), (x = d.link k) ∧ (e = d.headerErrs k n) ∧ (g = e.linkCount k SITE.CRC_ERRS.COUNT PEER.CRC_ERRS.COUNT) ∧ (x.state = .ts1 ∨ x.state = .ts2)) ∧
    (∃ (d : Device) (k : LinkId) (x : Link) (n : Nat) (e : Device) (g : Device), (x = d.link k) ∧ (e = d.headerErrs k n) ∧ (g = e.linkCount k SITE.CRC_ERRS.COUNT PEER.CRC_ERRS.COUNT) ∧ (x.state = .ending)) ∧
    (∃ (d : Device) (k : LinkId) (x : Link) (n : Nat) (e : Device) (g : Device), (x = d.link k) ∧ (e = d.headerErrs k n) ∧ (g = e.linkCount k SITE.CRC_ERRS.COUNT PEER.CRC_ERRS.COUNT) ∧ (x.state = .disabled ∨ x.state = .quiet ∨ x.state = .detect ∨ x.state = .sleep)) ∧
    (∃ (d : Device) (k : LinkId) (x : Link), (x = d.link k) ∧ (x.state = .sleep)) ∧
    (∃ (d : Device) (k : LinkId) (x : Link), (x = d.link k) ∧ (x.state ≠ .sleep)) ∧
    (∃ (d : Device) (k : LinkId) (x : Link) (p : Nat), (x = d.link k) ∧ (k = .peer p) ∧ (x.state ≠ .active)) ∧
    (∃ (d : Device) (k : LinkId) (x : Link) (p : Nat) (bytes : List Nat), (x = d.link k) ∧ (k = .peer p) ∧ (x.state = .active) ∧ (isSkip bytes = true)) ∧
    (∃ (d : Device) (k : LinkId) (x : Link) (p : Nat) (bytes : List Nat) (e : Device), (x = d.link k) ∧ (k = .peer p) ∧ (x.state = .active) ∧ (isSkip bytes = false) ∧ (decodeFrame bytes = none) ∧ (e = (d.setLink k { x with rxScr := (scrambleBytes x.rxScr (bytes.take 240)).2, badFrames := x.badFrames + 1, frames := x.frames + 1 }).countSat PEER.FEC_UNCORR.COUNT p) ∧ (7 ≤ x.badFrames ∨ 2047 ≤ x.frames)) ∧
    (∃ (d : Device) (k : LinkId) (x : Link) (p : Nat) (bytes : List Nat) (e : Device), (x = d.link k) ∧ (k = .peer p) ∧ (x.state = .active) ∧ (isSkip bytes = false) ∧ (decodeFrame bytes = none) ∧ (e = (d.setLink k { x with rxScr := (scrambleBytes x.rxScr (bytes.take 240)).2, badFrames := x.badFrames + 1, frames := x.frames + 1 }).countSat PEER.FEC_UNCORR.COUNT p) ∧ (x.badFrames < 7) ∧ (x.frames < 2047)) ∧
    (∃ (d : Device) (k : LinkId) (x : Link) (p : Nat) (bytes : List Nat) (data : List Nat) (fixed : _) (e : Device), (x = d.link k) ∧ (k = .peer p) ∧ (x.state = .active) ∧ (isSkip bytes = false) ∧ (decodeFrame bytes = some (data, fixed)) ∧ (e = (d.setLink k { x with rxScr := (scrambleBytes x.rxScr data).2, badFrames := 0, frames := x.frames + 1 }).countSat PEER.FEC_CORR.COUNT p fixed) ∧ (2047 ≤ x.frames)) ∧
    (∃ (d : Device) (k : LinkId) (x : Link) (p : Nat) (bytes : List Nat) (data : List Nat) (fixed : _) (e : Device), (x = d.link k) ∧ (k = .peer p) ∧ (x.state = .active) ∧ (isSkip bytes = false) ∧ (decodeFrame bytes = some (data, fixed)) ∧ (e = (d.setLink k { x with rxScr := (scrambleBytes x.rxScr data).2, badFrames := 0, frames := x.frames + 1 }).countSat PEER.FEC_CORR.COUNT p fixed) ∧ (x.frames < 2047)) ∧
    (∃ (d : Device) (k : LinkId) (x : Link), (x = d.link k) ∧ (x.state = .active) ∧ (x.unacked = [])) ∧
    (∃ (d : Device) (k : LinkId) (x : Link), (x = d.link k) ∧ (x.state = .active) ∧ (x.unacked ≠ [])) ∧
    (∃ (d : Device) (k : LinkId) (x : Link) (e : Device), (x = d.link k) ∧ (e = d.reeqFails (if isPeer k = true then 1 else 0) (linkNo k)) ∧ ((e.link k).state = .active)) ∧
    (∃ (d : Device) (k : LinkId) (x : Link) (e : Device), (x = d.link k) ∧ (e = d.reeqFails (if isPeer k = true then 1 else 0) (linkNo k)) ∧ ((e.link k).state ≠ .active)) :=
  ⟨⟨D0.setLink (.site 9) { state := .active }, .site 9, _, 9, rfl, rfl, rfl⟩,
   ⟨linkD 4 { state := .active }, .peer 4, _, rfl, .inl ⟨4, rfl⟩⟩,
   ⟨linkD 4 { state := .ts1 }, .peer 4, _, {}, 1, _, _, _, rfl, rfl, .head _, by decide +kernel⟩,
   ⟨linkD 4 { state := .active }, .peer 4, _, { epoch := 9 }, 1, _, _, _, rfl, rfl, .head _, by decide +kernel, by decide +kernel⟩,
   ⟨linkD 4 { state := .active }, .peer 4, _, {}, 1, _, _, _, _, rfl, rfl, .head _, by decide +kernel, by decide +kernel, rfl, by decide +kernel⟩,
   ⟨D0.setLink (.site 9) { state := .active, partner := some (1, 2), unacked := [{ seq := 0, pool := 0, body := .data 0 true }], replays := 3 }, .site 9, _, { ackType := 2, ack := 0 }, 1, _, _, _, _, rfl, rfl, .head _, by decide +kernel, by decide +kernel, rfl, by decide +kernel⟩,
   ⟨linkD 4 { state := .active }, .peer 4, _, 1, _, _, rfl, rfl, rfl, rfl⟩,
   ⟨linkD 4 { state := .ts2 }, .peer 4, _, 1, _, _, rfl, rfl, rfl, .inr rfl⟩,
   ⟨linkD 4 { state := .ending }, .peer 4, _, 1, _, _, rfl, rfl, rfl, rfl⟩,
   ⟨linkD 4 { state := .sleep }, .peer 4, _, 1, _, _, rfl, rfl, rfl, .inr (.inr (.inr rfl))⟩,
   ⟨linkD 4 { state := .sleep }, .peer 4, _, rfl, rfl⟩,
   ⟨linkD 4 { state := .active }, .peer 4, _, rfl, by decide +kernel⟩,
   ⟨linkD 4 { state := .sleep }, .peer 4, _, 4, rfl, rfl, by decide +kernel⟩,
   ⟨linkD 4 { state := .active }, .peer 4, _, 4, List.replicate 246 0x4B, rfl, rfl, rfl, by decide +kernel⟩,
   ⟨linkD 4 { state := .active, badFrames := 7 }, .peer 4, _, 4, 1 :: 0 :: 0 :: 1 :: List.replicate 242 0, _, rfl, rfl, rfl, by decide +kernel, by decide +kernel, rfl, .inl (by decide +kernel)⟩,
   ⟨linkD 4 { state := .active, badFrames := 6, frames := 2046 }, .peer 4, _, 4, 1 :: 0 :: 0 :: 1 :: List.replicate 242 0, _, rfl, rfl, rfl, by decide +kernel, by decide +kernel, rfl, by decide +kernel, by decide +kernel⟩,
   ⟨linkD 4 { state := .active, frames := 2047 }, .peer 4, _, 4, List.replicate 246 0, List.replicate 240 0, 0, _, rfl, rfl, rfl, by decide +kernel, by decide +kernel, rfl, by decide +kernel⟩,
   ⟨linkD 4 { state := .active, frames := 2046 }, .peer 4, _, 4, List.replicate 246 0, List.replicate 240 0, 0, _, rfl, rfl, rfl, by decide +kernel, by decide +kernel, rfl, by decide +kernel⟩,
   ⟨linkD 4 { state := .active }, .peer 4, _, rfl, rfl, rfl⟩,
   ⟨linkD 4 { state := .active, unacked := [{ seq := 0, pool := 2, body := .data 0 true }] }, .peer 4, _, rfl, rfl, by decide +kernel⟩,
   ⟨linkD 4 { state := .active }, .peer 4, _, _, rfl, rfl, rfl⟩,
   ⟨linkD 4 { state := .ts1 }, .peer 4, _, _, rfl, rfl, by decide +kernel⟩⟩

theorem witness_DroopTemperatureAndReferences :
    (∃ (d : Device) (dom : Nat) (det : Nat) (y : _), (det < detectors dom) ∧ (d.domainRuns dom = true) ∧ (y = (if (d.domain dom).tripped.contains det = true then (d.domain dom).tripped else (d.domain dom).tripped ++ [det])) ∧ ((d.domain dom).stretch = false)) ∧
    (∃ (d : Device) (dom : Nat) (det : Nat) (y : _), (det < detectors dom) ∧ (d.domainRuns dom = true) ∧ (y = (if (d.domain dom).tripped.contains det = true then (d.domain dom).tripped else (d.domain dom).tripped ++ [det])) ∧ ((d.domain dom).stretch = true)) ∧
    (∃ (d : Device) (dom : Nat) (det : Nat), (detectors dom ≤ det ∨ d.domainRuns dom = false)) ∧
    (∃ (dom : Nat), (15 ≤ dom)) ∧
    (∃ (d : Device) (dom : Nat) (det : Nat) (e : Device) (n : Nat) (g : Device), ((d.domain dom).tripped.contains det = true) ∧ (dom < 15) ∧ (d.domainRuns dom = true) ∧ (e = d.countSat PWR.SAGS.COUNT) ∧ (n = min 2 ((d.domain dom).level + 1)) ∧ (g = e.setDomain dom { d.domain dom with level := n, stretch := false, lastTrip := d.power.aon }) ∧ (n = (d.domain dom).level) ∧ (e.divLevel dom ≠ 3)) ∧
    (∃ (d : Device) (dom : Nat) (det : Nat) (e : Device) (n : Nat) (g : Device), ((d.domain dom).tripped.contains det = true) ∧ (dom < 15) ∧ (d.domainRuns dom = true) ∧ (e = d.countSat PWR.SAGS.COUNT) ∧ (n = min 2 ((d.domain dom).level + 1)) ∧ (g = e.setDomain dom { d.domain dom with level := n, stretch := false, lastTrip := d.power.aon }) ∧ (n ≠ (d.domain dom).level ∨ e.divLevel dom = 3)) ∧
    (∃ (d : Device) (dom : Nat) (det : Nat), ((d.domain dom).tripped.contains det = false ∨ 15 ≤ dom ∨ d.domainRuns dom = false)) ∧
    (∃ (d : Device) (dom : Nat), (dom < 15) ∧ ((d.domain dom).level ≠ 0) ∧ ((d.domain dom).tripped.isEmpty = true) ∧ ((d.domain dom).lastTrip + 1000000 * d.reg PWR.DROOP_CTL.HOLD_MS ≤ d.power.aon)) ∧
    (∃ (d : Device) (dom : Nat), (15 ≤ dom ∨ (d.domain dom).level = 0 ∨ (d.domain dom).tripped.isEmpty = false ∨ d.power.aon < (d.domain dom).lastTrip + 1000000 * d.reg PWR.DROOP_CTL.HOLD_MS)) ∧
    (∃ (d : Device) (l : List (Nat × Int)) (e : Device), (e = d.readSensors l) ∧ (105 ≤ e.tj.1)) ∧
    (∃ (d : Device) (l : List (Nat × Int)) (e : Device), (e = d.readSensors l) ∧ (100 ≤ e.tj.1) ∧ (e.tj.1 < 105)) ∧
    (∃ (d : Device) (l : List (Nat × Int)) (e : Device), (e = d.readSensors l) ∧ (e.tj.1 < 100)) ∧
    (∃ (d : Device) (l : List (Nat × Int)) (e : Device), (e = d.readSensors l) ∧ (115 ≤ e.tj.1)) ∧
    (∃ (d : Device) (l : List (Nat × Int)) (e : Device), (e = d.readSensors l) ∧ (e.tj.1 < 115)) ∧
    (∃ (d : Device) (n : Nat) (t : Int) (e : Device), (n < 32) ∧ (e = (({ d with power := { d.power with sensors := KMap.put d.power.sensors n t } } : Device).checkSensor n))) ∧
    (∃ (n : Nat), (32 ≤ n)) ∧
    (∃ (d : Device) (n : Nat), (d.power.excluded.contains n = true)) ∧
    (∃ (d : Device) (n : Nat), (d.power.excluded.contains n = false) ∧ (d.sensor n < -20 ∨ 150 < d.sensor n ∨ ((∃ k, k ∈ d.validSensors (sensorDie n) ∧ k ≠ n) ∧ ∀ k, k ∈ d.validSensors (sensorDie n) → k ≠ n → 15 < (d.sensor k - d.sensor n).natAbs))) ∧
    (∃ (d : Device) (n : Nat), (-20 ≤ d.sensor n) ∧ (d.sensor n ≤ 150) ∧ ((∀ k, k ∈ d.validSensors (sensorDie n) → k = n) ∨ (∃ k, k ∈ d.validSensors (sensorDie n) ∧ k ≠ n ∧ (d.sensor k - d.sensor n).natAbs ≤ 15))) ∧
    (∃ (d : Device) (r : Nat), (r < 5) ∧ (d.power.refsLost.contains r = false) ∧ (d.power.mainOn = true)) ∧
    (∃ (d : Device) (r : Nat), (5 ≤ r ∨ d.power.refsLost.contains r = true ∨ d.power.mainOn = false)) ∧
    (∃ (d : Device), (d.power.refsLost.contains 5 = false)) ∧
    (∃ (d : Device), (d.power.refsLost.contains 5 = true)) ∧
    (∃ (d : Device) (q : Nat), (4 ≤ q ∨ d.power.refsLost.contains q = false)) ∧
    (∃ (d : Device) (q : Nat), (q < 4) ∧ (d.power.refsLost.contains q = true)) :=
  ⟨⟨D0, 8, 1, _, by decide +kernel, by decide +kernel, rfl, by decide +kernel⟩,
   ⟨domD { tripped := [0], stretch := true }, 14, 0, _, by decide +kernel, by decide +kernel, rfl, by decide +kernel⟩,
   ⟨D0, 8, 2, by decide +kernel⟩,
   ⟨15, by decide +kernel⟩,
   ⟨domD { tripped := [0], level := 2 }, 14, 0, _, _, _, by decide +kernel, by decide +kernel, by decide +kernel, rfl, rfl, rfl, by decide +kernel, by decide +kernel⟩,
   ⟨domD { tripped := [0], level := 1 }, 14, 0, _, _, _, by decide +kernel, by decide +kernel, by decide +kernel, rfl, rfl, rfl, .inl (by decide +kernel)⟩,
   ⟨domD { level := 2 }, 14, 0, by decide +kernel⟩,
   ⟨{ D0 with power := { domains := [(14, { level := 2 })], aon := 1000000 * D0.reg PWR.DROOP_CTL.HOLD_MS } }, 14, by decide +kernel, by decide +kernel, by decide +kernel, by decide +kernel⟩,
   ⟨D0, 14, .inr (.inl rfl)⟩,
   ⟨D0, (List.range 12).map (fun k => (k, 105)), _, rfl, by decide +kernel⟩,
   ⟨D0, (List.range 12).map (fun k => (k, 100)), _, rfl, by decide +kernel, by decide +kernel⟩,
   ⟨D0, (List.range 12).map (fun k => (k, 99)), _, rfl, by decide +kernel⟩,
   ⟨D0, (List.range 12).map (fun k => (k, 115)), _, rfl, by decide +kernel⟩,
   ⟨D0, (List.range 12).map (fun k => (k, 114)), _, rfl, by decide +kernel⟩,
   ⟨D0, 31, -21, _, by decide +kernel, rfl⟩,
   ⟨32, by decide +kernel⟩,
   ⟨{ D0 with power := { excluded := [31] } }, 31, by decide +kernel⟩,
   ⟨{ D0 with power := { sensors := [(31, -21)] } }, 31, by decide +kernel, .inl (by decide +kernel)⟩,
   ⟨D0, 31, by decide +kernel, by decide +kernel, .inr ⟨30, by decide +kernel⟩⟩,
   ⟨D0, 4, by decide +kernel, by decide +kernel, by decide +kernel⟩,
   ⟨{ D0 with power := { refsLost := [4] } }, 4, by decide +kernel⟩,
   ⟨D0, by decide +kernel⟩,
   ⟨{ D0 with power := { refsLost := [5] } }, by decide +kernel⟩,
   ⟨D0, 3, by decide +kernel⟩,
   ⟨{ D0 with power := { refsLost := [3] } }, 3, by decide +kernel, by decide +kernel⟩⟩

theorem witness_MarginPlanCalibrationAndBlockPower :
    (∃ (d : Device) (l : List (Nat × Nat × Nat)) (e : Device) (m : Nat × Nat), (e = (l.filter (fun x => decide (x.1 < 64))).foldl (fun (e : Device) x => ({ e.nextFree with power := { e.power with degr := KMap.put e.power.degr x.1 (e.degradation x.1 x.2.1 x.2.2 (Config.freeNat e.fresh)) } } : Device)) d) ∧ (m = e.power.degr.foldl (fun (m : Nat × Nat) x => if m.1 < x.2 then (x.2, x.1) else m) (0, 0))) ∧
    (∃ (d : Device) (m : Nat), (d.power.cal.usedTorn.contains (Config.baselineWord m % 2 ^ 18 / 1024) = true)) ∧
    (∃ (d : Device), (d.fwAlive = false ∨ d.hubUp = false)) ∧
    (∃ (d : Device), (d.planIsDue = false)) ∧
    (∃ (d : Device) (items : List PlanItem) (e : Device), (d.fwAlive = true) ∧ (d.hubUp = true) ∧ (e = ((({ d with power := { d.power with plan := { d.power.plan with items := items } } } : Device).setPair AGE.LAST_PLAN_LO.TIME AGE.LAST_PLAN_HI.TIME d.time).evt AGE.flag.PLAN_DONE)) ∧ (items.contains .rateDown = false) ∧ (d.planIsDue = true)) ∧
    (∃ (d : Device) (items : List PlanItem) (e : Device) (g : Device), (d.fwAlive = true) ∧ (d.hubUp = true) ∧ (e = ((({ d with power := { d.power with plan := { d.power.plan with items := items } } } : Device).setPair AGE.LAST_PLAN_LO.TIME AGE.LAST_PLAN_HI.TIME d.time).evt AGE.flag.PLAN_DONE)) ∧ (items.contains .rateDown = true) ∧ (g = ((e.setReg AGE.PLAN_STAT.NEEDS_HANDOVER 1).evt AGE.flag.NEEDS_HANDOVER).powerRecord (0x13 :: itemBytes .rateDown) []) ∧ (d.planIsDue = true)) ∧
    (∃ (d : Device), (d.fwAlive = false ∨ d.hubUp = false ∨ d.flagReg AGE.PLAN_CTL.AUTO_APPLY = false ∨ d.power.plan.current.isSome = true ∨ d.power.plan.next = none ∨ (∃ i, d.power.plan.next = some i ∧ d.itemReady i = false))) ∧
    (∃ (d : Device) (i : PlanItem) (e : Device) (g : Device) (m : Nat), (d.fwAlive = true) ∧ (d.hubUp = true) ∧ (d.flagReg AGE.PLAN_CTL.AUTO_APPLY = true) ∧ (d.power.plan.current = none) ∧ (d.power.plan.next = some i) ∧ (d.itemReady i = true) ∧ (e = d.dropItem i) ∧ (g = ({ e with power := { e.power with plan := { e.power.plan with current := some i } } } : Device)) ∧ (i = .vcoreUp m) ∧ (d.reg AGE.VCORE_OFS.STEPS < 10)) ∧
    (∃ (d : Device) (i : PlanItem) (e : Device) (g : Device) (m : Nat), (d.fwAlive = true) ∧ (d.hubUp = true) ∧ (d.flagReg AGE.PLAN_CTL.AUTO_APPLY = true) ∧ (d.power.plan.current = none) ∧ (d.power.plan.next = some i) ∧ (d.itemReady i = true) ∧ (e = d.dropItem i) ∧ (g = ({ e with power := { e.power with plan := { e.power.plan with current := some i } } } : Device)) ∧ (i = .vcoreUp m) ∧ (10 ≤ d.reg AGE.VCORE_OFS.STEPS)) ∧
    (∃ (d : Device) (i : PlanItem) (e : Device) (g : Device) (s : Nat) (f : Device), (d.fwAlive = true) ∧ (d.hubUp = true) ∧ (d.flagReg AGE.PLAN_CTL.AUTO_APPLY = true) ∧ (d.power.plan.current = none) ∧ (d.power.plan.next = some i) ∧ (d.itemReady i = true) ∧ (e = d.dropItem i) ∧ (g = ({ e with power := { e.power with plan := { e.power.plan with current := some i } } } : Device)) ∧ (i = .portReeq 0 s) ∧ (f = e.retrainLink (.site s))) ∧
    (∃ (d : Device) (i : PlanItem) (e : Device) (g : Device) (p : Nat) (f : Device), (d.fwAlive = true) ∧ (d.hubUp = true) ∧ (d.flagReg AGE.PLAN_CTL.AUTO_APPLY = true) ∧ (d.power.plan.current = none) ∧ (d.power.plan.next = some i) ∧ (d.itemReady i = true) ∧ (e = d.dropItem i) ∧ (g = ({ e with power := { e.power with plan := { e.power.plan with current := some i } } } : Device)) ∧ (i = .portReeq 1 p) ∧ (p < 3) ∧ (f = e.retrainLink (.peer p))) ∧
    (∃ (d : Device) (i : PlanItem) (e : Device) (g : Device) (p : Nat), (d.fwAlive = true) ∧ (d.hubUp = true) ∧ (d.flagReg AGE.PLAN_CTL.AUTO_APPLY = true) ∧ (d.power.plan.current = none) ∧ (d.power.plan.next = some i) ∧ (d.itemReady i = true) ∧ (e = d.dropItem i) ∧ (g = ({ e with power := { e.power with plan := { e.power.plan with current := some i } } } : Device)) ∧ (i = .portReeq 1 p) ∧ (3 ≤ p)) ∧
    (∃ (d : Device) (i : PlanItem) (e : Device) (g : Device) (k : Nat) (n : Nat), (d.fwAlive = true) ∧ (d.hubUp = true) ∧ (d.flagReg AGE.PLAN_CTL.AUTO_APPLY = true) ∧ (d.power.plan.current = none) ∧ (d.power.plan.next = some i) ∧ (d.itemReady i = true) ∧ (e = d.dropItem i) ∧ (g = ({ e with power := { e.power with plan := { e.power.plan with current := some i } } } : Device)) ∧ (i = .portReeq k n) ∧ (2 ≤ k)) ∧
    (∃ (d : Device) (i : PlanItem) (e : Device) (g : Device) (c : Nat), (d.fwAlive = true) ∧ (d.hubUp = true) ∧ (d.flagReg AGE.PLAN_CTL.AUTO_APPLY = true) ∧ (d.power.plan.current = none) ∧ (d.power.plan.next = some i) ∧ (d.itemReady i = true) ∧ (e = d.dropItem i) ∧ (g = ({ e with power := { e.power with plan := { e.power.plan with current := some i } } } : Device)) ∧ (i = .chRetrain c)) ∧
    (∃ (d : Device) (i : PlanItem) (e : Device) (m : Nat), (d.power.plan.current = some i) ∧ (e = ({ d with power := { d.power with plan := { d.power.plan with current := none } } } : Device)) ∧ (i = .vcoreUp m)) ∧
    (∃ (d : Device) (i : PlanItem) (e : Device), (d.power.plan.current = some i) ∧ (e = ({ d with power := { d.power with plan := { d.power.plan with current := none } } } : Device)) ∧ ((∀ m, i ≠ .vcoreUp m))) ∧
    (∃ (d : Device), (d.power.hsw.state = .pg)) ∧
    (∃ (d : Device), (d.power.hsw.state ≠ .pg)) ∧
    (∃ (d : Device) (ag : Agent), (d.calAgent ag = false)) ∧
    (∃ (d : Device) (ag : Agent) (x : _), (d.calAgent ag = true) ∧ (x = d.power.cal) ∧ (x.run = .idle) ∧ (x.staging.isNone = true)) ∧
    (∃ (d : Device) (ag : Agent) (x : _), (d.calAgent ag = true) ∧ (x = d.power.cal) ∧ (x.run ≠ .idle ∨ x.staging.isNone = false)) ∧
    (∃ (d : Device) (ag : Agent) (x : _), (d.calAgent ag = true) ∧ (x = d.power.cal) ∧ (x.run ≠ .idle)) ∧
    (∃ (d : Device) (ag : Agent) (x : _), (d.calAgent ag = true) ∧ (x = d.power.cal) ∧ (x.run = .idle) ∧ (x.staging.isNone = false)) ∧
    (∃ (d : Device) (ag : Agent) (x : _), (d.calAgent ag = true) ∧ (x = d.power.cal) ∧ (x.run = .committing)) ∧
    (∃ (d : Device) (ag : Agent) (x : _), (d.calAgent ag = true) ∧ (x = d.power.cal) ∧ (x.run = .opening ∨ (x.run = .idle ∧ x.staging.isNone = false))) ∧
    (∃ (d : Device), (d.power.cal.run = .idle)) ∧
    (∃ (d : Device), (d.power.cal.run = .opening)) ∧
    (∃ (d : Device) (y : _) (e : Device), (d.power.cal.run = .committing) ∧ (y = ({ d.power.cal with staging := d.power.cal.staging.map (fun m => d.power.cal.changed.foldl withCrc m) } : Calibration).programmed 256) ∧ (e = ({ d with power := { d.power with cal := { y with run := .idle, staging := none } } } : Device))) ∧
    (∃ (d : Device) (p : Page) (i : Nat), (Page.count d.hw.gradeH p ≤ i ∨ d.hubUp = false)) ∧
    (∃ (d : Device) (p : Page) (i : Nat) (e : Device), (i < Page.count d.hw.gradeH p) ∧ (d.hubUp = true) ∧ (e = (if p = .site then d.askSleep (.site i) else d)) ∧ (p.alwaysRuns = true ∨ (e.page p i).policy = 3 ∨ (clockPages p i).any (fun k => (e.page p k).policy == 2) = true ∨ e.blockIdle p i = false)) ∧
    (∃ (d : Device) (p : Page) (i : Nat) (e : Device), (i < Page.count d.hw.gradeH p) ∧ (d.hubUp = true) ∧ (e = (if p = .site then d.askSleep (.site i) else d)) ∧ (p.alwaysRuns = false) ∧ ((e.page p i).policy ≠ 3) ∧ ((clockPages p i).any (fun k => (e.page p k).policy == 2) = false) ∧ (e.blockIdle p i = true)) ∧
    (∃ (d : Device) (p : Page) (i : Nat), (Page.count d.hw.gradeH p ≤ i ∨ (d.page p i).policy = 3)) ∧
    (∃ (d : Device) (p : Page) (i : Nat) (e : Device) (f : Device), (i < Page.count d.hw.gradeH p) ∧ ((d.page p i).policy ≠ 3) ∧ (e = ((clockPages p i).filter (fun k => (d.page p k).policy != 3)).foldl (fun (e : Device) k => e.setPage p k ((e.page p k).woken e.power.aon)) d) ∧ (f = ((clockPages p i).filter (fun k => d.pageOn p k && !(e.pageOn p k))).foldl (fun (e : Device) k => e.blockHeld p k) e) ∧ (p = .site)) ∧
    (∃ (d : Device) (p : Page) (i : Nat) (e : Device) (f : Device), (i < Page.count d.hw.gradeH p) ∧ ((d.page p i).policy ≠ 3) ∧ (e = ((clockPages p i).filter (fun k => (d.page p k).policy != 3)).foldl (fun (e : Device) k => e.setPage p k ((e.page p k).woken e.power.aon)) d) ∧ (f = ((clockPages p i).filter (fun k => d.pageOn p k && !(e.pageOn p k))).foldl (fun (e : Device) k => e.blockHeld p k) e) ∧ (p = .ddrch)) ∧
    (∃ (d : Device) (p : Page) (i : Nat) (e : Device) (f : Device), (i < Page.count d.hw.gradeH p) ∧ ((d.page p i).policy ≠ 3) ∧ (e = ((clockPages p i).filter (fun k => (d.page p k).policy != 3)).foldl (fun (e : Device) k => e.setPage p k ((e.page p k).woken e.power.aon)) d) ∧ (f = ((clockPages p i).filter (fun k => d.pageOn p k && !(e.pageOn p k))).foldl (fun (e : Device) k => e.blockHeld p k) e) ∧ (p ≠ .site) ∧ (p ≠ .ddrch)) :=
  ⟨⟨D0, [(63, 5, 5)], _, _, rfl, rfl⟩,
   ⟨{ D0 with power := { cal := { usedTorn := [Config.baselineWord 5 % 2 ^ 18 / 1024] } } }, 5, (by simp)⟩,
   ⟨{ D0 with power := { hubReset := true } }, by decide +kernel⟩,
   ⟨D0, by decide +kernel⟩,
   ⟨{ D0 with time := 86400 * 10 ^ 9 * D0.reg AGE.PLAN_CTL.PERIOD_D }, [], _, rfl, by decide +kernel, rfl, by decide +kernel, by decide +kernel⟩,
   ⟨{ D0 with time := 86400 * 10 ^ 9 * D0.reg AGE.PLAN_CTL.PERIOD_D }, [.rateDown], _, _, rfl, by decide +kernel, rfl, by decide +kernel, rfl, by decide +kernel⟩,
   ⟨D0, .inr (.inr (.inr (.inr (.inl rfl))))⟩,
   ⟨{ D0.setReg AGE.PLAN_CTL.AUTO_APPLY 1 with power := { plan := { items := [.vcoreUp 5] } } }, _, _, _, _, rfl, by decide +kernel, by decide +kernel, rfl, rfl, rfl, rfl, rfl, rfl, by decide +kernel⟩,
   ⟨{ (D0.setReg AGE.PLAN_CTL.AUTO_APPLY 1).setReg AGE.VCORE_OFS.STEPS 10 with power := { plan := { items := [.vcoreUp 5] } } }, _, _, _, _, rfl, by decide +kernel, by decide +kernel, rfl, rfl, rfl, rfl, rfl, rfl, by decide +kernel⟩,
   ⟨{ (D0.setLink (.site 9) { state := .active }).setReg AGE.PLAN_CTL.AUTO_APPLY 1 with power := { plan := { items := [.portReeq 0 9] } } }, _, _, _, _, _, rfl, by decide +kernel, by decide +kernel, rfl, rfl, rfl, rfl, rfl, rfl, rfl⟩,
   ⟨{ D0.setReg AGE.PLAN_CTL.AUTO_APPLY 1 with power := { plan := { items := [.portReeq 1 2] } } }, _, _, _, _, _, rfl, by decide +kernel, by decide +kernel, rfl, rfl, by decide +kernel, rfl, rfl, rfl, by decide +kernel, rfl⟩,
   ⟨{ D0.setReg AGE.PLAN_CTL.AUTO_APPLY 1 with power := { plan := { items := [.portReeq 1 4] } }, twin := { peerOk := [3, 4] } }, _, _, _, _, rfl, by decide +kernel, by decide +kernel, rfl, rfl, by decide +kernel, rfl, rfl, rfl, by decide +kernel⟩,
   ⟨{ hostD.setReg AGE.PLAN_CTL.AUTO_APPLY 1 with power := { plan := { items := [.portReeq 2 2] } } }, _, _, _, _, _, rfl, by decide +kernel, by decide +kernel, rfl, rfl, by decide +kernel, rfl, rfl, rfl, by decide +kernel⟩,
   ⟨{ (pairD []).setReg AGE.PLAN_CTL.AUTO_APPLY 1 with power := { plan := { items := [.chRetrain 5] } } }, _, _, _, _, rfl, by decide +kernel, by decide +kernel, rfl, rfl, by decide +kernel, rfl, rfl, rfl⟩,
   ⟨{ D0 with power := { plan := { current := some (.vcoreUp 5) } } }, _, _, _, rfl, rfl, rfl⟩,
   ⟨{ D0 with power := { plan := { current := some (.portReeq 0 9) } } }, _, _, rfl, rfl, (by intro m h; cases h)⟩,
   ⟨D0, rfl⟩,
   ⟨{ D0 with power := { hsw := { state := .ramp } } }, by decide +kernel⟩,
   ⟨D0, .firmware, rfl⟩,
   ⟨D0, .endpoint, _, rfl, rfl, by decide +kernel, by decide +kernel⟩,
   ⟨{ D0 with power := { cal := { staging := some [] } } }, .endpoint, _, rfl, rfl, .inr rfl⟩,
   ⟨{ D0 with power := { cal := { run := .opening } } }, .endpoint, _, rfl, rfl, by decide +kernel⟩,
   ⟨{ D0 with power := { cal := { staging := some [] } } }, .endpoint, _, rfl, rfl, rfl, by decide +kernel⟩,
   ⟨{ D0 with power := { cal := { run := .committing } } }, .endpoint, _, rfl, rfl, rfl⟩,
   ⟨{ D0 with power := { cal := { run := .opening } } }, .endpoint, _, rfl, rfl, .inl rfl⟩,
   ⟨D0, rfl⟩,
   ⟨{ D0 with power := { cal := { run := .opening } } }, rfl⟩,
   ⟨{ D0 with power := { cal := { run := .committing } } }, _, _, rfl, rfl, rfl⟩,
   ⟨D0, .ddrch, 16, by decide +kernel⟩,
   ⟨D0, .ddrch, 15, _, by decide +kernel, rfl, rfl, by decide +kernel⟩,
   ⟨{ D0 with chans := [(15, { state := .selfRefresh })] }, .ddrch, 15, _, by decide +kernel, by decide +kernel, rfl, by decide +kernel, by decide +kernel, by decide +kernel, by decide +kernel⟩,
   ⟨D0.setPage .ddrch 15 { policy := 3 }, .ddrch, 15, by decide +kernel⟩,
   ⟨D0, .site, 15, _, _, by decide +kernel, by decide +kernel, rfl, rfl, rfl⟩,
   ⟨D0, .ddrch, 15, _, _, by decide +kernel, by decide +kernel, rfl, rfl, rfl⟩,
   ⟨D0, .baker, 0, _, _, by decide +kernel, by decide +kernel, rfl, rfl, by decide +kernel, by decide +kernel⟩⟩

theorem witness_HotSwapSupply :
    (∃ (d : Device) (i : Nat) (v : Nat) (e : Device), (e = d.measured2 i v) ∧ (d.power.hsw.state = .ramp) ∧ (d.power.hsw.vin ≤ v + 100)) ∧
    (∃ (d : Device) (i : Nat) (v : Nat) (e : Device), (e = d.measured2 i v) ∧ (d.power.hsw.state ≠ .ramp ∨ v + 100 < d.power.hsw.vin)) ∧
    (∃ (d : Device) (i : Nat) (v : Nat) (e : Device), (e = d.measured2 i v) ∧ (d.power.hsw.state = .on) ∧ (e.outputOk = true) ∧ (e.inLimit = false)) ∧
    (∃ (d : Device) (i : Nat) (v : Nat) (e : Device), (e = d.measured2 i v) ∧ (d.power.hsw.state ≠ .on ∨ e.outputOk = false ∨ e.inLimit = true)) ∧
    (∃ (d : Device) (i : Nat) (v : Nat) (e : Device), (e = d.measured2 i v) ∧ (d.power.hsw.state ≠ .pg ∨ (d.measured2 d.power.hsw.iout v).outputOk = true)) ∧
    (∃ (d : Device) (i : Nat) (v : Nat) (e : Device) (f : Device), (e = d.measured2 i v) ∧ (d.power.hsw.state = .pg) ∧ ((d.measured2 d.power.hsw.iout v).outputOk = false) ∧ (f = ((d.measured2 d.power.hsw.iout v).evt HSW.flag.PG_OFF).mainOff)) ∧
    (∃ (d : Device) (i : Nat) (v : Nat) (e : Device), (e = d.measured2 i v) ∧ (e.inLimit = true)) ∧
    (∃ (d : Device) (i : Nat) (v : Nat) (e : Device), (e = d.measured2 i v) ∧ (50 * d.reg HSW.HSW_CFG.ILIM ≤ i)) ∧
    (∃ (d : Device) (i : Nat) (v : Nat) (e : Device), (e = d.measured2 i v) ∧ (i < 50 * d.reg HSW.HSW_CFG.ILIM)) ∧
    (∃ (d : Device) (i : Nat) (v : Nat) (e : Device) (t : Int) (f : Device), (e = d.measured2 i v) ∧ (f = ({ d with power := { d.power with hsw := { d.power.hsw with tMeas := t } } } : Device)) ∧ (150 ≤ t) ∧ (t ≤ 200)) ∧
    (∃ (d : Device) (i : Nat) (v : Nat) (e : Device) (t : Int) (f : Device), (e = d.measured2 i v) ∧ (f = ({ d with power := { d.power with hsw := { d.power.hsw with tMeas := t } } } : Device)) ∧ (-40 ≤ t) ∧ (t < 150)) ∧
    (∃ (d : Device) (i : Nat) (v : Nat) (e : Device) (t : Int) (f : Device), (e = d.measured2 i v) ∧ (f = ({ d with power := { d.power with hsw := { d.power.hsw with tMeas := t } } } : Device)) ∧ (t < -40 ∨ 200 < t)) ∧
    (∃ (d : Device) (i : Nat) (v : Nat) (e : Device) (vin : Nat) (t : Int) (f : Device), (e = d.measured2 i v) ∧ (t = d.power.hsw.tModel + (1000000 * d.power.hsw.tMeas + (d.power.hsw.iout : Int) * ((vin : Int) - d.power.hsw.vout) * d.reg HSW.FET_MODEL.RTH - d.power.hsw.tModel) / (1000 * d.reg HSW.FET_MODEL.TAU_MS)) ∧ (f = ({ d with power := { d.power with hsw := { d.power.hsw with vin := vin, tModel := t } } } : Device)) ∧ (150000000 ≤ t)) ∧
    (∃ (d : Device) (i : Nat) (v : Nat) (e : Device) (vin : Nat) (t : Int) (f : Device), (e = d.measured2 i v) ∧ (t = d.power.hsw.tModel + (1000000 * d.power.hsw.tMeas + (d.power.hsw.iout : Int) * ((vin : Int) - d.power.hsw.vout) * d.reg HSW.FET_MODEL.RTH - d.power.hsw.tModel) / (1000 * d.reg HSW.FET_MODEL.TAU_MS)) ∧ (f = ({ d with power := { d.power with hsw := { d.power.hsw with vin := vin, tModel := t } } } : Device)) ∧ (t < 150000000)) ∧
    (∃ (d : Device) (i : Nat) (v : Nat) (e : Device), (e = d.measured2 i v) ∧ (100 * d.reg HSW.HSW_WIN.OV_V < v)) ∧
    (∃ (d : Device) (i : Nat) (v : Nat) (e : Device), (e = d.measured2 i v) ∧ (v ≤ 100 * d.reg HSW.HSW_WIN.OV_V)) ∧
    (∃ (d : Device) (i : Nat) (v : Nat) (e : Device), (e = d.measured2 i v) ∧ (v < 100 * d.reg HSW.HSW_WIN.UV_V) ∧ (d.power.hsw.state = .on ∨ d.power.hsw.state = .pg)) ∧
    (∃ (d : Device) (i : Nat) (v : Nat) (e : Device), (e = d.measured2 i v) ∧ (100 * d.reg HSW.HSW_WIN.UV_V ≤ v ∨ (d.power.hsw.state ≠ .on ∧ d.power.hsw.state ≠ .pg))) ∧
    (∃ (d : Device) (i : Nat) (v : Nat) (e : Device), (e = d.measured2 i v) ∧ (d.power.hsw.state ≠ .pg)) ∧
    (∃ (d : Device) (i : Nat) (v : Nat) (e : Device) (f : Device), (e = d.measured2 i v) ∧ (f.power.hsw.gate = false)) ∧
    (∃ (d : Device) (i : Nat) (v : Nat) (e : Device) (f : Device) (c : Nat) (g : Device) (n : Nat) (k : Device) (m : Device), (e = d.measured2 i v) ∧ (f.power.hsw.gate = true) ∧ (g = (f.withdraw 3).gateDown 1) ∧ (n = min (g.reg HSW.HSW_STAT.TRIP_COUNT + 1) 4) ∧ (k = ((((g.setReg HSW.HSW_STAT.TRIP_COUNT n).setReg HSW.HSW_STAT.LAST_TRIP c).countSat HSW.TRIPS.COUNT).evt HSW.flag.TRIPPED).powerRecord ([0x01, c] ++ leBytes 2 (f.power.hsw.iout / 10) ++ leBytes 2 (f.power.hsw.vout / 10)) [c]) ∧ (n < 4) ∧ (m = { k with power := { k.power with hsw := { k.power.hsw with retryAt := some (k.power.aon + k.retryDelay) } } })) ∧
    (∃ (d : Device) (i : Nat) (v : Nat) (e : Device) (f : Device) (c : Nat) (g : Device) (n : Nat) (k : Device) (m : Device), (e = d.measured2 i v) ∧ (f.power.hsw.gate = true) ∧ (g = (f.withdraw 3).gateDown 1) ∧ (n = min (g.reg HSW.HSW_STAT.TRIP_COUNT + 1) 4) ∧ (k = ((((g.setReg HSW.HSW_STAT.TRIP_COUNT n).setReg HSW.HSW_STAT.LAST_TRIP c).countSat HSW.TRIPS.COUNT).evt HSW.flag.TRIPPED).powerRecord ([0x01, c] ++ leBytes 2 (f.power.hsw.iout / 10) ++ leBytes 2 (f.power.hsw.vout / 10)) [c]) ∧ (n = 4) ∧ (m = (({ k with power := { k.power with hsw := { k.power.hsw with locked := true, retryAt := none } } } : Device).evt HSW.flag.LOCKOUT).powerRecord [0x03] [])) ∧
    (∃ (d : Device) (i : Nat) (v : Nat) (e : Device), (e = d.measured2 i v) ∧ (d.power.hsw.retryAt = none ∨ (∃ t, d.power.hsw.retryAt = some t ∧ d.power.aon < t) ∨ d.power.hsw.recognised = false ∨ d.power.hsw.locked = true)) ∧
    (∃ (d : Device) (i : Nat) (v : Nat) (e : Device) (t : Nat), (e = d.measured2 i v) ∧ (d.power.hsw.retryAt = some t) ∧ (t ≤ d.power.aon) ∧ (d.power.hsw.recognised = true) ∧ (d.power.hsw.locked = false)) ∧
    (∃ (d : Device) (i : Nat) (v : Nat) (e : Device), (e = d.measured2 i v) ∧ (d.power.hsw.state = .pg) ∧ (d.power.hsw.pgAt + 60 * 10 ^ 9 ≤ d.power.aon)) ∧
    (∃ (d : Device) (i : Nat) (v : Nat) (e : Device), (e = d.measured2 i v) ∧ (d.power.hsw.state ≠ .pg ∨ d.power.aon < d.power.hsw.pgAt + 60 * 10 ^ 9)) :=
  ⟨⟨hswD .ramp, 0, 5300, _, rfl, rfl, by decide +kernel⟩,
   ⟨hswD .ramp, 0, 5299, _, rfl, .inr (by decide +kernel)⟩,
   ⟨hswD .on, 0, 5400, _, rfl, by decide +kernel, by decide +kernel, by decide +kernel⟩,
   ⟨hswD .on, 0, 0, _, rfl, .inr (.inl (by decide +kernel))⟩,
   ⟨hswD .on, 0, 0, _, rfl, .inl (by decide +kernel)⟩,
   ⟨hswD .pg, 0, 0, _, _, rfl, by decide +kernel, by decide +kernel, rfl⟩,
   ⟨hswD .on, 99999, 5400, _, rfl, by decide +kernel⟩,
   ⟨hswD .on, 99999, 5400, _, rfl, by decide +kernel⟩,
   ⟨hswD .on, 0, 5400, _, rfl, by decide +kernel⟩,
   ⟨D0, 0, 0, _, 200, _, rfl, rfl, by decide +kernel, by decide +kernel⟩,
   ⟨D0, 0, 0, _, -40, _, rfl, rfl, by decide +kernel, by decide +kernel⟩,
   ⟨D0, 0, 0, _, 201, _, rfl, rfl, by decide +kernel⟩,
   ⟨{ D0 with power := { hsw := { tModel := 160000000, tMeas := 150 } } }, 0, 0, _, 5400, _, _, rfl, rfl, rfl, by decide +kernel⟩,
   ⟨D0, 0, 0, _, 5300, _, _, rfl, rfl, rfl, by decide +kernel⟩,
   ⟨hswD .on, 0, 99999, _, rfl, by decide +kernel⟩,
   ⟨hswD .on, 0, 5400, _, rfl, by decide +kernel⟩,
   ⟨hswD .on, 0, 0, _, rfl, by decide +kernel, .inl rfl⟩,
   ⟨hswD .ramp, 0, 0, _, rfl, .inr (by decide +kernel)⟩,
   ⟨hswD .ramp, 0, 0, _, rfl, by decide +kernel⟩,
   ⟨D0, 0, 0, _, { D0 with power := { hsw := { gate := false } } }, rfl, rfl⟩,
   ⟨D0, 0, 0, _, D0, 1, _, _, _, _, rfl, rfl, rfl, rfl, rfl, by decide +kernel, rfl⟩,
   ⟨D0, 0, 0, _, D0.setReg HSW.HSW_STAT.TRIP_COUNT 3, 1, _, _, _, _, rfl, by decide +kernel, rfl, rfl, rfl, by decide +kernel, rfl⟩,
   ⟨D0, 0, 0, _, rfl, .inl rfl⟩,
   ⟨{ D0 with power := { hsw := { retryAt := some 0 } } }, 0, 0, _, 0, rfl, by decide +kernel, by decide +kernel, by decide +kernel, by decide +kernel⟩,
   ⟨{ D0 with power := { aon := 60 * 10 ^ 9 } }, 0, 0, _, rfl, by decide +kernel, by decide +kernel⟩,
   ⟨D0, 0, 0, _, rfl, .inr (by decide +kernel)⟩⟩

theorem witness_InsertionAuxAndResetCommands :
    (∃ (d : Device) (h : HotSwap), (h = ({ d.power.hsw with prsnt := true, prsntAt := if d.power.hsw.prsnt = true then d.power.hsw.prsntAt else d.power.aon } : HotSwap))) ∧
    (∃ (d : Device) (r : Option Nat), (d.power.hsw.prsnt = true) ∧ (d.power.auxOk = true) ∧ (d.power.hsw.recognised = false) ∧ (d.power.hsw.prsntAt + 100 * 10 ^ 6 ≤ d.power.aon) ∧ (r = (if d.power.hsw.retryAt.isSome = true then some (d.power.aon + d.retryDelay) else none))) ∧
    (∃ (d : Device), (d.power.hsw.prsnt = false ∨ d.power.auxOk = false ∨ d.power.hsw.recognised = true ∨ d.power.aon < d.power.hsw.prsntAt + 100 * 10 ^ 6)) ∧
    (∃ (d : Device), (d.power.hsw.prsnt = false)) ∧
    (∃ (d : Device) (e : Device), (d.power.hsw.prsnt = true) ∧ (e = (({ d with power := { d.power with hsw := { d.power.hsw with prsnt := false, recognised := false } } } : Device).bladeGoes).evt HSW.flag.EXTRACTED) ∧ (e.power.auxOk = true)) ∧
    (∃ (d : Device) (e : Device), (d.power.hsw.prsnt = true) ∧ (e = (({ d with power := { d.power with hsw := { d.power.hsw with prsnt := false, recognised := false } } } : Device).bladeGoes).evt HSW.flag.EXTRACTED) ∧ (e.power.auxOk = false)) ∧
    (∃ (d : Device), (d.power.hsw.gateOff = false ∨ d.power.aon < d.power.hsw.gateOffFrom + 100000)) ∧
    (∃ (d : Device), (d.power.hsw.gateOff = true) ∧ (d.power.hsw.gateOffFrom + 100000 ≤ d.power.aon)) ∧
    (∃ (d : Device) (e : Device), (e = ({ d with power := { d.power with hsw := { d.power.hsw with offHold := true } } } : Device).bladeGoes) ∧ (d.power.auxOk = true)) ∧
    (∃ (d : Device), (d.power.hsw.offHold = false) ∧ (d.power.auxOk = true)) ∧
    (∃ (d : Device) (e : Device), (d.power.hsw.offHold = true) ∧ (e = ({ d with power := { d.power with hsw := { d.power.hsw with offHold := false, startCause := 3 } } } : Device).turnOn) ∧ (d.power.auxOk = true)) ∧
    (∃ (d : Device), (d.power.auxOk = false)) ∧
    (∃ (d : Device), (d.power.auxOk = true) ∧ (d.power.mainOn = false)) ∧
    (∃ (d : Device), (d.power.auxOk = true) ∧ (d.power.mainOn = true)) ∧
    (∃ (d : Device), (d.hubUp = false)) ∧
    (∃ (d : Device), (d.hubUp = true) ∧ ((d.page .rst).lock = true)) ∧
    (∃ (d : Device), (d.hubUp = true) ∧ ((d.page .rst).lock = false)) ∧
    (∃ (d : Device) (c : Nat) (i : Nat) (c4 : _) (i6 : _) (e : Device) (key : _) (r : Nat), (d.hubUp = true) ∧ (c4 = c % 16) ∧ (i6 = i % 64) ∧ (e = ((d.setReg RST.BLK_RESET.BLOCK c).setReg RST.BLK_RESET.INSTANCE i)) ∧ (key = (c4, if 5 ≤ c4 then 0 else i6)) ∧ (r = (if (blockPages c4 i6).isEmpty = true then 1 else if (e.hw.gradeH && (c4 == 1 || c4 == 6 || c4 == 7)) = true then 2 else if e.power.blk.contains key = true then 3 else if c4 = 4 ∧ e.mayRetrain = false then 1 else 0)) ∧ (r ≠ 0)) ∧
    (∃ (d : Device) (c : Nat) (i : Nat) (c4 : _) (i6 : _) (e : Device) (key : _) (r : Nat) (g : Device), (d.hubUp = true) ∧ (c4 = c % 16) ∧ (i6 = i % 64) ∧ (e = ((d.setReg RST.BLK_RESET.BLOCK c).setReg RST.BLK_RESET.INSTANCE i)) ∧ (key = (c4, if 5 ≤ c4 then 0 else i6)) ∧ (r = (if (blockPages c4 i6).isEmpty = true then 1 else if (e.hw.gradeH && (c4 == 1 || c4 == 6 || c4 == 7)) = true then 2 else if e.power.blk.contains key = true then 3 else if c4 = 4 ∧ e.mayRetrain = false then 1 else 0)) ∧ (r = 0) ∧ (g = (e.setReg RST.BLK_STAT.RESULT 0).noteReset 5 0 [c4, i6])) ∧
    (∃ (d : Device) (c : Nat) (i : Nat), (d.power.blk.contains (c, i) = false ∨ (d.power.blkWait.contains (c, i) = true ∧ d.commitsRun c i = true))) ∧
    (∃ (d : Device) (c : Nat) (i : Nat) (e : Device) (f : Device), (d.power.blk.contains (c, i) = true) ∧ (d.power.blkWait.contains (c, i) = false ∨ d.commitsRun c i = false) ∧ (e = d.blockLate c i) ∧ (f = (if c = 7 then e.failResetEnds else e))) :=
  ⟨⟨{ D0 with power := { hsw := { prsnt := false } } }, _, rfl⟩,
   ⟨{ D0 with power := { hsw := { recognised := false }, aon := 100 * 10 ^ 6 } }, _, rfl, by decide +kernel, by decide +kernel, by decide +kernel, rfl⟩,
   ⟨{ D0 with power := { hsw := { prsnt := false } } }, .inl rfl⟩,
   ⟨{ D0 with power := { hsw := { prsnt := false } } }, rfl⟩,
   ⟨D0, _, rfl, rfl, by decide +kernel⟩,
   ⟨{ D0 with power := { auxOk := false } }, _, rfl, rfl, by decide +kernel⟩,
   ⟨{ D0 with power := { hsw := { gateOff := true, gateOffFrom := 1 } } }, .inr (by decide +kernel)⟩,
   ⟨{ D0 with power := { hsw := { gateOff := true }, aon := 100000 } }, rfl, by decide +kernel⟩,
   ⟨D0, _, rfl, by decide +kernel⟩,
   ⟨D0, rfl, by decide +kernel⟩,
   ⟨{ D0 with power := { hsw := { offHold := true } } }, _, rfl, rfl, by decide +kernel⟩,
   ⟨{ D0 with power := { auxOk := false } }, rfl⟩,
   ⟨{ D0 with power := { mainOn := false } }, rfl, by decide +kernel⟩,
   ⟨D0, rfl, by decide +kernel⟩,
   ⟨{ D0 with power := { hubReset := true } }, rfl⟩,
   ⟨lockD .rst, rfl, by decide +kernel⟩,
   ⟨D0, rfl, by decide +kernel⟩,
   ⟨D0, 9, 0, _, _, _, _, _, rfl, rfl, rfl, rfl, rfl, rfl, by decide +kernel⟩,
   ⟨D0, 8, 0, _, _, _, _, _, _, rfl, rfl, rfl, rfl, rfl, rfl, by decide +kernel, rfl⟩,
   ⟨{ D0 with power := { blkWait := [(5, 0)], blk := [(5, 0)] }, batch := { slots := [(3, { state := .committing })] } }, 5, 0, .inr ⟨rfl, by decide +kernel⟩⟩,
   ⟨{ D0 with power := { blk := [(7, 0)] } }, 7, 0, _, _, rfl, .inl rfl, rfl, rfl⟩⟩

theorem witness_KeysAndFirmware :
    (∃ (d : Device), (d.reg MINT.KEY_STAT.CUR_SLOT ≠ 0 ∨ d.sec.key0 ≠ 0)) ∧
    (∃ (d : Device), (d.reg MINT.KEY_STAT.CUR_SLOT = 0) ∧ (d.sec.key0 = 0)) ∧
    (∃ (d : Device), (d.serving = false ∨ d.reg MINT.REKEY_STAT.PHASE ≠ 0 ∨ d.mintOk = false)) ∧
    (∃ (d : Device) (slot : Nat) (n : Nat), (d.serving = true) ∧ (d.reg MINT.REKEY_STAT.PHASE = 0) ∧ (d.mintOk = true) ∧ (slot = 1 - d.reg MINT.KEY_STAT.CUR_SLOT) ∧ (n = d.sec.keysMade + 1)) ∧
    (∃ (d : Device), (d.reg MINT.REKEY_STAT.PHASE ≠ 1 ∨ (∃ c, c < 16 ∧ (d.chan c).state = .retraining))) ∧
    (∃ (d : Device) (e : Device), (d.reg MINT.REKEY_STAT.PHASE = 1) ∧ ((∀ c, c < 16 → (d.chan c).state ≠ .retraining)) ∧ (e = (d.sweepBursts d.rekeyPtr).foldl (fun (e : Device) x => e.rewriteBurst x.1 (d.reg MINT.REKEY_CTL.CLASS) x.2) (d.setRekeyPtr (d.rekeyPtr + 1))) ∧ (d.rekeyPtr + 1 < e.nloaf + 2 ^ 20)) ∧
    (∃ (d : Device) (e : Device) (g : Device), (d.reg MINT.REKEY_STAT.PHASE = 1) ∧ ((∀ c, c < 16 → (d.chan c).state ≠ .retraining)) ∧ (e = (d.sweepBursts d.rekeyPtr).foldl (fun (e : Device) x => e.rewriteBurst x.1 (d.reg MINT.REKEY_CTL.CLASS) x.2) (d.setRekeyPtr (d.rekeyPtr + 1))) ∧ (e.nloaf + 2 ^ 20 ≤ d.rekeyPtr + 1) ∧ (g = e.setReg MINT.REKEY_STAT.PHASE 2)) ∧
    (∃ (d : Device), (d.reg MINT.REKEY_STAT.PHASE ≠ 2 ∨ d.slotQueued (1 - d.reg MINT.KEY_STAT.CUR_SLOT) = true)) ∧
    (∃ (d : Device) (old : Nat) (e : Device), (d.reg MINT.REKEY_STAT.PHASE = 2) ∧ (old = 1 - d.reg MINT.KEY_STAT.CUR_SLOT) ∧ (d.slotQueued old = false) ∧ (e = (((({ d with sec := d.sec.withKey old 0 } : Device).setReg MINT.REKEY_STAT.PHASE 0).countSat MINT.KEY_GEN.COUNT).countSat MINT.REKEYS.COUNT))) ∧
    (∃ (d : Device), (d.sec.run = none)) ∧
    (∃ (d : Device) (r : RunImage), (d.sec.run = some r) ∧ (r.trial = true)) ∧
    (∃ (d : Device) (r : RunImage) (e : Device), (d.sec.run = some r) ∧ (r.trial = false) ∧ (e = ({ d with sec := { d.sec with arbC := d.sec.arbC + (r.secVer - d.sec.arbC), revoked := (d.sec.revoked ++ maskSlots r.revokeMask).eraseDups } } : Device))) ∧
    (∃ (d : Device) (r : RunImage) (f : Nat) (e : Device), (d.sec.run = some r) ∧ (r.trial = false) ∧ (f = Config.freeNat d.fresh) ∧ (e = ({ d.nextFree with sec := { d.sec with arbC := d.sec.arbC + f % (r.secVer - d.sec.arbC + 1), revoked := (d.sec.revoked ++ (maskSlots r.revokeMask).filter (fun i => bitOf (f / 256) i)).eraseDups } } : Device))) ∧
    (∃ (d : Device), (d.hubUp = false)) ∧
    (∃ (d : Device) (s : Nat) (o : Nat) (b : List Nat), (d.hubUp = true) ∧ (64 < b.length ∨ 2 ≤ s ∨ 0x2000000 < o + b.length)) ∧
    (∃ (d : Device) (s : Nat) (o : Nat) (b : List Nat), (d.hubUp = true) ∧ (b.length ≤ 64) ∧ (s < 2) ∧ (o + b.length ≤ 0x2000000) ∧ (s = d.runSlot)) ∧
    (∃ (d : Device) (s : Nat) (o : Nat) (b : List Nat), (d.hubUp = true) ∧ (b.length ≤ 64) ∧ (s < 2) ∧ (o + b.length ≤ 0x2000000) ∧ (s ≠ d.runSlot)) ∧
    (∃ (d : Device) (s : Nat), (d.hubUp = true) ∧ (2 ≤ s)) ∧
    (∃ (e : Device), (e.power.auxOk = true)) ∧
    (∃ (e : Device), (e.power.auxOk = false)) :=
  ⟨⟨D0, .inr (by decide +kernel)⟩,
   ⟨{ D0 with sec := { key0 := 0 } }, by decide +kernel, by decide +kernel⟩,
   ⟨D0, .inl (by decide +kernel)⟩,
   ⟨soloD, _, _, by decide +kernel, by decide +kernel, by decide +kernel, rfl, rfl⟩,
   ⟨{ D0 with chans := [(15, { state := .retraining })] }, .inr ⟨15, by decide +kernel⟩⟩,
   ⟨rekeyD 1, _, by decide +kernel, by decide +kernel, rfl, by decide +kernel⟩,
   ⟨((rekeyD 1).setReg MINT.REKEY_PTR_LO.PTR_LO (2 ^ 32 - 1)).setReg MINT.REKEY_PTR_HI.PTR_HI 7, _, _, by decide +kernel, by decide +kernel, rfl, by decide +kernel, rfl⟩,
   ⟨D0, .inl (by decide +kernel)⟩,
   ⟨rekeyD 2, _, _, by decide +kernel, rfl, by decide +kernel, rfl⟩,
   ⟨{ D0 with sec := { run := none } }, rfl⟩,
   ⟨{ D0 with sec := { run := some { trial := true } } }, _, rfl, rfl⟩,
   ⟨D0, _, _, rfl, rfl, rfl⟩,
   ⟨D0, _, _, _, rfl, rfl, rfl, rfl⟩,
   ⟨{ D0 with power := { hubReset := true } }, by decide +kernel⟩,
   ⟨D0, 0, 0, List.replicate 65 0, by decide +kernel, .inl (by decide +kernel)⟩,
   ⟨D0, 0, 0x2000000 - 64, List.replicate 64 0, by decide +kernel, by decide +kernel, by decide +kernel, by decide +kernel, by decide +kernel⟩,
   ⟨D0, 1, 0x2000000 - 64, List.replicate 64 0, by decide +kernel, by decide +kernel, by decide +kernel, by decide +kernel, by decide +kernel⟩,
   ⟨D0, 2, by decide +kernel, by decide +kernel⟩,
   ⟨D0, by decide +kernel⟩,
   ⟨{ D0 with power := { auxOk := false } }, by decide +kernel⟩⟩

theorem witness_DebugUnlockAndTap :
    (∃ (d : Device) (ag : Agent), (d.dbgAgent ag = true) ∧ (d.hubUp = true)) ∧
    (∃ (d : Device) (ag : Agent), (d.dbgAgent ag = false ∨ d.hubUp = false)) ∧
    (∃ (d : Device) (e : Device) (b : List Nat), (d.mintOk = true) ∧ (d.draw 16 = (e, b))) ∧
    (∃ (d : Device), (d.hubUp = false)) ∧
    (∃ (d : Device), (d.hubUp = true) ∧ (d.mintOk = false)) ∧
    (∃ (d : Device), (d.hubUp = true) ∧ (d.mintOk = true)) ∧
    (∃ (d : Device) (o : Nat) (b : List Nat), (d.hubUp = true) ∧ (64 < b.length ∨ 3421 < o + b.length)) ∧
    (∃ (d : Device) (o : Nat) (b : List Nat) (e : Device), (d.hubUp = true) ∧ (b.length ≤ 64) ∧ (o + b.length < 3421) ∧ (e = d.storeToken o b)) ∧
    (∃ (d : Device) (o : Nat) (b : List Nat) (e : Device), (d.hubUp = true) ∧ (b.length ≤ 64) ∧ (o + b.length = 3421) ∧ (e = (d.storeToken o b).submit)) ∧
    (∃ (d : Device) (ag : Agent), (d.tokenAgent ag = true) ∧ (d.hubUp = true)) ∧
    (∃ (d : Device) (ag : Agent), (d.tokenAgent ag = false ∨ d.hubUp = false)) ∧
    (∃ (d : Device) (why : _) (e : Device) (s : Nat) (f : Device) (n : Nat) (g : Device), (why = d.tokenReason d.tokenBytes) ∧ (e = ((({ d with sec := { d.sec with token := [] } } : Device).dropNonce).setReg FWSEC.DBG_STAT.REASON why)) ∧ (s = d.tokenBytes.getD 5 0) ∧ (f = e.setReg FWSEC.DBG_STAT.SCOPE (e.reg FWSEC.DBG_STAT.SCOPE ||| s)) ∧ (n = min (e.reg FWSEC.DBG_STAT.FAILS + 1) 8) ∧ (g = e.setReg FWSEC.DBG_STAT.FAILS n)) ∧
    (∃ (d : Device), (d.reg FWSEC.DBG_STAT.LOCKOUT = 1)) ∧
    (∃ (d : Device), (d.nonceLive = true)) ∧
    (∃ (d : Device), (d.nonceLive = false)) ∧
    (∃ (d : Device) (i : Nat), (d.jtagOpen = true) ∧ (1 ≤ i) ∧ (i ≤ 3)) ∧
    (∃ (d : Device) (i : Nat), (d.jtagOpen = true) ∧ (i = 0 ∨ 3 < i)) ∧
    (∃ (d : Device), (d.hubUp = true) ∧ (d.jtagOpen = false)) ∧
    (∃ (d : Device) (adr : _) (dat : _) (a : Nat) (v : Nat) (e : Device), (d.hubUp = true) ∧ (d.jtagOpen = true) ∧ (a = adr % 2 ^ 48) ∧ (v = dat % 2 ^ 32) ∧ (e = ({ d with sec := { d.sec with tapInstr := 3, tapAddr := a, tapData := v } } : Device)) ∧ (a % 4 = 0 ∨ a % 4 = 1)) ∧
    (∃ (d : Device) (adr : _) (dat : _) (a : Nat) (v : Nat) (e : Device), (d.hubUp = true) ∧ (d.jtagOpen = true) ∧ (a = adr % 2 ^ 48) ∧ (v = dat % 2 ^ 32) ∧ (e = ({ d with sec := { d.sec with tapInstr := 3, tapAddr := a, tapData := v } } : Device)) ∧ (a % 4 = 3) ∧ (0x800000 ≤ a - 3)) ∧
    (∃ (d : Device) (adr : _) (dat : _) (b : Bool) (a : Nat) (v : Nat) (e : Device), (d.hubUp = true) ∧ (d.jtagOpen = true) ∧ (a = adr % 2 ^ 48) ∧ (v = dat % 2 ^ 32) ∧ (e = ({ d with sec := { d.sec with tapInstr := 3, tapAddr := a, tapData := v } } : Device)) ∧ (a % 4 = 3) ∧ (a - 3 < 0x800000) ∧ (b = true)) ∧
    (∃ (d : Device) (adr : _) (dat : _) (b : Bool) (a : Nat) (v : Nat) (e : Device) (f : Device), (d.hubUp = true) ∧ (d.jtagOpen = true) ∧ (a = adr % 2 ^ 48) ∧ (v = dat % 2 ^ 32) ∧ (e = ({ d with sec := { d.sec with tapInstr := 3, tapAddr := a, tapData := v } } : Device)) ∧ (a % 4 = 3) ∧ (a - 3 < 0x800000) ∧ (b = false) ∧ (f = (e.readReg .debug (a - 3)).1)) ∧
    (∃ (d : Device) (adr : _) (dat : _) (a : Nat) (v : Nat) (e : Device), (d.hubUp = true) ∧ (d.jtagOpen = true) ∧ (a = adr % 2 ^ 48) ∧ (v = dat % 2 ^ 32) ∧ (e = ({ d with sec := { d.sec with tapInstr := 3, tapAddr := a, tapData := v } } : Device)) ∧ (a % 4 = 2) ∧ (e.rawBytes ≤ a - 2)) ∧
    (∃ (d : Device) (adr : _) (dat : _) (a : Nat) (v : Nat) (e : Device) (r : Nat), (d.hubUp = true) ∧ (d.jtagOpen = true) ∧ (a = adr % 2 ^ 48) ∧ (v = dat % 2 ^ 32) ∧ (e = ({ d with sec := { d.sec with tapInstr := 3, tapAddr := a, tapData := v } } : Device)) ∧ (a % 4 = 2) ∧ (a - 2 < e.rawBytes) ∧ (e.rawBlocked (a - 2) = some r)) ∧
    (∃ (d : Device) (adr : _) (dat : _) (a : Nat) (v : Nat) (e : Device) (f : Device) (x : _) (bad : Bool) (n : Bool) (o : Nat), (d.hubUp = true) ∧ (d.jtagOpen = true) ∧ (a = adr % 2 ^ 48) ∧ (v = dat % 2 ^ 32) ∧ (e = ({ d with sec := { d.sec with tapInstr := 3, tapAddr := a, tapData := v } } : Device)) ∧ (a % 4 = 2) ∧ (a - 2 < e.rawBytes) ∧ (e.rawBlocked (a - 2) = none) ∧ (e.readBurst (64 * ((a - 2) / 64)) 0 = (f, x, bad, n)) ∧ (o = (a - 2) % 64) ∧ (bad = true)) ∧
    (∃ (d : Device) (adr : _) (dat : _) (b : Bool) (a : Nat) (v : Nat) (e : Device) (f : Device) (x : _) (bad : Bool) (n : Bool) (o : Nat), (d.hubUp = true) ∧ (d.jtagOpen = true) ∧ (a = adr % 2 ^ 48) ∧ (v = dat % 2 ^ 32) ∧ (e = ({ d with sec := { d.sec with tapInstr := 3, tapAddr := a, tapData := v } } : Device)) ∧ (a % 4 = 2) ∧ (a - 2 < e.rawBytes) ∧ (e.rawBlocked (a - 2) = none) ∧ (e.readBurst (64 * ((a - 2) / 64)) 0 = (f, x, bad, n)) ∧ (o = (a - 2) % 64) ∧ (bad = false) ∧ (b = false)) ∧
    (∃ (d : Device) (adr : _) (dat : _) (b : Bool) (a : Nat) (v : Nat) (e : Device) (f : Device) (x : _) (bad : Bool) (n : Bool) (o : Nat), (d.hubUp = true) ∧ (d.jtagOpen = true) ∧ (a = adr % 2 ^ 48) ∧ (v = dat % 2 ^ 32) ∧ (e = ({ d with sec := { d.sec with tapInstr := 3, tapAddr := a, tapData := v } } : Device)) ∧ (a % 4 = 2) ∧ (a - 2 < e.rawBytes) ∧ (e.rawBlocked (a - 2) = none) ∧ (e.readBurst (64 * ((a - 2) / 64)) 0 = (f, x, bad, n)) ∧ (o = (a - 2) % 64) ∧ (bad = false) ∧ (b = true)) :=
  ⟨⟨D0, .endpoint, by decide +kernel, by decide +kernel⟩,
   ⟨D0, .steward, .inl (by decide +kernel)⟩,
   ⟨D0, _, _, by decide +kernel, rfl⟩,
   ⟨{ D0 with power := { hubReset := true } }, by decide +kernel⟩,
   ⟨{ D0 with sec := { outOk := false } }, by decide +kernel, by decide +kernel⟩,
   ⟨D0, by decide +kernel, by decide +kernel⟩,
   ⟨D0, 0, List.replicate 65 0, by decide +kernel, .inl (by decide +kernel)⟩,
   ⟨D0, 3356, List.replicate 64 0, _, by decide +kernel, by decide +kernel, by decide +kernel, rfl⟩,
   ⟨D0, 3357, List.replicate 64 0, _, by decide +kernel, by decide +kernel, by decide +kernel, rfl⟩,
   ⟨D0, .endpoint, by decide +kernel, by decide +kernel⟩,
   ⟨D0, .steward, .inl (by decide +kernel)⟩,
   ⟨D0, _, _, _, _, _, _, rfl, rfl, rfl, rfl, rfl, rfl⟩,
   ⟨lockoutD, by decide +kernel⟩,
   ⟨D0.setReg FWSEC.DBG_STAT.NONCE_VALID 1, by decide +kernel⟩,
   ⟨D0, by decide +kernel⟩,
   ⟨D0.setReg FWSEC.DBG_STAT.SCOPE 1, 3, by decide +kernel, by decide +kernel, by decide +kernel⟩,
   ⟨D0.setReg FWSEC.DBG_STAT.SCOPE 1, 4, by decide +kernel, by decide +kernel⟩,
   ⟨D0, by decide +kernel, by decide +kernel⟩,
   ⟨D0.setReg FWSEC.DBG_STAT.SCOPE 1, 2 ^ 48 - 3, 5, _, _, _, by decide +kernel, by decide +kernel, rfl, rfl, rfl, .inr (by decide +kernel)⟩,
   ⟨D0.setReg FWSEC.DBG_STAT.SCOPE 1, 0x800003, 5, _, _, _, by decide +kernel, by decide +kernel, rfl, rfl, rfl, by decide +kernel, by decide +kernel⟩,
   ⟨D0.setReg FWSEC.DBG_STAT.SCOPE 1, 0x7FFFFF, 5, true, _, _, _, by decide +kernel, by decide +kernel, rfl, rfl, rfl, by decide +kernel, by decide +kernel, by decide +kernel⟩,
   ⟨D0.setReg FWSEC.DBG_STAT.SCOPE 1, 0x7FFFFF, 5, false, _, _, _, _, by decide +kernel, by decide +kernel, rfl, rfl, rfl, by decide +kernel, by decide +kernel, by decide +kernel, rfl⟩,
   ⟨D0.setReg FWSEC.DBG_STAT.SCOPE 3, 2 ^ 48 - 2, 5, _, _, _, by decide +kernel, by decide +kernel, rfl, rfl, rfl, by decide +kernel, by decide +kernel⟩,
   ⟨D0.setReg FWSEC.DBG_STAT.SCOPE 1, 66, 5, _, _, _, _, by decide +kernel, by decide +kernel, rfl, rfl, rfl, by decide +kernel, by decide +kernel, rfl⟩,
   ⟨{ D0.setReg FWSEC.DBG_STAT.SCOPE 3 with integ := { errs := [(64, [1, 2, 3])] } }, 66, 5, _, _, _, _, _, _, _, _, by decide +kernel, by decide +kernel, rfl, rfl, rfl, by decide +kernel, by decide +kernel, by decide +kernel, rfl, rfl, by decide +kernel⟩,
   ⟨D0.setReg FWSEC.DBG_STAT.SCOPE 3, 66, 5, false, _, _, _, _, _, _, _, _, by decide +kernel, by decide +kernel, rfl, rfl, rfl, by decide +kernel, by decide +kernel, by decide +kernel, rfl, rfl, by decide +kernel, by decide +kernel⟩,
   ⟨D0.setReg FWSEC.DBG_STAT.SCOPE 3, 66, 5, true, _, _, _, _, _, _, _, _, by decide +kernel, by decide +kernel, rfl, rfl, rfl, by decide +kernel, by decide +kernel, by decide +kernel, rfl, rfl, by decide +kernel, by decide +kernel⟩⟩

theorem witness_RegisterAccesses :
    (∃ (addr : Nat), (addr % 4 = 0)) ∧
    (∃ (d : Device) (ag : Agent) (addr : Nat) (e : Device) (x : _) (f : Device) (y : _), (addr % 8 = 0) ∧ (d.readWord ag addr = (e, x)) ∧ (e.readWord ag (addr + 4) = (f, y))) ∧
    (∃ (ag : Agent) (addr : Nat), ((addr < 0x800000 ∨ (∀ p l, ag ≠ .host p l)))) ∧
    (∃ (addr : Nat) (size : Nat), ((size ≠ 4 ∧ size ≠ 8) ∨ addr % size ≠ 0)) ∧
    (∃ (d : Device) (ag : Agent) (addr : Nat) (p : Page) (i : Nat), (d.pageAt addr = some (p, i)) ∧ (d.reaches ag p i = false)) ∧
    (∃ (d : Device) (addr : Nat), (d.pageAt addr = none)) ∧
    (∃ (d : Device) (ag : Agent) (addr : Nat) (p : Page) (i : Nat), (d.pageAt addr = some (p, i)) ∧ (d.reaches ag p i = true) ∧ (d.pageInReset p i = true)) ∧
    (∃ (d : Device) (ag : Agent) (n : Nat) (p : Page) (i : Nat), (d.pageAt (4096 * n + 0x20) = some (p, i)) ∧ (p ≠ .ddrch) ∧ (d.reaches ag p i = true) ∧ (d.pageInReset p i = false)) ∧
    (∃ (d : Device) (ag : Agent) (n : Nat) (p : Page) (i : Nat), (d.pageAt (4096 * n + 4) = some (p, i)) ∧ (d.reaches ag p i = true) ∧ (d.pageInReset p i = false)) ∧
    (∃ (d : Device), (d.power.auxOk = false)) ∧
    (∃ (d : Device) (a : Nat), (d.power.auxOk = true) ∧ (a % 4 ≠ 0 ∨ 0x800000 ≤ a)) ∧
    (∃ (d : Device) (a : Nat) (seen : Bool), (d.power.auxOk = true) ∧ (a % 4 = 0) ∧ (a < 0x800000) ∧ ((∀ p i, d.pageAt a = some (p, i) → seen = d.reaches .endpoint p i)) ∧ ((d.pageAt a = none → seen = (d.hubUp && decide (a / 4096 < 0x200 ∨ 0x400 ≤ a / 4096)))) ∧ (seen = true)) ∧
    (∃ (d : Device) (a : Nat) (seen : Bool), (d.power.auxOk = true) ∧ (a % 4 = 0) ∧ (a < 0x800000) ∧ ((∀ p i, d.pageAt a = some (p, i) → seen = d.reaches .endpoint p i)) ∧ ((d.pageAt a = none → seen = (d.hubUp && decide (a / 4096 < 0x200 ∨ 0x400 ≤ a / 4096)))) ∧ (seen = false)) :=
  ⟨⟨4, by decide +kernel⟩,
   ⟨D0, .endpoint, 8, _, _, _, _, by decide +kernel, pair_eta _ _ rfl, pair_eta _ _ rfl⟩,
   ⟨.firmware, 0x800000, .inr (by intro p l h; cases h)⟩,
   ⟨2, 4, .inr (by decide +kernel)⟩,
   ⟨{ D0 with power := { hubReset := true } }, .host 0 1, 0, .dev, 0, by decide +kernel, by decide +kernel⟩,
   ⟨D0, 0x800000, by decide +kernel⟩,
   ⟨{ D0 with power := { blk := [(8, 0)] } }, .endpoint, 0x12000, .baker, 0, by decide +kernel, by decide +kernel, by decide +kernel⟩,
   ⟨D0, .endpoint, 0x400, .site, 0, by decide +kernel, by decide +kernel, by decide +kernel, by decide +kernel⟩,
   ⟨D0, .endpoint, 0x7FF, .site, 1023, by decide +kernel, by decide +kernel, by decide +kernel⟩,
   ⟨{ D0 with power := { auxOk := false } }, by decide +kernel⟩,
   ⟨D0, 0x800000, by decide +kernel, .inr (by decide +kernel)⟩,
   ⟨D0, 0x7FFFFC, true, by decide +kernel, by decide +kernel, by decide +kernel, (by intro p i h; have h1 : D0.pageAt 0x7FFFFC = some (.site, 1023) := (by decide +kernel); rw [h1] at h; cases h; decide +kernel), (fun h => absurd h (by decide +kernel)), by decide +kernel⟩,
   ⟨{ D0 with power := { hubReset := true } }, 0, false, by decide +kernel, by decide +kernel, by decide +kernel, (by intro p i h; have h1 : ({ D0 with power := { hubReset := true } } : Device).pageAt 0 = some (.dev, 0) := (by decide +kernel); rw [h1] at h; cases h; decide +kernel), (fun h => absurd h (by decide +kernel)), by decide +kernel⟩⟩

theorem witness_QuarterEncodingsReadBack :
    (∃ (q : List Nat) (e : List Nat), (q.length = 1024) ∧ ((∀ b ∈ q, b < 256)) ∧ (e ∈ quarterModes q)) :=
  ⟨List.replicate 1024 0, 4 :: List.replicate 1024 0, List.length_replicate, (by intro b hb; rw [List.eq_of_mem_replicate hb]; decide), List.mem_append_right _ (List.mem_singleton_self _)⟩

theorem witness_FecCorrectsEverySingleByte :
    (∃ (cw : List Nat) (i : Nat) (e : Nat), (cw.length = 82) ∧ ((∀ b ∈ cw, b < 256)) ∧ (rsSyndromes cw = (0, 0)) ∧ (i < 82) ∧ (0 < e) ∧ (e < 256)) :=
  ⟨List.replicate 82 0, 81, 255, rfl, (by intro b hb; rw [List.eq_of_mem_replicate hb]; decide), by decide +kernel, by decide, by decide, by decide⟩

theorem witness_WriteQueueKeepsEveryBurst :
    (∃ (d : Device) (ra : Nat) (b : Nat), (Memory.wf d.mem = true) ∧ (WritesPlaced d) ∧ (ra % 64 = 0) ∧ (b ≠ ra) ∧ (b % 64 = 0)) ∧
    (∃ (d : Device) (ra : Nat), (Memory.wf d.mem = true) ∧ (WritesPlaced d) ∧ (ra % 64 = 0) ∧ ((d.wqFind ra).isSome = true)) ∧
    (∃ (d : Device) (ra : Nat), (Memory.wf d.mem = true) ∧ (WritesPlaced d) ∧ (ra % 64 = 0) ∧ (d.inPrivate ra = false)) :=
  ⟨⟨D0, 64, 0, rfl, (by intro c s; exact ⟨(by intro e h; cases h), .nil⟩), rfl, by decide, rfl⟩,
   ⟨wqD, 0, rfl, wqD_placed, rfl, by decide +kernel⟩,
   ⟨D0, 64, rfl, (by intro c s; exact ⟨(by intro e h; cases h), .nil⟩), rfl, by decide +kernel⟩⟩

theorem witness_DirectorySetAndTagNameTheLine :
    (∃ (lla : Nat), (lla < 2 ^ 44)) ∧
    (∃ (a : Nat) (b : Nat), (a / 64 = b / 64) ∧ (a ≠ b)) ∧
    (∃ (a : Nat) (b : Nat), (a < 2 ^ 38) ∧ (b < 2 ^ 38) ∧ (dirSet a = dirSet b) ∧ (lpnOf a / 2 ^ 14 = lpnOf b / 2 ^ 14)) :=
  ⟨⟨2 ^ 44 - 1, by decide +kernel⟩,
   ⟨0, 63, by decide +kernel, by decide +kernel⟩,
   ⟨5, 5, by decide +kernel, by decide +kernel, by decide +kernel, by decide +kernel⟩⟩

theorem witness_ClearBySequence :
    (∃ (d : Device) (ag : Agent) (n : Nat) (v : Nat) (p : Page) (i : Nat), (v < 2 ^ 32) ∧ (d.reaches ag p i = true) ∧ (d.pageInReset p i = false) ∧ (d.pageAt (4096 * n + 0x10) = some (p, i)) ∧ (v / 65536 = (d.page p i).evtSeq.toNat)) ∧
    (∃ (d : Device) (ag : Agent) (n : Nat) (v : Nat) (p : Page) (i : Nat), (v < 2 ^ 32) ∧ (d.reaches ag p i = true) ∧ (d.pageInReset p i = false) ∧ (d.pageAt (4096 * n + 0x10) = some (p, i)) ∧ (v / 65536 ≠ (d.page p i).evtSeq.toNat)) ∧
    (∃ (d : Device) (ag : Agent) (n : Nat) (v : Nat) (p : Page) (i : Nat), (v < 2 ^ 32) ∧ (d.reaches ag p i = true) ∧ (d.pageInReset p i = false) ∧ (d.pageAt (4096 * n + 0x1C) = some (p, i)) ∧ (v / 65536 = (d.page p i).errSeq.toNat)) ∧
    (∃ (d : Device) (ag : Agent) (n : Nat) (v : Nat) (p : Page) (i : Nat), (v < 2 ^ 32) ∧ (d.reaches ag p i = true) ∧ (d.pageInReset p i = false) ∧ (d.pageAt (4096 * n + 0x1C) = some (p, i)) ∧ (v / 65536 ≠ (d.page p i).errSeq.toNat)) :=
  ⟨⟨D0, .endpoint, 0x7FF, 7, .site, 1023, by decide, rfl, rfl, by decide +kernel, by decide +kernel⟩,
   ⟨D0, .endpoint, 0x7FF, 65536, .site, 1023, by decide, rfl, rfl, by decide +kernel, by decide +kernel⟩,
   ⟨D0, .endpoint, 0, 0, .dev, 0, by decide, rfl, rfl, by decide +kernel, by decide +kernel⟩,
   ⟨D0, .endpoint, 0, 65536, .dev, 0, by decide, rfl, rfl, by decide +kernel, by decide +kernel⟩⟩

theorem witness_PlainFieldsKeepReservedAndLockedValues :
    (∃ (d : Device) (p : Page) (i : Nat) (off : Nat) (f : Field), (f ∈ p.word off) ∧ ((f.acc = .rw ∨ f.acc = .rwl ∧ (d.page p i).lock = false))) ∧
    (∃ (d : Device) (p : Page) (i : Nat) (off : Nat) (f : Field), (f ∈ p.word off) ∧ ((f.acc = .rwl ∧ (d.page p i).lock = true ∨ f.acc ≠ .rw ∧ f.acc ≠ .rwl))) ∧
    (∃ (d : Device) (p : Page) (i : Nat) (off : Nat) (k : Nat), ((∀ f ∈ p.word off, f.key (d.bankOf p i off) ≠ k))) ∧
    (∃ (d : Device) (p : Page) (i : Nat) (off : Nat) (v : Nat), (((d.page p i).lock = false ∨ ∀ f ∈ p.word off, f.acc = .rwl → f.of v = d.reg f (d.bankOf p i off)))) ∧
    (∃ (d : Device) (p : Page) (i : Nat) (off : Nat) (v : Nat), ((d.page p i).lock = true) ∧ ((∃ f ∈ p.word off, f.acc = .rwl ∧ f.of v ≠ d.reg f (d.bankOf p i off)))) :=
  ⟨⟨D0, .coh, 0, 0x104, COH.DIR_CTL.SWEEP_CLASS, by decide +kernel, by decide +kernel⟩,
   ⟨lockD .coh, .coh, 0, 0x104, COH.DIR_CTL.SWEEP_CLASS, by decide +kernel, by decide +kernel⟩,
   ⟨D0, .coh, 0, 0x104, 0, by decide +kernel⟩,
   ⟨lockD .coh, .coh, 0, 0x104, 2 ^ 32 - 1, .inr (by decide +kernel)⟩,
   ⟨lockD .coh, .coh, 0, 0x104, 0, by decide +kernel, by decide +kernel⟩⟩

theorem witness_HomePositionAndLocalAddressNameThePage :
    (∃ (m : Nat) (pos : Nat), (m ≤ 2) ∧ (pos < 2 ^ m)) :=
  ⟨2, 3, by decide +kernel, by decide +kernel⟩

theorem witness_RawAddressMap :
    (∃ (ra : Nat), (ra < 2 ^ 43)) ∧
    (∃ (d : Device) (ra : Nat) (k : Nat), (14 ≤ k) ∧ (d.rawBytes = 2 ^ k) ∧ (ra < d.rawBytes)) ∧
    (∃ (a : Nat) (b : Nat), (targetOf a = targetOf b) ∧ (taOf a = taOf b)) :=
  ⟨⟨2 ^ 43 - 1, by decide +kernel⟩,
   ⟨D0, 2 ^ 42 - 1, 42, by decide, rfl, by decide⟩,
   ⟨9, 9, by decide +kernel, by decide +kernel⟩⟩

theorem witness_DramPlacesNameTheBurst :
    (∃ (d : Device) (ra : Nat), (ra % 64 = 0) ∧ (taOf ra < 2 ^ (14 + d.hw.colBits + d.hw.rankBits + d.hw.cidBits + d.hw.rowBits + (if d.hw.dimms = 2 then 1 else 0)))) :=
  ⟨D0, 2 ^ 42 - 64, by decide, by decide +kernel⟩

theorem witness_PrivateCopiesLieOnTheOtherChannel :
    (∃ (d : Device), (0 < d.hw.dimms) ∧ (0 < d.hw.dimmGib)) :=
  ⟨D0, by decide +kernel, by decide +kernel⟩

theorem witness_DramCodeCorrectsOneSymbol :
    (∃ (err : List Nat) (j : Nat) (k : Nat), (j < 10) ∧ ((∀ k i, k < 4 → i < 10 → i ≠ j → err.getD (10 * k + i) 0 = 0)) ∧ ((∀ k, k < 4 → err.getD (10 * k + j) 0 < 65536)) ∧ ((∃ k, k < 4 ∧ err.getD (10 * k + j) 0 ≠ 0)) ∧ (k < 4)) :=
  ⟨List.replicate 9 0 ++ [7], 9, 3, by decide, (fun k i hk hi hn => (by decide : ∀ k, k < 4 → ∀ i, i < 10 → i ≠ 9 → (List.replicate 9 0 ++ [7]).getD (10 * k + i) 0 = 0) k hk i hi hn), (by decide +kernel), ⟨0, by decide +kernel⟩, by decide⟩

theorem witness_LoafRecordsReadBack :
    (∃ (r : LoafRec), (r.state < 8) ∧ (r.nslice ≤ 8) ∧ (r.bin < 512) ∧ (r.qend.length = 3) ∧ ((∀ q ∈ r.qend, q < 4096)) ∧ (r.slices.length = r.nslice) ∧ ((∀ i ∈ r.slices, i < 2 ^ 25))) :=
  ⟨{ state := 2, nslice := 8, bin := 511, qend := [0, 0, 0], slices := List.replicate 8 (2 ^ 25 - 1) }, by decide +kernel, by decide +kernel, by decide +kernel, by decide +kernel, by decide +kernel, by decide +kernel, by decide +kernel⟩

/-! ### The worked examples of the spec -/

/-- CRC-32C of the nine digits (R210). -/
theorem test_crc32c : crc32c [0x31, 0x32, 0x33, 0x34, 0x35, 0x36, 0x37, 0x38, 0x39] = 0xE3069283 := by decide +kernel

/-- The host read in a two-quartet rack and the site address: home position and local address (R43). -/
theorem test_home_and_local : homePosition 2 0x123456 = 2 ∧ llaOf 2 0x123456780 = 0x48D15780 ∧
    homePosition 2 0x1000000 = 1 ∧ llaOf 2 0x001000000040 = 0x000400000040 ∧ llaOf 0 0x001000000040 = 0x001000000040 ∧
    lpnOf (0x48D15780 / 64) = 0x48D15 ∧ 0x48D15780 / 64 % 64 = 30 := by decide

/-- The stored stream of the example loaf: a quarter with three failing cells, and three clean ones (R83 to R87). -/
theorem test_sparse_stream :
    let s := [0x02, 0x00, 0x03, 0x00, 0x05, 0x00, 0x7D, 0xFC, 0x7F, 0x00, 0x00, 0x00]
    sparseEncode 0 [5, 1000, 8191] = s.take 9 ∧ decodeQuarter s = (.bytes (sparseBytes false [5, 1000, 8191]), 9) ∧
    onePositions (sparseBytes false [5, 1000, 8191]) = [5, 1000, 8191] ∧
    decodeQuarter (s.drop 9) = (.bytes (List.replicate 1024 0), 1) := by decide +kernel

/-- Its record: BAKED, one slice, quarter ends 9, 10 and 11 (R77, R80). -/
theorem test_example_record : ({ state := 3, nslice := 1, qend := [9, 10, 11], slices := [0] } : LoafRec).ok = true := by decide

/-- The raw address behind a failing row (R404, R405). -/
theorem test_raw_address : taOf 0x0123456789C0 < 2 ^ 37 ∧ D0.dramLoc 0x0123456789C0 =
    { ch := 4, sub := 1, dimm := 0, rank := 0, cid := 0, bg := 6, bank := 3, row := 0x12345, col := 0x670 } := by decide +kernel

/-- Geometry 3 of the repair run. -/
def geo3 : Geometry := { dies := 2, banks := 8, blocks := 64, rows := 1024, srows := 4, cols := 2048, scols := 4 }

/-- Its derived values (R286, R288, R299). -/
theorem test_geometry_values : geoDims geo3 =
    { rp := 1028, cp := 2052, rl := 5, bl := 5184, nb := 1024, rpb := 1040, cpb := 2064, aCol := 0x410000, aBlk := 0xC20000,
      aBank := 0xC22000, aDie := 0xC23000, aDut := 0xC24000, aLost := 0xC25000, bmapBytes := 64 * 1024 * 5184,
      tallyBytes := 0xC26000 } := by decide +kernel

/-- A failing cell's record, its line and its bit (R290, R291). -/
theorem test_fail_record : failCell 0x0005DC0064025000 = { die := 0, bank := 0, block := 37, row := 100, col := 1500 } ∧
    leBytes 8 0x0005DC0064025000 = [0x00, 0x50, 0x02, 0x64, 0x00, 0xDC, 0x05, 0x00] ∧
    cellPlace geo3 (failCell 0x0005DC0064025000) = (192310, 476) := by decide +kernel

/-- The 13 failing main cells of block 37. -/
def block37 : List Cell :=
  [(10, 1000), (12, 40), (12, 41), (100, 5), (100, 300), (100, 700), (100, 901), (100, 1500), (220, 1000), (400, 1000), (500, 41),
   (650, 1000), (800, 1900)]

/-- The result entry of block 37 (R309 to R315). -/
theorem test_repair_entry : (analyse block37 [0, 2, 3] [0, 1, 2, 3] true false 1000).entry 37 geo3 =
    [0x25, 0, 0, 0, 0x01, 0x20, 3, 2, 13, 0, 0, 0, 2, 0, 0, 0, 0x0C, 0, 0, 0, 0x64, 0, 2, 0, 0xF4, 0x01, 3, 0, 0xE8, 0x03, 0, 0x80,
     0x6C, 0x07, 1, 0x80] ++ List.replicate 28 0 := by decide +kernel

/-- The link of site 417 when the NAK of flit 4094 arrives: flits 4090 to 4095 and 0 to 2 sent, none acknowledged. -/
def nakD : Device :=
  D0.setLink (.site 417) { state := .active, next := 3, unacked :=
    [4090, 4091, 4092, 4093, 4094, 4095, 0, 1, 2].map (fun n => { seq := n, pool := 1, body := .data 0 true }) }

/-- A corrupted flit across the wrap: the NAK releases 4090 to 4093, and five flits are sent again, 4094 first (R224 to R226). -/
theorem test_nak_across_the_wrap : ∃ s : State,
    exec (.idleFlit (.site 417) { ackType := 2, ack := 4094 } 0) { dev := nakD, pending := [] } = .next s ∧
    (s.dev.link (.site 417)).unacked.map (fun f => f.seq) = [4094, 4095, 0, 1, 2] ∧
    s.dev.reg SITE.NAKS_RCVD.COUNT 417 = 1 := ⟨_, rfl, by decide +kernel, by decide +kernel⟩

/-- Block headers alternate 01 and 10, bit H0 first (R200). -/
theorem test_line_coding : (flitBlocks (List.replicate 80 0)).map (fun b => b.toNat % 4) = [2, 1, 2, 1, 2, 1, 2, 1, 2, 1] := by decide +kernel

/-- Bytes 11 10 01 00: the lowest pair is sent first, and the levels are Gray coded (R203). -/
theorem test_pam4 : pam4 0xE4 = [-3, -1, 3, 1] := by decide

/-- The FEC bytes of a frame make every codeword correct (R205). -/
theorem test_frame_fec : decodeFrame ((List.range 240) ++ fecBytes (List.range 240)) = some (List.range 240, 0) := by decide +kernel

/-- A SKIP frame is known by 240 of its bytes (R206). -/
theorem test_skip_frame : isSkip (List.replicate 240 0x4B ++ List.replicate 6 0) = true ∧
    isSkip (List.replicate 239 0x4B ++ List.replicate 7 0) = false := by decide +kernel

/-! ### WellFormed: operands in range, and one ill-formed operand for every check -/

/-- The least operands of the messages that the smoke tests use. -/
abbrev V : Via := { p := 0 }
abbrev PI : PeerInfo := { side := 0, qid := 0, logicalTib := 0, members := 1 }
abbrev LY : Layout := { state := 0, nslice := 0 }
abbrev RQ : Request := { origin := .dropped, who := 0, win := 0, arr := 0, cls := 0, deadline := 0, qla := 0, op := .hostInv }
abbrev CR : CommitRec := { bseq := 0, slot := 0, arr := 0, cls := 0, lines := [] }
abbrev GE : Geometry := { dies := 1, banks := 1, blocks := 1, rows := 1, srows := 0, cols := 1, scols := 0 }
abbrev DU : Dut := { geo := 0, bmap := 0, tally := 0 }
abbrev AE : AtomicEntry := { site := 1024, qid := 0, atag := 0, lla := 0, old := 0 }

theorem test_well_formed_0 : List.all (α := Instr)
    [.memrd 0 0 0 0 .noOp, .memrddata 0 0 0 0, .memspecrd 0 0 (.memSpecRd 0), .meminv 0 0 0 0, .memclnevct 0 0 0 0, .biconflict 0 0 0 0,
     .memwr 0 0 0 0 0 0 false .noOp, .birsp 0 0 0 .rspI, .biTimeout 0, .broadcastSweep 0, .sweepDone, .queryCmdStart, .noticeLate 0,
     .apertureWrite 0 0 0 0 [], .apertureRead 0 0 0 0 0 0, .winCmdCommit 0 0 0, .winCmdAbort 0 0 0, .winBaseWrite 0 0 0 false 0, .batchTimeout 0,
     .commitSend 0 0, .outcomeQueryStart, .outcomeAsk 0 0 0 0 0, .read 0 0 0 false false 0 0, .write 0 0 0 false 0 0 [0],
     .writeMasked 0 0 0 false 0 0 0, .atomic 0 0 0 0 .swap false 0 0 0, .failOr 0 0 0 0 0, .failRec 0 0 0 [], .mcastJoin 0 0 0 0,
     .mcastLeave 0 0 0 0, .mcastPull 0 0 0 false 0 0, .batchOpen 0 0 0, .batchCommit 0 0 0, .batchAbort 0 0 0, .statusSite 0 0 0,
     .statusBatchOutcome 0 0 0 0 0, .time 0 0 0, .reservedOpcode 0 0 0 0 false 0 0 0, .mcastFillDone 0 0, .grpEnable 0]
    Instr.wf = true := by decide +kernel

theorem test_well_formed_1 : List.all (α := Instr)
    [.grpDisable 0, .grpCfgWrite 0 0 0, .spacePendWrite 0 0, .create 0, .destroy 0 false, .modify 0, .rgnRead 0, .regionCmdDone,
     .winCfgWrite 0 0 0 0, .winLbaseWrite 0 0 0, .geoSet 0, .geoClear 0, .geoRead 0, .dutBind 0, .dutUnbind 0 false, .dutClear 0 false,
     .dutRebuild 0 false, .dutRead 0, .failCmdDone, .assaySqTail 0 0, .assayCqHead 0 0, .assayEnable 0, .assayDisable 0, .assayAbort 0,
     .assayCfgWrite 0 0 0, .assayDescFetched 0, .analyse, .assayBlockDone 0, .frameEvict 0, .writebackDone 0 none, .bakerSweepStart, .bakerSweepEnd,
     .migrationStart 0 none, .migrationFinish 0, .auditCmdStart, .auditDone, .siteClassWrite 0 0, .siteClassAdmitEnd 0, .apply, .revert]
    Instr.wf = true := by decide +kernel

theorem test_well_formed_2 : List.all (α := Instr)
    [.admitDone, .recompute, .queueEntryFreed 0, .schedulerPick 0, .perst 0, .hotReset 0 0 0, .cxlReset 0 0, .flr 0 0, .flrForceRelease 0 0,
     .bmeClear 0 0, .bmeSet 0 0 {}, .outboundCompletion 0 0 0 0 [], .completionTimeout 0 0 0, .msixPendingSend 0 0 false false [],
     .hdmDecoderCommit 0 0 0 0 0 0 0 false false, .biEnableWrite 0 0 false, .hostLinkUp 0 0 0 0 false, .surpriseDown 0 0, .linkUncorr 0 0,
     .contain 0 0 1, .containWrite 0 0, .release .endpoint 0 0, .perstLRise 0, .identifyMemoryDevice 0 0, .getPartitionInfo 0 0,
     .getSupportedLogs 0 0, .getLog 0 0 false, .getEventRecords 0 0 0, .clearEventRecords 0 0 0 false [], .getEventInterruptPolicy 0 0,
     .setEventInterruptPolicy 0 0 [], .getTimestamp 0 0, .setTimestamp 0 0 0, .getHealthInfo 0 0, .getFwInfo 0 0, .transferFw 0 0 0 0 [],
     .activateFw 0 0 0 false, .unsupportedMailboxCmd 0 0 0, .doeDiscovery 0 0 0 0, .cxlTableAccess 0 0]
    Instr.wf = true := by decide +kernel

theorem test_well_formed_3 : List.all (α := Instr)
    [.spdmRequest 0 .getVersion [], .getPqCert 0 0 0, .getPqSig 0, .channelRead 0 1, .channelWrite 0 [(0, false)], .dramReadReturn 0 [] 0,
     .writeDrainStart 0 0 false, .writeDrainStop 0 0, .openIdleExpiry 0 0, .refreshDue 0 0 false, .mr4Poll 0 0 false, .alertN 0 false false,
     .selfRefreshEntry 0, .srDeferExpiry 0, .chCtlRetrain 0, .retrainDone 0 false, .errInjArm 0 0 0 0 0, .scrubStep false [], .proofStart,
     .proofHoldExpiry 0, .proofDone, .t0Patrol 0 0 0, .retireRow, .retireBank, .retireDone, .tableCmd V 0 (.destroy 0),
     .grantNotice V 0 0 0 0 0 .none, .noticeFlush V 0 0, .dirUpd V (.free 0), .twinFetch V 0 0 0, .fetchData V 0 0 false, .fwdReq V 0 RQ,
     .fwdRsp V 0 {}, .snoopFwd V 0 { dev := 0, sid := 0 } .cur 0 0 0 .named, .snoopAns V { dev := 0, sid := 0 } .rspI { host := 0, win := 0 },
     .mirrorLine V 0 0 false 0 none, .mirrorFail V 0 0 0, .mirrorOr V 0 0 0 0, .mirrorRec V 0 LY, .commitRec V CR]
    Instr.wf = true := by decide +kernel

theorem test_well_formed_4 : List.all (α := Instr)
    [.csign V 0 0 0 none, .hello V PI, .state V PI, .withdraw V, .handover V 0 0 0 0, .rsTable V [] [] [] [] [] [] [] 0, .rsLoaf V 0 LY [] 0,
     .rsLine V 0 0 false 0, .rsDir V (.free 0), .rsDone V, .timeSync V 0 0 0 false, .resyncStart, .resyncStep, .resyncInterrupt, .timeSyncTimer,
     .heartbeatTimeout, .hbConfirmMissing, .twinLinksWaitExpiry, .soloWaitExpiry, .withdrawCmd, .retake, .batchWaitExpiry, .siteDrainDone,
     .handoverResetTimer, .reforward, .stewReq V 0 0 none, .stewRsp V 0 false 0, .coldStart, .channelTrainingDone 0 false, .startEnd, .deviceReset 0,
     .devRstLAssert, .devRstLRelease, .d2dFlitReceive 0 false, .d2dReplayLimit 0, .sbFrameReceive false, .sbFail, .lockstepMismatch 0,
     .mgmtWatchdogExpiry 0, .escalationExpiry 0]
    Instr.wf = true := by decide +kernel

theorem test_well_formed_5 : List.all (α := Instr)
    [.fatalReaction, .fcParity, .errorLineChange .site 0 0 [], .coalesceExpiry 0, .ledgerProgramDone false, .rdCmdStart false 0, .noteCmdAppend,
     .ftStatAck, .fcTestRaise 0, .ldgInfo, .ldgRead false 0 0, .ldgLastWords 0, .fcSnapshot, .sectorMap 0, .t0DieFail 0, .txnFlit (.site 0) {} 0,
     .idleFlit (.site 0) {} 0, .badCrcFlit (.site 0) 0, .retrain (.site 0) {}, .sleepReq (.site 0) {}, .sleepAck (.site 0) {},
     .sleepNak (.site 0) {}, .disable (.site 0) {}, .ts1 { link := .site 0, fields := { role := 1 } }, .ts2 (.site 0) { role := 1 },
     .tsEnd (.site 0), .lockAcquired (.site 0) 0, .skipFrame 0 false, .dataFrame 0 [], .framingLoss (.site 0), .replayTimerExpiry (.site 0),
     .trainTimeout (.site 0), .quietExpiry (.site 0), .graceExpiry (.site 0), .lossOfSignal (.site 0), .linkEnable (.site 0), .wakePattern (.site 0),
     .linkCtlRetrain (.site 0), .forceNew (.site 0), .receiverMargining 0 0 0 0]
    Instr.wf = true := by decide +kernel

theorem test_well_formed_6 : List.all (α := Instr)
    [.tsEndSent (.site 0), .droopTrip 0 0, .stretchEnd 0, .droopSag 0 0, .divRestore 0, .throttleOn [], .throttleStepTimer [], .thermTrip [],
     .sensorFault 0 0, .refLoss 0, .xtalLoss, .refReturn 0, .sioRefTimeout 0, .ageingMeasure [], .planDue [], .replan [], .planItemStart,
     .planItemEnd false, .vrAlert 0 0, .calOpen .endpoint, .calCommit .endpoint, .calAbort .endpoint, .calOperationDone, .blockPowerGate .site 0,
     .blockWake .site 0, .prsntLFall, .insertionRecognised, .extraction, .gateOffTimer, .rampComplete 0 0, .pgQualified 0 0, .pgWindowLoss 0,
     .faultTimer 0 0, .fast 0 0, .fetMeas 0, .fetModel 0, .ov 0 0, .uv 0 0, .rails 0 0, .retryDelayExpiry]
    Instr.wf = true := by decide +kernel

theorem test_well_formed_7 : List.all (α := Instr)
    [.tripCountClear, .auxLost, .auxGood, .auxLow, .hswCtlOff, .hswCtlOn, .hswStatus, .hswClear, .hswOff, .hswOn, .devReset, .devCmdReset,
     .blkResetGo 0 0, .mainRailsGood, .vinInRange 0, .tsnsFault, .trngHealth, .trngRecover, .rekeyStart, .rekeyStep, .rekeyDrainEnd, .confirm,
     .commit false, .fwWrite 0 0 [], .fwActivate 0, .challenge none, .submit .endpoint, .dbgTokenChunk 0 [], .relock .endpoint, .nonceExpiry,
     .jtagLocked 1, .trst, .dmaSqTail 0 0, .dmaCqHead 0 0, .dmaEnable 0, .dmaDisable 0, .dmaAbort 0, .dmaCfgWrite 0 0 0, .dmaDescFetched 0, .copy 0 0]
    Instr.wf = true := by decide +kernel

theorem test_well_formed_8 : List.all (α := Instr)
    [.fill 0 0, .descDone 0, .regRead 0, .regWrite 0 0, .registerWrite .endpoint 0 4 0, .rlRead .endpoint 0 4, .evtClrWrite .endpoint 0 0,
     .errClrWrite .endpoint 0 0, .errInjWrite .endpoint 0 0, .pageCtlWrite .endpoint 0 0, .lockAll .endpoint, .calDataAccess .endpoint none,
     .dbgGo 0 0 false, .blkResetDone 0 0]
    Instr.wf = true := by decide +kernel

theorem test_ill_formed_0 : List.all (α := Instr)
    [.memrd 4 0 0 0 .noOp, .memrd 0 2 0 0 .noOp, .memrd 0 0 65536 0 .noOp, .memrd 0 0 0 (2 ^ 50) .noOp, .memrddata 4 0 0 0, .memrddata 0 2 0 0,
     .memrddata 0 0 65536 0, .memrddata 0 0 0 (2 ^ 50), .memspecrd 4 0 (.memSpecRd 0), .memspecrd 0 2 (.memSpecRd 0),
     .memspecrd 0 0 (.memSpecRd (2 ^ 50)), .meminv 4 0 0 0, .meminv 0 2 0 0, .meminv 0 0 65536 0, .meminv 0 0 0 (2 ^ 50), .memclnevct 4 0 0 0,
     .memclnevct 0 2 0 0, .memclnevct 0 0 65536 0, .memclnevct 0 0 0 (2 ^ 50), .biconflict 4 0 0 0, .biconflict 0 2 0 0, .biconflict 0 0 65536 0,
     .biconflict 0 0 0 (2 ^ 50), .memwr 4 0 0 0 0 0 false .noOp, .memwr 0 2 0 0 0 0 false .noOp, .memwr 0 0 65536 0 0 0 false .noOp,
     .memwr 0 0 0 (2 ^ 50) 0 0 false .noOp, .birsp 4 0 0 .rspI, .birsp 0 2 0 .rspI, .broadcastSweep (2 ^ 20), .noticeLate 8,
     .apertureWrite 256 0 0 0 [], .apertureWrite 0 4 0 0 [], .apertureWrite 0 0 2 0 [], .apertureWrite 0 0 0 (2 ^ 32) [],
     .apertureWrite 0 0 0 0 [(256, false)], .apertureRead 256 0 0 0 0 0, .apertureRead 0 4 0 0 0 0, .apertureRead 0 0 2 0 0 0,
     .apertureRead 0 0 0 1024 0 0]
    (fun i => !i.wf) = true := by decide +kernel

theorem test_ill_formed_1 : List.all (α := Instr)
    [.apertureRead 0 0 0 0 (2 ^ 32) 0, .apertureRead 0 0 0 0 0 4097, .winCmdCommit 256 0 0, .winCmdCommit 0 4 0, .winCmdCommit 0 0 2,
     .winCmdAbort 256 0 0, .winCmdAbort 0 4 0, .winCmdAbort 0 0 2, .winBaseWrite 256 0 0 false 0, .winBaseWrite 0 4 0 false 0,
     .winBaseWrite 0 0 2 false 0, .winBaseWrite 0 0 0 false (2 ^ 32), .batchTimeout 1280, .commitSend 1280 0, .commitSend 0 8,
     .outcomeAsk 1280 0 0 0 0, .outcomeAsk 0 65536 0 0 0, .outcomeAsk 0 0 8 0 0, .outcomeAsk 0 0 0 8 0, .outcomeAsk 0 0 0 0 8,
     .read 1024 0 0 false false 0 0, .read 0 65536 0 false false 0 0, .read 0 0 65536 false false 0 0, .read 0 0 0 false false 4 0,
     .read 0 0 0 false false 0 (2 ^ 48), .write 1024 0 0 false 0 0 [0], .write 0 65536 0 false 0 0 [0], .write 0 0 65536 false 0 0 [0],
     .write 0 0 0 false 4 0 [0], .write 0 0 0 false 0 (2 ^ 48) [0], .write 0 0 0 false 0 0 [0, 0], .writeMasked 1024 0 0 false 0 0 0,
     .writeMasked 0 65536 0 false 0 0 0, .writeMasked 0 0 65536 false 0 0 0, .writeMasked 0 0 0 false (2 ^ 48) 0 0,
     .atomic 1024 0 0 0 .swap false 0 0 0, .atomic 0 65536 0 0 .swap false 0 0 0, .atomic 0 0 65536 0 .swap false 0 0 0,
     .atomic 0 0 0 (2 ^ 48) .swap false 0 0 0, .atomic 0 0 0 0 .swap false (2 ^ 64) 0 0]
    (fun i => !i.wf) = true := by decide +kernel

theorem test_ill_formed_2 : List.all (α := Instr)
    [.atomic 0 0 0 0 .swap false 0 (2 ^ 64) 0, .atomic 0 0 0 0 .swap false 0 0 65536, .failOr 1024 0 0 0 0, .failOr 0 65536 0 0 0,
     .failOr 0 0 65536 0 0, .failOr 0 0 0 (2 ^ 32) 0, .failRec 1024 0 0 [], .failRec 0 65536 0 [], .failRec 0 0 65536 [],
     .failRec 0 0 0 (List.replicate 256 0), .failRec 0 0 0 [(2 ^ 64)], .mcastJoin 1024 0 0 0, .mcastJoin 0 65536 0 0, .mcastJoin 0 0 65536 0,
     .mcastJoin 0 0 0 64, .mcastLeave 1024 0 0 0, .mcastLeave 0 65536 0 0, .mcastLeave 0 0 65536 0, .mcastLeave 0 0 0 64,
     .mcastPull 1024 0 0 false 0 0, .mcastPull 0 65536 0 false 0 0, .mcastPull 0 0 65536 false 0 0, .mcastPull 0 0 0 false 64 0,
     .mcastPull 0 0 0 false 0 (2 ^ 24), .batchOpen 1024 0 0, .batchOpen 0 65536 0, .batchOpen 0 0 65536, .batchCommit 1024 0 0,
     .batchCommit 0 65536 0, .batchCommit 0 0 65536, .batchAbort 1024 0 0, .batchAbort 0 65536 0, .batchAbort 0 0 65536, .statusSite 1024 0 0,
     .statusSite 0 65536 0, .statusSite 0 0 65536, .statusBatchOutcome 1024 0 0 0 0, .statusBatchOutcome 0 65536 0 0 0,
     .statusBatchOutcome 0 0 65536 0 0, .statusBatchOutcome 0 0 0 2 0]
    (fun i => !i.wf) = true := by decide +kernel

theorem test_ill_formed_3 : List.all (α := Instr)
    [.statusBatchOutcome 0 0 0 0 4, .time 1024 0 0, .time 0 65536 0, .time 0 0 65536, .reservedOpcode 1024 0 0 0 false 0 0 0,
     .reservedOpcode 0 256 0 0 false 0 0 0, .reservedOpcode 0 0 65536 0 false 0 0 0, .reservedOpcode 0 0 0 65536 false 0 0 0,
     .reservedOpcode 0 0 0 0 false 4 0 0, .reservedOpcode 0 0 0 0 false 0 4 0, .reservedOpcode 0 0 0 0 false 0 0 17, .mcastFillDone 64 0,
     .mcastFillDone 0 (2 ^ 24), .grpEnable 64, .grpDisable 64, .grpCfgWrite 64 0 0, .grpCfgWrite 0 4 0, .grpCfgWrite 0 0 (2 ^ 32),
     .spacePendWrite 32 0, .spacePendWrite 0 4, .destroy 4096 false, .modify 4096, .rgnRead 4096, .winCfgWrite 4 0 0 0, .winCfgWrite 0 2 0 0,
     .winCfgWrite 0 0 65536 0, .winCfgWrite 0 0 0 64, .winLbaseWrite 4 0 0, .winLbaseWrite 0 2 0, .winLbaseWrite 0 0 1024, .geoSet 1024,
     .geoClear 1024, .geoRead 1024, .dutBind 1024, .dutUnbind 1024 false, .dutClear 1024 false, .dutRebuild 1024 false, .dutRead 1024,
     .assaySqTail 16 0, .assaySqTail 0 (2 ^ 32)]
    (fun i => !i.wf) = true := by decide +kernel

theorem test_ill_formed_4 : List.all (α := Instr)
    [.assayCqHead 16 0, .assayCqHead 0 (2 ^ 32), .assayEnable 16, .assayDisable 16, .assayAbort 16, .assayCfgWrite 16 0 0, .assayCfgWrite 0 11 0,
     .assayCfgWrite 0 0 (2 ^ 32), .assayDescFetched 16, .frameEvict (2 ^ 32), .writebackDone (2 ^ 32) none, .writebackDone 0 (some 16),
     .migrationStart (2 ^ 32) none, .migrationStart 0 (some 16), .migrationFinish (2 ^ 32), .siteClassWrite 1024 0, .siteClassWrite 0 16,
     .siteClassAdmitEnd 1024, .queueEntryFreed 16, .schedulerPick 16, .perst 4, .hotReset 4 0 0, .hotReset 0 2 0, .hotReset 0 0 3, .cxlReset 4 0,
     .cxlReset 0 2, .flr 4 0, .flr 0 2, .flrForceRelease 4 0, .flrForceRelease 0 2, .bmeClear 4 0, .bmeClear 0 2, .bmeSet 4 0 {}, .bmeSet 0 2 {},
     .bmeSet 0 0 { mrrs := 64 }, .bmeSet 0 0 { cto := 16 }, .outboundCompletion 4 0 0 0 [], .outboundCompletion 0 2 0 0 [],
     .outboundCompletion 0 0 (2 ^ 14) 0 [], .outboundCompletion 0 0 0 3 []]
    (fun i => !i.wf) = true := by decide +kernel

theorem test_ill_formed_5 : List.all (α := Instr)
    [.outboundCompletion 0 0 0 0 [256], .completionTimeout 4 0 0, .completionTimeout 0 2 0, .completionTimeout 0 0 1024,
     .msixPendingSend 4 0 false false [], .msixPendingSend 0 2 false false [], .hdmDecoderCommit 4 0 0 0 0 0 0 false false,
     .hdmDecoderCommit 0 2 0 0 0 0 0 false false, .hdmDecoderCommit 0 0 16 0 0 0 0 false false, .hdmDecoderCommit 0 0 0 (2 ^ 52) 0 0 0 false false,
     .hdmDecoderCommit 0 0 0 0 (2 ^ 52) 0 0 false false, .hdmDecoderCommit 0 0 0 0 0 (2 ^ 52) 0 false false,
     .hdmDecoderCommit 0 0 0 0 0 0 16 false false, .biEnableWrite 4 0 false, .biEnableWrite 0 2 false, .hostLinkUp 4 0 0 0 false,
     .hostLinkUp 0 2 0 0 false, .hostLinkUp 0 0 7 0 false, .hostLinkUp 0 0 0 17 false, .surpriseDown 4 0, .surpriseDown 0 2, .linkUncorr 4 0,
     .linkUncorr 0 2, .contain 4 0 1, .contain 0 2 1, .contain 0 0 0, .contain 0 0 8, .containWrite 4 0, .containWrite 0 2, .release (.host 4 0) 0 0,
     .release .endpoint 4 0, .release .endpoint 0 2, .perstLRise 4, .identifyMemoryDevice 4 0, .identifyMemoryDevice 0 2, .getPartitionInfo 4 0,
     .getPartitionInfo 0 2, .getSupportedLogs 4 0, .getSupportedLogs 0 2, .getLog 4 0 false]
    (fun i => !i.wf) = true := by decide +kernel

theorem test_ill_formed_6 : List.all (α := Instr)
    [.getLog 0 2 false, .getEventRecords 4 0 0, .getEventRecords 0 2 0, .getEventRecords 0 0 4, .clearEventRecords 4 0 0 false [],
     .clearEventRecords 0 2 0 false [], .clearEventRecords 0 0 4 false [], .getEventInterruptPolicy 4 0, .getEventInterruptPolicy 0 2,
     .setEventInterruptPolicy 4 0 [], .setEventInterruptPolicy 0 2 [], .setEventInterruptPolicy 0 0 (List.replicate 5 (false, 0)), .getTimestamp 4 0,
     .getTimestamp 0 2, .setTimestamp 4 0 0, .setTimestamp 0 2 0, .setTimestamp 0 0 (2 ^ 64), .getHealthInfo 4 0, .getHealthInfo 0 2, .getFwInfo 4 0,
     .getFwInfo 0 2, .transferFw 4 0 0 0 [], .transferFw 0 2 0 0 [], .transferFw 0 0 256 0 [], .transferFw 0 0 0 (2 ^ 32) [],
     .transferFw 0 0 0 0 [256], .activateFw 4 0 0 false, .activateFw 0 2 0 false, .activateFw 0 0 256 false, .unsupportedMailboxCmd 4 0 0,
     .unsupportedMailboxCmd 0 2 0, .unsupportedMailboxCmd 0 0 65536, .doeDiscovery 4 0 0 0, .doeDiscovery 0 2 0 0, .doeDiscovery 0 0 2 0,
     .doeDiscovery 0 0 0 256, .cxlTableAccess 4 0, .cxlTableAccess 0 2, .spdmRequest 10 .getVersion [], .spdmRequest 0 .getVersion [256]]
    (fun i => !i.wf) = true := by decide +kernel

theorem test_ill_formed_7 : List.all (α := Instr)
    [.getPqCert 10 0 0, .getPqCert 0 65536 0, .getPqCert 0 0 65536, .getPqSig 10, .channelRead (2 ^ 43) 1, .channelRead 0 0, .channelRead 0 9,
     .channelWrite (2 ^ 43) [(0, false)], .channelWrite 0 [], .channelWrite 0 (List.replicate 9 (0, false)), .dramReadReturn (2 ^ 43) [] 0,
     .dramReadReturn 0 (List.replicate 41 0) 0, .dramReadReturn 0 [65536] 0, .dramReadReturn 0 [] 16, .writeDrainStart 16 0 false,
     .writeDrainStart 0 2 false, .writeDrainStop 16 0, .writeDrainStop 0 2, .openIdleExpiry 16 0, .openIdleExpiry 0 512, .refreshDue 16 0 false,
     .refreshDue 0 4 false, .mr4Poll 16 0 false, .mr4Poll 0 4 false, .alertN 16 false false, .selfRefreshEntry 16, .srDeferExpiry 16,
     .chCtlRetrain 16, .retrainDone 16 false, .errInjArm 16 0 0 0 0, .errInjArm 0 16 0 0 0, .errInjArm 0 0 16 0 0, .errInjArm 0 0 0 65536 0,
     .errInjArm 0 0 0 0 2, .scrubStep false (List.replicate 41 0), .scrubStep false [65536], .proofHoldExpiry (2 ^ 40), .t0Patrol 5 0 0,
     .t0Patrol 0 0 3, .tableCmd { p := 5 } 0 (.destroy 0)]
    (fun i => !i.wf) = true := by decide +kernel

theorem test_ill_formed_8 : List.all (α := Instr)
    [.tableCmd V 8 (.destroy 0), .tableCmd V 0 (.destroy 4096), .grantNotice { p := 5 } 0 0 0 0 0 .none, .grantNotice V 8 0 0 0 0 .none,
     .grantNotice V 0 (2 ^ 38) 0 0 0 .none, .grantNotice V 0 0 32 0 0 .none, .grantNotice V 0 0 0 16 0 .none, .grantNotice V 0 0 0 0 8 .none,
     .noticeFlush { p := 5 } 0 0, .noticeFlush V 8 0, .noticeFlush V 0 8, .dirUpd { p := 5 } (.free 0), .dirUpd V (.entry 0 4 [] false),
     .twinFetch { p := 5 } 0 0 0, .twinFetch V 0 (2 ^ 38) 0, .twinFetch V 0 0 16, .fetchData { p := 5 } 0 0 false, .fwdReq { p := 5 } 0 RQ,
     .fwdReq V 0 { RQ with who := 4097 }, .fwdRsp { p := 5 } 0 {}, .snoopFwd { p := 5 } 0 { dev := 0, sid := 0 } .cur 0 0 0 .named,
     .snoopFwd V 8 { dev := 0, sid := 0 } .cur 0 0 0 .named, .snoopFwd V 0 { dev := 8, sid := 0 } .cur 0 0 0 .named,
     .snoopFwd V 0 { dev := 0, sid := 0 } .cur 0 0 0 (.broadcast 0 4 none), .snoopFwd V 0 { dev := 0, sid := 0 } .cur 34 0 0 .named,
     .snoopFwd V 0 { dev := 0, sid := 0 } .cur 0 16 0 .named, .snoopFwd V 0 { dev := 0, sid := 0 } .cur 0 0 (2 ^ 46) .named,
     .snoopAns { p := 5 } { dev := 0, sid := 0 } .rspI { host := 0, win := 0 }, .snoopAns V { dev := 8, sid := 0 } .rspI { host := 0, win := 0 },
     .snoopAns V { dev := 0, sid := 0 } .rspI { host := 34, win := 0 }, .snoopAns V { dev := 0, sid := 0 } .rspI { host := 0, win := 16 },
     .mirrorLine { p := 5 } 0 0 false 0 none, .mirrorLine V (2 ^ 38) 0 false 0 none, .mirrorLine V 0 0 false 16 none,
     .mirrorLine V 0 0 false 0 (some AE), .mirrorFail { p := 5 } 0 0 0, .mirrorFail V 1024 0 0, .mirrorFail V 0 (2 ^ 64) 0, .mirrorFail V 0 0 16,
     .mirrorOr { p := 5 } 0 0 0 0]
    (fun i => !i.wf) = true := by decide +kernel

theorem test_ill_formed_9 : List.all (α := Instr)
    [.mirrorOr V 1024 0 0 0, .mirrorOr V 0 (2 ^ 38) 0 0, .mirrorOr V 0 0 0 16, .mirrorRec { p := 5 } 0 LY, .mirrorRec V (2 ^ 32) LY,
     .mirrorRec V 0 { state := 0, nslice := 9 }, .commitRec { p := 5 } CR, .commitRec V { CR with slot := 1280 }, .csign { p := 5 } 0 0 0 none,
     .csign V 2 0 0 none, .csign V 0 (2 ^ 32) 0 none, .csign V 0 0 0 (some { state := 0, nslice := 9 }), .hello { p := 5 } PI,
     .hello V { PI with side := 2 }, .state { p := 5 } PI, .state V { PI with side := 2 }, .withdraw { p := 5 }, .handover { p := 5 } 0 0 0 0,
     .handover V 8 0 0 0, .handover V 0 8 0 0, .handover V 0 0 8 0, .rsTable { p := 5 } [] [] [] [] [] [] [] 0,
     .rsTable V [(4096, { base := 0, size := 1 })] [] [] [] [] [] [] 0, .rsTable V [] [(1024, GE)] [] [] [] [] [] 0,
     .rsTable V [] [] [(1024, DU)] [] [] [] [] 0, .rsTable V [] [] [] [] [] [] [] (2 ^ 448), .rsLoaf { p := 5 } 0 LY [] 0,
     .rsLoaf V (2 ^ 32) LY [] 0, .rsLoaf V 0 { state := 0, nslice := 9 } [] 0, .rsLoaf V 0 LY [] (2 ^ 64), .rsLine { p := 5 } 0 0 false 0,
     .rsLine V (2 ^ 38) 0 false 0, .rsLine V 0 0 false 16, .rsDir { p := 5 } (.free 0), .rsDir V (.entry 0 4 [] false), .rsDone { p := 5 },
     .timeSync { p := 5 } 0 0 0 false, .stewReq { p := 5 } 0 0 none, .stewReq V 0 (2 ^ 32) none, .stewReq V 0 0 (some (2 ^ 32))]
    (fun i => !i.wf) = true := by decide +kernel

theorem test_ill_formed_10 : List.all (α := Instr)
    [.stewRsp { p := 5 } 0 false 0, .stewRsp V 0 false (2 ^ 32), .channelTrainingDone 16 false, .deviceReset 7, .d2dFlitReceive 6 false,
     .d2dReplayLimit 6, .lockstepMismatch 2, .mgmtWatchdogExpiry 2, .escalationExpiry 112, .errorLineChange .site 1024 0 [],
     .errorLineChange .site 0 32 [], .errorLineChange .site 0 0 [256], .rdCmdStart false 64, .fcTestRaise 4, .ldgRead false (2 ^ 64) 0,
     .ldgRead false 0 256, .ldgLastWords 256, .sectorMap 65536, .t0DieFail 4, .txnFlit (.site 1024) {} 0, .txnFlit (.site 0) { seq := 4096 } 0,
     .txnFlit (.site 0) {} 11, .idleFlit (.site 1024) {} 0, .idleFlit (.site 0) { seq := 4096 } 0, .idleFlit (.site 0) {} 11,
     .badCrcFlit (.site 1024) 0, .badCrcFlit (.site 0) 11, .retrain (.site 1024) {}, .retrain (.site 0) { hdr := { seq := 4096 } },
     .retrain (.site 0) { hdrErrs := 11 }, .sleepReq (.site 1024) {}, .sleepReq (.site 0) { hdr := { seq := 4096 } },
     .sleepReq (.site 0) { hdrErrs := 11 }, .sleepAck (.site 1024) {}, .sleepAck (.site 0) { hdr := { seq := 4096 } },
     .sleepAck (.site 0) { hdrErrs := 11 }, .sleepNak (.site 1024) {}, .sleepNak (.site 0) { hdr := { seq := 4096 } },
     .sleepNak (.site 0) { hdrErrs := 11 }, .disable (.site 1024) {}]
    (fun i => !i.wf) = true := by decide +kernel

theorem test_ill_formed_11 : List.all (α := Instr)
    [.disable (.site 0) { hdr := { seq := 4096 } }, .disable (.site 0) { hdrErrs := 11 }, .ts1 { link := .site 1024, fields := { role := 1 } },
     .ts1 { link := .site 0, fields := { role := 256 } }, .ts2 (.site 1024) { role := 1 }, .ts2 (.site 0) { role := 256 }, .tsEnd (.site 1024),
     .lockAcquired (.site 1024) 0, .lockAcquired (.site 0) 65536, .skipFrame 5 false, .dataFrame 5 [], .dataFrame 0 [256], .framingLoss (.site 1024),
     .replayTimerExpiry (.site 1024), .trainTimeout (.site 1024), .quietExpiry (.site 1024), .graceExpiry (.site 1024), .lossOfSignal (.site 1024),
     .linkEnable (.site 1024), .wakePattern (.site 1024), .linkCtlRetrain (.site 1024), .forceNew (.site 1024), .receiverMargining 3 0 0 0,
     .receiverMargining 0 1024 0 0, .receiverMargining 0 0 256 0, .receiverMargining 0 0 0 256, .tsEndSent (.site 1024), .droopTrip 15 0,
     .droopTrip 0 48, .stretchEnd 15, .droopSag 15 0, .droopSag 0 48, .divRestore 15, .throttleOn [(32, 0)], .throttleStepTimer [(32, 0)],
     .thermTrip [(32, 0)], .sensorFault 32 0, .refLoss 5, .refReturn 5, .sioRefTimeout 4]
    (fun i => !i.wf) = true := by decide +kernel

theorem test_ill_formed_12 : List.all (α := Instr)
    [.ageingMeasure [(256, 0, 0)], .planDue [(.vcoreUp 256)], .replan [(.vcoreUp 256)], .vrAlert 65536 0, .vrAlert 0 65536, .calOpen (.host 4 0),
     .calCommit (.host 4 0), .calAbort (.host 4 0), .blockPowerGate .site 1024, .blockWake .site 1024, .rampComplete 65536 0, .rampComplete 0 65536,
     .pgQualified 65536 0, .pgQualified 0 65536, .pgWindowLoss 65536, .faultTimer 65536 0, .faultTimer 0 65536, .fast 65536 0, .fast 0 65536,
     .fetModel 65536, .ov 65536 0, .ov 0 65536, .uv 65536 0, .uv 0 65536, .rails 65536 0, .rails 0 65536, .blkResetGo 16 0, .blkResetGo 0 64,
     .vinInRange 65536, .fwWrite 256 0 [], .fwWrite 0 (2 ^ 32) [], .fwWrite 0 0 (List.replicate 256 0), .fwWrite 0 0 [256], .fwActivate 256,
     .challenge (some (.host 4 0)), .submit (.host 4 0), .dbgTokenChunk 65536 [], .dbgTokenChunk 0 [256], .relock (.host 4 0), .jtagLocked 0]
    (fun i => !i.wf) = true := by decide +kernel

theorem test_ill_formed_13 : List.all (α := Instr)
    [.jtagLocked 4, .dmaSqTail 4 0, .dmaSqTail 0 (2 ^ 32), .dmaCqHead 4 0, .dmaCqHead 0 (2 ^ 32), .dmaEnable 4, .dmaDisable 4, .dmaAbort 4,
     .dmaCfgWrite 4 0 0, .dmaCfgWrite 0 11 0, .dmaCfgWrite 0 0 (2 ^ 32), .dmaDescFetched 4, .copy 4 0, .fill 4 0, .descDone 4, .regRead (2 ^ 32),
     .regWrite (2 ^ 32) 0, .regWrite 0 (2 ^ 32), .registerWrite (.host 4 0) 0 4 0, .registerWrite .endpoint (2 ^ 32) 4 0,
     .registerWrite .endpoint 0 0 0, .registerWrite .endpoint 0 65 0, .registerWrite .endpoint 0 4 (2 ^ 32), .rlRead (.host 4 0) 0 4,
     .rlRead .endpoint (2 ^ 32) 4, .rlRead .endpoint 0 0, .rlRead .endpoint 0 65, .evtClrWrite (.host 4 0) 0 0, .evtClrWrite .endpoint 65536 0,
     .evtClrWrite .endpoint 0 (2 ^ 32), .errClrWrite (.host 4 0) 0 0, .errClrWrite .endpoint 65536 0, .errClrWrite .endpoint 0 (2 ^ 32),
     .errInjWrite (.host 4 0) 0 0, .errInjWrite .endpoint 65536 0, .errInjWrite .endpoint 0 (2 ^ 32), .pageCtlWrite (.host 4 0) 0 0,
     .pageCtlWrite .endpoint 65536 0, .pageCtlWrite .endpoint 0 (2 ^ 32), .lockAll (.host 4 0)]
    (fun i => !i.wf) = true := by decide +kernel

theorem test_ill_formed_14 : List.all (α := Instr)
    [.calDataAccess (.host 4 0) none, .calDataAccess .endpoint (some (2 ^ 32)), .dbgGo (2 ^ 48) 0 false, .dbgGo 0 (2 ^ 32) false, .blkResetDone 16 0,
     .blkResetDone 0 64]
    (fun i => !i.wf) = true := by decide +kernel

theorem test_refuses_wfAgent : List.all (α := Agent)
    [.host 4 0, .host 0 2, .dma 4]
    (fun x => !wfAgent x) = true := by decide +kernel

theorem test_refuses_wfLink : List.all (α := LinkId)
    [.site 1024, .peer 5]
    (fun x => !wfLink x) = true := by decide +kernel

theorem test_refuses_wfVia : List.all (α := Via)
    [{ p := 5 }, { p := 0, k := 2 }, { p := 0, tseq := some (2 ^ 32) }]
    (fun x => !wfVia x) = true := by decide +kernel

theorem test_refuses_wfHdr : List.all (α := FlitHdr)
    [{ seq := 4096 }, { ack := 4096 }, { ackType := 4 }, { creditClass := 4 }, { creditCount := 256 }, { ftype := 16 }, { pool := 4 },
     { epoch := 256 }]
    (fun x => !wfHdr x) = true := by decide +kernel

theorem test_refuses_wfTrain : List.all (α := TrainFields)
    [{ role := 256 }, { role := 1, rate := 256 }, { role := 1, lanes := 65536 }, { role := 1, epoch := 256 }, { role := 1, rxNext := 4096 },
     { role := 1, credits := [0] }, { role := 1, credits := [0, 0, 0, 256] }, { role := 1, linkId := 2 ^ 48 }, { role := 1, port := 65536 },
     { role := 1, lane := 256 }, { role := 1, endCount := 256 }]
    (fun x => !wfTrain x) = true := by decide +kernel

theorem test_refuses_wfMode : List.all (α := SnoopMode)
    [.broadcast (2 ^ 32) 0 none, .broadcast 0 4 none, .broadcast 0 0 (some { host := 32, win := 0, arr := 0 })]
    (fun x => !wfMode x) = true := by decide +kernel

theorem test_refuses_wfLayout : List.all (α := Layout)
    [{ state := 16, nslice := 0 }, { state := 0, nslice := 9 }, { LY with qend1 := 4096 }, { LY with qend2 := 4096 }, { LY with qend3 := 4096 }]
    (fun x => !wfLayout x) = true := by decide +kernel

theorem test_refuses_wfAtomic : List.all (α := AtomicEntry)
    [AE, { AE with site := 0, qid := 4 }, { AE with site := 0, atag := 65536 }, { AE with site := 0, old := 2 ^ 64 }]
    (fun x => !wfAtomic x) = true := by decide +kernel

theorem test_refuses_wfDir : List.all (α := DirChange)
    [.entry 0 4 [] false, .entry 0 1 (List.replicate 4 { host := 0, win := 0, arr := 0 }) false,
     .entry 0 1 [{ host := 32, win := 0, arr := 0 }] false, .entry 0 1 [{ host := 0, win := 16, arr := 0 }] false,
     .entry 0 1 [{ host := 0, win := 0, arr := 8 }] false]
    (fun x => !wfDir x) = true := by decide +kernel

theorem test_refuses_wfRequest : List.all (α := Request)
    [{ RQ with who := 4097 }, { RQ with arr := 8 }, { RQ with cls := 16 }, { RQ with qla := 2 ^ 46 }]
    (fun x => !wfRequest x) = true := by decide +kernel

theorem test_refuses_wfPeer : List.all (α := PeerInfo)
    [{ PI with side := 2 }, { PI with qid := 4 }, { PI with members := 3 }, { PI with svc := 8 }]
    (fun x => !wfPeer x) = true := by decide +kernel

theorem test_refuses_wfCommit : List.all (α := CommitRec)
    [{ CR with slot := 1280 }, { CR with arr := 8 }, { CR with cls := 16 }, { CR with bseq := 65536 },
     { CR with lines := List.replicate 65 { line := 0, data := 0, poison := false } }]
    (fun x => !wfCommit x) = true := by decide +kernel

theorem test_refuses_wfTable : List.all (α := TableCmd)
    [.ask 8 0 false (.destroy 0), .ask 0 0 false (.destroy 4096), .result false 16 0 none, .done 8, .drop 4096 0, .drop 0 2, .read 4096,
     .create 4096 { base := 0, size := 1 }, .destroy 4096, .modify 4096 0 0 0 0 0, .geoSet 1024 GE, .geoClear 1024, .dutBind 1024 DU,
     .dutUnbind 1024, .dutClear 1024, .dutRebuild 1024]
    (fun x => !wfTable x) = true := by decide +kernel

theorem test_refuses_wfItem : List.all (α := PlanItem)
    [.vcoreUp 256, .portReeq 3 0, .portReeq 0 1024, .chRetrain 16]
    (fun x => !wfItem x) = true := by decide +kernel

end Sys2Proof.Tests
end

section
/-! SUPPORT. What the shared operations of a register write do: a command that runs an operation, a field that is stored, a page's lock. -/

namespace Sys2Proof.Machine

/-! ### Commands -/

/-- A command leads to what the operation that it runs makes of the device. -/
theorem leads_of_exec {c : Instr} {s : State} {x e : Device} (hc : exec c s = .next { s with dev := settle x }) (he : x = e) :
    Leads c s e := by
  rw [Leads, hc, he]

/-! ### Storing a field -/

/-- The value that a word gives a field fits it. -/
theorem Field.of_mod (f : Field) (v : Nat) : f.of v % 2 ^ f.width = f.of v := Nat.mod_mod _ _

/-- A store changes the registers only. -/
theorem Device.store_regs_only (d : Device) (f : Field) (v i : Nat) : ∃ r, d.store f v i = { d with regs := r } := by
  unfold Device.store; dsimp only
  split
  · exact ⟨_, rfl⟩
  · exact ⟨d.regs, rfl⟩

/-- A store leaves every other register. -/
theorem Device.find_store_ne (d : Device) {f : Field} (v : Nat) {i k : Nat} (h : k ≠ f.key i) :
    KMap.find (d.store f v i).regs k = KMap.find d.regs k := by
  unfold Device.store; dsimp only
  split
  · exact KMap.find_put_ne _ _ h
  · rfl

/-- Every other field reads as before a store. -/
theorem Device.reg_store_ne (d : Device) {f g : Field} (v : Nat) {i j : Nat} (h : g.key j ≠ f.key i) :
    (d.store f v i).reg g j = d.reg g j := by
  simp [Device.reg, KMap.get, d.find_store_ne v h]

/-- A field that is stored reads back, cut to its width, unless the value is a reserved encoding. -/
theorem Device.reg_store_self (d : Device) (f : Field) (v i : Nat) :
    (d.store f v i).reg f i =
      if f.minV ≤ v % 2 ^ f.width ∧ v % 2 ^ f.width ≤ f.maxV then v % 2 ^ f.width else d.reg f i := by
  split
  · next h => rw [d.store_ok f v i h, Device.reg_setReg_self]
  · next h => rw [d.store_reserved f v i h]

/-! ### The lock of a page (R643) -/

/-- On an unlocked page a write takes effect. -/
theorem Device.rwl_unlocked (d : Device) {p : Page} {i : Nat} (h : (d.page p i).lock = false) (c : Bool) (f : Device → Device) :
    d.rwl p i c f = f d := by
  simp [Device.rwl, h]

/-- On a locked page a write that would change a field that the lock binds only counts. -/
theorem Device.rwl_locked (d : Device) {p : Page} {i : Nat} {c : Bool} (h : (d.page p i).lock = true) (hc : c = true)
    (f : Device → Device) : d.rwl p i c f = d.countLocked p i := by
  simp [Device.rwl, Device.countLocked, h, hc]

end Sys2Proof.Machine
end

section
/-! PROOFS. A plain write of a word is a fold of stores over the fields of the word, whose keys differ; so what a field holds after the
write is decided by its own store. -/

namespace Sys2Proof.Machine

/-! ### The fields of a word -/

/-- The fields listed for a page belong to it. -/
theorem Page.page_of_mem_fields (p : Page) : ∀ f ∈ p.fields, f.page = p := by
  cases p <;> decide

/-- Two fields of a page with the same offset begin at different bits. -/
theorem Page.fields_apart (p : Page) : p.fields.Pairwise (fun f g => f.off = g.off → f.lo ≠ g.lo) := by
  cases p <;> decide

/-- The fields of a word lie under different keys. -/
theorem Page.word_keys_apart (p : Page) (off b : Nat) : (p.word off).Pairwise (fun f g => f.key b ≠ g.key b) := by
  have hmem : ∀ f ∈ p.word off, f.page = p ∧ f.off = wordOff p off := by
    intro f hf
    obtain ⟨hin, hoff⟩ := List.mem_filter.mp hf
    exact ⟨p.page_of_mem_fields f hin, by simpa using hoff⟩
  refine (p.fields_apart.filter _).imp_of_mem ?_
  intro f g hf hg hlo hkey
  obtain ⟨hfp, hfo⟩ := hmem f hf
  obtain ⟨hgp, hgo⟩ := hmem g hg
  refine hlo (hfo.trans hgo.symm) ?_
  simp only [Field.key, hfp, hgp, hfo, hgo] at hkey
  omega

/-! ### The stores of a plain write -/

/-- Does a plain write of a page that is locked or not store a field (R10, R643)? -/
def Field.plain (f : Field) (lock : Bool) : Bool := f.acc == .rw || (f.acc == .rwl && !lock)

/-- What a plain write does with one field of its word. -/
def Device.putField (lock : Bool) (b v : Nat) (d : Device) (f : Field) : Device :=
  if f.plain lock then d.store f (f.of v) b else d

/-- The device with a write of a locked page counted, if the write would have changed a field that the lock binds. -/
def Device.countIgnored (d : Device) (p : Page) (i off v : Nat) : Device :=
  if (d.page p i).lock && (p.word off).any (fun f => f.acc == .rwl && f.of v != d.reg f (d.bankOf p i off)) then d.countLocked p i else d

/-- A plain write counts an ignored change and then goes through the fields of the word. -/
theorem Device.plainWrite_eq (d : Device) (p : Page) (i off v : Nat) :
    d.plainWrite p i off v =
      (p.word off).foldl (Device.putField (d.page p i).lock (d.bankOf p i off) v) (d.countIgnored p i off v) := by
  unfold Device.plainWrite
  refine congrArg (fun g => List.foldl g (d.countIgnored p i off v) (p.word off)) ?_
  funext e f
  cases hacc : f.acc <;> cases (d.page p i).lock <;> simp [Device.putField, Field.plain, hacc]

section
variable (lock : Bool) (b v : Nat)

/-- One field of a plain write changes the registers only. -/
theorem Device.putField_regs_only (d : Device) (f : Field) : ∃ r, d.putField lock b v f = { d with regs := r } := by
  unfold Device.putField
  split
  · exact d.store_regs_only f _ b
  · exact ⟨d.regs, rfl⟩

/-- One field of a plain write leaves every other register. -/
theorem Device.find_putField_ne (d : Device) {f : Field} {k : Nat} (h : f.key b ≠ k) :
    KMap.find (d.putField lock b v f).regs k = KMap.find d.regs k := by
  unfold Device.putField
  split
  · exact d.find_store_ne _ h.symm
  · rfl

/-- The stores of a plain write change the registers only. -/
theorem Device.foldl_putField_regs_only (fs : List Field) (d : Device) :
    ∃ r, fs.foldl (Device.putField lock b v) d = { d with regs := r } := by
  induction fs generalizing d with
  | nil => exact ⟨d.regs, rfl⟩
  | cons f fs ih =>
    obtain ⟨r, hr⟩ := d.putField_regs_only lock b v f
    obtain ⟨r', hr'⟩ := ih (d.putField lock b v f)
    exact ⟨r', by rw [List.foldl_cons, hr', hr]⟩

/-- The stores of a plain write leave every register outside their fields. -/
theorem Device.find_foldl_putField (fs : List Field) (d : Device) {k : Nat} (h : ∀ f ∈ fs, f.key b ≠ k) :
    KMap.find (fs.foldl (Device.putField lock b v) d).regs k = KMap.find d.regs k := by
  induction fs generalizing d with
  | nil => rfl
  | cons f fs ih =>
    rw [List.foldl_cons, ih _ (fun g hg => h g (List.mem_cons_of_mem _ hg))]
    exact d.find_putField_ne lock b v (h f List.mem_cons_self)

/-- After the stores of a plain write each field holds what its own store leaves in it. -/
theorem Device.reg_foldl_putField (fs : List Field) (d : Device) (apart : fs.Pairwise (fun f g => f.key b ≠ g.key b)) {f : Field}
    (hf : f ∈ fs) :
    (fs.foldl (Device.putField lock b v) d).reg f b =
      if f.plain lock ∧ f.minV ≤ f.of v ∧ f.of v ≤ f.maxV then f.of v else d.reg f b := by
  induction fs generalizing d with
  | nil => simp at hf
  | cons g fs ih =>
    obtain ⟨hg, hrest⟩ := List.pairwise_cons.mp apart
    rw [List.foldl_cons]
    rcases List.mem_cons.mp hf with rfl | hin
    · have later : ∀ e : Device, (fs.foldl (Device.putField lock b v) e).reg f b = e.reg f b := fun e => by
        simp only [Device.reg, KMap.get]
        rw [e.find_foldl_putField lock b v fs (fun g' h' => (hg g' h').symm)]
      rw [later, Device.putField]
      cases f.plain lock <;> simp [Device.reg_store_self, Field.of_mod]
    · have first : (d.putField lock b v g).reg f b = d.reg f b := by
        simp only [Device.reg, KMap.get]
        rw [d.find_putField_ne lock b v (hg f hin)]
      rw [ih _ hrest hin, first]

end

/-! ### What is counted -/

/-- Counting an ignored write changes the page headers only. -/
theorem Device.countIgnored_hdr_only (d : Device) (p : Page) (i off v : Nat) :
    d.countIgnored p i off v = { d with hdr := (d.countIgnored p i off v).hdr } := by
  unfold Device.countIgnored
  split <;> rfl

/-- A write that meets no lock, or changes nothing that the lock binds, is not counted. -/
theorem Device.countIgnored_eq_self (d : Device) (p : Page) (i off v : Nat)
    (h : (d.page p i).lock = false ∨ ∀ f ∈ p.word off, f.acc = .rwl → f.of v = d.reg f (d.bankOf p i off)) :
    d.countIgnored p i off v = d := by
  refine if_neg ?_
  rcases h with h | h
  · simp [h]
  · simp only [Bool.and_eq_true, List.any_eq_true, beq_iff_eq, bne_iff_ne, not_and, not_exists]
    exact fun _ f hf hacc hne => hne (h f hf hacc)

/-- A write of a locked page that would change a field that the lock binds is counted. -/
theorem Device.countIgnored_eq_countLocked (d : Device) (p : Page) (i off v : Nat) (hlock : (d.page p i).lock = true)
    (h : ∃ f ∈ p.word off, f.acc = .rwl ∧ f.of v ≠ d.reg f (d.bankOf p i off)) :
    d.countIgnored p i off v = d.countLocked p i := by
  refine if_pos ?_
  simpa [hlock] using h

/-! ### The obligation -/

/-- After a plain write a field of the word holds its bits of the value, if the write stores it and they are no reserved encoding. -/
theorem Device.reg_plainWrite (d : Device) (p : Page) (i off v : Nat) {f : Field} (hf : f ∈ p.word off) :
    (d.plainWrite p i off v).reg f (d.bankOf p i off) =
      if f.plain (d.page p i).lock ∧ f.minV ≤ f.of v ∧ f.of v ≤ f.maxV then f.of v else d.reg f (d.bankOf p i off) := by
  rw [d.plainWrite_eq, Device.reg_foldl_putField _ _ _ _ _ (p.word_keys_apart off _) hf, d.countIgnored_hdr_only]
  rfl

/-- Settles O54: a plain write is a fold of stores under keys that differ, after the count of what the lock kept out. -/
theorem plainFieldsKeepReservedAndLockedValues : Obligations.PlainFieldsKeepReservedAndLockedValues := by
  unfold Obligations.PlainFieldsKeepReservedAndLockedValues
  intro d p i off v
  obtain ⟨r, hr⟩ := Device.foldl_putField_regs_only (d.page p i).lock (d.bankOf p i off) v (p.word off) (d.countIgnored p i off v)
  rw [← d.plainWrite_eq] at hr
  refine ⟨r, (d.countIgnored p i off v).hdr, ?_, ?_, ?_, ?_, ?_, ?_⟩
  · rw [hr, d.countIgnored_hdr_only]
  · intro f hf hw
    have hplain : f.plain (d.page p i).lock = true := by simpa [Field.plain] using hw
    simp [d.reg_plainWrite p i off v hf, hplain]
  · intro f hf hk
    have hkept : f.plain (d.page p i).lock = false := by
      rcases hk with ⟨hacc, hlock⟩ | hacc
      · simp [Field.plain, hacc, hlock]
      · simp [Field.plain, hacc]
    simp [d.reg_plainWrite p i off v hf, hkept]
  · intro k hk
    have hfind := Device.find_foldl_putField (d.page p i).lock (d.bankOf p i off) v (p.word off) (d.countIgnored p i off v) hk
    rw [← d.plainWrite_eq, hr, d.countIgnored_hdr_only] at hfind
    exact hfind
  · intro h
    rw [d.countIgnored_eq_self p i off v h]
  · intro hlock h
    rw [d.countIgnored_eq_countLocked p i off v hlock h]
    rfl

end Sys2Proof.Machine
end

section
/-! PROOFS. Writes of SPACE_PEND, WIN_CFG and WIN_LBASE. -/

namespace Sys2Proof.Machine

/-- Fields at different offsets of one page lie under different keys. -/
theorem Field.key_ne_of_off_ne {f g : Field} (i : Nat) (hpage : f.page = g.page) (hoff : f.off ≠ g.off) (hf : f.lo < 32)
    (hg : g.lo < 32) : f.key i ≠ g.key i := by
  unfold Field.key
  rw [hpage]
  omega

/-- The window enables and the base of a link lie in different registers. -/
theorem winLbase_key_ne_winEn (l p : Nat) : (HOST.WIN_LBASE.LBASE l).key p ≠ (HOST.WIN_CFG.WIN_EN l).key p := by
  unfold HOST.WIN_LBASE.LBASE HOST.WIN_CFG.WIN_EN
  split
  · exact Field.key_ne_of_off_ne p rfl (by decide) (by decide) (by decide)
  · exact Field.key_ne_of_off_ne p rfl (by decide) (by decide) (by decide)

/-- A write of WIN_CFG on an unlocked page stores the enables, and the size where the base fits it. -/
theorem Device.winCfg_unlocked (d : Device) {p : Nat} (l en : Nat) {n : Nat} (h : (d.page .host p).lock = false) (hn : n < 64) :
    d.winCfg p l en n =
      if lbaseFits (d.reg (HOST.WIN_LBASE.LBASE l) p) n then
        (d.store (HOST.WIN_CFG.WIN_EN l) en p).store (HOST.WIN_CFG.WIN_SIZE_LOG2 l) n p
      else d.store (HOST.WIN_CFG.WIN_EN l) en p := by
  unfold Device.winCfg
  rw [d.rwl_unlocked h]
  dsimp only
  rw [d.reg_store_ne en (winLbase_key_ne_winEn l p), Nat.mod_eq_of_lt hn]

/-- A write of WIN_LBASE on an unlocked page stores a base that fits the window size. -/
theorem Device.winLbase_unlocked (d : Device) {p : Nat} (l : Nat) {v : Nat} (h : (d.page .host p).lock = false) (hv : v < 1024) :
    d.winLbase p l v =
      if lbaseFits v (d.reg (HOST.WIN_CFG.WIN_SIZE_LOG2 l) p) then d.store (HOST.WIN_LBASE.LBASE l) v p else d := by
  rw [Device.winLbase, d.rwl_unlocked h, Nat.mod_eq_of_lt hv]

/-- Settles O23: each write is a store behind the lock of its page. -/
theorem spaceAndWindowRegisters : Obligations.SpaceAndWindowRegisters := by
  unfold Obligations.SpaceAndWindowRegisters
  intro d w
  refine ⟨?_, ?_, ?_, ?_⟩
  · intro hlock tib mem
    exact leads_of_exec rfl (d.rwl_unlocked hlock _ _)
  · intro hlock tib mem hch
    exact leads_of_exec rfl (d.rwl_locked hlock (by simp [hch]) _)
  · intro p l hlock
    refine ⟨?_, ?_, ?_⟩
    · intro en n hn hfit
      exact leads_of_exec rfl ((d.winCfg_unlocked l en hlock hn).trans (by simp [hfit]))
    · intro en n hn _ _ hfit
      exact leads_of_exec rfl ((d.winCfg_unlocked l en hlock hn).trans (by simp [hfit]))
    · intro v hv
      exact ⟨fun hfit => leads_of_exec rfl ((d.winLbase_unlocked l hlock hv).trans (by simp [hfit])),
        fun hfit => leads_of_exec rfl ((d.winLbase_unlocked l hlock hv).trans (by simp [hfit]))⟩
  · intro p l v hlock hch
    exact leads_of_exec rfl (d.rwl_locked hlock hch _)

end Sys2Proof.Machine
end

section
/-! PROOFS. Accesses of the register space: the two sizes that are accesses, the pages that an agent does not reach or that are held by
a reset, the words of the common header, and the endpoint's register commands. -/

namespace Sys2Proof.Machine

/-! ### Sizes -/

/-- A naturally aligned access of 4 bytes is one. -/
theorem accessOk_four {addr : Nat} (h : addr % 4 = 0) : accessOk addr 4 = true := by simp [accessOk, h]

/-- A naturally aligned access of 8 bytes is one. -/
theorem accessOk_eight {addr : Nat} (h : addr % 8 = 0) : accessOk addr 8 = true := by simp [accessOk, h]

/-- Any other size and any misaligned address is none. -/
theorem accessOk_eq_false {addr size : Nat} (h : (size ≠ 4 ∧ size ≠ 8) ∨ addr % size ≠ 0) : accessOk addr size = false := by
  rcases h with ⟨h4, h8⟩ | h
  · simp [accessOk, h4, h8]
  · simp [accessOk, h]

section
variable (d : Device) (ag : Agent)

/-- A write of 4 bytes reaches its word. -/
theorem Device.regWrite_four {addr : Nat} (v : Nat) (h : addr % 4 = 0) : d.regWrite ag addr 4 v = d.writeReg ag addr (v % 2 ^ 32) := by
  simp [Device.regWrite, accessOk_four h]

/-- A write of 8 bytes is two of 4, the lower address first. -/
theorem Device.regWrite_eight {addr : Nat} (v : Nat) (h : addr % 8 = 0) :
    d.regWrite ag addr 8 v = (d.writeReg ag addr (v % 2 ^ 32)).writeReg ag (addr + 4) (v / 2 ^ 32 % 2 ^ 32) := by
  simp [Device.regWrite, accessOk_eight h]

/-- A read of 4 bytes answers its word. -/
theorem Device.regRead_four {addr : Nat} (h : addr % 4 = 0) :
    d.regRead ag addr 4 = (d.readWord ag addr).1.send (.regValue ag addr (d.readWord ag addr).2) := by
  simp [Device.regRead, accessOk_four h]

/-- A read of 8 bytes answers both words, the lower address read first. -/
theorem Device.regRead_eight {addr : Nat} {e f : Device} {x y : Nat} (h : addr % 8 = 0) (hlo : d.readWord ag addr = (e, x))
    (hhi : e.readWord ag (addr + 4) = (f, y)) : d.regRead ag addr 8 = f.send (.regValue ag addr (x + 2 ^ 32 * y)) := by
  simp [Device.regRead, accessOk_eight h, hlo, hhi]

/-- Any other write is only an access error. -/
theorem Device.regWrite_bad {addr size : Nat} (v : Nat) (h : accessOk addr size = false) :
    d.regWrite ag addr size v = d.badAccess ag addr size := by
  simp [Device.regWrite, h]

/-- Any other read is an access error and answers 0. -/
theorem Device.regRead_bad {addr size : Nat} (h : accessOk addr size = false) :
    d.regRead ag addr size = (d.badAccess ag addr size).send (.regValue ag addr 0) := by
  simp [Device.regRead, h]

/-- Only a host reads other words than those of the register pages, and only above them (R654). -/
theorem Device.readWord_eq_readReg {addr : Nat} (h : addr < 0x800000 ∨ ∀ p l, ag ≠ .host p l) :
    d.readWord ag addr = d.readReg ag addr := by
  cases ag with
  | host p l =>
    have hlow : ¬ 0x800000 ≤ addr := Nat.not_le.mpr (h.resolve_right (fun hne => hne p l rfl))
    simp [Device.readWord, hlow]
  | _ => rfl

/-! ### Which writes take effect (R652, R659) -/

variable {d ag} {addr : Nat} {p : Page} {i : Nat}

/-- Outside every page there is nothing to write or read. -/
theorem Device.access_noPage (v : Nat) (hp : d.pageAt addr = none) : d.writeReg ag addr v = d ∧ d.readReg ag addr = (d, 0) := by
  simp [Device.writeReg, Device.readReg, hp]

/-- A page that the agent does not reach is neither written nor read. -/
theorem Device.access_unreached (v : Nat) (hp : d.pageAt addr = some (p, i)) (hr : d.reaches ag p i = false) :
    d.writeReg ag addr v = d ∧ d.readReg ag addr = (d, 0) := by
  simp [Device.writeReg, Device.readReg, hp, hr]

/-- A write of a page held by a block reset waits for its end. -/
theorem Device.writeReg_inReset (v : Nat) (hp : d.pageAt addr = some (p, i)) (hr : d.reaches ag p i = true)
    (hs : d.pageInReset p i = true) :
    d.writeReg ag addr v = { d with power := { d.power with late := d.power.late ++ [(ag, addr, v % 2 ^ 32)] } } := by
  simp [Device.writeReg, hp, hr, hs]

/-- Any other write of a page that the agent reaches writes the word. -/
theorem Device.writeReg_reached (v : Nat) (hp : d.pageAt addr = some (p, i)) (hr : d.reaches ag p i = true)
    (hs : d.pageInReset p i = false) : d.writeReg ag addr v = d.writePage ag p i (addr % 4096) (v % 2 ^ 32) := by
  simp [Device.writeReg, hp, hr, hs]

end

/-- A word of the common header is written as such on every page but DDRCH, which has its own ERR_INJ. -/
theorem Device.writePage_header (d : Device) (ag : Agent) {p : Page} (i : Nat) {off : Nat} (v : Nat) (hoff : off < 0x2C)
    (hp : p ≠ .ddrch ∨ off ≠ 0x20) : d.writePage ag p i off v = d.writeHeader ag p i off v :=
  if_pos ⟨hoff, hp⟩

/-! ### Register commands of the endpoint (R653) -/

/-- Does the endpoint reach the page at an address; outside every page, does it reach the space there? -/
def Device.epSees (d : Device) (addr : Nat) : Bool :=
  match d.pageAt addr with
  | some (p, i) => d.reaches .endpoint p i
  | none => d.hubUp && decide (addr / 4096 < 0x200 ∨ 0x400 ≤ addr / 4096)

/-- What the endpoint sees at an address, from the two cases of the page there. -/
theorem Device.epSees_eq {d : Device} {addr : Nat} {seen : Bool}
    (hpage : ∀ p i, d.pageAt addr = some (p, i) → seen = d.reaches .endpoint p i)
    (hnone : d.pageAt addr = none → seen = (d.hubUp && decide (addr / 4096 < 0x200 ∨ 0x400 ≤ addr / 4096))) :
    d.epSees addr = seen := by
  unfold Device.epSees
  cases h : d.pageAt addr with
  | none => exact (hnone h).symm
  | some q => exact (hpage q.1 q.2 h).symm

section
variable (d : Device) (code : Nat) (f : Device → Device × List Nat)

/-- Without AUX nothing happens. -/
theorem Device.epReg_auxLost (addr : Nat) (h : d.power.auxOk = false) : d.epReg code addr f = d := by
  simp [Device.epReg, h]

/-- With AUX an answer is sent. -/
theorem Device.answerEp_eq_send (status : Nat) (data : List Nat) (h : d.power.auxOk = true) :
    d.answerEp code status data = d.send (.endpoint code status data) := if_pos h

/-- A misaligned or outside address is answered BAD_ARG. -/
theorem Device.epReg_badArg {addr : Nat} (h : d.power.auxOk = true) (ha : addr % 4 ≠ 0 ∨ 0x800000 ≤ addr) :
    d.epReg code addr f = d.send (.endpoint code 3 []) := by
  rw [← d.answerEp_eq_send code 3 [] h]
  simp only [Device.epReg, h, Bool.not_true, Bool.false_eq_true, if_false]
  exact if_pos ha

/-- A good address is answered by whether the endpoint sees it. -/
theorem Device.epReg_eq {addr : Nat} (h : d.power.auxOk = true) (ha : addr % 4 = 0) (hlow : addr < 0x800000) :
    d.epReg code addr f =
      if d.epSees addr then (f d).1.answerEp code 0 (f d).2 else d.send (.endpoint code 1 []) := by
  have hgood : ¬(addr % 4 ≠ 0 ∨ 0x800000 ≤ addr) := by omega
  rw [← d.answerEp_eq_send code 1 [] h]
  simp only [Device.epReg, h, Bool.not_true, Bool.false_eq_true, if_false, if_neg hgood]
  rfl

end

/-! ### The obligation -/

/-- Settles O48: every access is a word read or written, and the page at its address decides what that does. -/
theorem registerAccesses : Obligations.RegisterAccesses := by
  unfold Obligations.RegisterAccesses
  intro d w ag
  refine ⟨?_, ?_, ?_, ?_, ?_, ?_, ?_, ?_, ?_, ?_, ?_, ?_, ?_, ?_, ?_, ?_, ?_, ?_⟩
  · exact fun addr v h => leads_of_exec rfl (d.regWrite_four ag v h)
  · exact fun addr v h => leads_of_exec rfl (d.regWrite_eight ag v h)
  · exact fun addr h => leads_of_exec rfl (d.regRead_four ag h)
  · exact fun addr e x f y h hlo hhi => leads_of_exec rfl (d.regRead_eight ag h hlo hhi)
  · exact fun addr h => d.readWord_eq_readReg ag h
  · intro addr size v h
    have hbad := accessOk_eq_false h
    exact ⟨leads_of_exec rfl (d.regWrite_bad ag v hbad), leads_of_exec rfl (d.regRead_bad ag hbad)⟩
  · exact fun addr v p i hp hr => Device.access_unreached v hp hr
  · exact fun addr v hp => Device.access_noPage v hp
  · exact fun addr v p i hp hr hs => Device.writeReg_inReset v hp hr hs
  · exact fun n v => ⟨leads_of_exec rfl rfl, leads_of_exec rfl rfl, leads_of_exec rfl rfl, leads_of_exec rfl rfl⟩
  · intro n v p i hp hne hr hs
    have hoff : (4096 * n + 0x20) % 4096 = 0x20 := by omega
    rw [Device.writeReg_reached v hp hr hs, hoff, d.writePage_header ag i _ (by decide) (.inl hne)]
    rfl
  · intro n v p i hp hr hs
    have hoff : (4096 * n + 4) % 4096 = 4 := by omega
    rw [Device.writeReg_reached v hp hr hs, hoff, d.writePage_header ag i _ (by decide) (.inr (by decide))]
    rfl
  · exact leads_of_exec rfl rfl
  · exact fun v => leads_of_exec rfl rfl
  · refine leads_of_exec rfl ?_
    rw [← d.readWord_eq_readReg ag (.inl (by decide))]
    exact d.regRead_four ag (by decide)
  · intro haux a v
    exact ⟨leads_of_exec rfl (d.epReg_auxLost _ _ a haux), leads_of_exec rfl (d.epReg_auxLost _ _ a haux)⟩
  · intro haux a v ha
    exact ⟨leads_of_exec rfl (d.epReg_badArg _ _ haux ha), leads_of_exec rfl (d.epReg_badArg _ _ haux ha)⟩
  · intro haux a v seen ha hlow hpage hnone
    have hsees := Device.epSees_eq hpage hnone
    have answer : ∀ code f, d.epReg code a f = if seen then (f d).1.answerEp code 0 (f d).2 else d.send (.endpoint code 1 []) :=
      fun code f => hsees ▸ d.epReg_eq code f haux ha hlow
    constructor
    · rintro rfl
      exact ⟨leads_of_exec rfl (answer _ _), leads_of_exec rfl (answer _ _)⟩
    · rintro rfl
      exact ⟨leads_of_exec rfl (answer _ _), leads_of_exec rfl (answer _ _)⟩

end Sys2Proof.Machine
end

section
/-! PROOFS. Cold start and device reset, channel training and the end of start-up, and the links inside the package. -/

namespace Sys2Proof.Machine

section
variable {d : Device}

/-! ### Resets (R628 to R632) -/

/-- Nothing starts while AUX is lost. -/
theorem Device.coldStart_auxLost (h : d.power.auxOk = false) : d.coldStart = d := by
  simp [Device.coldStart, h]

/-- A device reset does nothing while main power is off. -/
theorem Device.deviceReset_mainOff (h : d.power.mainOn = false) (cause : Nat) : d.deviceReset cause = d := by
  simp [Device.deviceReset, h]

/-- While DEV_RST_L is low, another fall changes nothing. -/
theorem Device.rstLow_held (h : d.power.hubReset = true) : d.rstLow = d := by
  simp [Device.rstLow, h]

/-- The fall of DEV_RST_L resets the device and then holds the Hub. -/
theorem Device.rstLow_falls (h : d.power.hubReset = false) :
    d.rstLow = { d.deviceReset 0 with power := { (d.deviceReset 0).power with hubReset := true } } := by
  simp [Device.rstLow, h]

/-! ### Training of a channel (R425) -/

/-- Training ends only of a channel in training, with the Hub up. -/
theorem Device.trained_eq_self {c : Nat} (ok : Bool) (h : d.hubUp = false ∨ (d.chan c).state ≠ .training ∨ 16 ≤ c) :
    d.trained c ok = d := by
  unfold Device.trained
  refine if_pos ?_
  simpa [or_assoc] using h

section
variable {c : Nat} (hup : d.hubUp = true) (hc : c < 16) (htr : (d.chan c).state = .training)
include hup hc htr

/-- A channel that trains notes whether its training was fast, and takes its rate from its SPD or else from the device. -/
theorem Device.trained_active {e : Device} (he : e = if (d.chan c).fast then d.setReg DDRCH.CH_STAT.FAST_TRAIN 1 c
      else (d.setReg DDRCH.CH_STAT.FAST_TRAIN 0 c).evt DDRCH.flag.FULL_TRAIN c) :
    d.trained c true = e.setChan c { d.chan c with
      state := .active, attempts := 0, rate := if (d.chan c).spdRead = true then (d.chan c).rate else e.trainRate, fast := true,
      spdRead := !(e.hw.popBad.any (fun y => y.1 == c)) } := by
  subst he
  cases hf : (d.chan c).fast <;> simp [Device.trained, hup, htr, Nat.not_le.mpr hc, hf]

/-- The first two failed attempts are counted. -/
theorem Device.trained_again (h : (d.chan c).attempts < 2) :
    d.trained c false = d.setChan c { d.chan c with attempts := (d.chan c).attempts + 1 } := by
  simp [Device.trained, hup, htr, Nat.not_le.mpr hc, h]

/-- The third failed attempt fails the channel. -/
theorem Device.trained_fails (h : 2 ≤ (d.chan c).attempts) : d.trained c false = d.failChannel c := by
  simp [Device.trained, hup, htr, Nat.not_le.mpr hc, Nat.not_lt.mpr h]

end

/-! ### The end of start-up (R464, R465) -/

/-- Start-up goes on while anything holds it. -/
theorem Device.startEnd_held (h : d.hubUp = false ∨ d.twin.svc ≠ .start ∨ d.power.hold = true ∨ d.sec.run = none ∨
      (∃ c, c < 16 ∧ d.startsWith c = false)) : d.startEnd = d := by
  unfold Device.startEnd
  refine if_pos ?_
  simpa [or_assoc] using h

/-- With nothing to hold it, start-up ends by what the Mint gives. -/
theorem Device.startEnd_free (hup : d.hubUp = true) (hsvc : d.twin.svc = .start) (hhold : d.power.hold = false)
    (hrun : d.sec.run.isSome = true) (hch : ∀ c, c < 16 → d.startsWith c = true) :
    d.startEnd = if d.mintOk = true then ((d.newPoisonKey.setSvc .join).recompute).joinStep
      else ({ d with power := { d.power with hold := true } } : Device).secEvent 105 0x10 0 0 0 := by
  have hall : (List.range 16).all d.startsWith = true := by simpa using hch
  have hsome : d.sec.run.isNone = false := by simpa [Option.isSome_iff_ne_none] using hrun
  cases hm : d.mintOk <;> simp [Device.startEnd, hup, hsvc, hhold, hsome, hall, hm]

/-- A channel lets start-up end when it is in service, or failed by its codec. -/
theorem Device.startsWith_iff (c : Nat) :
    d.startsWith c = true ↔ (d.chan c).inService = true ∨ ((d.chan c).state = .failed ∧ d.hw.codecBad.contains c = true) := by
  simp [Device.startsWith]

/-! ### Links inside the package (R22, R23, R638) -/

section
variable {n : Nat}

/-- A link that exists loses its flit for good: the count is cleared and the fail flag raised. -/
theorem Device.d2dLost_lt (h : n < 6) : d.d2dLost n =
    ({ d with power := { d.power with d2d := KMap.drop d.power.d2d n } } : Device).raise (d2dFail n) 0 [n] [n] := if_pos h

/-- A link that does not exist loses nothing. -/
theorem Device.d2dLost_ge (h : 6 ≤ n) : d.d2dLost n = d := if_neg (Nat.not_lt.mpr h)

/-- A link that does not exist receives nothing. -/
theorem Device.d2dFlit_ge (h : 6 ≤ n) (ok : Bool) : d.d2dFlit n ok = d := if_pos h

/-- A good flit clears the count of replays. -/
theorem Device.d2dFlit_good (h : n < 6) : d.d2dFlit n true = { d with power := { d.power with d2d := KMap.drop d.power.d2d n } } :=
  if_neg (Nat.not_le.mpr h)

/-- A bad flit is replayed, up to 16 times in a row. -/
theorem Device.d2dFlit_replay (h : n < 6) (hk : KMap.get d.power.d2d 0 n < 16) : d.d2dFlit n false =
    ({ d with power := { d.power with d2d := KMap.put d.power.d2d n (KMap.get d.power.d2d 0 n + 1) } } : Device).raise
      (d2dReplay n) 0 [n] [n] := by
  simp [Device.d2dFlit, Nat.not_le.mpr h, Nat.not_le.mpr hk]

/-- The 17th bad flit in a row is lost. -/
theorem Device.d2dFlit_lost (h : n < 6) (hk : 16 ≤ KMap.get d.power.d2d 0 n) : d.d2dFlit n false = d.d2dLost n := by
  simp [Device.d2dFlit, Nat.not_le.mpr h, hk]

end

/-- A bad sideband frame is replayed, up to 16 times in a row. -/
theorem Device.sbFrame_retry (h : d.power.sbTries < 16) : d.sbFrame false =
    ({ d with power := { d.power with sbTries := d.power.sbTries + 1 } } : Device).raise RST.flag.SB_RETRY 0 [] [] := by
  simp [Device.sbFrame, Nat.not_le.mpr h]

/-- The 17th bad sideband frame in a row is lost. -/
theorem Device.sbFrame_lost (h : 16 ≤ d.power.sbTries) : d.sbFrame false = d.sbLost := by
  simp [Device.sbFrame, h]

end

/-! ### The obligation -/

/-- Settles O37: each command runs its operation, and the guards of the operation tell which of its cases it is. -/
theorem resetsAndPackageLinks : Obligations.ResetsAndPackageLinks := by
  unfold Obligations.ResetsAndPackageLinks
  intro d w
  refine ⟨?_, ?_, ?_, ?_, ?_, ?_, ?_, ?_, ?_, ?_, ?_, ?_, ?_, ?_, ?_, ?_, ?_, ?_⟩
  · exact fun haux => leads_of_exec rfl (Device.coldStart_auxLost haux)
  · exact fun _ => leads_of_exec rfl rfl
  · rintro cause (hoff | hbig)
    · exact leads_of_exec rfl ((congrArg (ite _ · d) (Device.deviceReset_mainOff hoff cause)).trans (ite_self d))
    · exact leads_of_exec rfl (if_neg (Nat.not_le.mpr hbig))
  · exact fun cause _ hle => leads_of_exec rfl (if_pos hle)
  · exact fun hlow => leads_of_exec rfl (Device.rstLow_held hlow)
  · rintro hhigh e rfl
    exact leads_of_exec rfl (Device.rstLow_falls hhigh)
  · exact leads_of_exec rfl rfl
  · rintro c x rfl hup hc htr
    refine ⟨?_, ?_, ?_, ?_⟩
    · rintro e hfull rfl
      exact leads_of_exec rfl (Device.trained_active hup hc htr (by simp [hfull]))
    · rintro e hfast rfl
      exact leads_of_exec rfl (Device.trained_active hup hc htr (by simp [hfast]))
    · exact fun hlt => leads_of_exec rfl (Device.trained_again hup hc htr hlt)
    · exact fun hge => leads_of_exec rfl (Device.trained_fails hup hc htr hge)
  · exact fun c ok hshut => leads_of_exec rfl (Device.trained_eq_self ok hshut)
  · exact fun hheld => leads_of_exec rfl (Device.startEnd_held hheld)
  · intro hup hsvc hhold hrun hch
    have hend := Device.startEnd_free hup hsvc hhold hrun hch
    exact ⟨fun hmint => leads_of_exec rfl (hend.trans (by simp [hmint])),
      fun hmint => leads_of_exec rfl (hend.trans (by simp [hmint]))⟩
  · exact fun c => (Device.startsWith_iff c).symm
  · intro n hn
    exact ⟨leads_of_exec rfl (Device.d2dFlit_good hn), fun hk => leads_of_exec rfl (Device.d2dFlit_replay hn hk),
      fun hk => leads_of_exec rfl ((Device.d2dFlit_lost hn hk).trans (Device.d2dLost_lt hn)), leads_of_exec rfl (Device.d2dLost_lt hn)⟩
  · exact fun n ok hn => ⟨leads_of_exec rfl (Device.d2dFlit_ge hn ok), leads_of_exec rfl (Device.d2dLost_ge hn)⟩
  · exact leads_of_exec rfl rfl
  · exact fun hk => leads_of_exec rfl (Device.sbFrame_retry hk)
  · exact fun hk => leads_of_exec rfl (Device.sbFrame_lost hk)
  · exact leads_of_exec rfl rfl

end Sys2Proof.Machine
end

section
/-! PROOFS. Droop detectors, temperature and clock references. -/

namespace Sys2Proof.Machine

section
variable {d : Device}

/-! ### Droop (R589 to R592) -/

section
variable {dom det : Nat}

/-- A trip of no detector, or of a domain whose clock stands, changes nothing. -/
theorem Device.droopTrip_eq_self (h : detectors dom ≤ det ∨ d.domainRuns dom = false) : d.droopTrip dom det = d := if_pos h

/-- A trip marks its detector and stretches the clock; a stretch that begins is counted. -/
theorem Device.droopTrip_stretches {y : List Nat} (hdet : det < detectors dom) (hrun : d.domainRuns dom = true)
    (hy : y = if (d.domain dom).tripped.contains det = true then (d.domain dom).tripped else (d.domain dom).tripped ++ [det]) :
    d.droopTrip dom det = (if (d.domain dom).stretch then d else d.countSat PWR.STRETCHES.COUNT).setDomain dom
      { d.domain dom with tripped := y, stretch := true, lastTrip := d.power.aon } := by
  subst hy
  cases hs : (d.domain dom).stretch <;> simp [Device.droopTrip, Nat.not_le.mpr hdet, hrun, hs, Device.countSat]

/-- A domain that does not exist has no stretch to end. -/
theorem Device.stretchEnd_eq_self (h : 15 ≤ dom) : d.stretchEnd dom = d := if_neg (Nat.not_lt.mpr h)

/-- Only a marked detector of a domain whose clock runs can sag. -/
theorem Device.droopSag_eq_self (h : (d.domain dom).tripped.contains det = false ∨ 15 ≤ dom ∨ d.domainRuns dom = false) :
    d.droopSag dom det = d := by
  unfold Device.droopSag
  refine if_pos ?_
  simpa [or_assoc] using h

/-- A sag is counted and steps the divider down; at the lowest level it is not recorded, unless a throttle holds the divider lower still. -/
theorem Device.droopSag_counts {e g : Device} {n : Nat} (htrip : (d.domain dom).tripped.contains det = true) (hdom : dom < 15)
    (hrun : d.domainRuns dom = true) (he : e = d.countSat PWR.SAGS.COUNT) (hn : n = min 2 ((d.domain dom).level + 1))
    (hg : g = e.setDomain dom { d.domain dom with level := n, stretch := false, lastTrip := d.power.aon }) :
    d.droopSag dom det = if n = (d.domain dom).level ∧ e.divLevel dom ≠ 3 then g
      else (g.raise PWR.flag.DROOP_SAG 0 [dom, det, g.divLevel dom] [dom, det, g.divLevel dom]).powerRecord
        [0x10, dom, det, g.divLevel dom] [dom, det, g.divLevel dom] := by
  subst he hn hg
  have hopen : ¬((!((d.domain dom).tripped.contains det) || decide (15 ≤ dom) || !(d.domainRuns dom)) = true) := by
    simpa [hdom, hrun] using htrip
  unfold Device.droopSag
  rw [if_neg hopen]
  simp only [decide_eq_false_iff_not]
  rfl

/-- A divider at its highest level, one whose domain trips, and one that has not yet held HOLD_MS stays as it is. -/
theorem Device.divRestore_eq_self (h : 15 ≤ dom ∨ (d.domain dom).level = 0 ∨ (d.domain dom).tripped.isEmpty = false ∨
      d.power.aon < (d.domain dom).lastTrip + 1000000 * d.reg PWR.DROOP_CTL.HOLD_MS) : d.divRestore dom = d := by
  refine if_pos ?_
  rcases h with h | h | h | h <;> simp [h]

/-- A divider that has held HOLD_MS without a trip goes one level back. -/
theorem Device.divRestore_restores (hdom : dom < 15) (hlevel : (d.domain dom).level ≠ 0) (hclear : (d.domain dom).tripped.isEmpty = true)
    (hold : (d.domain dom).lastTrip + 1000000 * d.reg PWR.DROOP_CTL.HOLD_MS ≤ d.power.aon) :
    d.divRestore dom = (d.setDomain dom { d.domain dom with level := (d.domain dom).level - 1, lastTrip := d.power.aon }).evt
      PWR.flag.DIV_RESTORE := by
  refine if_neg ?_
  simp only [hclear, Bool.true_eq_false, false_or, not_or]
  exact ⟨hlevel, Nat.not_le.mpr hdom, Nat.not_lt.mpr hold⟩

end

/-! ### Temperature (R593, R594) -/

section
variable {n : Nat}

/-- A reading of a sensor is stored and checked, and TJ_PEAK follows. -/
theorem Device.readSensors_single {t : Int} {e : Device} (hn : n < 32)
    (he : e = ({ d with power := { d.power with sensors := KMap.put d.power.sensors n t } } : Device).checkSensor n) :
    d.readSensors [(n, t)] = e.setReg PWR.TJ_PEAK.TJ (max (e.reg PWR.TJ_PEAK.TJ) (min 255 e.tj.1.toNat)) := by
  subst he
  simp [Device.readSensors, hn, Device.setPower]

/-- A reading of no sensor only lets TJ_PEAK follow. -/
theorem Device.readSensors_none {t : Int} (hn : 32 ≤ n) :
    d.readSensors [(n, t)] = d.setReg PWR.TJ_PEAK.TJ (max (d.reg PWR.TJ_PEAK.TJ) (min 255 d.tj.1.toNat)) := by
  simp [Device.readSensors, hn, Device.setPower]

/-- Does a sensor read outside its range, or far from every other one of its die? -/
def Device.SensorBad (d : Device) (n : Nat) : Prop :=
  d.sensor n < -20 ∨ 150 < d.sensor n ∨ ((∃ k, k ∈ d.validSensors (sensorDie n) ∧ k ≠ n) ∧
    ∀ k, k ∈ d.validSensors (sensorDie n) → k ≠ n → 15 < (d.sensor k - d.sensor n).natAbs)

/-- A sensor within its range that is alone on its die, or has another one near it, is not bad. -/
theorem Device.not_sensorBad (hlo : -20 ≤ d.sensor n) (hhi : d.sensor n ≤ 150)
    (hnear : (∀ k, k ∈ d.validSensors (sensorDie n) → k = n) ∨
      (∃ k, k ∈ d.validSensors (sensorDie n) ∧ k ≠ n ∧ (d.sensor k - d.sensor n).natAbs ≤ 15)) : ¬d.SensorBad n := by
  rintro (h | h | ⟨⟨j, hj, hjn⟩, hfar⟩)
  · omega
  · omega
  · rcases hnear with halone | ⟨k, hk, hkn, hle⟩
    · exact hjn (halone j hj)
    · exact absurd (hfar k hk hkn) (Nat.not_lt.mpr hle)

/-- A check excludes a bad sensor, once, and keeps every other. -/
theorem Device.checkSensor_eq [Decidable (d.SensorBad n)] : d.checkSensor n =
    if d.SensorBad n ∧ d.power.excluded.contains n = false then
      ({ d with power := { d.power with excluded := d.power.excluded ++ [n] } } : Device).raise PWR.flag.SENSOR_FAULT 0 [n] [n]
    else d := by
  refine ite_congr (propext ?_) (fun _ => rfl) (fun _ => rfl)
  rw [Bool.and_eq_true, Bool.not_eq_true']
  refine and_congr_left' ?_
  simp [Device.SensorBad, or_assoc, ← Decidable.or_iff_not_imp_left]

end

end

/-! ### The obligation -/

/-- Settles O42: each command runs its operation, and the guards of the operation tell which of its cases it is. -/
theorem droopTemperatureAndReferences : Obligations.DroopTemperatureAndReferences := by
  unfold Obligations.DroopTemperatureAndReferences
  intro d w
  refine ⟨?_, ?_, ?_, ?_, ?_, ?_, ?_, ?_, ?_, ?_, ?_, ?_, ?_, ?_, ?_, ?_, ?_, ?_, ?_⟩
  · intro dom det y hdet hrun hy
    have htrip := Device.droopTrip_stretches hdet hrun hy
    exact ⟨fun hs => leads_of_exec rfl (htrip.trans (by simp [hs])), fun hs => leads_of_exec rfl (htrip.trans (by simp [hs]))⟩
  · exact fun dom det h => leads_of_exec rfl (Device.droopTrip_eq_self h)
  · exact fun dom h => leads_of_exec rfl (if_pos h)
  · exact fun dom h => leads_of_exec rfl (Device.stretchEnd_eq_self h)
  · intro dom det e n g htrip hdom hrun he hn hg
    have hsag := Device.droopSag_counts htrip hdom hrun he hn hg
    refine ⟨fun hlow hfree => leads_of_exec rfl (hsag.trans (if_pos ⟨hlow, hfree⟩)), fun h => leads_of_exec rfl (hsag.trans (if_neg ?_))⟩
    exact fun ⟨hlow, hfree⟩ => h.elim (· hlow) hfree
  · exact fun dom det h => leads_of_exec rfl (Device.droopSag_eq_self h)
  · exact fun dom hdom hlevel hclear hold => leads_of_exec rfl (Device.divRestore_restores hdom hlevel hclear hold)
  · exact fun dom h => leads_of_exec rfl (Device.divRestore_eq_self h)
  · rintro l e rfl
    refine ⟨fun hot => ⟨leads_of_exec rfl (if_pos hot), leads_of_exec rfl (if_pos hot)⟩, fun h => ?_, fun hwarm h => ?_, fun hcool => ?_,
      fun hot => leads_of_exec rfl (if_pos hot), fun h => leads_of_exec rfl (if_neg (Int.not_le.mpr h))⟩
    · exact leads_of_exec rfl (if_neg (Int.not_le.mpr h))
    · exact leads_of_exec rfl ((if_neg (Int.not_le.mpr h)).trans (if_neg (Int.not_lt.mpr hwarm)))
    · exact leads_of_exec rfl ((if_neg (Int.not_le.mpr (Int.lt_trans hcool (by decide)))).trans (if_pos hcool))
  · exact fun n t e hn he => leads_of_exec rfl (Device.readSensors_single hn he)
  · exact fun n t hn => leads_of_exec rfl (Device.readSensors_none hn)
  · intro n
    classical
    have hcheck := Device.checkSensor_eq (d := d) (n := n)
    refine ⟨fun hout => hcheck.trans (if_neg ?_), fun hin hbad => hcheck.trans (if_pos ⟨hbad, hin⟩),
      fun hlo hhi hnear => hcheck.trans (if_neg ?_)⟩
    · exact fun ⟨_, hin⟩ => ne_true_of_eq_false hin hout
    · exact fun ⟨hbad, _⟩ => Device.not_sensorBad hlo hhi hnear hbad
  · intro r hr hin hmain
    refine leads_of_exec rfl (if_neg ?_)
    simp only [hin, hmain, Bool.false_eq_true, Bool.true_eq_false, or_false]
    exact Nat.not_le.mpr hr
  · exact fun r h => leads_of_exec rfl (if_pos h)
  · exact fun h => leads_of_exec rfl (if_neg (ne_true_of_eq_false h))
  · exact fun h => leads_of_exec rfl (if_pos h)
  · exact fun r => leads_of_exec rfl rfl
  · intro q h
    refine leads_of_exec rfl (if_neg ?_)
    rintro ⟨hq, hlost⟩
    exact h.elim (Nat.not_le.mpr hq) (ne_true_of_eq_false · hlost)
  · exact fun q hq hlost => leads_of_exec rfl (if_pos ⟨hq, hlost⟩)

end Sys2Proof.Machine
end

section
/-! PROOFS. Ageing, the margin plan, the calibration set and the power of blocks. -/

namespace Sys2Proof.Machine

section
variable {d : Device}

/-! ### Ageing and the margin plan (R595 to R600) -/

/-- A monitor whose baseline is torn has no degradation. -/
theorem Device.degradation_torn {m : Nat} (fs fr free : Nat)
    (h : d.power.cal.usedTorn.contains (Config.baselineWord m % 2 ^ 18 / 1024) = true) : d.degradation m fs fr free = 0 := by
  simp only [Device.degradation, h, if_true]

/-- Without firmware, and with the Hub down, there is no plan. -/
theorem Device.makePlan_eq_self (items : List PlanItem) (h : d.fwAlive = false ∨ d.hubUp = false) : d.makePlan items = d := by
  refine if_pos ?_
  simpa using h

/-- A plan replaces the waiting items, is timed and reported, and tells whether it needs a handover. -/
theorem Device.makePlan_made {items : List PlanItem} {e : Device} (hfw : d.fwAlive = true) (hup : d.hubUp = true)
    (he : e = (({ d with power := { d.power with plan := { d.power.plan with items := items } } } : Device).setPair
      AGE.LAST_PLAN_LO.TIME AGE.LAST_PLAN_HI.TIME d.time).evt AGE.flag.PLAN_DONE) :
    d.makePlan items = if items.contains .rateDown then
        ((e.setReg AGE.PLAN_STAT.NEEDS_HANDOVER 1).evt AGE.flag.NEEDS_HANDOVER).powerRecord (0x13 :: itemBytes .rateDown) []
      else e.setReg AGE.PLAN_STAT.NEEDS_HANDOVER 0 := by
  subst he
  exact if_neg (by simp [hfw, hup])

/-- An item waits without firmware or AUTO_APPLY, while another runs, and while its conditions fail. -/
theorem Device.itemStart_eq_self (h : d.fwAlive = false ∨ d.hubUp = false ∨ d.flagReg AGE.PLAN_CTL.AUTO_APPLY = false ∨
      d.power.plan.current.isSome = true ∨ d.power.plan.next = none ∨ (∃ i, d.power.plan.next = some i ∧ d.itemReady i = false)) :
    d.itemStart = d := by
  unfold Device.itemStart
  rcases h with h | h | h | h | h | ⟨i, hi, hr⟩ <;> simp [*]

/-- The next item starts where nothing keeps it waiting. -/
theorem Device.itemStart_starts {i : PlanItem} (hfw : d.fwAlive = true) (hup : d.hubUp = true)
    (hauto : d.flagReg AGE.PLAN_CTL.AUTO_APPLY = true) (hnone : d.power.plan.current = none) (hnext : d.power.plan.next = some i)
    (hready : d.itemReady i = true) : d.itemStart = d.startItem i := by
  simp [Device.itemStart, hfw, hup, hauto, hnone, hnext, hready]

/-- A PORT_REEQ of a host link only runs. -/
theorem Device.startItem_portReeq_host {k : Nat} (n : Nat) (hk : 2 ≤ k) :
    d.startItem (.portReeq k n) = (d.dropItem (.portReeq k n)).setPower { (d.dropItem (.portReeq k n)).power with
      plan := { (d.dropItem (.portReeq k n)).power.plan with current := some (.portReeq k n) } } := by
  obtain ⟨j, rfl⟩ := Nat.exists_eq_add_of_le' hk
  rfl

/-- No item ends where none runs. -/
theorem Device.itemEnd_none (ok : Bool) (h : d.power.plan.current = none) : d.itemEnd ok = d := by
  simp [Device.itemEnd, h]

section
variable {i : PlanItem} {e : Device} (hi : d.power.plan.current = some i)
  (he : e = { d with power := { d.power with plan := { d.power.plan with current := none } } })
include hi he

/-- An item that fails is dropped and reported. -/
theorem Device.itemEnd_failed : d.itemEnd false = e.raise AGE.flag.ITEM_FAILED 0 (itemBytes i) (itemBytes i) := by
  simp [Device.itemEnd, hi, he, Device.setPower]

/-- A VCORE_UP that is applied adds a step. -/
theorem Device.itemEnd_vcoreUp {m : Nat} (hv : i = .vcoreUp m) : d.itemEnd true =
    ((e.setReg AGE.VCORE_OFS.STEPS (min 10 (e.reg AGE.VCORE_OFS.STEPS + 1))).evt AGE.flag.ITEM_APPLIED).powerRecord
      (0x12 :: itemBytes i) (itemBytes i) := by
  subst hv
  simp [Device.itemEnd, hi, he, Device.setPower]

/-- Any other item that is applied is only recorded. -/
theorem Device.itemEnd_applied (hv : ∀ m, i ≠ .vcoreUp m) :
    d.itemEnd true = (e.evt AGE.flag.ITEM_APPLIED).powerRecord (0x12 :: itemBytes i) (itemBytes i) := by
  cases i with
  | vcoreUp m => exact absurd rfl (hv m)
  | portReeq _ _ | chRetrain _ | rateDown => simp [Device.itemEnd, hi, he, Device.setPower]

end

/-! ### The calibration set (R601 to R603) -/

section
variable {ag : Agent}

/-- An agent that may not act on the calibration set changes nothing. -/
theorem Device.cal_barred (h : d.calAgent ag = false) : d.calOpen ag = d ∧ d.calCommit ag = d ∧ d.calAbort ag = d := by
  simp [Device.calOpen, Device.calCommit, Device.calAbort, h]

/-- What OPEN answers an agent that may act. -/
theorem Device.calOpen_eq (h : d.calAgent ag = true) : d.calOpen ag =
    if d.power.cal.run = .idle ∧ d.power.cal.staging.isNone = true then
      ({ d with power := { d.power with cal := { d.power.cal with run := .opening } } } : Device).setReg CAL.CAL_CMD.RESULT 0
    else d.setReg CAL.CAL_CMD.RESULT 1 := by
  by_cases hr : d.power.cal.run = .idle <;> cases hs : d.power.cal.staging <;> simp [Device.calOpen, h, hr, hs, Device.setCal, Device.setPower]

/-- What COMMIT answers an agent that may act. -/
theorem Device.calCommit_eq (h : d.calAgent ag = true) : d.calCommit ag =
    if d.power.cal.run ≠ .idle then d.setReg CAL.CAL_CMD.RESULT 1
    else if d.power.cal.staging.isNone = true then d.setReg CAL.CAL_CMD.RESULT 2
    else ({ d with power := { d.power with cal := { d.power.cal with run := .committing } } } : Device).setReg CAL.CAL_CMD.RESULT 0 := by
  simp [Device.calCommit, h, Device.setCal, Device.setPower]

/-- What ABORT answers an agent that may act. -/
theorem Device.calAbort_eq (h : d.calAgent ag = true) : d.calAbort ag =
    if d.power.cal.run = .committing then d.setReg CAL.CAL_CMD.RESULT 1
    else if d.power.cal.run = .idle ∧ d.power.cal.staging.isNone = true then d.setReg CAL.CAL_CMD.RESULT 2
    else ({ d with power := { d.power with cal := { d.power.cal with run := .idle, staging := none } } } : Device).setReg
      CAL.CAL_CMD.RESULT 0 :=
  if_neg (by simp [h])

end

/-- Nothing ends where no operation runs. -/
theorem Device.calDone_idle (h : d.power.cal.run = .idle) : d.calDone = d := by
  simp [Device.calDone, h]

/-- When the copy of OPEN ends, the staging area holds the set. -/
theorem Device.calDone_opening (h : d.power.cal.run = .opening) :
    d.calDone = { d with power := { d.power with cal := { d.power.cal with run := .idle, staging := some d.power.cal.words } } } := by
  simp [Device.calDone, h, Device.setCal, Device.setPower]

/-- A COMMIT that ends has written the changed sections with their CRCs. -/
theorem Device.calDone_committing {y : Calibration} {e : Device} (h : d.power.cal.run = .committing)
    (hy : y = ({ d.power.cal with staging := d.power.cal.staging.map (fun m => d.power.cal.changed.foldl withCrc m) } :
      Calibration).programmed 256)
    (he : e = { d with power := { d.power with cal := { y with run := .idle, staging := none } } }) :
    d.calDone = ((e.setReg CAL.CAL_STAT.USER 1).evt CAL.flag.COMMITTED).powerRecord [0x14] [] := by
  subst hy he
  cases hs : d.power.cal.staging <;> simp [Device.calDone, h, hs, Device.setCal, Device.setPower]

/-! ### Block power (R583 to R586) -/

section
variable {p : Page} {i : Nat}

/-- A page that does not exist is not gated, and none while the Hub is down. -/
theorem Device.powerGate_eq_self (h : Page.count d.hw.gradeH p ≤ i ∨ d.hubUp = false) : d.powerGate p i = d := if_pos h

/-- An idle site link first asks for SLEEP; then the pages on the clock are gated, unless the block keeps running. -/
theorem Device.powerGate_eq {e : Device} (hi : i < Page.count d.hw.gradeH p) (hup : d.hubUp = true)
    (he : e = if p = .site then d.askSleep (.site i) else d) : d.powerGate p i =
    if p.alwaysRuns || (e.page p i).policy == 3 || (clockPages p i).any (fun k => (e.page p k).policy == 2) || !(e.blockIdle p i) then e
    else ((clockPages p i).filter (fun k => (e.page p k).policy != 3)).foldl (fun (e : Device) k => e.gatePage p k) e := by
  subst he
  refine (if_neg (by simp [hi, hup])).trans ?_
  cases p <;> rfl

/-- A page that does not exist is not woken, nor one that is held off. -/
theorem Device.blockWake_eq_self (h : Page.count d.hw.gradeH p ≤ i ∨ (d.page p i).policy = 3) : d.blockWake p i = d := if_pos h

section
variable {e f : Device} (hi : i < Page.count d.hw.gradeH p) (hpol : (d.page p i).policy ≠ 3)
  (he : e = ((clockPages p i).filter (fun k => (d.page p k).policy != 3)).foldl
    (fun (e : Device) k => e.setPage p k ((e.page p k).woken e.power.aon)) d)
  (hf : f = ((clockPages p i).filter (fun k => d.pageOn p k && !(e.pageOn p k))).foldl (fun (e : Device) k => e.blockHeld p k) e)
include hi hpol he hf

/-- A wake of a site link wakes it from SLEEP. -/
theorem Device.blockWake_site (hp : p = .site) : d.blockWake p i = f.wake (.site i) := by
  subst hp he hf
  exact if_neg (by simp [hi, hpol])

/-- A wake of a channel ends its self-refresh. -/
theorem Device.blockWake_ddrch (hp : p = .ddrch) : d.blockWake p i = f.wakeChan i := by
  subst hp he hf
  exact if_neg (by simp [hi, hpol])

/-- A wake of any other block runs its clock again. -/
theorem Device.blockWake_other (hs : p ≠ .site) (hc : p ≠ .ddrch) : d.blockWake p i = f := by
  subst he hf
  refine (if_neg (by simp [hi, hpol])).trans ?_
  cases p with
  | site => exact absurd rfl hs
  | ddrch => exact absurd rfl hc
  | _ => rfl

end
end

end

/-! ### The obligation -/

/-- Settles O43: each command runs its operation, and the guards of the operation tell which of its cases it is. -/
theorem marginPlanCalibrationAndBlockPower : Obligations.MarginPlanCalibrationAndBlockPower := by
  unfold Obligations.MarginPlanCalibrationAndBlockPower
  intro d w
  refine ⟨?_, ?_, ?_, ?_, ?_, ?_, ?_, ?_, ?_, ?_, ?_, ?_, ?_, ?_, ?_, ?_, ?_, ?_, ?_⟩
  · rintro l e m rfl rfl
    exact leads_of_exec rfl rfl
  · exact fun m fs fr free htorn => Device.degradation_torn fs fr free htorn
  · intro items
    refine ⟨fun h => ?_, fun hdue => leads_of_exec rfl (if_neg (by simp [hdue]))⟩
    have hnone := Device.makePlan_eq_self items h
    exact ⟨leads_of_exec rfl ((congrArg (ite _ · d) hnone).trans (ite_self d)), leads_of_exec rfl hnone⟩
  · intro hfw hup items e he
    have hplan := Device.makePlan_made hfw hup he
    constructor
    · intro hrate
      have hmade := hplan.trans (if_neg (ne_true_of_eq_false hrate))
      exact ⟨fun hdue => leads_of_exec rfl ((if_pos hdue).trans hmade), leads_of_exec rfl hmade⟩
    · rintro hrate g rfl
      have hmade := hplan.trans (if_pos hrate)
      exact ⟨fun hdue => leads_of_exec rfl ((if_pos hdue).trans hmade), leads_of_exec rfl hmade⟩
  · exact fun h => leads_of_exec rfl (Device.itemStart_eq_self h)
  · rintro i e g hfw hup hauto hnone hnext hready rfl rfl
    have hstart := Device.itemStart_starts hfw hup hauto hnone hnext hready
    refine ⟨?_, ?_, ?_, ?_, ?_, ?_⟩
    · rintro m rfl
      exact ⟨fun hfew => leads_of_exec rfl (hstart.trans (if_neg (Nat.not_le.mpr hfew))),
        fun hmany => leads_of_exec rfl (hstart.trans (if_pos hmany))⟩
    · rintro s f rfl rfl
      exact leads_of_exec rfl hstart
    · rintro p f rfl hp rfl
      exact leads_of_exec rfl (hstart.trans (if_neg (Nat.not_le.mpr hp)))
    · rintro p rfl hp
      exact leads_of_exec rfl (hstart.trans (if_pos hp))
    · rintro k n rfl hk
      exact leads_of_exec rfl (hstart.trans (Device.startItem_portReeq_host n hk))
    · rintro c rfl
      exact leads_of_exec rfl hstart
  · exact fun ok hnone => leads_of_exec rfl (Device.itemEnd_none ok hnone)
  · intro i e hi he
    exact ⟨leads_of_exec rfl (Device.itemEnd_failed hi he), fun m hv => leads_of_exec rfl (Device.itemEnd_vcoreUp hi he hv),
      fun hv => leads_of_exec rfl (Device.itemEnd_applied hi he hv)⟩
  · exact fun i v hpg => leads_of_exec rfl (if_pos hpg)
  · exact fun i v hpg => leads_of_exec rfl (if_neg hpg)
  · intro ag hag
    obtain ⟨hopen, hcommit, habort⟩ := Device.cal_barred hag
    exact ⟨leads_of_exec rfl hopen, leads_of_exec rfl hcommit, leads_of_exec rfl habort⟩
  · rintro ag hag x rfl
    have hopen := Device.calOpen_eq hag
    have hcommit := Device.calCommit_eq hag
    have habort := Device.calAbort_eq hag
    refine ⟨?_, ?_, ?_, ?_, ?_, ?_⟩
    · intro hidle hnone
      exact ⟨leads_of_exec rfl (hopen.trans (if_pos ⟨hidle, hnone⟩)), leads_of_exec rfl (hcommit.trans (by simp [hidle, hnone])),
        leads_of_exec rfl (habort.trans (by simp [hidle, hnone]))⟩
    · intro hbusy
      refine leads_of_exec rfl (hopen.trans (if_neg ?_))
      rintro ⟨hidle, hnone⟩
      simp [hidle, hnone] at hbusy
    · exact fun hbusy => leads_of_exec rfl (hcommit.trans (if_pos hbusy))
    · exact fun hidle hsome => leads_of_exec rfl (hcommit.trans (by simp [hidle, hsome]))
    · exact fun hbusy => leads_of_exec rfl (habort.trans (if_pos hbusy))
    · rintro (hrun | ⟨hidle, hsome⟩)
      · exact leads_of_exec rfl (habort.trans (by simp [hrun]))
      · exact leads_of_exec rfl (habort.trans (by simp [hidle, hsome]))
  · exact fun h => leads_of_exec rfl (Device.calDone_idle h)
  · exact fun h => leads_of_exec rfl (Device.calDone_opening h)
  · exact fun y e h hy he => leads_of_exec rfl (Device.calDone_committing h hy he)
  · exact fun p i h => leads_of_exec rfl (Device.powerGate_eq_self h)
  · intro p i e hi hup he
    have hgate := Device.powerGate_eq hi hup he
    refine ⟨fun h => leads_of_exec rfl (hgate.trans (if_pos ?_)), fun hruns hpol hkeep hidle => leads_of_exec rfl (hgate.trans (if_neg ?_))⟩
    · simpa [or_assoc] using h
    · simp [hruns, hpol, hkeep, hidle]
  · exact fun p i h => leads_of_exec rfl (Device.blockWake_eq_self h)
  · intro p i e f hi hpol he hf
    exact ⟨fun hp => leads_of_exec rfl (Device.blockWake_site hi hpol he hf hp),
      fun hp => leads_of_exec rfl (Device.blockWake_ddrch hi hpol he hf hp),
      fun hs hc => leads_of_exec rfl (Device.blockWake_other hi hpol he hf hs hc)⟩

end Sys2Proof.Machine
end

section
/-! PROOFS. The home of a page (R43): the hash of a page number is that of its group XOR its place in the group, so the places of a
group and the positions of the quartet are one to one. -/

namespace Sys2Proof.Machine

/-! ### The home position within a group of pages -/

/-- A fold of XORs starts at any value. -/
theorem foldl_xor_eq (g : Nat → Nat) (l : List Nat) (a : Nat) :
    l.foldl (fun f k => f ^^^ g k) a = a ^^^ l.foldl (fun f k => f ^^^ g k) 0 := by
  induction l generalizing a with
  | nil => simp
  | cons k l ih => rw [List.foldl_cons, List.foldl_cons, ih, ih (0 ^^^ g k), Nat.zero_xor, Nat.xor_assoc]

/-- The lowest two bits of a page number are a group of their own in the hash. -/
theorem homeFold_eq_xor (pn : Nat) : homeFold pn = homeFold (4 * (pn / 4)) ^^^ pn % 4 := by
  have hrange : List.range 17 = 0 :: (List.range 16).map Nat.succ := List.range_succ_eq_map
  have hupper : ∀ k : Nat, bitsOf (4 * (pn / 4)) (2 * k.succ) 2 = bitsOf pn (2 * k.succ) 2 := by
    intro k
    have h4 : 2 ^ (2 * k.succ) = 4 * 2 ^ (2 * k) := by rw [Nat.mul_succ, Nat.pow_add, Nat.mul_comm]
    simp only [bitsOf, h4, ← Nat.div_div_eq_div_mul, Nat.mul_div_cancel_left _ (show 0 < 4 by decide)]
  have hlow : bitsOf pn (2 * 0) 2 = pn % 4 := by simp [bitsOf]
  have hzero : bitsOf (4 * (pn / 4)) (2 * 0) 2 = 0 := by simp [bitsOf]
  simp only [homeFold, hrange, List.foldl_cons, List.foldl_map, hupper, hlow, hzero, Nat.zero_xor]
  rw [foldl_xor_eq, Nat.xor_comm]

/-- The hash of a page number is one of four positions. -/
theorem homeFold_lt (pn : Nat) : homeFold pn < 2 ^ 2 := by
  have key : ∀ (l : List Nat) (a : Nat), a < 2 ^ 2 → l.foldl (fun f k => f ^^^ bitsOf pn (2 * k) 2) a < 2 ^ 2 := by
    intro l
    induction l with
    | nil => exact fun a ha => ha
    | cons k l ih => exact fun a ha => ih _ (Nat.xor_lt_two_pow ha (Nat.mod_lt _ (by decide)))
  exact key _ 0 (by decide)

/-- A page is homed at a position of the quartet. -/
theorem homePosition_lt (m pn : Nat) : homePosition m pn < 2 ^ m := by
  unfold homePosition
  split
  · next h => rw [h]; exact homeFold_lt pn
  · split
    · next h => rw [h]; exact Nat.mod_lt _ (by decide)
    · exact Nat.two_pow_pos m

/-- The home of a page is the home of the first page of its group XOR the page's place in the group. -/
theorem homePosition_eq_xor {m : Nat} (hm : m ≤ 2) (pn : Nat) :
    homePosition m pn = homePosition m (2 ^ m * (pn / 2 ^ m)) ^^^ pn % 2 ^ m := by
  obtain rfl | rfl | rfl : m = 0 ∨ m = 1 ∨ m = 2 := by omega
  · exact (Nat.mod_one pn).symm.trans (Nat.zero_xor _).symm
  · have hgroup : 2 * (pn / 2) / 4 = pn / 4 := by omega
    have heven : 2 * (pn / 2) % 4 % 2 ^ 1 = 0 := by omega
    have hodd : pn % 4 % 2 ^ 1 = pn % 2 ^ 1 := by omega
    have h := congrArg (· % 2 ^ 1) (homeFold_eq_xor pn)
    have h' := congrArg (· % 2 ^ 1) (homeFold_eq_xor (2 * (pn / 2)))
    simp only [Nat.xor_mod_two_pow, hgroup, heven, hodd, Nat.xor_zero] at h h'
    rw [← h'] at h
    exact h
  · exact homeFold_eq_xor pn

/-- Two pages of a group that have the same home are the same. -/
theorem eq_of_homePosition_eq {m a b : Nat} (hm : m ≤ 2) (hgroup : a / 2 ^ m = b / 2 ^ m) (h : homePosition m a = homePosition m b) :
    a = b := by
  rw [homePosition_eq_xor hm a, homePosition_eq_xor hm b, hgroup] at h
  have hplace := congrArg (homePosition m (2 ^ m * (b / 2 ^ m)) ^^^ ·) h
  simp only [← Nat.xor_assoc, Nat.xor_self, Nat.zero_xor] at hplace
  rw [← Nat.div_add_mod a (2 ^ m), ← Nat.div_add_mod b (2 ^ m), hgroup, hplace]

/-- Every group has a page homed at each position. -/
theorem exists_homePosition_eq {m pos : Nat} (hm : m ≤ 2) (lpn : Nat) (hpos : pos < 2 ^ m) :
    ∃ k, k < 2 ^ m ∧ homePosition m (lpn * 2 ^ m + k) = pos := by
  have hk : pos ^^^ homePosition m (2 ^ m * lpn) < 2 ^ m := Nat.xor_lt_two_pow hpos (homePosition_lt m _)
  refine ⟨pos ^^^ homePosition m (2 ^ m * lpn), hk, ?_⟩
  have hdiv : (lpn * 2 ^ m + (pos ^^^ homePosition m (2 ^ m * lpn))) / 2 ^ m = lpn := by
    rw [Nat.mul_comm, Nat.mul_add_div (Nat.two_pow_pos m), Nat.div_eq_of_lt hk, Nat.add_zero]
  rw [homePosition_eq_xor hm, hdiv, Nat.mul_comm lpn, Nat.mul_add_mod, Nat.mod_eq_of_lt hk, Nat.xor_comm pos, ← Nat.xor_assoc,
    Nat.xor_self, Nat.zero_xor]

/-! ### Addresses -/

/-- The logical address of a local one: the page of its group that is homed at the position, at the same place in the page. -/
theorem qlaOf_spec {m pos : Nat} (hm : m ≤ 2) (lla : Nat) (hpos : pos < 2 ^ m) : ∃ pn, qlaOf m pos lla = 4096 * pn + lla % 4096 ∧
    homePosition m pn = pos ∧ pn / 2 ^ m = lla / 4096 := by
  unfold qlaOf; dsimp only
  split
  · next pn hfind =>
    have hmem := List.mem_of_find?_eq_some hfind
    simp only [List.mem_map, List.mem_range] at hmem
    obtain ⟨k, hk, rfl⟩ := hmem
    refine ⟨_, rfl, by simpa using List.find?_some hfind, ?_⟩
    rw [Nat.mul_comm, Nat.mul_add_div (Nat.two_pow_pos m), Nat.div_eq_of_lt hk, Nat.add_zero]
  · next hfind =>
    obtain ⟨k, hk, hhome⟩ := exists_homePosition_eq hm (lla / 4096) hpos
    have hnone := List.find?_eq_none.mp hfind _ (List.mem_map_of_mem (List.mem_range.mpr hk))
    exact absurd hhome (by simpa using hnone)

/-- The page of a local address is the group of the logical one. -/
theorem llaOf_page (m qla : Nat) : llaOf m qla / 4096 = qla / 4096 / 2 ^ m := by
  unfold llaOf; omega

/-- A local address lies at the same place in its page as the logical one. -/
theorem llaOf_offset (m qla : Nat) : llaOf m qla % 4096 = qla % 4096 := by
  unfold llaOf; omega

/-- Settles O55: the places of a group and the positions are one to one, so position and group name the page. -/
theorem homePositionAndLocalAddressNameThePage : Obligations.HomePositionAndLocalAddressNameThePage := by
  unfold Obligations.HomePositionAndLocalAddressNameThePage
  intro m hm
  constructor
  · intro qla
    have hpos := homePosition_lt m (qla / 4096)
    obtain ⟨pn, hqla, hhome, hgroup⟩ := qlaOf_spec hm (llaOf m qla) hpos
    have hpage := eq_of_homePosition_eq hm (hgroup.trans (llaOf_page m qla)) hhome
    refine ⟨hpos, ?_⟩
    rw [hqla, hpage, llaOf_offset, Nat.div_add_mod]
  · intro pos lla hpos
    obtain ⟨pn, hqla, hhome, hgroup⟩ := qlaOf_spec hm lla hpos
    have hpage : (4096 * pn + lla % 4096) / 4096 = pn := by omega
    have hoffset : (4096 * pn + lla % 4096) % 4096 = lla % 4096 := by omega
    rw [hqla, hpage, llaOf, hpage, hoffset, hgroup, Nat.div_add_mod]
    exact ⟨hhome, rfl⟩

end Sys2Proof.Machine
end

section
/-! PROOFS. The two copies of a burst of the area of R69 (R426): their addresses differ in three bits, two of which meet in one
bit of the target and cancel, so the channel alone changes. -/

namespace Sys2Proof.Machine

/-- A field of bits of an XOR. -/
theorem bitsOf_xor (a b lo w : Nat) : bitsOf (a ^^^ b) lo w = bitsOf a lo w ^^^ bitsOf b lo w := by
  simp only [bitsOf, Nat.xor_div_two_pow, Nat.xor_mod_two_pow]

/-- The target of an XOR of addresses. -/
theorem targetOf_xor (a b : Nat) : targetOf (a ^^^ b) = targetOf a ^^^ targetOf b := by
  simp only [targetOf, bitsOf_xor]
  ac_rfl

/-- A target is one of 32. -/
theorem targetOf_lt (ra : Nat) : targetOf ra < 2 ^ 5 := by
  have h (lo : Nat) : bitsOf ra lo 5 < 2 ^ 5 := Nat.mod_lt _ (by decide)
  exact Nat.xor_lt_two_pow (Nat.xor_lt_two_pow (Nat.xor_lt_two_pow (Nat.xor_lt_two_pow (h 9) (h 14)) (h 19)) (h 24)) (h 29)

/-- The copy's target differs in the top bit alone. -/
theorem targetOf_privateCopy (ra : Nat) : targetOf (privateCopy ra) = targetOf ra ^^^ 16 := targetOf_xor ra 0x80002800

/-- Flipping the top bit of a target moves its channel by 8 and keeps its subchannel. -/
theorem target_xor_sixteen : ∀ t, t < 2 ^ 5 → (t ^^^ 16) / 2 = (t / 2 + 8) % 16 ∧ (t ^^^ 16) % 2 = t % 2 := by decide

/-- The copy of the copy is the burst. -/
theorem privateCopy_privateCopy (ra : Nat) : privateCopy (privateCopy ra) = ra := by
  rw [privateCopy, privateCopy, Nat.xor_assoc, Nat.xor_self, Nat.xor_zero]

/-- Both copies lie in the same 4 GiB. -/
theorem privateCopy_div (ra : Nat) : privateCopy ra / 2 ^ 32 = ra / 2 ^ 32 := by
  rw [privateCopy, Nat.xor_div_two_pow]
  simp

/-- A burst and its copy lie on the same side of every border at a multiple of 4 GiB. -/
theorem le_privateCopy_iff (n ra : Nat) : 2 ^ 32 * n ≤ privateCopy ra ↔ 2 ^ 32 * n ≤ ra := by
  rw [Nat.mul_comm, ← Nat.le_div_iff_mul_le (Nat.two_pow_pos 32), ← Nat.le_div_iff_mul_le (Nat.two_pow_pos 32), privateCopy_div]

/-- Installed memory ends at a multiple of 4 GiB. -/
theorem Device.rawBytes_eq (d : Device) : d.rawBytes = 2 ^ 32 * (4 * (d.hw.dimms * d.hw.dimmGib)) := by
  unfold Device.rawBytes Hw.rawGib
  rw [Nat.mul_assoc 16]
  omega

/-- The area of R69 starts at a multiple of 4 GiB. -/
theorem Device.privateBase_eq (d : Device) : d.privateBase = 2 ^ 32 * (4 * (d.hw.dimms * d.hw.dimmGib) - 1) := by
  unfold Device.privateBase Hw.rawGib
  rw [Nat.mul_assoc 16]
  omega

/-- Settles O58: the copy flips the top bit of the target and stays within its 4 GiB. -/
theorem privateCopiesLieOnTheOtherChannel : Obligations.PrivateCopiesLieOnTheOtherChannel := by
  unfold Obligations.PrivateCopiesLieOnTheOtherChannel
  refine ⟨fun ra => ?_, fun d ra _ _ => ⟨?_, ?_⟩⟩
  · obtain ⟨hch, hsub⟩ := target_xor_sixteen (targetOf ra) (targetOf_lt ra)
    rw [channelOf, channelOf, targetOf_privateCopy]
    exact ⟨hch, hsub, privateCopy_privateCopy ra⟩
  · exact decide_eq_decide.mpr (by rw [Device.privateBase_eq, le_privateCopy_iff])
  · rw [← Nat.not_le, ← Nat.not_le, Device.rawBytes_eq, le_privateCopy_iff]

end Sys2Proof.Machine
end

section
/-! PROOFS. The CXL.mem requests of a host link: what the intake does before a request goes on (the flag HOST_DUP, the charge of a write)
touches no register of a host page, so the checks of the link answer what they answered when the request came. -/

namespace Sys2Proof.Machine

/-! ### What the checks of a link read -/

/-- A field of a host page, within the page. -/
def Field.OnHost (f : Field) : Prop := f.page = .host ∧ f.off < 4096 ∧ f.lo < 32

theorem hostIdValid_onHost (l : Nat) : (HOST.HOST_ID.VALID l).OnHost := by
  unfold HOST.HOST_ID.VALID Field.OnHost; split <;> decide

theorem hostId_onHost (l : Nat) : (HOST.HOST_ID.HOST_ID l).OnHost := by
  unfold HOST.HOST_ID.HOST_ID Field.OnHost; split <;> decide

theorem winEn_onHost (l : Nat) : (HOST.WIN_CFG.WIN_EN l).OnHost := by
  unfold HOST.WIN_CFG.WIN_EN Field.OnHost; split <;> decide

/-- Two devices show a host link the same: the states of the links and the registers of the host pages agree. -/
def Device.SameHosts (d e : Device) : Prop :=
  e.host = d.host ∧ ∀ (f : Field) (i : Nat), f.OnHost → i < 1024 → e.reg f i = d.reg f i

theorem Device.SameHosts.refl (d : Device) : d.SameHosts d := ⟨rfl, fun _ _ _ _ => rfl⟩

theorem Device.SameHosts.trans {a b c : Device} (h : a.SameHosts b) (k : b.SameHosts c) : a.SameHosts c :=
  ⟨k.1.trans h.1, fun f i hf hi => (k.2 f i hf hi).trans (h.2 f i hf hi)⟩

/-- A flag that clears is no register. -/
theorem Device.dropErr_sameHosts (d : Device) (f : Flag) (i : Nat) : d.SameHosts (d.dropErr f i) := ⟨rfl, fun _ _ _ _ => rfl⟩

/-- The counts of a class lie on the QOS page. -/
theorem Device.chargeBytes_sameHosts (d : Device) {c : Nat} (n : Nat) (hc : c < 1024) : d.SameHosts (d.chargeBytes c n) := by
  refine ⟨rfl, ?_⟩
  rintro f i ⟨hpage, hoff, hlo⟩ hi
  have hcode {g : Field} (hg : g.page = .qos) : g.page.code ≠ f.page.code := by rw [hg, hpage]; decide
  unfold Device.chargeBytes Device.countPair Device.setPair
  rw [Device.reg_setReg_page _ _ (hcode rfl) hc hi (by decide) hoff (by decide) hlo,
    Device.reg_setReg_page _ _ (hcode rfl) hc hi (by decide) hoff (by decide) hlo]

section
variable {d e : Device} (h : d.SameHosts e)
include h

theorem Device.SameHosts.hostLink (p l : Nat) : e.hostLink p l = d.hostLink p l := by
  unfold Device.hostLink; rw [h.1]

theorem Device.SameHosts.hostValid {p : Nat} (l : Nat) (hp : p < 1024) : e.hostValid p l = d.hostValid p l := by
  unfold Device.hostValid Device.flagReg; rw [h.2 _ p (hostIdValid_onHost l) hp]

theorem Device.SameHosts.hostId {p : Nat} (l : Nat) (hp : p < 1024) : e.hostId p l = d.hostId p l := h.2 _ p (hostId_onHost l) hp

theorem Device.SameHosts.windowOn {p : Nat} (l w : Nat) (hp : p < 1024) : e.windowOn p l w = d.windowOn p l w := by
  unfold Device.windowOn; rw [h.2 _ p (winEn_onHost l) hp]

theorem Device.SameHosts.linkPresent (p l : Nat) : e.linkPresent p l = d.linkPresent p l := by
  unfold Device.linkPresent; rw [h.hostLink]

theorem Device.SameHosts.hostDup {p l : Nat} (hp : p < 4) (hl : l < 2) : e.hostDup p l = d.hostDup p l := by
  rw [Bool.eq_iff_iff]
  simp only [Device.hostDup, List.any_eq_true, List.mem_range]
  refine exists_congr fun k => and_congr_right fun hk => ?_
  have hk' : k / 2 < 1024 := by omega
  have hp' : p < 1024 := by omega
  rw [h.linkPresent, h.hostValid _ hk', h.hostId _ hk', h.hostId _ hp']

end

/-! ### The intake -/

/-- The device that hands on a request of a host link: HOST_DUP is clear unless two links share a host ID, and a write is charged to
its class. -/
def Device.admitting (d : Device) (p l dpa : Nat) (op : HomeOp) : Device :=
  let e := if d.anyDup = true then d else d.dropErr COH.flag.HOST_DUP
  match op with
  | .hostWrite .. => e.chargeBytes ((d.windowDecode p l dpa).1 % 16) 64
  | _ => e

section
variable {d : Device} {p l tag dpa : Nat} {op : HomeOp}

/-- Handing a request on changes nothing that the checks of its link read. -/
theorem Device.admitting_sameHosts : d.SameHosts (d.admitting p l dpa op) := by
  have hflag : d.SameHosts (if d.anyDup = true then d else d.dropErr COH.flag.HOST_DUP) := by
    split
    · exact .refl d
    · exact d.dropErr_sameHosts _ _
  unfold Device.admitting; dsimp only
  split
  · exact hflag.trans (Device.chargeBytes_sameHosts _ _ (Nat.lt_trans (Nat.mod_lt _ (by decide : 0 < 16)) (by decide)))
  · exact hflag

/-- The request of a message names its link, its window and its address, whatever the flag HOST_DUP. -/
theorem Device.hostReq_flag :
    (if d.anyDup = true then d else d.dropErr COH.flag.HOST_DUP).hostReq p l tag dpa op = d.hostReq p l tag dpa op := by
  split <;> rfl

/-- On a link in UP_MEM a request is refused where the link shares its host ID or does not reach the address, and else goes to its home;
notices of the host's cache go there in any case. -/
theorem Device.hostIntake_upMem (hup : (d.hostLink p l).state = .upMem) : d.hostIntake p l tag dpa op =
    let e := d.admitting p l dpa op
    let r := d.hostReq p l tag dpa op
    if op = .cleanEvict ∨ op = .biConflict then e.route r
    else if e.hostValid p l && e.hostDup p l then
      ((e.raise COH.flag.HOST_DUP 0 [] [] false).refuse r 5).deliver r (refusedAnswer r)
    else if !(e.hostValid p l) || !(e.windowOn p l r.win) || !((d.hostLink p l).decodes dpa) then
      (e.refuse r 1).deliver r (refusedAnswer r)
    else if (d.hostLink p l).biEnable then e.route r
    else match op with
      | .hostRead _ => e.route { r with op := .hostRead .i }
      | .hostInv => e.setHostLink p l { d.hostLink p l with waitBi := (d.hostLink p l).waitBi ++ [r] }
      | _ => e.route r := by
  unfold Device.hostIntake
  dsimp only
  rw [if_neg (not_not_intro hup), Device.hostReq_flag]
  cases op <;> rfl

/-- Notices of the host's cache go to the home of their line. -/
theorem Device.hostIntake_notice (hup : (d.hostLink p l).state = .upMem) (hop : op = .cleanEvict ∨ op = .biConflict) :
    d.hostIntake p l tag dpa op = (d.admitting p l dpa op).route (d.hostReq p l tag dpa op) := by
  rw [Device.hostIntake_upMem hup]
  exact if_pos hop

/-- A request of a valid, unshared host that its link reaches goes to its home. -/
theorem Device.hostIntake_admitted (hp : p < 4) (hl : l < 2) (hup : (d.hostLink p l).state = .upMem) (hvalid : d.hostValid p l = true)
    (hdup : d.hostDup p l = false) (hwin : d.windowOn p l (d.windowDecode p l dpa).1 = true)
    (hdec : (d.hostLink p l).decodes dpa = true) (hbi : (d.hostLink p l).biEnable = true) :
    d.hostIntake p l tag dpa op = (d.admitting p l dpa op).route (d.hostReq p l tag dpa op) := by
  have hsame : d.SameHosts (d.admitting p l dpa op) := Device.admitting_sameHosts
  have hp' : p < 1024 := by omega
  have hon : (d.admitting p l dpa op).windowOn p l (d.hostReq p l tag dpa op).win = true := (hsame.windowOn l _ hp').trans hwin
  rw [Device.hostIntake_upMem hup]
  simp [hsame.hostValid l hp', hsame.hostDup hp hl, hon, hvalid, hdup, hdec, hbi]

/-- A message of no meaning is a protocol error of its link. -/
theorem Device.badM2s_upMem (hup : (d.hostLink p l).state = .upMem) : d.badM2s p l = d.protoErr p l 1 := if_pos hup

end

/-! ### The obligation -/

/-- Settles O7: each command runs the intake, which hands a request that passes the checks of its link to its home. -/
theorem hostMemoryRequestsGoToTheirHome : Obligations.HostMemoryRequestsGoToTheirHome := by
  unfold Obligations.HostMemoryRequestsGoToTheirHome
  intro d w p l tag dpa hp hl hup
  have hbad := Device.badM2s_upMem hup
  refine ⟨_, rfl, ?_, ?_, ?_, ?_, ?_, ?_, ?_⟩
  · exact leads_of_exec rfl (Device.hostIntake_notice hup (.inl rfl))
  · exact leads_of_exec rfl (Device.hostIntake_notice hup (.inr rfl))
  · exact leads_of_exec rfl rfl
  · exact leads_of_exec rfl hbad
  · exact leads_of_exec rfl hbad
  · exact fun v k full => ⟨leads_of_exec rfl hbad, leads_of_exec rfl hbad⟩
  · intro hvalid hdup hwin hdec hbi
    have hgo (op : HomeOp) : d.hostIntake p l tag dpa op = (d.admitting p l dpa op).route (d.hostReq p l tag dpa op) :=
      Device.hostIntake_admitted hp hl hup hvalid hdup hwin hdec hbi
    refine ⟨fun m => leads_of_exec rfl (hgo _), leads_of_exec rfl (hgo _), leads_of_exec rfl (hgo _), leads_of_exec rfl (hgo _), ?_⟩
    refine fun v k full => ⟨_, rfl, fun m hm => ?_, leads_of_exec rfl (hgo _)⟩
    cases m with
    | a => exact absurd rfl hm
    | i => exact leads_of_exec rfl (hgo _)
    | s => exact leads_of_exec rfl (hgo _)

end Sys2Proof.Machine
end

section
/-! PROOFS. The region commands: RGN_CMD starts a command, the coordinator takes it up at once when it carries out nothing else, and
REGION_CMD_DONE ends it (R52 to R58, R680, R681). -/

namespace Sys2Proof.Machine

section
variable {d : Device}

/-! ### The start of a command (R54, R643) -/

/-- On an unlocked page a command starts while none runs. -/
theorem Device.regionCmd_starts (hlock : (d.page .region).lock = false) (hnone : d.regions.cmd = none) (f : Device → Device) :
    d.regionCmd f = f d := by
  rw [Device.regionCmd, d.rwl_unlocked hlock, hnone]
  rfl

/-- On an unlocked page a command is refused while another runs. -/
theorem Device.regionCmd_busy (hlock : (d.page .region).lock = false) (hrun : d.regions.cmd.isSome = true) (f : Device → Device) :
    d.regionCmd f = d.raise REGION.flag.CMD_BUSY 0 [] [] false := by
  rw [Device.regionCmd, d.rwl_unlocked hlock]
  exact if_pos hrun

/-- DESTROY brings what this device knows of the use of the region. -/
theorem Device.destroy_found {rid : Nat} {r : Region} (hlock : (d.page .region).lock = false) (hnone : d.regions.cmd = none)
    (hr : KMap.find d.regions.table rid = some r) (busy : Bool) :
    d.destroy rid busy = d.startRegion (.destroy rid) 0 (d.regionInUse r || busy) := by
  rw [Device.destroy, Device.regionCmd_starts hlock hnone, hr]

/-- DESTROY of no region finds no use of it. -/
theorem Device.destroy_unknown {rid : Nat} (hlock : (d.page .region).lock = false) (hnone : d.regions.cmd = none)
    (hr : KMap.find d.regions.table rid = none) (busy : Bool) : d.destroy rid busy = d.startRegion (.destroy rid) 0 busy := by
  rw [Device.destroy, Device.regionCmd_starts hlock hnone, hr]
  simp

/-! ### The coordinator takes a command up (R52, R53) -/

/-- Another device that coordinates is sent the command. -/
theorem Device.askTable_elsewhere {k : Nat} (hk : d.coordinator = some k) (hne : k ≠ d.myArr) (a : RegionAsk) :
    d.askTable a = d.tellDev k 0 (.tableCmd k (.ask a.frm a.free a.busy a.cmd)) := by
  rw [Device.askTable, hk]
  exact if_neg hne

/-- The coordinator that carries out nothing takes up the oldest command: its result is given, or it starts. -/
theorem Device.tableSteps_ask {e : Device} {a : RegionAsk} {rest : List RegionAsk} {code id : Nat} {y : TableCmd} {r : Option Region}
    (hexec : d.regions.exec = none) (hasks : d.regions.asks = a :: rest)
    (he : { d with regions := { d.regions with asks := rest } } = e) (hres : e.askResult a = (code, id, y, r)) (fuel : Nat) :
    d.tableSteps (fuel + 1) = (if code ≠ 0 ∨ r.isSome = true then e.giveResult a.frm (TableCmd.ofFail y) code id r
      else e.tableStart a.frm id y).tableSteps fuel := by
  rw [Device.tableSteps, hexec, hasks]
  dsimp only
  rw [he, hres]

/-- The coordinator that carries out nothing else takes a command up at once. -/
theorem Device.askTable_idle {a : RegionAsk} {code id : Nat} {y : TableCmd} {r : Option Region}
    (hcoord : d.coordinator = some d.myArr) (hexec : d.regions.exec = none) (hasks : d.regions.asks = [])
    (hres : d.askResult a = (code, id, y, r)) :
    d.askTable a = (if code ≠ 0 ∨ r.isSome = true then d.giveResult a.frm (TableCmd.ofFail y) code id r
      else d.tableStart a.frm id y).tableSteps 4 := by
  obtain ⟨q, hq⟩ : ∃ q : Device, q = { d with regions := { d.regions with asks := [a] } } := ⟨_, rfl⟩
  have hqexec : q.regions.exec = none := by rw [hq]; exact hexec
  have hqasks : q.regions.asks = [a] := by rw [hq]
  have hpop : ({ q with regions := { q.regions with asks := [] } } : Device) = d := by rw [hq, ← hasks]
  have htake : d.askTable a = q.tableSteps (4 + 1) := by
    rw [Device.askTable, hcoord, hq]
    simp [Device.takeAsk, Device.tableStep, hasks]
  exact htake.trans (Device.tableSteps_ask hqexec hqasks hpop hres 4)

/-- A result for this device's region command is kept; a READ loads the staging registers. -/
theorem Device.giveResult_region {c : RegionCmd} (hcmd : d.regions.cmd = some c) (hask : c.ask.isSome = true) (code id : Nat)
    (r : Option Region) : d.giveResult d.myArr false code id r =
      r.elim { d with regions := { d.regions with cmd := some { result := code, rid := id } } }
        (({ d with regions := { d.regions with cmd := some { result := code, rid := id } } } : Device).loadStaging) := by
  have hasked : (d.regions.cmd.bind (fun c => c.ask)).isSome = true := by rw [hcmd]; exact hask
  rw [Device.giveResult, if_pos rfl]
  unfold Device.gotResult
  rw [if_neg (by decide), if_pos hasked]
  cases r <;> rfl

/-- A command that passes its checks is carried out by every device in service and this one. -/
theorem Device.tableStart_region {y : TableCmd} (hy : TableCmd.ofFail y = false) (frm id : Nat) : d.tableStart frm id y =
    
    (({ d with regions := { d.regions with
        exec := some (frm, false, id)
        await := d.myArr :: d.twin.inService.filter (fun x => x != d.myArr) } } : Device).tableToAll y).applyTable y := by
  rw [Device.tableStart, hy]

/-! ### The result of a command (R55 to R57, R681) -/

section
variable {frm rid : Nat} {free : Int} {busy : Bool}

/-- A CREATE that passes its checks takes the lowest free ID. -/
theorem Device.askResult_create {g : Nat} {r : Region} (hres : d.createResult r free = 0) (hrid : d.freeRid = some rid) :
    d.askResult ⟨frm, free, busy, .create g r⟩ = (0, rid, .create rid r, none) := by
  simp only [Device.askResult, hres, hrid, if_true, Option.getD_some]

/-- A CREATE that fails takes no ID. -/
theorem Device.askResult_create_failed {g : Nat} {r : Region} (hres : d.createResult r free ≠ 0) :
    d.askResult ⟨frm, free, busy, .create g r⟩ = (d.createResult r free, 0, .create 0 r, none) := by
  simp only [Device.askResult, if_neg hres]

section
variable (t ha sa hm sg : Nat)

/-- A command on no region is answered 7. -/
theorem Device.askResult_unknown (hr : KMap.find d.regions.table rid = none) :
    d.askResult ⟨frm, free, busy, .destroy rid⟩ = (7, rid, .destroy rid, none) ∧
      d.askResult ⟨frm, free, busy, .modify rid t ha sa hm sg⟩ = (7, rid, .modify rid t ha sa hm sg, none) ∧
      d.askResult ⟨frm, free, busy, .read rid⟩ = (7, rid, .read rid, none) := by
  simp [Device.askResult, hr]

/-- DESTROY and MODIFY ask for every position, DESTROY also that the region is not in use; READ answers the region. -/
theorem Device.askResult_found {r : Region} (hr : KMap.find d.regions.table rid = some r) :
    d.askResult ⟨frm, free, busy, .destroy rid⟩ =
        (if d.allReachable = false then 5 else if (d.regionInUse r || busy) = true then 6 else 0, rid, .destroy rid, none) ∧
      d.askResult ⟨frm, free, busy, .modify rid t ha sa hm sg⟩ =
        (if d.allReachable = false then 5 else 0, rid, .modify rid t ha sa hm sg, none) ∧
      d.askResult ⟨frm, free, busy, .read rid⟩ = (0, rid, .read rid, some r) := by
  simp [Device.askResult, hr]

end

end

/-! ### The end of a command (R53, R58) -/

section
variable {e : Device} (he : e = d.proceed.tableStep)
include he

/-- Without a command only what is due advances. -/
theorem Device.regionDone_none (hcmd : e.regions.cmd = none) : d.regionDone = e := by
  unfold Device.regionDone
  rw [← he]
  dsimp only
  rw [hcmd]

/-- A command that has no result runs on. -/
theorem Device.regionDone_asked {c : RegionCmd} (hcmd : e.regions.cmd = some c) (hask : c.ask.isSome = true) : d.regionDone = e := by
  unfold Device.regionDone
  rw [← he]
  dsimp only
  rw [hcmd]
  exact if_pos hask

/-- A command that has its result ends. -/
theorem Device.regionDone_ends {c : RegionCmd} (hcmd : e.regions.cmd = some c) (hask : c.ask = none) : d.regionDone =
    ((({ e with regions := { e.regions with cmd := none } } : Device).setReg REGION.RGN_STATUS.RESULT c.result).setReg
      REGION.RGN_STATUS.RID c.rid).evt REGION.flag.CMD_DONE := by
  unfold Device.regionDone
  rw [← he]
  dsimp only
  rw [hcmd]
  exact if_neg (by simp [hask])

end

end

/-! ### The obligation -/

/-- Settles O22: a command starts behind the lock and the command that runs, the coordinator takes it up with the result of its checks,
and its end follows from what the advance leaves of it. -/
theorem regionCommandsOfTheCoordinator : Obligations.RegionCommandsOfTheCoordinator := by
  unfold Obligations.RegionCommandsOfTheCoordinator
  intro d w
  refine ⟨fun hlock => ⟨fun hnone => ?_, fun hrun o rid b c hc => ?_⟩, fun c free busy => ?_, fun frm free busy g r => ?_, ?_⟩
  · have hstart := Device.regionCmd_starts hlock hnone
    exact ⟨fun others => leads_of_exec rfl (hstart _),
      fun rid busy r hr => leads_of_exec rfl (Device.destroy_found hlock hnone hr busy),
      fun rid busy hr => leads_of_exec rfl (Device.destroy_unknown hlock hnone hr busy),
      fun rid => ⟨leads_of_exec rfl (hstart _), leads_of_exec rfl (hstart _)⟩⟩
  · have hbusy := Device.regionCmd_busy hlock hrun
    rcases hc with rfl | rfl | rfl | rfl
    · exact leads_of_exec rfl (hbusy _)
    · exact leads_of_exec rfl (hbusy _)
    · exact leads_of_exec rfl (hbusy _)
    · exact leads_of_exec rfl (hbusy _)
  · refine ⟨_, _, rfl, rfl, fun k hk hne => Device.askTable_elsewhere hk hne _, fun hcoord hexec hasks code id y hy => ?_⟩
    refine ⟨fun r hres => ?_, fun hres hcode => ?_, fun hres => ?_⟩
    · refine (Device.askTable_idle hcoord hexec hasks hres).trans ?_
      rw [if_pos (.inr rfl), hy]
      exact congrArg (Device.tableSteps · 4) (Device.giveResult_region rfl rfl code id (some r))
    · refine (Device.askTable_idle hcoord hexec hasks hres).trans ?_
      rw [if_pos (.inl hcode), hy]
      exact congrArg (Device.tableSteps · 4) (Device.giveResult_region rfl rfl code id none)
    · refine (Device.askTable_idle hcoord hexec hasks hres).trans ?_
      rw [if_neg (by decide)]
      exact congrArg (Device.tableSteps · 4) (Device.tableStart_region hy d.myArr id)
  · exact ⟨fun rid hres hrid => Device.askResult_create hres hrid, fun hres => Device.askResult_create_failed hres,
      fun rid t ha sa hm sg => ⟨Device.askResult_unknown t ha sa hm sg, Device.askResult_found t ha sa hm sg⟩⟩
  · obtain ⟨e, he⟩ : ∃ e, e = d.proceed.tableStep := ⟨_, rfl⟩
    exact ⟨e, he, fun hcmd => leads_of_exec rfl (Device.regionDone_none he hcmd),
      fun c hcmd hask => leads_of_exec rfl (Device.regionDone_asked he hcmd hask),
      fun c hcmd hask => ⟨_, rfl, leads_of_exec rfl (Device.regionDone_ends he hcmd hask)⟩⟩

end Sys2Proof.Machine
end

section
/-! PROOFS. Admission of a class table and of a site's class, recomputation, and the choices at a channel's queue. -/

namespace Sys2Proof.Machine

section
variable {d : Device}

/-! ### APPLY and its end (R335 to R337, R354) -/

/-- While an APPLY runs another does nothing, nor does REVERT, and a recomputation is put off. -/
theorem Device.admission_running (h : d.qos.applying = true) :
    d.apply = d ∧ d.revert = d ∧ d.recompute = { d with qos := { d.qos with recompDue := true } } :=
  ⟨if_pos h, if_pos h, if_pos h⟩

/-- An APPLY starts with the figures and the fraction of its moment. -/
theorem Device.apply_starts {e : Device} (h : d.qos.applying = false)
    (he : e = (d.setReg QOS.ADMIT_CMD.APPLY 1).setReg QOS.ADMIT_CMD.BUSY 1) : d.apply =
      { e with qos := { e.qos with applying := true, applyFigs := e.figures, fraction := e.reg QOS.ADMIT_CTL.FRACTION_PCT } } := by
  subst he
  exact if_neg (ne_true_of_eq_false h)

/-- REVERT stages the table in force. -/
theorem Device.revert_idle (h : d.qos.applying = false) : d.revert = d.stageTable d.qos.table := if_neg (ne_true_of_eq_false h)

/-- Without an APPLY nothing ends. -/
theorem Device.admitDone_idle (h : d.qos.applying = false) : d.admitDone = d := if_pos (by simp [h])

/-- The end of an APPLY: its result is written, the staged table comes into force if it passed, and what waited goes on. -/
theorem Device.admitDone_applying {e f g : Device} (h : d.qos.applying = true)
    (he : e = (((d.setReg QOS.ADMIT_STAT.RESULT (d.admission d.stagedTable d.qos.applyFigs).1).setReg QOS.ADMIT_STAT.SITE
      (d.admission d.stagedTable d.qos.applyFigs).2).setReg QOS.ADMIT_CMD.APPLY 0).setReg QOS.ADMIT_CMD.BUSY 0)
    (hf : f = { e with qos := { e.qos with applying := false, recompDue := false, siteWait := [],
                                           sitePend := d.qos.sitePend ++ d.qos.siteWait } })
    (hg : g = if (d.admission d.stagedTable d.qos.applyFigs).1 = 0 then
      (({ f with qos := { f.qos with table := d.stagedTable } } : Device).setDemoted []).tellGuarantees else f) :
    d.admitDone = if d.qos.recompDue then (g.evt QOS.flag.ADMIT_DONE).recompute else g.evt QOS.flag.ADMIT_DONE := by
  subst he hf hg
  exact if_neg (by simp [h])

/-! ### Recomputation (R348 to R353) -/

section
variable {e f : Device} (h : d.qos.applying = false)
  (he : e = { d with qos := { d.qos with figs := d.figures, fraction := d.reg QOS.ADMIT_CTL.FRACTION_PCT } })
  (hf : f = e.demoteN d.qos.figs d.figures e.qos.table.yields)
include h he hf

/-- Demotion by the new figures comes first, then restoration for the first figure that has grown. -/
theorem Device.recompute_idle : d.recompute =
    (((List.range 3).find? (fun r => decide (d.qos.figs.getD r 0 < d.figures.getD r 0))).elim f (fun r =>
      if f.flagReg QOS.ADMIT_CTL.AUTO_RESTORE then f.restoreN d.qos.figs d.figures r 16 else f)).siteShorts := by
  subst he hf
  refine (if_neg (ne_true_of_eq_false h)).trans (congrArg Device.siteShorts ?_)
  cases (List.range 3).find? (fun r => decide (d.qos.figs.getD r 0 < d.figures.getD r 0)) <;> rfl

/-- Nothing is restored where no figure has grown or AUTO_RESTORE is 0. -/
theorem Device.recompute_keeps (hkeep : (List.range 3).all (fun r => decide (d.figures.getD r 0 ≤ d.qos.figs.getD r 0)) = true ∨
    f.flagReg QOS.ADMIT_CTL.AUTO_RESTORE = false) : d.recompute = f.siteShorts := by
  rw [Device.recompute_idle h he hf]
  rcases hkeep with hall | hoff
  · have hnone : (List.range 3).find? (fun r => decide (d.qos.figs.getD r 0 < d.figures.getD r 0)) = none := by
      simpa [List.find?_eq_none] using hall
    rw [hnone, Option.elim_none]
  · cases (List.range 3).find? (fun r => decide (d.qos.figs.getD r 0 < d.figures.getD r 0)) with
    | none => rfl
    | some r => rw [Option.elim_some, if_neg (ne_true_of_eq_false hoff)]

/-- Classes are restored for a figure that has grown where AUTO_RESTORE is 1. -/
theorem Device.recompute_restores {r : Nat}
    (hr : (List.range 3).find? (fun r => decide (d.qos.figs.getD r 0 < d.figures.getD r 0)) = some r)
    (hon : f.flagReg QOS.ADMIT_CTL.AUTO_RESTORE = true) : d.recompute = (f.restoreN d.qos.figs d.figures r 16).siteShorts := by
  rw [Device.recompute_idle h he hf, hr, Option.elim_some, if_pos hon]

end

/-! ### The class of a site (R65, R337) -/

/-- The admission of a site's class starts, or waits behind an APPLY, or behind the one of its site. -/
theorem Device.siteClassWrite_eq (s c : Nat) : d.siteClassWrite s c =
    if (d.qos.sitePend.any (fun e => e.1 == s) || d.qos.siteWait.any (fun e => e.1 == s)) = true then
      ({ d with qos := { d.qos with siteNext := d.qos.siteNext.filter (fun e => e.1 != s) ++ [(s, c)] } } : Device).sitePending s
    else if d.qos.applying = true then
      ({ d with qos := { d.qos with siteWait := d.qos.siteWait ++ [(s, c)] } } : Device).sitePending s
    else ({ d with qos := { d.qos with sitePend := d.qos.sitePend ++ [(s, c)] } } : Device).sitePending s := by
  unfold Device.siteClassWrite; dsimp only
  split
  · rfl
  · split <;> rfl

/-- A site without an admission has none that ends. -/
theorem Device.siteAdmitEnd_none {s : Nat} (h : d.qos.sitePend.find? (fun e => e.1 == s) = none) : d.siteAdmitEnd s = d := by
  simp only [Device.siteAdmitEnd, h]

/-- A site whose admission has ended starts that of its waiting write, or has none pending. -/
def Device.siteGoesOn (d : Device) (s : Nat) : Device :=
  match d.qos.siteNext.find? (fun x => x.1 == s) with
  | some n => ({ d with qos := { d.qos with siteNext := d.qos.siteNext.filter (fun x => x.1 != s) } } : Device).siteClassWrite s n.2
  | none => d.sitePending s

/-- An admission that ends stores the class if the link carries it, and the site goes on. -/
theorem Device.siteAdmitEnd_some {s : Nat} {x : Nat × Nat} {e f : Device} (h : d.qos.sitePend.find? (fun e => e.1 == s) = some x)
    (he : e = { d with qos := { d.qos with sitePend := d.qos.sitePend.filter (fun y => y.1 != s) } })
    (hf : f = if d.siteFits d.qos.table d.qos.fraction s x.2 = true then e.setReg SITE.SITE_CLASS.CLASS x.2 s else e) :
    d.siteAdmitEnd s = f.siteGoesOn s := by
  subst hf he
  rw [Device.siteAdmitEnd, h]
  rfl

/-- Without a waiting write the site has no admission pending. -/
theorem Device.siteGoesOn_none {s : Nat} (h : d.qos.siteNext.find? (fun y => y.1 == s) = none) : d.siteGoesOn s = d.sitePending s := by
  rw [Device.siteGoesOn, h]

/-- A waiting write of the site starts its admission. -/
theorem Device.siteGoesOn_some {s : Nat} {n : Nat × Nat} (h : d.qos.siteNext.find? (fun y => y.1 == s) = some n) : d.siteGoesOn s =
    ({ d with qos := { d.qos with siteNext := d.qos.siteNext.filter (fun y => y.1 != s) } } : Device).siteClassWrite s n.2 := by
  rw [Device.siteGoesOn, h]

/-! ### The scheduler (R343, R346) -/

section
variable {c : Nat} {free : List ChanEntry}
  (hfree : free = (d.chanQueue c).filter (fun e => !((d.chanQueue c).any (fun x => x.ra == e.ra && decide (x.order < e.order)))))
include hfree

/-- The urgent request with the earliest deadline is taken first and counted. -/
theorem Device.schedulerPick_urgent {e : ChanEntry} (h : earliest (free.filter (fun e => d.urgent e.cls e.deadline)) = some e) :
    d.schedulerPick c = ({ d with qos := { d.qos with
      queues := KMap.put d.qos.queues c ((d.chanQueue c).filter (fun x => x.order != e.order)) } } : Device).countWrap
        QOS.URGENT.COUNT e.cls := by
  subst hfree
  unfold Device.schedulerPick; dsimp only
  rw [h]

/-- Without an urgent request deficit round robin chooses the class, whose next request is taken. -/
theorem Device.schedulerPick_robin {f : Device} {k : Option Nat}
    (h : earliest (free.filter (fun e => d.urgent e.cls e.deadline)) = none)
    (hdrr : d.drr c (fun k => (nextOf (free.filter (fun e => e.cls == k))).map (fun e => e.deq)) = (f, k)) :
    d.schedulerPick c = k.elim f (fun j => (nextOf (free.filter (fun e => e.cls == j))).elim f (fun e =>
      { f with qos := { f.qos with queues := KMap.put f.qos.queues c ((d.chanQueue c).filter (fun x => x.order != e.order)) } })) := by
  subst hfree
  unfold Device.schedulerPick; dsimp only
  rw [h]
  dsimp only
  rw [hdrr]
  cases k with
  | none => rfl
  | some j =>
    rw [Option.elim_some]
    dsimp only
    split
    · next e he => rw [he]; rfl
    · next he => rw [he]; rfl

end

/-- Deficit round robin chooses nothing where no class has a request. -/
theorem Device.drr_none (key : Nat) {cost : Nat → Option Nat} (h : ∀ k, cost k = none) : d.drr key cost = (d, none) :=
  if_pos (by simp [h])

/-- An empty queue has nothing to take. -/
theorem Device.schedulerPick_empty {c : Nat} (h : d.chanQueue c = []) : d.schedulerPick c = d :=
  Device.schedulerPick_robin (free := []) (by rw [h]; rfl) rfl (Device.drr_none c (fun _ => rfl))

/-! ### An entry becomes free (R342, R343) -/

/-- In a queue that was full the earliest urgent request is tried. -/
theorem Device.tryUrgent_full {c : Nat} {r : Request} (hr : d.urgentHeld c = some r) (hfull : (d.chanQueue c).length = 127) :
    d.tryUrgent c = d.tryRequest r := by
  simp only [Device.tryUrgent, hr, hfull, if_true]

/-- Otherwise none is tried first. -/
theorem Device.tryUrgent_eq_self {c : Nat} (h : d.urgentHeld c = none ∨ (d.chanQueue c).length ≠ 127) : d.tryUrgent c = d := by
  unfold Device.tryUrgent
  rcases h with hnone | hroom
  · rw [hnone]
  · split
    · exact if_neg hroom
    · rfl

/-- Deficit round robin lets one request above its guarantee in, and the waiting requests are tried. -/
theorem Device.entryFreed_eq {c : Nat} {e f : Device} {k : Option Nat} (he : d.tryUrgent c = e)
    (hdrr : e.drr (16 + c) (fun k => ((e.heldFor c).find? (fun x => x.1.cls == k)).map (fun x => x.2)) = (f, k)) :
    d.entryFreed c = (k.elim f (fun j =>
      { f with qos := { f.qos with amberToken := KMap.put f.qos.amberToken c (j + 1) } })).pumpQueue := by
  unfold Device.entryFreed; dsimp only
  rw [he, hdrr]
  cases k <;> rfl

end

/-! ### The obligation -/

/-- Settles O30: each command runs its operation, and the guards of the operation tell which of its cases it is. -/
theorem admissionAndDemotion : Obligations.AdmissionAndDemotion := by
  unfold Obligations.AdmissionAndDemotion
  intro d w
  refine ⟨?_, ?_, ?_, ?_, ?_, ?_, ?_, ?_, ?_⟩
  · intro happ
    obtain ⟨happly, hrevert, hrecompute⟩ := Device.admission_running happ
    exact ⟨leads_of_exec rfl happly, leads_of_exec rfl hrevert, leads_of_exec rfl hrecompute⟩
  · exact fun hidle => ⟨leads_of_exec rfl (Device.revert_idle hidle), leads_of_exec rfl (Device.admitDone_idle hidle), _, rfl,
      leads_of_exec rfl (Device.apply_starts hidle rfl)⟩
  · intro happ
    have hdone := Device.admitDone_applying happ rfl rfl rfl
    refine ⟨_, _, if (d.admission d.stagedTable d.qos.applyFigs).1 = 0 then _ else _, rfl, rfl, fun hres => if_pos hres,
      fun hres => if_neg hres, fun hdue => leads_of_exec rfl (hdone.trans ?_), fun hdue => leads_of_exec rfl (hdone.trans ?_)⟩
    · exact if_neg (ne_true_of_eq_false hdue)
    · exact if_pos hdue
  · exact fun hidle => ⟨_, _, rfl, rfl, fun hkeep => leads_of_exec rfl (Device.recompute_keeps hidle rfl rfl hkeep),
      fun r hr hon => leads_of_exec rfl (Device.recompute_restores hidle rfl rfl hr hon)⟩
  · rintro s c hgrade hs hlock on rfl
    have hsite : ¬(d.hw.gradeH = true ∨ 1024 ≤ s) := by simp [hgrade, hs]
    have hgo : (if d.hw.gradeH = true ∨ 1024 ≤ s then d
        else d.rwl .site s (d.changes SITE.SITE_CLASS.CLASS c s) (fun d => d.siteClassWrite s (c % 16))) = d.siteClassWrite s (c % 16) :=
      (if_neg hsite).trans (d.rwl_unlocked hlock _ _)
    have hwrite := hgo.trans (Device.siteClassWrite_eq s (c % 16))
    refine ⟨fun hoff hidle => leads_of_exec rfl (hwrite.trans ?_), fun hoff happ => leads_of_exec rfl (hwrite.trans ?_),
      fun hon => leads_of_exec rfl (hwrite.trans (if_pos hon))⟩
    · exact (if_neg (ne_true_of_eq_false hoff)).trans (if_neg (ne_true_of_eq_false hidle))
    · exact (if_neg (ne_true_of_eq_false hoff)).trans (if_pos happ)
  · refine fun s => ⟨fun hnone => leads_of_exec rfl (Device.siteAdmitEnd_none hnone), fun x hx => ?_⟩
    obtain ⟨e, he⟩ : ∃ e : Device,
        e = { d with qos := { d.qos with sitePend := d.qos.sitePend.filter (fun y => y.1 != s) } } := ⟨_, rfl⟩
    obtain ⟨f, hf⟩ : ∃ f : Device, f = if d.siteFits d.qos.table d.qos.fraction s x.2 = true then e.setReg SITE.SITE_CLASS.CLASS x.2 s
      else e := ⟨_, rfl⟩
    have hend := Device.siteAdmitEnd_some hx he hf
    have hsites : f.qos.siteNext = d.qos.siteNext := by
      rw [hf, he]; split <;> rfl
    refine ⟨e, f, he, fun hfit => hf.trans (if_pos hfit), fun hfit => hf.trans (if_neg (ne_true_of_eq_false hfit)), fun hnext => ?_,
      fun n hnext => ?_⟩
    · rw [← hsites] at hnext
      exact leads_of_exec rfl (hend.trans (Device.siteGoesOn_none hnext))
    · rw [← hsites] at hnext
      exact leads_of_exec rfl (hend.trans (Device.siteGoesOn_some hnext))
  · refine fun c free hfree => ⟨fun e he => leads_of_exec rfl (Device.schedulerPick_urgent hfree he), fun hnone f k hdrr => ?_⟩
    have hpick := Device.schedulerPick_robin hfree hnone hdrr
    refine ⟨?_, ?_⟩
    · rintro rfl
      exact leads_of_exec rfl hpick
    · rintro j rfl
      exact leads_of_exec rfl hpick
  · exact fun c hempty => leads_of_exec rfl (Device.schedulerPick_empty hempty)
  · intro c
    obtain ⟨e, he⟩ : ∃ e, d.tryUrgent c = e := ⟨_, rfl⟩
    exact ⟨e, fun r hr hfull => he.symm.trans (Device.tryUrgent_full hr hfull), fun h => he.symm.trans (Device.tryUrgent_eq_self h),
      fun f hdrr => leads_of_exec rfl (Device.entryFreed_eq (f := f) (k := none) he hdrr),
      fun f k hdrr => leads_of_exec rfl (Device.entryFreed_eq (f := f) (k := some k) he hdrr)⟩

end Sys2Proof.Machine
end

section
/-! PROOFS. Loaf records as words: the fields of a record stand at fixed places, and above them its slices. -/

namespace Sys2Proof.Machine

/-! ### Fields of equal width -/

/-- The number that fields of `w` bits spell, the first one lowest. -/
def ofFields (w : Nat) : List Nat → Nat
  | [] => 0
  | a :: l => a + 2 ^ w * ofFields w l

/-- Fields that fit their width take no more than their bits. -/
theorem ofFields_lt {w : Nat} {l : List Nat} (hl : ∀ x ∈ l, x < 2 ^ w) : ofFields w l < 2 ^ (w * l.length) := by
  induction l with
  | nil => exact Nat.one_pos
  | cons a l ih =>
    obtain ⟨ha, hrest⟩ := List.forall_mem_cons.1 hl
    calc a + 2 ^ w * ofFields w l < 2 ^ w + 2 ^ w * ofFields w l := Nat.add_lt_add_right ha _
      _ = 2 ^ w * (ofFields w l + 1) := by rw [Nat.mul_succ, Nat.add_comm]
      _ ≤ 2 ^ w * 2 ^ (w * l.length) := Nat.mul_le_mul_left _ (ih hrest)
      _ = 2 ^ (w * (l.length + 1)) := by rw [← Nat.pow_add, Nat.mul_succ, Nat.add_comm]

/-- The bits of a place are the field at that place. -/
theorem bitsOf_ofFields {w : Nat} {l : List Nat} (hl : ∀ x ∈ l, x < 2 ^ w) (k : Nat) :
    bitsOf (ofFields w l) (w * k) w = l.getD k 0 := by
  unfold bitsOf
  induction l generalizing k with
  | nil => simp [ofFields]
  | cons a l ih =>
    obtain ⟨ha, hrest⟩ := List.forall_mem_cons.1 hl
    cases k with
    | zero => simp [ofFields, Nat.mod_eq_of_lt ha]
    | succ k =>
      rw [ofFields, Nat.mul_succ, Nat.add_comm (w * k) w, Nat.pow_add, ← Nat.div_div_eq_div_mul,
        Nat.add_mul_div_left _ _ (Nat.two_pow_pos w), Nat.div_eq_of_lt ha, Nat.zero_add, ih hrest, List.getD_cons_succ]

/-- A further field stands above all others. -/
theorem ofFields_concat (w : Nat) (l : List Nat) (a : Nat) : ofFields w (l ++ [a]) = ofFields w l + 2 ^ (w * l.length) * a := by
  induction l with
  | nil => simp [ofFields]
  | cons b l ih =>
    rw [List.cons_append, ofFields, ofFields, ih, Nat.mul_add, Nat.add_assoc, List.length_cons, Nat.mul_succ,
      Nat.add_comm (w * l.length) w, Nat.pow_add, Nat.mul_assoc]

/-- Fields of equal width that are added up at rising places spell a number. -/
theorem foldl_places_eq (f : Nat → Nat) (c w n : Nat) :
    (List.range n).foldl (fun s k => s + f k * 2 ^ (c + w * k)) 0 = 2 ^ c * ofFields w ((List.range n).map f) := by
  induction n with
  | zero => rfl
  | succ n ih =>
    simp only [List.range_succ, List.foldl_append, ih, List.foldl_cons, List.foldl_nil, List.map_append, List.map_cons, List.map_nil,
      ofFields_concat, List.length_map, List.length_range]
    rw [Nat.mul_add, Nat.pow_add, Nat.mul_comm (f n), Nat.mul_assoc]

/-- A list is what its places hold. -/
theorem map_range_getD (l : List Nat) : (List.range l.length).map (fun k => l.getD k 0) = l := by
  refine List.ext_getElem (by simp) (fun k hk _ => ?_)
  simp only [List.length_map, List.length_range] at hk
  simp [hk]

/-! ### The word of a record (R79) -/

/-- The eight slices that the word of a record has room for. -/
def LoafRec.places (r : LoafRec) : List Nat := (List.range 8).map (fun k => r.slices.getD k 0)

/-- The word of a record: its fields, and above them its slices. -/
theorem LoafRec.word_eq (r : LoafRec) : r.word = r.state + 2 ^ 3 * (r.nslice + 2 ^ 4 * (r.bin + 2 ^ 9 * (r.qend.getD 0 0
    + 2 ^ 12 * (r.qend.getD 1 0 + 2 ^ 12 * (r.qend.getD 2 0 + 2 ^ 12 * ofFields 25 r.places))))) := by
  rw [LoafRec.word, foldl_places_eq, LoafRec.places]
  omega

section
variable {r : LoafRec} (hslice : ∀ i ∈ r.slices, i < 2 ^ 25)
include hslice

/-- Every place of the word holds a slice number. -/
theorem LoafRec.places_lt : ∀ x ∈ r.places, x < 2 ^ 25 := by
  intro x hx
  obtain ⟨k, -, rfl⟩ := List.mem_map.1 hx
  rw [List.getD_eq_getElem?_getD]
  cases hk : r.slices[k]? with
  | none => decide
  | some i => exact hslice i (List.mem_of_getElem? hk)

/-- The slices take 200 bits. -/
theorem LoafRec.ofFields_places_lt : ofFields 25 r.places < 2 ^ 200 := ofFields_lt (places_lt hslice)

/-- The bits of a slice's place in the number of the slices are the slice. -/
theorem LoafRec.bitsOf_places {k : Nat} (hk : k < 8) : bitsOf (ofFields 25 r.places) (25 * k) 25 = r.slices.getD k 0 := by
  rw [bitsOf_ofFields (places_lt hslice)]
  simp [LoafRec.places, hk]

end

/-- Bits above the lowest `m` are bits of the quotient. -/
theorem bitsOf_add (v m lo w : Nat) : bitsOf v (m + lo) w = bitsOf (v / 2 ^ m) lo w := by
  rw [bitsOf, bitsOf, Nat.div_div_eq_div_mul, Nat.pow_add]

/-- Settles O60: the fields below the slices are read by division, and the slices as fields of 25 bits. -/
theorem loafRecordsReadBack : Obligations.LoafRecordsReadBack := by
  unfold Obligations.LoafRecordsReadBack
  rintro ⟨state, nslice, bin, qend, slices⟩ hstate hnslice hbin hqend hq hlen hslice
  obtain ⟨a, b, c, rfl⟩ : ∃ a b c, qend = [a, b, c] := by
    match qend, hqend with
    | [a, b, c], _ => exact ⟨a, b, c, rfl⟩
  have hword := LoafRec.word_eq ⟨state, nslice, bin, [a, b, c], slices⟩
  have htop := LoafRec.ofFields_places_lt hslice
  have hplace : ∀ k < 8, _ := fun k => LoafRec.bitsOf_places hslice (k := k)
  generalize ofFields 25 _ = v at hword htop hplace
  generalize LoafRec.word _ = word at hword ⊢
  simp only [List.getD_cons_zero, List.getD_cons_succ, List.forall_mem_cons] at *
  obtain ⟨ha, hb, hc, -⟩ := hq
  have hrest : word / 2 ^ 52 = v := by omega
  refine ⟨?_, by omega⟩
  have hfields : bitsOf word 0 3 = state ∧ bitsOf word 3 4 = nslice ∧ bitsOf word 7 9 = bin ∧ bitsOf word 16 12 = a ∧
      bitsOf word 28 12 = b ∧ bitsOf word 40 12 = c := by
    unfold bitsOf; omega
  obtain ⟨hfstate, hfnslice, hfbin, hfa, hfb, hfc⟩ := hfields
  have hslices : (List.range nslice).map (fun k => bitsOf word (52 + 25 * k) 25) = slices := by
    rw [← hlen] at hnslice ⊢
    refine Eq.trans (List.map_congr_left (fun k hk => ?_)) (map_range_getD slices)
    rw [bitsOf_add, hrest]
    exact hplace k (by have := List.mem_range.1 hk; omega)
  simp only [LoafRec.ofWord, hfstate, hfnslice, hfbin, hfa, hfb, hfc, Nat.min_eq_left hnslice, hslices]

end Sys2Proof.Machine
end

section
/-! PROOFS. Quarter encodings: each mode reads back the quarter that it was written for, whatever follows it, and the encoder takes
the shortest of them. -/

namespace Sys2Proof.Machine

/-! ### Bytes -/

theorem leBytes_length (n v : Nat) : (leBytes n v).length = n := by
  induction n generalizing v with
  | zero => rfl
  | succ n ih => simp [leBytes, ih]

/-- A number reads back from enough of its bytes. -/
theorem ofLe_leBytes_of_lt {n v : Nat} (h : v < 2 ^ (8 * n)) : ofLe (leBytes n v) = v := by
  have hmap : ∀ l : List Nat, ofLe (l.map (fun x => x % 256)) = ofLe l := by
    intro l
    induction l with
    | nil => rfl
    | cons a l ih => simp [ofLe, ih]
  rw [← hmap, ofLe_leBytes, Nat.mod_eq_of_lt h]

/-! ### The positions of the ones of a quarter (R83, SPARSE) -/

/-- The positions of the ones of bytes that follow `k` others. -/
def onesFrom (k : Nat) : List Nat → List Nat
  | [] => []
  | b :: q => (onesOf 8 b).map (fun i => 8 * k + i) ++ onesFrom (k + 1) q

theorem onePositions_eq (q : List Nat) : onePositions q = onesFrom 0 q := by
  have hfrom : ∀ k, (q.zip (List.range' k q.length)).flatMap (fun e => (onesOf 8 e.1).map (fun i => 8 * e.2 + i)) = onesFrom k q := by
    induction q with
    | nil => exact fun _ => rfl
    | cons b q ih => exact fun k => congrArg _ (ih (k + 1))
  rw [onePositions, List.range_eq_range', hfrom]

theorem lt_of_mem_onesOf {n v i : Nat} (h : i ∈ onesOf n v) : i < n := List.mem_range.1 (List.mem_filter.1 h).1

/-- The ones lie in the bytes. -/
theorem bounds_of_mem_onesFrom {q : List Nat} {k p : Nat} (h : p ∈ onesFrom k q) : 8 * k ≤ p ∧ p < 8 * (k + q.length) := by
  induction q generalizing k with
  | nil => cases h
  | cons b q ih =>
    rw [List.length_cons]
    rcases List.mem_append.1 h with hb | hq
    · obtain ⟨i, hi, rfl⟩ := List.mem_map.1 hb
      have := lt_of_mem_onesOf hi
      omega
    · have := ih hq
      omega

/-- The ones are listed in rising order. -/
theorem onesFrom_pairwise (k : Nat) (q : List Nat) : (onesFrom k q).Pairwise (· < ·) := by
  induction q generalizing k with
  | nil => exact .nil
  | cons b q ih =>
    refine List.pairwise_append.2 ⟨?_, ih (k + 1), fun x hx y hy => ?_⟩
    · exact (List.pairwise_lt_range.filter _).map _ (fun _ _ h => Nat.add_lt_add_left h _)
    · obtain ⟨i, hi, rfl⟩ := List.mem_map.1 hx
      have := lt_of_mem_onesOf hi
      have := (bounds_of_mem_onesFrom hy).1
      omega

theorem increasing_of_pairwise {l : List Nat} (h : l.Pairwise (· < ·)) : increasing l = true := by
  induction l with
  | nil => rfl
  | cons a l ih =>
    obtain ⟨ha, hl⟩ := List.pairwise_cons.1 h
    cases l with
    | nil => rfl
    | cons b l => simp [increasing, ha b List.mem_cons_self, ih hl]

/-- The ones of one byte among those of all. -/
theorem filter_onesFrom {q : List Nat} {i : Nat} (h : i < q.length) (k : Nat) :
    (onesFrom k q).filter (fun p => p / 8 == k + i) = (onesOf 8 q[i]).map (fun b => 8 * (k + i) + b) := by
  induction q generalizing k i with
  | nil => cases h
  | cons b q ih =>
    have hhead : ∀ p ∈ (onesOf 8 b).map (fun i => 8 * k + i), p / 8 = k := by
      intro p hp
      obtain ⟨i, hi, rfl⟩ := List.mem_map.1 hp
      have := lt_of_mem_onesOf hi
      omega
    rw [onesFrom, List.filter_append]
    cases i with
    | zero =>
      have htail : ∀ p ∈ onesFrom (k + 1) q, p / 8 ≠ k := by
        intro p hp
        have := (bounds_of_mem_onesFrom hp).1
        omega
      rw [List.filter_eq_self.2 (by simpa using hhead), List.filter_eq_nil_iff.2 (by simpa using htail), List.append_nil]
      rfl
    | succ i =>
      have hnone : ∀ p ∈ (onesOf 8 b).map (fun i => 8 * k + i), ¬(p / 8 == k + (i + 1)) = true := by
        intro p hp
        have := hhead p hp
        simp only [beq_iff_eq]
        omega
      have hrest := ih (Nat.lt_of_succ_lt_succ h) (k + 1)
      rw [Nat.add_right_comm] at hrest
      rw [List.filter_eq_nil_iff.2 hnone, List.nil_append]
      exact hrest

/-- The ones of a number add up to its lowest bits. -/
theorem foldl_onesOf (v n : Nat) {f : Nat → Nat} (hf : ∀ i < n, f i = i) : (onesOf n v).foldl (fun s i => s + 2 ^ f i) 0 = v % 2 ^ n := by
  unfold onesOf
  induction n with
  | zero => simp [Nat.mod_one]
  | succ n ih =>
    rw [List.range_succ, List.filter_append, List.foldl_append, ih (fun i hi => hf i (Nat.lt_succ_of_lt hi)), Nat.mod_pow_succ]
    rcases Nat.mod_two_eq_zero_or_one (v / 2 ^ n) with hbit | hbit <;> simp [bitOf, hbit, hf n n.lt_succ_self]

/-- A byte is the sum of its ones, wherever it stands. -/
theorem foldl_onesOf_byte {b : Nat} (h : b < 256) (k : Nat) :
    ((onesOf 8 b).map (fun i => 8 * k + i)).foldl (fun n p => n + 2 ^ (p % 8)) 0 = b := by
  rw [List.foldl_map, foldl_onesOf b 8 (fun i hi => by omega)]
  exact Nat.mod_eq_of_lt h

section
variable {q : List Nat} (hlen : q.length = 1024) (hbyte : ∀ b ∈ q, b < 256)
include hlen hbyte

/-- The listed ones give the quarter back, set in zeros or cleared in ones. -/
theorem sparseBytes_onePositions (pol : Bool) : sparseBytes pol (onePositions q) = if pol then q.map (fun b => 255 - b) else q := by
  have hsum : ∀ i (hi : i < q.length), ((onePositions q).filter (fun p => p / 8 == i)).foldl (fun n p => n + 2 ^ (p % 8)) 0 = q[i] := by
    intro i hi
    have hfilter := filter_onesFrom hi 0
    rw [Nat.zero_add] at hfilter
    rw [onePositions_eq, hfilter, foldl_onesOf_byte (hbyte _ (List.getElem_mem hi))]
  refine List.ext_getElem (by cases pol <;> simp [sparseBytes, hlen]) (fun i hi _ => ?_)
  have hq : i < q.length := by simpa [sparseBytes, hlen] using hi
  cases pol <;> simp [sparseBytes, hsum i hq]

omit hbyte in
/-- The positions of a quarter have 13 bits. -/
theorem lt_of_mem_onePositions : ∀ p ∈ onePositions q, p < 2 ^ 13 := by
  intro p hp
  rw [onePositions_eq] at hp
  have := (bounds_of_mem_onesFrom hp).2
  omega

end

/-! ### SPARSE (R83) -/

/-- The listed positions are fields of 13 bits. -/
theorem sparseEncode_eq (pol : Nat) (pos : List Nat) : sparseEncode pol pos =
    [0x02, pol, pos.length % 256, pos.length / 256] ++ leBytes ((13 * pos.length + 7) / 8) (ofFields 13 pos) := by
  have hzip : pos.zip (List.range pos.length) = (List.range pos.length).map (fun k => (pos.getD k 0, 0 + k)) := by
    refine List.ext_getElem (by simp) (fun k hk _ => ?_)
    have hk' : k < pos.length := by simpa using hk
    simp [hk']
  have hfold := foldl_places_eq (fun k => pos.getD k 0) 0 13 pos.length
  rw [map_range_getD, Nat.pow_zero, Nat.one_mul] at hfold
  rw [sparseEncode, ← hfold, hzip, List.foldl_map]
  simp only [Nat.zero_add]

/-- Listed positions, at least one and at most 512, read back, whatever follows them. -/
theorem decodeQuarter_sparseEncode {pol : Nat} {pos : List Nat} (hpol : pol ≤ 1) (hmin : 1 ≤ pos.length) (hmax : pos.length ≤ 512)
    (hlt : ∀ p ∈ pos, p < 2 ^ 13) (hinc : increasing pos = true) (rest : List Nat) :
    decodeQuarter (sparseEncode pol pos ++ rest) = (.bytes (sparseBytes (pol == 1) pos), (sparseEncode pol pos).length) := by
  have hval : ofFields 13 pos < 2 ^ (8 * ((13 * pos.length + 7) / 8)) :=
    Nat.lt_of_lt_of_le (ofFields_lt hlt) (Nat.pow_le_pow_right (by decide) (by omega))
  have hcount : pos.length % 256 + 256 * (pos.length / 256) = pos.length := Nat.mod_add_div _ _
  have hpos : (List.range pos.length).map (fun k => bitsOf (ofFields 13 pos) (13 * k) 13) = pos := by
    simp only [bitsOf_ofFields hlt, map_range_getD]
  simp only [sparseEncode_eq, List.cons_append, List.nil_append, decodeQuarter, hcount]
  rw [List.take_append_of_le_length (Nat.le_of_eq (leBytes_length _ _).symm), List.take_of_length_le (Nat.le_of_eq (leBytes_length _ _)),
    ofLe_leBytes_of_lt hval, hpos, if_pos ⟨hpol, hmin, hmax, by simp [leBytes_length], hinc⟩]
  simp [leBytes_length, Nat.add_comm 4]

/-! ### LZ (R84) -/

/-- One token ends the decoding, or takes some bytes and adds some to the output, whatever follows these bytes. -/
theorem lzDecode_token {fuel t : Nat} {s rev out left : List Nat} (h : lzDecode (fuel + 1) (t :: s) rev = some (out, left)) :
    (t = 0xFF ∧ out = rev ∧ left = s) ∨ ∃ used s' rev', s = used ++ s' ∧ lzDecode fuel s' rev' = some (out, left) ∧
      ∀ fuel' x, lzDecode (fuel' + 1) (t :: (used ++ x)) rev = lzDecode fuel' x rev' := by
  simp only [lzDecode] at h
  by_cases hend : t = 0xFF
  · rw [if_pos hend] at h
    cases h
    exact .inl ⟨hend, rfl, rfl⟩
  rw [if_neg hend] at h
  refine .inr ?_
  by_cases hlit : t < 0x40
  · rw [if_pos hlit] at h
    split at h
    · cases h
    · next hfit =>
      have hlen : (s.take (t + 1)).length = t + 1 := List.length_take_of_le (Nat.le_of_not_lt hfit)
      refine ⟨s.take (t + 1), s.drop (t + 1), _, (List.take_append_drop _ _).symm, h, fun fuel' x => ?_⟩
      simp only [lzDecode, if_neg hend, if_pos hlit, List.take_left' hlen, List.drop_left' hlen]
      exact if_neg (by rw [List.length_append]; omega)
  rw [if_neg hlit] at h
  by_cases hshort : t < 0x80
  · rw [if_pos hshort] at h
    match s, h with
    | b :: s, h =>
      dsimp only at h
      split at h
      · cases h
      · next hdist =>
        refine ⟨[b], s, _, rfl, h, fun fuel' x => ?_⟩
        simp only [lzDecode, List.cons_append, List.nil_append, if_neg hend, if_neg hlit, if_pos hshort, if_neg hdist]
  rw [if_neg hshort] at h
  by_cases hlong : t < 0xC0
  · rw [if_pos hlong] at h
    match s, h with
    | b :: c :: s, h =>
      dsimp only at h
      split at h
      · cases h
      · next hdist =>
        refine ⟨[b, c], s, _, rfl, h, fun fuel' x => ?_⟩
        simp only [lzDecode, List.cons_append, List.nil_append, if_neg hend, if_neg hlit, if_neg hshort, if_pos hlong, if_neg hdist]
  rw [if_neg hlong] at h
  cases h

/-- What tokens leave is shorter than they are. -/
theorem length_lt_of_lzDecode {fuel : Nat} {s rev out left : List Nat} (h : lzDecode fuel s rev = some (out, left)) :
    left.length < s.length := by
  induction fuel generalizing s rev with
  | zero => cases h
  | succ fuel ih =>
    cases s with
    | nil => cases h
    | cons t s =>
      rcases lzDecode_token h with ⟨-, -, rfl⟩ | ⟨used, s', rev', rfl, hnext, -⟩
      · exact Nat.lt_succ_self _
      · have := ih hnext
        rw [List.length_cons, List.length_append]
        omega

/-- Tokens decode with bytes behind them, which are left. -/
theorem lzDecode_append {fuel : Nat} {s rev out left : List Nat} (h : lzDecode fuel s rev = some (out, left)) (more : Nat) (rest : List Nat) :
    lzDecode (fuel + more) (s ++ rest) rev = some (out, left ++ rest) := by
  induction fuel generalizing s rev with
  | zero => cases h
  | succ fuel ih =>
    rw [Nat.add_right_comm]
    cases s with
    | nil => cases h
    | cons t s =>
      rcases lzDecode_token h with ⟨rfl, rfl, rfl⟩ | ⟨used, s', rev', rfl, hnext, hall⟩
      · rfl
      · rw [List.cons_append, List.append_assoc, hall]
        exact ih hnext

/-- Tokens that decode to a quarter by themselves do so whatever follows them. -/
theorem decodeQuarter_lz_append {lz q : List Nat} (h : decodeQuarter (0x03 :: lz) = (.bytes q, 1 + lz.length)) (rest : List Nat) :
    decodeQuarter (0x03 :: lz ++ rest) = (.bytes q, (0x03 :: lz).length) := by
  rw [decodeQuarter] at h
  split at h
  · next out left hdec =>
    have hleft := length_lt_of_lzDecode hdec
    by_cases hfit : out.length = 1024 ∧ lz.length - left.length ≤ 1024
    · rw [if_pos hfit] at h
      obtain ⟨hq, hlen⟩ := Prod.mk.inj h
      have hnil : left = [] := List.eq_nil_of_length_eq_zero (by omega)
      subst hnil
      have hmore := lzDecode_append hdec rest.length rest
      rw [Nat.add_right_comm, ← List.length_append] at hmore
      have htaken : (lz ++ rest).length - ([] ++ rest).length = lz.length := by simp
      rw [List.cons_append, decodeQuarter, hmore]
      dsimp only
      rw [htaken, if_pos (by simpa using hfit), hq, List.length_cons, Nat.add_comm]
    · rw [if_neg hfit] at h
      cases h
  · cases h

/-! ### The modes -/

/-- Listed ones of a quarter, or of its complement, give it back, whatever follows them. -/
theorem decodeQuarter_sparse_onePositions {pol : Nat} {c : List Nat} (hpol : pol ≤ 1) (hlen : c.length = 1024) (hbyte : ∀ b ∈ c, b < 256)
    (hcount : 1 ≤ (onePositions c).length ∧ (onePositions c).length ≤ 512) (rest : List Nat) :
    decodeQuarter (sparseEncode pol (onePositions c) ++ rest) =
      (.bytes (if (pol == 1) = true then c.map (fun b => 255 - b) else c), (sparseEncode pol (onePositions c)).length) := by
  have hinc : increasing (onePositions c) = true := increasing_of_pairwise (onePositions_eq c ▸ onesFrom_pairwise 0 c)
  rw [decodeQuarter_sparseEncode hpol hcount.1 hcount.2 (lt_of_mem_onePositions hlen) hinc, sparseBytes_onePositions hlen hbyte]

/-- Every mode that can express a quarter reads it back, whatever follows it. -/
theorem decodeQuarter_of_mem_quarterModes {q : List Nat} (hlen : q.length = 1024) (hbyte : ∀ b ∈ q, b < 256) {e : List Nat}
    (he : e ∈ quarterModes q) (rest : List Nat) : decodeQuarter (e ++ rest) = (.bytes q, e.length) := by
  simp only [quarterModes, List.mem_append, List.mem_ite_nil_right, List.mem_singleton, or_assoc] at he
  rcases he with ⟨hzero, rfl⟩ | ⟨hrep, rfl⟩ | ⟨hones, rfl⟩ | ⟨hzeros, rfl⟩ | ⟨⟨-, hlz⟩, rfl⟩ | rfl
  · rw [hzero]
    rfl
  · have htake : (q.take 8).length = 8 := List.length_take_of_le (by omega)
    rw [List.cons_append, decodeQuarter, if_neg (by rw [List.length_append]; omega), List.take_left' htake, ← hrep, List.length_cons, htake]
  · exact decodeQuarter_sparse_onePositions (Nat.zero_le 1) hlen hbyte hones rest
  · have hread := decodeQuarter_sparse_onePositions (c := q.map (fun b => 255 - b)) (Nat.le_refl 1) (by rw [List.length_map, hlen])
      (by simp only [List.forall_mem_map]; omega) hzeros rest
    have hself : (q.map (fun b => 255 - b)).map (fun b => 255 - b) = q := by
      rw [List.map_map]
      exact (List.map_congr_left (fun b hb => Nat.sub_sub_self (Nat.le_of_lt_succ (hbyte b hb)))).trans q.map_id
    rwa [if_pos (by decide), hself] at hread
  · exact decodeQuarter_lz_append hlz rest
  · rw [List.cons_append, decodeQuarter, if_neg (by rw [List.length_append]; omega), List.take_left' hlen, List.length_cons, hlen]

/-- Every mode has a byte. -/
theorem length_pos_of_mem_quarterModes {q e : List Nat} (he : e ∈ quarterModes q) : 1 ≤ e.length := by
  simp only [quarterModes, sparseEncode_eq, List.mem_append, List.mem_ite_nil_right, List.mem_singleton, or_assoc] at he
  rcases he with ⟨-, rfl⟩ | ⟨-, rfl⟩ | ⟨-, rfl⟩ | ⟨-, rfl⟩ | ⟨-, rfl⟩ | rfl <;> exact Nat.succ_pos _

/-- The bytes of a quarter as they are can express every quarter. -/
theorem raw_mem_quarterModes (q : List Nat) : 0x04 :: q ∈ quarterModes q := List.mem_append_right _ List.mem_cons_self

/-! ### The shortest mode (R85) -/

/-- The shortest of some encodings is one of them, and none is shorter. -/
theorem shortest_spec {l : List (List Nat)} (h : l ≠ []) : shortest l ∈ l ∧ ∀ e ∈ l, (shortest l).length ≤ e.length := by
  induction l with
  | nil => exact absurd rfl h
  | cons a l ih =>
    cases l with
    | nil => simp [shortest]
    | cons b l =>
      obtain ⟨hmem, hmin⟩ := ih (List.cons_ne_nil b l)
      have hcons : shortest (a :: b :: l) = if a.length ≤ (shortest (b :: l)).length then a else shortest (b :: l) := rfl
      rw [hcons, List.forall_mem_cons]
      split
      · next hle => exact ⟨List.mem_cons_self, Nat.le_refl _, fun e he => Nat.le_trans hle (hmin e he)⟩
      · next hlt => exact ⟨List.mem_cons_of_mem a hmem, Nat.le_of_not_le hlt, hmin⟩

/-- The encoder takes a mode, and none is shorter. -/
theorem encodeQuarter_spec (q : List Nat) : encodeQuarter q ∈ quarterModes q ∧ ∀ e ∈ quarterModes q, (encodeQuarter q).length ≤ e.length := by
  rw [encodeQuarter]
  split
  · next hzero =>
    refine ⟨?_, fun e he => length_pos_of_mem_quarterModes he⟩
    simp only [quarterModes, if_pos hzero, List.append_assoc]
    exact List.mem_append_left _ List.mem_cons_self
  · exact shortest_spec (List.ne_nil_of_mem (raw_mem_quarterModes q))

/-- Settles O49: every mode reads back, and the encoder takes the shortest, which is no longer than the bytes as they are. -/
theorem quarterEncodingsReadBack : Obligations.QuarterEncodingsReadBack := by
  unfold Obligations.QuarterEncodingsReadBack
  intro q rest hlen hbyte
  obtain ⟨hmem, hmin⟩ := encodeQuarter_spec q
  refine ⟨decodeQuarter_of_mem_quarterModes hlen hbyte hmem rest, hmem, hmin, ?_⟩
  calc (encodeQuarter q).length ≤ (0x04 :: q).length := hmin _ (raw_mem_quarterModes q)
    _ = 1025 := by rw [List.length_cons, hlen]

end Sys2Proof.Machine
end

section
/-! PROOFS. The pool audit. -/

namespace Sys2Proof.Machine

section
variable {d : Device}

/-- While an audit runs a second one does not start. -/
theorem Device.auditStart_busy (h : d.flagReg TIER.AUDIT_CMD.BUSY = true) : d.auditStart = d := if_pos h

/-- An audit starts with no slice noted. -/
theorem Device.auditStart_idle {e : Device} (h : d.flagReg TIER.AUDIT_CMD.BUSY = false)
    (he : e = (d.setReg TIER.AUDIT_CMD.START 1).setReg TIER.AUDIT_CMD.BUSY 1) :
    d.auditStart = { e with tier := { e.tier with auditUsed := [] } } := by
  subst he
  exact if_neg (ne_true_of_eq_false h)

/-- Without an audit none ends. -/
theorem Device.auditDone_idle (h : d.flagReg TIER.AUDIT_CMD.BUSY = false) : d.auditDone = d := if_pos (by simp [h])

/-- The slices in use that an audit keeps (R113). -/
def Device.auditKept (d : Device) : List Nat := d.tier.used.filter (fun s => (d.namedSlices ++ d.tier.auditUsed).contains s)

/-- They are those of before that a record, a migration or an access of the audit names. -/
theorem Device.mem_auditKept {s : Nat} :
    s ∈ d.auditKept ↔ s ∈ d.tier.used ∧ (s ∈ d.namedSlices ∨ s ∈ d.tier.auditUsed) := by
  simp [Device.auditKept]

/-- The Elastic charge that an audit sets (R105). -/
theorem Device.auditCharge_eq : (d.knownPages.filter (fun p => d.elasticLine (64 * p))).foldl (fun (n : Nat) p => n + (d.loaf p).nslice) 0 =
    ((d.knownPages.filter (fun p => d.elasticLine (64 * p))).map (fun p => (d.loaf p).nslice)).foldl (· + ·) 0 := List.foldl_map.symm

/-- An audit that ends keeps what is named, and counts the rest as freed. -/
theorem Device.auditDone_busy (h : d.flagReg TIER.AUDIT_CMD.BUSY = true) : d.auditDone =
    (((((({ d with tier := { d.tier with used := d.auditKept, auditUsed := [], elCharge :=
      ((d.knownPages.filter (fun p => d.elasticLine (64 * p))).map (fun p => (d.loaf p).nslice)).foldl (· + ·) 0 } } : Device).setReg
      TIER.AUDIT_CMD.START 0).setReg TIER.AUDIT_CMD.BUSY 0).countSat TIER.AUDIT_FREED.COUNT 0
      (d.tier.used.length - d.auditKept.length)).evt TIER.flag.AUDIT_DONE).capUpdate) := by
  rw [← Device.auditCharge_eq]
  exact if_neg (by simp [h])

end

/-- Settles O29: the audit is gated by BUSY, and what it keeps is what is named. -/
theorem poolAudit : Obligations.PoolAudit := by
  unfold Obligations.PoolAudit
  intro d w
  exact ⟨fun hbusy => leads_of_exec rfl (Device.auditStart_busy hbusy),
    fun hidle => ⟨_, rfl, leads_of_exec rfl (Device.auditStart_idle hidle rfl)⟩,
    fun hidle => leads_of_exec rfl (Device.auditDone_idle hidle),
    fun hbusy => ⟨d.auditKept, fun _ => Device.mem_auditKept, leads_of_exec rfl (Device.auditDone_busy hbusy)⟩⟩

end Sys2Proof.Machine
end

section
/-! PROOFS. Evictions and writebacks of frames, the sweeps of the Baker, and its migrations. -/

namespace Sys2Proof.Machine

section
variable {d : Device} {lpn : Nat} {f : Frame}

/-! ### Evictions (R91, R92) -/

/-- A loaf without a frame has none to evict or to write back. -/
theorem Device.frame_none (h : d.frame lpn = none) : d.evictFrame lpn = d ∧ ∀ bad, d.writebackDone lpn bad = d := by
  refine ⟨?_, fun bad => ?_⟩
  · rw [Device.frame] at h
    rw [Device.evictFrame, h]
  · rw [Device.writebackDone, h]

theorem Device.dropSnap_eq (h : d.frame lpn = some f) :
    d.dropSnap lpn = { d with tier := { d.tier with frames := KMap.put d.tier.frames lpn { f with snap := none, again := [] } } } := by
  rw [Device.dropSnap, h]

/-- A frame whose snapshot is taken is not evicted again. -/
theorem Device.evictFrame_snap (h : d.frame lpn = some f) (hsnap : f.snap.isSome = true) : d.evictFrame lpn = d := by
  rw [Device.frame] at h
  rw [Device.evictFrame, h]
  exact if_pos hsnap

/-- A frame without a snapshot has no writeback that ends. -/
theorem Device.writebackDone_no_snap (h : d.frame lpn = some f) (hsnap : f.snap = none) (bad : Option Nat) :
    d.writebackDone lpn bad = d := by
  simp only [Device.writebackDone, h, hsnap]

/-- A frame without dirty lines is dropped. -/
theorem Device.evictFrame_clean (h : d.frame lpn = some f) (hsnap : f.snap = none)
    (hclean : (f.lines.keep (fun _ t => t.dirty)).isEmpty = true) :
    d.evictFrame lpn = { d with tier := { d.tier with frames := KMap.drop d.tier.frames lpn } } := by
  rw [Device.frame] at h
  simp only [Device.evictFrame, h, hsnap, hclean, Option.isSome_none, Bool.false_eq_true, if_false, if_true]

/-- A snapshot of the dirty lines of a frame is taken. -/
theorem Device.evictFrame_dirty {e : Device} (h : d.frame lpn = some f) (hsnap : f.snap = none)
    (hdirty : (f.lines.keep (fun _ t => t.dirty)).isEmpty = false) (he : e = d.cancelMigration lpn) : d.evictFrame lpn =
      { e with tier := { e.tier with frames := KMap.put e.tier.frames lpn { f with snap := some (f.lines.keep (fun _ t => t.dirty)), again := [] } } } := by
  subst he
  rw [Device.frame] at h
  simp only [Device.evictFrame, h, hsnap, hdirty, Option.isSome_none, Bool.false_eq_true, if_false]

/-! ### Writebacks (R91, R93, R102, R426) -/

section
variable {snap : KMap T0Line} {bake : Bool} {hand : Nat → Option T0Line} {carry : Nat → Bool}
  (h : d.frame lpn = some f) (hsnap : f.snap = some snap)
  (hbake : bake = (bakes (d.loaf lpn) (d.loafPolicy lpn).1 (d.loafPolicy lpn).2 && !(snap.any (fun e => e.2.poison))))
  (hhand : hand = d.handOf lpn f snap)
  (hcarry : carry = (fun q => bake && !((List.range 16).any (fun i => (KMap.find snap (16 * q + i)).isSome))))
include h hsnap hhand

/-- A writeback that must wait tells of full pins. -/
theorem Device.writebackDone_waits (hwait : d.writebackWaits lpn hand = true) (bad : Option Nat) :
    d.writebackDone lpn bad = d.pinsFull lpn := by
  subst hhand
  simp only [Device.writebackDone, h, hsnap]
  exact if_pos hwait

include hbake hcarry

/-- One that needs lines of the twin asks for them. -/
theorem Device.writebackDone_asks (hgo : d.writebackWaits lpn hand = false) (htwin : d.twinServes = true)
    (hout : (d.outLines lpn hand carry).isEmpty = false) (bad : Option Nat) :
    d.writebackDone lpn bad = d.askFor (d.outLines lpn hand carry) f.cls := by
  subst hcarry hhand hbake
  simp only [Device.writebackDone, h, hsnap]
  exact (if_neg (ne_true_of_eq_false hgo)).trans (if_pos (by rw [htwin, hout]; rfl))

/-- Any other reads the record and is written in place, or gathered and laid out. -/
theorem Device.writebackDone_goes (hgo : d.writebackWaits lpn hand = false)
    (hready : d.twinServes = false ∨ (d.outLines lpn hand carry).isEmpty = true) {e : Device} {r : LoafRec}
    (he : e = (d.cancelMigration lpn).touchRecord lpn f.cls) (hr : r = e.loaf lpn) {g : Device} {qs : List QuarterSrc} {n : Nat}
    (hgather : e.gather lpn f.cls r bake hand (fun i => (KMap.find snap i).isSome) = (g, qs, n)) (bad : Option Nat) :
    d.writebackDone lpn bad = if r.plain && !bake && e.snapServes r snap then e.writebackInPlace lpn r f.cls snap
      else g.writebackLay lpn r f.cls snap (planWriteback r (d.loafPolicy lpn).1 (d.loafPolicy lpn).2 qs) qs n (e.snapServes r snap) bad := by
  have hnoask : ¬(d.twinServes && !(d.outLines lpn hand carry).isEmpty) = true := by
    rcases hready with hready | hready <;> simp [hready]
  subst hcarry hhand hr he hbake
  simp only [Device.writebackDone, h, hsnap]
  refine ((if_neg (ne_true_of_eq_false hgo)).trans (if_neg hnoask)).trans ?_
  rw [hgather]

end

/-- A layout that bakes is stored, or its stream fails the check. -/
theorem Device.writebackLay_bakes {r : LoafRec} {cls n : Nat} {snap : KMap T0Line} {p : Plan} {qs : List QuarterSrc} {ok : Bool}
    (hp : p = .zero ∨ ∃ s q, p = .baked s q) (bad : Option Nat) : d.writebackLay lpn r cls snap p qs n ok bad =
      bad.elim ((d.relayout lpn cls r p qs n).frameWritten lpn snap) (fun x => (d.verifyFail x).dropSnap lpn) := by
  rcases hp with rfl | ⟨s, q, rfl⟩ <;> cases bad <;> rfl

/-- A PLAIN layout is written in place where the loaf is PLAIN and its channels serve, and stored anew otherwise. -/
theorem Device.writebackLay_plain {r : LoafRec} {cls n : Nat} {snap : KMap T0Line} {qs : List QuarterSrc} {ok : Bool} (bad : Option Nat) :
    d.writebackLay lpn r cls snap .plain qs n ok bad = if r.plain && ok then d.writebackInPlace lpn r cls snap
      else (d.relayout lpn cls r .plain qs n).frameWritten lpn snap := rfl

/-! ### Sweeps (R95) -/

theorem Device.sweepStart_off (h : d.flagReg BAKER.BAKER_CTL.RUN = false ∨ d.paused = true) : d.sweepStart = d :=
  if_pos (by rcases h with h | h <;> simp [h])

section
variable (hrun : d.flagReg BAKER.BAKER_CTL.RUN = true) (hgo : d.paused = false)
include hrun hgo

/-- A sweep starts with no loaf skipped and lowers every HEAT. -/
theorem Device.sweepStart_starts (h : d.tier.sweeping = false) :
    d.sweepStart = ({ d with tier := { d.tier with sweeping := true, sweepSkip := [] } } : Device).coolDown := by
  simp [Device.sweepStart, hrun, hgo, h]

/-- While one runs another is noted as due, with BUDGET_LIMITED the first time. -/
theorem Device.sweepStart_due {e : Device} (h : d.tier.sweeping = true)
    (he : e = if d.tier.sweepDue then d else d.evt BAKER.flag.BUDGET_LIMITED) :
    d.sweepStart = { e with tier := { e.tier with sweepDue := true } } := by
  simp [Device.sweepStart, hrun, hgo, h, he]

end

theorem Device.sweepEnd_none (h : d.tier.sweeping = false) : d.sweepEnd = d := if_pos (by simp [h])

/-- A sweep ends with SWEEP_DONE, and a due one starts. -/
theorem Device.sweepEnd_eq {e : Device} (h : d.tier.sweeping = true)
    (he : e = ({ d with tier := { d.tier with sweeping := false, sweepDue := false } } : Device).evt BAKER.flag.SWEEP_DONE) :
    d.sweepEnd = if d.tier.sweepDue then e.sweepStart else e := by
  subst he
  exact if_neg (by simp [h])

/-! ### The start of a migration (R100, R110, R114) -/

/-- Does the Baker pass a loaf by: it does not run, the loaf is moved already or was skipped, 32 migrate, or the loaf is homed elsewhere? -/
def Device.bakerPasses (d : Device) (lpn : Nat) : Bool :=
  !(d.flagReg BAKER.BAKER_CTL.RUN) || d.paused || (d.tier.migrations.any (fun m => m.lpn == lpn) || decide (32 ≤ d.tier.migrations.length)
    || d.tier.sweepSkip.contains lpn) || !(d.homesLoaf lpn)

theorem Device.bakerPasses_iff : d.bakerPasses lpn = true ↔ d.flagReg BAKER.BAKER_CTL.RUN = false ∨ d.paused = true ∨
    d.tier.migrations.any (fun m => m.lpn == lpn) = true ∨ 32 ≤ d.tier.migrations.length ∨ d.tier.sweepSkip.contains lpn = true ∨
    d.homesLoaf lpn = false := by
  simp only [Device.bakerPasses, Bool.or_eq_true, Bool.not_eq_true', decide_eq_true_eq, or_assoc]

/-- A loaf that the Baker passes by, and one in no region, stay as they are. -/
theorem Device.migrationStart_eq_self {bad : Option Nat} (h : d.bakerPasses lpn = true ∨ d.regionOfLine (64 * lpn) = none) :
    d.migrationStart lpn bad = d := by
  rcases h with hpass | hnone
  · exact if_pos hpass
  · unfold Device.migrationStart; dsimp only
    rw [hnone]
    exact ite_self d

section
variable {e : Device} {i : Nat} {g : Region} (hgo : d.bakerPasses lpn = false) (hreg : d.regionOfLine (64 * lpn) = some (i, g))
  (he : e = d.touchRecord lpn (d.reg BAKER.BAKER_CTL.CLASS))
include hgo hreg he

/-- A loaf that is not to be moved is skipped in this sweep. -/
theorem Device.migrationStart_skips (hkind : e.migKind lpn g = none) (bad : Option Nat) :
    d.migrationStart lpn bad = e.migSkip lpn g := by
  subst he
  refine (if_neg (ne_true_of_eq_false hgo)).trans ?_
  rw [hreg]
  dsimp only
  rw [hkind]

/-- A loaf to move asks the twin for the lines that only it can give, or migrates. -/
theorem Device.migrationStart_moves {k : MigKind} (hkind : e.migKind lpn g = some k) (bad : Option Nat) : d.migrationStart lpn bad =
    if e.twinServes && !(e.migLines lpn k).isEmpty then
      { e.askFor (e.migLines lpn k) (d.reg BAKER.BAKER_CTL.CLASS) with tier :=
        { (e.askFor (e.migLines lpn k) (d.reg BAKER.BAKER_CTL.CLASS)).tier with bakeAsk := lpn :: e.tier.bakeAsk.filter (fun x => x != lpn) } }
    else ({ e with tier := { e.tier with
      bakeAsk := e.tier.bakeAsk.filter (fun x => x != lpn),
      promotions := if k == MigKind.promote then e.tier.promotions.filter (fun x => x != lpn) else e.tier.promotions } } : Device).migrate
        lpn k (e.loaf lpn) bad := by
  subst he
  refine (if_neg (ne_true_of_eq_false hgo)).trans ?_
  rw [hreg]
  dsimp only
  rw [hkind]

end

/-- What the Baker does with a loaf, in the order of its checks. -/
theorem Device.migKind_eq_some {g : Region} {k : MigKind} (h : (d.bakeCandidate lpn g = true ∧ k = .bake) ∨
    (d.bakeCandidate lpn g = false ∧ d.mayPromote lpn = true ∧ k = .promote) ∨
    (d.bakeCandidate lpn g = false ∧ d.mayPromote lpn = false ∧ d.mayRelocate lpn = true ∧ k = .relocate)) : d.migKind lpn g = some k := by
  rcases h with ⟨hb, rfl⟩ | ⟨hb, hp, rfl⟩ | ⟨hb, hp, hr, rfl⟩ <;> simp [Device.migKind, *]

theorem Device.migKind_eq_none {g : Region} (hbake : d.bakeCandidate lpn g = false) (hpromote : d.mayPromote lpn = false)
    (hrelocate : d.mayRelocate lpn = false) : d.migKind lpn g = none := by
  simp [Device.migKind, *]

/-! ### The layout of a migration (R86, R100, R102, R440) -/

section
variable {k : MigKind} {bad : Option Nat} {qs : List QuarterSrc} {n : Nat}

/-- A loaf with poison stays as it is. -/
theorem Device.migrateLay_poisoned (h : qs.any QuarterSrc.poisoned = true) :
    d.migrateLay lpn k bad qs n = d.chargeDeq (d.reg BAKER.BAKER_CTL.CLASS) (64 * n) := if_pos h

/-- A promotion begins with a PLAIN layout. -/
theorem Device.migrateLay_promote (h : qs.any QuarterSrc.poisoned = false) :
    d.migrateLay lpn .promote bad qs n = d.beginMigration lpn .promote .plain qs n := if_neg (ne_true_of_eq_false h)

/-- A bake that does not compress gives HEAT 3, a stream that fails its check is reported, and any other migration begins. -/
theorem Device.migrateLay_bakes (h : qs.any QuarterSrc.poisoned = false) (hk : k ≠ .promote) : d.migrateLay lpn k bad qs n =
    if planBake qs = .plain ∧ k = .bake then
      { d.chargeDeq (d.reg BAKER.BAKER_CTL.CLASS) (64 * n) with tier := { d.tier with heat := KMap.put d.tier.heat lpn 3 } }
    else if planBake qs = .plain ∨ bad = none then d.beginMigration lpn k (planBake qs) qs n
    else (d.chargeDeq (d.reg BAKER.BAKER_CTL.CLASS) (64 * n)).verifyFail (bad.getD 0) := by
  unfold Device.migrateLay; dsimp only
  rw [if_neg (ne_true_of_eq_false h), if_neg hk]
  cases planBake qs with
  | plain => simp
  | zero => cases bad <;> simp
  | baked s q => cases bad <;> simp

/-- A migration gathers its quarters; one that meets a corrupt quarter or an uncorrectable slice is cancelled. -/
theorem Device.migrate_eq {e : Device} {r : LoafRec}
    (hgather : d.gather lpn (d.reg BAKER.BAKER_CTL.CLASS) r (k == .relocate) (fun i => KMap.find d.tier.fetched (64 * lpn + i))
      (fun _ => false) = (e, qs, n)) : d.migrate lpn k r bad =
    if k == .promote && qs.any QuarterSrc.corrupt then
      ((e.lostQuarters lpn (d.reg BAKER.BAKER_CTL.CLASS) r qs).chargeDeq (d.reg BAKER.BAKER_CTL.CLASS) (64 * n)).countWrap BAKER.CANCELS.COUNT
    else if d.loafHurt r then (e.chargeDeq (d.reg BAKER.BAKER_CTL.CLASS) (64 * n)).countWrap BAKER.CANCELS.COUNT
    else e.migrateLay lpn k bad qs n := by
  unfold Device.migrate; dsimp only
  rw [hgather]

end

/-! ### The end of a migration (R100) -/

/-- A migration that does not run, or waits for its countersign while mirrored, does not end. -/
theorem Device.migrationFinish_none (h : d.tier.migrations.find? (fun m => m.lpn == lpn) = none) : d.migrationFinish lpn = d := by
  rw [Device.migrationFinish, h]

section
variable {m : Migration} (h : d.tier.migrations.find? (fun m => m.lpn == lpn) = some m)
include h

theorem Device.migrationFinish_waits (hwait : m.waiting.isSome = true) (hmir : d.mirrored lpn = true) : d.migrationFinish lpn = d := by
  rw [Device.migrationFinish, h]
  exact if_pos (by simp [hwait, hmir])

/-- One that ends replaces the old record, and a bake or promotion is counted. -/
theorem Device.migrationFinish_ends {e : Device} (hgo : m.waiting = none ∨ d.mirrored lpn = false)
    (he : e = ({ d with tier := { d.tier with migrations := d.tier.migrations.filter (fun x => x.lpn != lpn) } } : Device).changeRecord lpn
      (LoafRec.ofWord m.oldRec) (LoafRec.ofWord m.newRec)) : d.migrationFinish lpn =
      match m.kind with
      | .bake => e.countWrap BAKER.BAKES.COUNT
      | .promote => e.countWrap BAKER.PROMOTES.COUNT
      | .relocate => e := by
  subst he
  rw [Device.migrationFinish, h]
  exact if_neg (by rcases hgo with hgo | hgo <;> simp [hgo])

end

end

/-! ### The obligation -/

/-- Settles O28: each command runs its operation, and the guards of the operation tell which of its cases it is. -/
theorem framesSweepsAndMigrations : Obligations.FramesSweepsAndMigrations := by
  unfold Obligations.FramesSweepsAndMigrations
  intro d w lpn
  refine ⟨?_, fun f hf => Device.dropSnap_eq hf, ?_, ?_, ?_, ?_, ?_, ?_, ?_, ?_, ?_, ?_, ?_, ?_, ?_⟩
  · intro hnone
    obtain ⟨hevict, hback⟩ := Device.frame_none hnone
    exact ⟨leads_of_exec rfl hevict, fun b => leads_of_exec rfl (hback b)⟩
  · exact fun f hf hsnap => ⟨fun b => leads_of_exec rfl (Device.writebackDone_no_snap hf hsnap b),
      fun hclean => leads_of_exec rfl (Device.evictFrame_clean hf hsnap hclean),
      fun hdirty => ⟨_, rfl, leads_of_exec rfl (Device.evictFrame_dirty hf hsnap hdirty rfl)⟩⟩
  · refine fun f snap hf hsnap => ⟨leads_of_exec rfl (Device.evictFrame_snap hf (by rw [hsnap]; rfl)),
      fun bad bake hand carry hbake hhand hcarry => ⟨fun hwait => leads_of_exec rfl (Device.writebackDone_waits hf hsnap hhand hwait bad),
        fun hgo htwin hout => leads_of_exec rfl (Device.writebackDone_asks hf hsnap hbake hhand hcarry hgo htwin hout bad),
        fun hgo hready e r he hr => ?_⟩⟩
    have hdone {g : Device} {qs : List QuarterSrc} {n : Nat} (hgather : e.gather lpn f.cls r bake hand _ = (g, qs, n)) :=
      Device.writebackDone_goes hf hsnap hbake hhand hcarry hgo hready he hr hgather bad
    refine ⟨fun hplain hnobake hserves => ?_, fun hlay g qs n hgather => ?_⟩
    · exact leads_of_exec rfl ((hdone rfl).trans (if_pos (by simp [hplain, hnobake, hserves])))
    · have hnew := (hdone hgather).trans (if_neg (by rcases hlay with h | h | h <;> simp [h]))
      refine ⟨fun p hp hbakes => ?_, fun hp => ?_⟩
      · rw [hp, Device.writebackLay_bakes hbakes] at hnew
        refine ⟨?_, ?_⟩
        · rintro rfl
          exact leads_of_exec rfl hnew
        · rintro x rfl
          exact leads_of_exec rfl hnew
      · rw [hp, Device.writebackLay_plain] at hnew
        exact ⟨fun hplain hserves => leads_of_exec rfl (hnew.trans (if_pos (by simp [hplain, hserves]))),
          fun hanew => leads_of_exec rfl (hnew.trans (if_neg (by rcases hanew with h | h <;> simp [h])))⟩
  · refine fun hrun hgo => ⟨fun hfirst => leads_of_exec rfl (Device.sweepStart_starts hrun hgo hfirst), fun hsweep hdue => ?_,
      fun hsweep hdue => ⟨_, rfl, ?_⟩⟩
    · exact leads_of_exec rfl (Device.sweepStart_due hrun hgo hsweep (if_pos hdue).symm)
    · exact leads_of_exec rfl (Device.sweepStart_due hrun hgo hsweep (if_neg (ne_true_of_eq_false hdue)).symm)
  · exact fun hoff => leads_of_exec rfl (Device.sweepStart_off hoff)
  · exact fun hsweep hdue => leads_of_exec rfl ((Device.sweepEnd_eq hsweep rfl).trans (if_neg (ne_true_of_eq_false hdue)))
  · exact fun hsweep hdue => leads_of_exec rfl ((Device.sweepEnd_eq hsweep rfl).trans (if_pos hdue))
  · exact fun hnone => leads_of_exec rfl (Device.sweepEnd_none hnone)
  · refine fun bad hbar => leads_of_exec rfl (Device.migrationStart_eq_self ?_)
    rw [Device.bakerPasses_iff]
    simpa only [or_assoc] using hbar
  · intro bad g i e hrun hawake hnew hroom hskip hhome hreg he
    have hgo : d.bakerPasses lpn = false := by
      rw [← Bool.not_eq_true, Device.bakerPasses_iff]
      simp [-List.any_eq_true, -List.contains_eq_mem, hrun, hawake, hnew, hroom, hskip, hhome]
    refine ⟨fun k hk => ?_, fun hbake hpromote hrelocate => ?_⟩
    · have hmoves := Device.migrationStart_moves hgo hreg he (Device.migKind_eq_some hk) bad
      refine ⟨fun htwin hlines => ⟨_, rfl, leads_of_exec rfl (hmoves.trans (if_pos (by rw [htwin, hlines]; rfl)))⟩,
        fun hready => leads_of_exec rfl (hmoves.trans (if_neg ?_))⟩
      rcases hready with h | h <;> simp [h]
    · exact leads_of_exec rfl (Device.migrationStart_skips hgo hreg he (Device.migKind_eq_none hbake hpromote hrelocate) bad)
  · intro k r bad e qs n hgather
    have hmig := Device.migrate_eq (bad := bad) hgather
    refine ⟨fun hcorrupt => hmig.trans (if_pos hcorrupt), fun hwhole => ?_⟩
    replace hmig := hmig.trans (if_neg (ne_true_of_eq_false hwhole))
    refine ⟨fun hhurt => hmig.trans (if_pos hhurt), ?_⟩
    rintro hsound cls rfl
    replace hmig := hmig.trans (if_neg (ne_true_of_eq_false hsound))
    refine ⟨fun hpoison => hmig.trans (Device.migrateLay_poisoned hpoison), fun hclean => ⟨?_, fun hk => ?_⟩⟩
    · rintro rfl
      exact hmig.trans (Device.migrateLay_promote hclean)
    · exact hmig.trans (Device.migrateLay_bakes hclean hk)
  · exact fun m hm hwait hmir => leads_of_exec rfl (Device.migrationFinish_waits hm hwait hmir)
  · intro m hm hgo
    have hends := Device.migrationFinish_ends hm hgo rfl
    refine ⟨_, rfl, fun hkind => ?_, fun hkind => ?_, fun hkind => ?_⟩ <;>
    · rw [hkind] at hends
      exact leads_of_exec rfl hends
  · exact fun hnone => leads_of_exec rfl (Device.migrationFinish_none hnone)

end Sys2Proof.Machine
end

section
/-! PROOFS. The scrubber, the Proofer, the Tier-0 patrol and retirement. -/

namespace Sys2Proof.Machine

section
variable {d : Device}

/-! ### The scrubber (R447 to R449) -/

theorem Device.scrubStep_pauses {priv : Bool} {err : List Nat}
    (h : d.paused = true ∨ d.flagReg INTEG.SCRUB_CTL.EN = false ∨ d.pageOn .integ = false ∨ d.twin.svc = .start) :
    d.scrubStep priv err = d := if_pos (by rcases h with h | h | h | h <;> simp [h])

section
variable (hgo : d.paused = false) (hon : d.flagReg INTEG.SCRUB_CTL.EN = true) (hpage : d.pageOn .integ = true) (hsvc : d.twin.svc ≠ .start)
include hgo hon hpage hsvc

/-- A step in the area of R69 reads its next burst. -/
theorem Device.scrubStep_area (err : List Nat) : d.scrubStep true err =
    (d.setInteg { d.integ with scrubPriv := (d.integ.scrubPriv + 1) % 2 ^ 26 }).scrubRead (d.privateBase + 64 * d.integ.scrubPriv) err :=
  if_neg (by simp [hgo, hon, hpage, hsvc])

/-- Another reads the next burst of the table walk, if there is one. -/
theorem Device.scrubStep_walk {e : Device} {x : Option Nat} (hx : d.scrubNext 6 = (e, x)) (err : List Nat) :
    d.scrubStep false err = x.elim e (fun ra => e.scrubRead ra err) := by
  refine (if_neg (by simp [hgo, hon, hpage, hsvc])).trans ?_
  rw [hx]
  cases x <;> rfl

end

/-! ### The Proofer (R450 to R452) -/

theorem Device.proofStart_empty (h : d.integ.queue = []) : d.proofStart = d := by rw [Device.proofStart, h]

section
variable {row ra : Nat} {rest : List (Nat × Nat)} (h : d.integ.queue = (row, ra) :: rest)
include h

theorem Device.proofStart_eq_self (hbar : d.paused = true ∨ d.integ.test.isSome = true ∨ d.flagReg INTEG.PROOF_CTL.EN = false ∨
    (d.chan (channelOf ra)).inService = false) : d.proofStart = d := by
  rw [Device.proofStart, h]
  exact if_pos (by rcases hbar with hbar | hbar | hbar | hbar <;> simp [hbar])

/-- The next queued row is checked in two scratch frames, and its test starts. -/
theorem Device.proofStart_starts {e f : Device} (hgo : d.paused = false) (hidle : d.integ.test = none)
    (hon : d.flagReg INTEG.PROOF_CTL.EN = true) (hserves : (d.chan (channelOf ra)).inService = true)
    (he : e = (d.setInteg { d.integ with queue := rest }).takeScratch.takeScratch)
    (hf : f = (e.rowBursts (e.dramLoc ra)).foldl (fun x a => x.checkBurst a (x.reg INTEG.SCRUB_CTL.CLASS)) e) : d.proofStart =
      (f.setInteg { f.integ with queue := f.integ.queue.filter (fun x => x.1 != row), test := some { row := row, ra := ra } }).setReg
        INTEG.PROOF_STAT.BUSY 1 := by
  unfold Device.proofStart
  rw [h]
  dsimp only
  rw [if_neg (by simp [hgo, hidle, hon, hserves]), hf, he]

end

theorem Device.proof_idle (h : d.integ.test = none) : (∀ lanes, d.proofHold lanes = d) ∧ d.proofDone = d :=
  ⟨fun lanes => by rw [Device.proofHold, h], by rw [Device.proofDone, h]⟩

section
variable {t : ProofTest} (h : d.integ.test = some t)
include h

/-- A hold time adds the failing lanes and counts a write and two reads of the row, and the test goes on. -/
theorem Device.proof_goes (hfew : t.patterns < 4) (lanes : Nat) : d.proofHold lanes =
    ((d.setInteg { d.integ with test := some { t with patterns := t.patterns + 1, lanes := t.lanes ||| (lanes % 2 ^ 40) } }).addCount
      DDRCH.WRITES.COUNT (8 * 2 ^ d.hw.colBits) (channelOf t.ra)).addCount DDRCH.READS.COUNT (2 * (8 * 2 ^ d.hw.colBits)) (channelOf t.ra) ∧
    d.proofDone = d := by
  rw [Device.proofHold, Device.proofDone, h]
  exact ⟨if_pos hfew, if_pos hfew⟩

theorem Device.proofHold_over (hall : 4 ≤ t.patterns) (lanes : Nat) : d.proofHold lanes = d := by
  rw [Device.proofHold, h]
  exact if_neg (Nat.not_lt.mpr hall)

/-- A test ends after four patterns: its row is restored, and its verdict is recorded. -/
theorem Device.proofDone_ends {e : Device} {v : Nat} (hall : 4 ≤ t.patterns) (he : e = d.restoreRow t d.integ.kept.length)
    (hv : v = (if t.lanes ≠ 0 then 2 else if (d.integ.history.find? (fun e => e.1 == t.row)).any
      (fun e => decide (d.time ≤ e.2 + 1000000000 * (86400 * d.reg INTEG.PROOF_CTL.WINDOW_D))) = true then 1 else 0)) : d.proofDone =
    (((e.setInteg { e.integ with test := none, tested := KMap.put e.integ.tested t.row e.time }).setReg INTEG.PROOF_STAT.BUSY 0).countSat
      INTEG.PROOF_TESTS.COUNT).verdict t.ra v (lanePositions t.lanes) t.lanes := by
  subst hv he
  rw [Device.proofDone, h]
  refine (if_neg (Nat.not_lt.mpr hall)).trans ?_
  cases d.integ.history.find? (fun e => e.1 == t.row) <;> simp only [bne_iff_ne, Option.any]

end

/-! ### The Tier-0 patrol (R445, R446) -/

/-- The device after a corrected word is counted and reported. -/
def Device.t0Corrected (d : Device) (area item : Nat) : Device :=
  (d.countSat INTEG.T0_CES.COUNT).raise INTEG.flag.T0_CE 0 (area :: leBytes 6 item) (area :: leBytes 6 item)

/-- The frame of a line is fenced, and its loaf leaves it. -/
def Device.fenceFrame (d : Device) (item : Nat) : Device :=
  let f := ((d.setInteg { d.integ with fixes := KMap.drop d.integ.fixes (lpnOf item) }).countSat INTEG.T0_FENCED.FRAMES).evt INTEG.flag.FENCED
  ({ f with tier := { f.tier with fenced := f.tier.fenced ++ [t0Set (lpnOf item)] } } : Device).evictFrame (lpnOf item)

section
variable {e : Device} {area item : Nat} (he : e = d.t0Corrected area item)
include he

theorem Device.t0Fixed_no_frame (h : area ≠ 0 ∨ e.frame (lpnOf item) = none) : d.t0Fixed area item = e := by
  subst he
  exact if_pos (h.imp_right (fun hnone => by rw [← Device.t0Corrected, hnone]; rfl))

/-- The third correction of a frame within 24 h fences it; another is noted. -/
theorem Device.t0Fixed_frame {times : List Nat} (harea : area = 0) (hframe : (e.frame (lpnOf item)).isSome = true)
    (htimes : times = e.time :: (KMap.get e.integ.fixes [] (lpnOf item)).filter (fun t => decide (e.time < t + 86400 * 1000000000))) :
    d.t0Fixed area item = if 3 ≤ times.length then e.fenceFrame item
      else e.setInteg { e.integ with fixes := KMap.put e.integ.fixes (lpnOf item) times } := by
  subst htimes he
  refine if_neg ?_
  rw [← Device.t0Corrected, not_or, Bool.not_eq_true, Option.isNone_eq_false_iff]
  exact ⟨not_not_intro harea, hframe⟩

end

/-- After an uncorrectable word waiting work proceeds. -/
theorem leads_t0Patrol_uncorr {w : List Instr} {area item : Nat} {e : Device} (h : d.t0Uncorr area item = e) :
    Leads (.t0Patrol area item 2) ⟨d, w⟩ e.proceed := by
  subst h
  refine leads_of_exec (x := if 2 = 0 then d else if 2 = 1 then d.t0Fixed area item else (d.t0Uncorr area item).proceed) rfl ?_
  exact (if_neg (by decide)).trans (if_neg (by decide))

/-- A fetch from the twin for a word that the patrol found uncorrectable. -/
def Device.patrolFetch (d : Device) (item kind : Nat) : Device :=
  let h := { d with twin := { d.twin with fetches := d.twin.fetches ++ [(d.twin.nextFetch, item, kind)], nextFetch := d.twin.nextFetch + 1 } }
  h.sendFetch d.twin.nextFetch item (h.reg INTEG.SCRUB_CTL.CLASS)

section
variable {e : Device} {item : Nat} (he : e = d.countSat INTEG.T0_UNCORRS.COUNT)
include he

theorem Device.t0Uncorr_no_line (h : e.t0Line item = none) : d.t0Uncorr 0 item = e := by
  subst he
  simp only [Device.t0Uncorr, h, if_true]

/-- A clean hot-data line is dropped, a dirty one is dropped and fetched from a serving twin, or poisoned. -/
theorem Device.t0Uncorr_line {t : T0Line} {f : Frame} {g : Device} (hline : e.t0Line item = some t) (hframe : e.frame (lpnOf item) = some f)
    (hg : g = { e with tier := { e.tier with frames := KMap.put e.tier.frames (lpnOf item) { f with lines := KMap.drop f.lines (item % 64) } } }) :
    d.t0Uncorr 0 item = if t.dirty = false then g.raise INTEG.flag.T0_REFETCH 0 (0 :: leBytes 6 item) (0 :: leBytes 6 item)
      else if e.twinServes then g.patrolFetch item 4
      else (e.putT0 item { data := 0, poison := true, dirty := true } f.cls).raise INTEG.flag.T0_UNCORR 0 (0 :: leBytes 6 item)
        (0 :: leBytes 6 item) := by
  subst hg he
  simp only [Device.t0Uncorr, hline, hframe, if_true, Bool.not_eq_true']
  rfl

/-- A cached record is read again, or POISONED if pinned. -/
theorem Device.t0Uncorr_record : d.t0Uncorr 1 item = if e.chans.any (fun x => x.2.pinned.contains item) then
      ((e.chargeChange item (if (LoafRec.ofWord (e.recordWord item)).ok then LoafRec.ofWord (e.recordWord item) else {})
        { state := 4 }).writeRecord item 4).raise INTEG.flag.T0_UNCORR 0 (1 :: leBytes 6 item) (1 :: leBytes 6 item)
    else ({ e with tier := { e.tier with recCache := e.tier.recCache.filter (fun l => l != item) } } : Device).raise INTEG.flag.T0_REFETCH 0
      (1 :: leBytes 6 item) (1 :: leBytes 6 item) := by
  subst he
  rfl

theorem Device.t0Uncorr_no_batch (h : e.batch.home.find? (fun b => (KMap.find b.shadow item).isSome) = none) : d.t0Uncorr 2 item = e := by
  subst he
  simp [Device.t0Uncorr, h]

/-- A word of a batch aborts it, or, its record sent, is poisoned and fetched from a serving twin. -/
theorem Device.t0Uncorr_batch {b : HomeBatch} {g : Device} (h : e.batch.home.find? (fun b => (KMap.find b.shadow item).isSome) = some b)
    (hg : g = e.setBatch { b with shadow := KMap.put b.shadow item { data := 0, poison := true, dirty := true } }) : d.t0Uncorr 2 item =
    if b.committing = false then e.abortBatch b 2 else if b.sent = false then e.abortCommit b 2
    else if g.twinServes then g.patrolFetch item 5
    else g.raise INTEG.flag.T0_UNCORR 0 (2 :: leBytes 6 item) (2 :: leBytes 6 item) := by
  subst hg he
  simp only [Device.t0Uncorr, h, Nat.reduceEqDiff, reduceIte, Bool.not_eq_true']
  rfl

end

/-! ### Retirement (R453, R454) -/

section
variable (hlock : (d.page .integ).lock = false)
include hlock

theorem Device.retireStart_busy (h : d.flagReg INTEG.RETIRE_CMD.BUSY = true) (bank : Bool) : d.retireStart bank = d :=
  (d.rwl_unlocked hlock _ _).trans (if_pos h)

/-- A retirement starts with the result of its checks. -/
theorem Device.retireStart_starts {run : RetireRun} {bank : Bool} (h : d.flagReg INTEG.RETIRE_CMD.BUSY = false)
    (hrun : run = RetireRun.mk (if bank then 2 else 1) (if bank then (d.retirePlace bank).bankKey else (d.retirePlace bank).rowKey)
      (d.retireResult bank)) :
    d.retireStart bank = (d.setInteg { d.integ with retire := some run }).setReg INTEG.RETIRE_CMD.BUSY 1 := by
  subst hrun
  exact (d.rwl_unlocked hlock _ _).trans (if_neg (ne_true_of_eq_false h))

end

theorem Device.retireDone_none (h : d.integ.retire = none) : d.retireDone = d := by rw [Device.retireDone, h]

section
variable {run : RetireRun}

/-- The capacity is checked again where the result was 0. -/
theorem Device.retireAgain_eq {x : Nat} (hagain : run.result = 0 → d.retireFits (run.op == 2) run.bank = false → x = 1)
    (hkeep : run.result ≠ 0 ∨ d.retireFits (run.op == 2) run.bank = true → x = run.result) : d.retireAgain run = x := by
  unfold Device.retireAgain
  split
  · next h => exact (hagain h.1 h.2).symm
  · next h => exact (hkeep (by rw [← Bool.not_eq_false]; exact Decidable.not_and_iff_not_or_not.1 h)).symm

variable (h : d.integ.retire = some run)
include h

theorem Device.retireDone_waits (hwait : d.retireWaits run = true) : d.retireDone = d := by
  rw [Device.retireDone, h]
  exact if_pos hwait

/-- A retirement asks for the lines that only the twin can give, or ends. -/
theorem Device.retireDone_goes {e f : Device} {x : Nat} (hgo : d.retireWaits run = false) (hx : d.retireAgain run = x)
    (he : e = if x = 0 then d.retireApply run else d)
    (hf : f = (((e.setInteg { e.integ with retire := none }).setReg INTEG.RETIRE_STAT.RESULT x).setReg INTEG.RETIRE_CMD.BUSY 0).evt
      INTEG.flag.RETIRE_DONE) : d.retireDone =
    if x = 0 ∧ (d.retireFetches run).isEmpty = false then
      (d.retireFetches run).foldl (fun e l => e.askTwin l (e.fetchKind l) (e.reg INTEG.SCRUB_CTL.CLASS)) d
    else if x = 0 ∧ run.op = 2 then f.recompute else f := by
  subst hf he hx
  rw [Device.retireDone, h]
  exact if_neg (ne_true_of_eq_false hgo)

end

end

/-! ### The obligation -/

/-- Settles O33: each command runs its operation, and the guards of the operation tell which of its cases it is. -/
theorem scrubberProoferPatrolAndRetirement : Obligations.ScrubberProoferPatrolAndRetirement := by
  unfold Obligations.ScrubberProoferPatrolAndRetirement
  intro d w
  refine ⟨?_, ?_, ?_, ?_, ?_, ?_, ?_, ?_, ?_, ?_, ?_, ?_, ?_⟩
  · exact fun c pos mask value sub hlock => leads_of_exec rfl (d.rwl_unlocked hlock true _)
  · exact fun priv err hbar => leads_of_exec rfl (congrArg Device.proceed (Device.scrubStep_pauses hbar))
  · exact fun err hgo hon hpage hsvc =>
      ⟨leads_of_exec rfl (congrArg Device.proceed (Device.scrubStep_area hgo hon hpage hsvc err)),
        fun e x hx => leads_of_exec rfl (congrArg Device.proceed (Device.scrubStep_walk hgo hon hpage hsvc hx err))⟩
  · exact fun hempty => leads_of_exec rfl (Device.proofStart_empty hempty)
  · exact fun row ra rest hqueue => ⟨fun hbar => leads_of_exec rfl (Device.proofStart_eq_self hqueue hbar),
      fun hgo hidle hon hserves => ⟨_, _, rfl, rfl, leads_of_exec rfl (Device.proofStart_starts hqueue hgo hidle hon hserves rfl rfl)⟩⟩
  · intro hidle
    obtain ⟨hhold, hdone⟩ := Device.proof_idle hidle
    exact ⟨fun lanes => leads_of_exec rfl (hhold lanes), leads_of_exec rfl hdone⟩
  · refine fun t lanes htest => ⟨fun hfew => ?_, fun hall => ⟨leads_of_exec rfl (Device.proofHold_over htest hall lanes), _, rfl,
      fun v hv => leads_of_exec rfl (Device.proofDone_ends htest hall rfl hv)⟩⟩
    obtain ⟨hhold, hdone⟩ := Device.proof_goes htest hfew lanes
    exact ⟨leads_of_exec rfl hhold, leads_of_exec rfl hdone⟩
  · exact fun area item => leads_of_exec rfl rfl
  · refine fun area item => ⟨_, rfl, fun hno => leads_of_exec rfl (Device.t0Fixed_no_frame rfl hno), fun times harea hframe htimes => ?_⟩
    have hfixed := Device.t0Fixed_frame rfl harea hframe htimes
    exact ⟨fun hfew => leads_of_exec rfl (hfixed.trans (if_neg (Nat.not_le.mpr hfew))),
      fun hthird => ⟨_, rfl, leads_of_exec rfl (hfixed.trans (if_pos hthird))⟩⟩
  · intro item e he
    refine ⟨fun hnone => leads_t0Patrol_uncorr (Device.t0Uncorr_no_line he hnone), fun t f g hline hframe hg => ?_,
      fun hpin old hold => ?_, fun hpin => ?_, fun hnone => leads_t0Patrol_uncorr (Device.t0Uncorr_no_batch he hnone),
      fun b hb => ?_, ?_, ?_⟩
    · have hword := Device.t0Uncorr_line he hline hframe hg
      refine ⟨fun hclean => leads_t0Patrol_uncorr (hword.trans (if_pos hclean)), fun hdirty htwin => ⟨_, rfl, ?_⟩,
        fun hdirty htwin => ?_⟩
      · exact leads_t0Patrol_uncorr (hword.trans ((if_neg (by simp [hdirty])).trans (if_pos htwin)))
      · exact leads_t0Patrol_uncorr (hword.trans ((if_neg (by simp [hdirty])).trans (if_neg (by simp [htwin]))))
    · subst hold
      exact leads_t0Patrol_uncorr ((Device.t0Uncorr_record he).trans (if_pos hpin))
    · exact leads_t0Patrol_uncorr ((Device.t0Uncorr_record he).trans (if_neg (ne_true_of_eq_false hpin)))
    · have hword := Device.t0Uncorr_batch he hb rfl
      refine ⟨fun hopen => leads_t0Patrol_uncorr (hword.trans (if_pos hopen)), fun hcommit hsent => ?_,
        fun hcommit hsent => ⟨_, rfl, fun htwin => ?_, fun htwin => ⟨_, rfl, ?_⟩⟩⟩
      all_goals replace hword := hword.trans (if_neg (by simp [hcommit]))
      · exact leads_t0Patrol_uncorr (hword.trans (if_pos hsent))
      all_goals replace hword := hword.trans (if_neg (by simp [hsent]))
      · exact leads_t0Patrol_uncorr (hword.trans (if_neg (ne_true_of_eq_false htwin)))
      · exact leads_t0Patrol_uncorr (hword.trans (if_pos htwin))
    · subst he
      exact leads_t0Patrol_uncorr rfl
    · subst he
      exact leads_t0Patrol_uncorr rfl
  · exact fun hlock => ⟨fun hidle => ⟨leads_of_exec rfl (Device.retireStart_starts (bank := false) hlock hidle rfl),
        leads_of_exec rfl (Device.retireStart_starts (bank := true) hlock hidle rfl)⟩,
      fun hbusy => ⟨leads_of_exec rfl (Device.retireStart_busy hlock hbusy false), leads_of_exec rfl (Device.retireStart_busy hlock hbusy true)⟩⟩
  · exact fun hnone => leads_of_exec rfl (Device.retireDone_none hnone)
  · refine fun run hrun => ⟨fun hwait => leads_of_exec rfl (Device.retireDone_waits hrun hwait), fun x hgo hagain hkeep => ?_⟩
    have hdone := Device.retireDone_goes hrun hgo (Device.retireAgain_eq hagain hkeep) rfl rfl
    refine ⟨fun hzero hlines => leads_of_exec rfl (hdone.trans (if_pos ⟨hzero, hlines⟩)), fun hends => ?_⟩
    replace hdone := hdone.trans (if_neg (by rcases hends with h | h <;> simp [h]))
    exact ⟨_, _, fun hzero => if_pos hzero, fun hfail => if_neg hfail, rfl,
      fun hzero hbank => leads_of_exec rfl (hdone.trans (if_pos ⟨hzero, hbank⟩)),
      fun hother => leads_of_exec rfl (hdone.trans (if_neg (by rcases hother with h | h <;> simp [h])))⟩

end Sys2Proof.Machine
end

section
/-! PROOFS. The set of a line in the directory (R121): the two parts of LPN that fold onto LPN[13:0] are also in the TAG, so folding
them a second time gives LPN[13:0] back. -/

namespace Sys2Proof.Machine

/-- A page number folds onto 14 bits. -/
theorem lpnFold_lt (lpn : Nat) : (lpn % 2 ^ 14) ^^^ bitsOf lpn 14 14 ^^^ bitsOf lpn 28 4 < 2 ^ 14 := by
  have hhigh : bitsOf lpn 28 4 < 2 ^ 14 := Nat.lt_of_lt_of_le (Nat.mod_lt _ (by decide)) (by decide)
  exact Nat.xor_lt_two_pow (Nat.xor_lt_two_pow (Nat.mod_lt _ (by decide)) (Nat.mod_lt _ (by decide))) hhigh

/-- The upper six bits of a set are the line's place in its loaf. -/
theorem dirSet_div (line : Nat) : dirSet line / 2 ^ 14 = line % 64 := by
  have hfold := lpnFold_lt (line / 64)
  unfold dirSet; dsimp only
  omega

/-- The lower 14 bits of a set are the fold of the page number. -/
theorem dirSet_mod (line : Nat) :
    dirSet line % 2 ^ 14 = (lpnOf line % 2 ^ 14) ^^^ bitsOf (lpnOf line) 14 14 ^^^ bitsOf (lpnOf line) 28 4 :=
  (Nat.mul_add_mod _ _ _).trans (Nat.mod_eq_of_lt (lpnFold_lt _))

/-- The directory has 2^20 sets. -/
theorem dirSet_lt (line : Nat) : dirSet line < 2 ^ 20 := by
  have hplace := dirSet_div line
  omega

/-- Two terms that are XORed a second time drop out. -/
theorem xor_xor_cancel_pair (x y z : Nat) : x ^^^ y ^^^ z ^^^ y ^^^ z = x := by
  calc x ^^^ y ^^^ z ^^^ y ^^^ z
    _ = x ^^^ (y ^^^ y) ^^^ (z ^^^ z) := by ac_rfl
    _ = x := by rw [Nat.xor_self, Nat.xor_self, Nat.xor_zero, Nat.xor_zero]

/-- LPN[13:0] is the folded part of the set, unfolded by the parts that the TAG holds. -/
theorem lpnOf_mod_eq_dirSet_xor (line : Nat) :
    lpnOf line % 2 ^ 14 = (dirSet line % 2 ^ 14) ^^^ bitsOf (lpnOf line) 14 14 ^^^ bitsOf (lpnOf line) 28 4 := by
  rw [dirSet_mod, xor_xor_cancel_pair]

/-- The slice of a line is the upper part of the folded bits of its set. -/
theorem homeSlice_eq (line : Nat) : homeSlice line = dirSet line % 2 ^ 14 / 2 ^ 9 := by
  unfold homeSlice bitsOf
  omega

/-- The parts of LPN that fold onto LPN[13:0] are the same in lines of one TAG. -/
theorem bitsOf_eq_of_tag_eq {m n : Nat} (h : m / 2 ^ 14 = n / 2 ^ 14) :
    bitsOf m 14 14 = bitsOf n 14 14 ∧ bitsOf m 28 4 = bitsOf n 28 4 := by
  unfold bitsOf
  omega

/-- Set and TAG name the line. -/
theorem eq_of_dirSet_eq_of_tag_eq {a b : Nat} (hset : dirSet a = dirSet b) (htag : lpnOf a / 2 ^ 14 = lpnOf b / 2 ^ 14) : a = b := by
  obtain ⟨hmid, hhigh⟩ := bitsOf_eq_of_tag_eq htag
  have hlow : lpnOf a % 2 ^ 14 = lpnOf b % 2 ^ 14 := by
    rw [lpnOf_mod_eq_dirSet_xor a, lpnOf_mod_eq_dirSet_xor b, hset, hmid, hhigh]
  have hplace : a % 64 = b % 64 := by rw [← dirSet_div a, ← dirSet_div b, hset]
  unfold lpnOf at htag hlow
  omega

/-- The fields of the page number of a local address, as fields of the address. -/
theorem bitsOf_lpnOf_lla (lla lo w : Nat) : bitsOf (lpnOf (lla / 64)) lo w = lla / 2 ^ (12 + lo) % 2 ^ w := by
  rw [Nat.pow_add, ← Nat.div_div_eq_div_mul, lpnOf, Nat.div_div_eq_div_mul lla 64 64]
  rfl

/-- Settles O52: LPN[13:0] and the place in the loaf are read back from set and TAG. -/
theorem directorySetAndTagNameTheLine : Obligations.DirectorySetAndTagNameTheLine := by
  unfold Obligations.DirectorySetAndTagNameTheLine
  refine ⟨fun lla _ => ?_, fun a b hloaf => ?_, fun a b _ _ hset htag => eq_of_dirSet_eq_of_tag_eq hset htag⟩
  · have hlow : lpnOf (lla / 64) % 2 ^ 14 = lla / 2 ^ 12 % 2 ^ 14 := by unfold lpnOf; omega
    have hmid := bitsOf_lpnOf_lla lla 14 14
    have hhigh := bitsOf_lpnOf_lla lla 28 4
    refine ⟨?_, dirSet_lt _, rfl, ?_⟩
    · rw [← hlow, ← hmid, ← hhigh]
      rfl
    · rw [← hlow, ← hmid, ← hhigh]
      exact lpnOf_mod_eq_dirSet_xor _
  · constructor
    · rw [homeSlice_eq, homeSlice_eq, dirSet_mod, dirSet_mod, lpnOf, lpnOf, hloaf]
    · intro hne hset
      have hplace : a % 64 = b % 64 := by rw [← dirSet_div a, ← dirSet_div b, hset]
      omega

end Sys2Proof.Machine
end

section
/-! PROOFS. Answers of hosts to back-invalidate snoops (R119, R135, R139, R372) and the timers of snoops (R146 to R148). -/

namespace Sys2Proof.Machine

/-! ### Answers -/

section
variable {d : Device} {p l sid : Nat} {ans : SnoopAnswer} (hup : (d.hostLink p l).state = .upMem)
include hup

/-- A block answer is a protocol error. -/
theorem Device.biRsp_blk : d.biRsp p l sid .blk = d.protoErr p l 2 := by
  rw [Device.biRsp, if_neg (not_not_intro hup), if_pos rfl]

/-- Another answer goes to the first of this home's snoops, the forwarded ones and the late ones that it answers; for none it is a
protocol error. -/
theorem Device.biRsp_eq (hans : ans ≠ .blk) : d.biRsp p l sid ans =
    (d.coh.snoops.find? (fun s => s.sid == sid && s.target.arr == d.myArr && s.target.host == d.hostId p l)).elim
      ((d.coh.remote.find? (fun s => s.sid == sid && s.host == d.hostId p l)).elim
        ((d.coh.late.find? (fun x => x.sid == sid && x.host == d.hostId p l && x.arr == d.myArr)).elim
          (d.protoErr p l 3) d.lateAnswer)
        (fun x => d.remoteAnswer x ans))
      (fun _ => d.snoopAnswer sid ans) := by
  rw [Device.biRsp, if_neg (not_not_intro hup), if_neg hans]
  split
  · next hown => rw [hown]; rfl
  · next hown =>
    rw [hown]
    split
    · next hrem => rw [hrem]; rfl
    · next hrem =>
      rw [hrem]
      split
      · next hlate => rw [hlate]; rfl
      · next hlate => rw [hlate]; rfl

end

/-- The answer to a snoop of this home is noted at the work that waits for it, changes the line's entry and ends the snoop. -/
theorem Device.snoopAnswer_eq {d e : Device} {sid : Nat} {s : Snoop} (ans : SnoopAnswer)
    (hs : d.coh.snoops.find? (fun s => s.sid == sid) = some s)
    (he : e = { d with
      coh := { d.coh with
        queue := if s.kind = .cur ∧ s.use ≠ .copy then markCur s.line (fun r => (d.reqLines r).contains s.line) d.coh.queue
          else d.coh.queue }
      twin := { d.twin with resyncCur := if s.use = .copy then d.twin.resyncCur ++ [s.line] else d.twin.resyncCur } }) :
    d.snoopAnswer sid ans = ((e.setEntry s.line (answerEntry (d.entry s.line) s ans)).dropSnoop s).proceed := by
  rw [Device.snoopAnswer, hs, he]

/-- The answer to a forwarded snoop outside a broadcast, or to one that has expired, ends it here and goes to its home. -/
theorem Device.remoteAnswer_tells {d e : Device} {x : RemoteSnoop} (ans : SnoopAnswer) (hx : x.part = false ∨ x.expired = true)
    (he : e = { d with coh := { d.coh with remote := d.coh.remote.filter (fun s => s.sid != x.sid) } }) :
    d.remoteAnswer x ans = e.tellDev x.frm (d.lineOf x.qla) (.snoopAns x.frm x.home ans false x.host x.win (!x.expired)) := by
  rw [Device.remoteAnswer, if_neg (by rcases hx with h | h <;> simp [h]), he]
  rfl

/-! ### Timeouts -/

section
variable {d : Device} {sid : Nat}

section
variable {s : Snoop} (hs : d.coh.snoops.find? (fun s => s.sid == sid && s.target.host != 33) = some s)
include hs

/-- The timer of a snoop of this home still runs. -/
theorem Device.biTimeout_early (hrun : d.power.aon < s.start + 1000 * d.reg COH.BI_TIMEOUT.US) : d.biTimeout sid = d := by
  rw [Device.biTimeout, hs]
  exact if_neg (by simpa [Device.timerOver] using hrun)

/-- A snoop of this home whose time has run out loses the pointer that it names, ends and is late. -/
theorem Device.biTimeout_expires {e : Device} (hover : s.start + 1000 * d.reg COH.BI_TIMEOUT.US ≤ d.power.aon)
    (he : e = if s.broadcast = true then d else d.setEntry s.line ((d.entry s.line).unshare s.target)) :
    d.biTimeout sid = ((e.dropSnoop s).snoopLate s.sid s.line s.target).proceed := by
  rw [Device.biTimeout, hs, he]
  exact if_pos (by simpa [Device.timerOver] using hover)

end

/-- No snoop has this number. -/
theorem Device.biTimeout_none (hown : d.coh.snoops.find? (fun s => s.sid == sid && s.target.host != 33) = none)
    (hrem : d.coh.remote.find? (fun s => s.sid == sid && s.part && !s.expired) = none) : d.biTimeout sid = d := by
  rw [Device.biTimeout, hown, hrem]

end

/-- A late snoop is counted, ends the commit that waits for its line, poisons the line and is reported; the line is noted as stale
where it is not and the slice has room. -/
theorem Device.snoopLate_stale {d e f : Device} {sid line : Nat} {t : Ptr} (he : e = (d.countSat COH.BI_TIMEOUTS.COUNT).commitConflict line)
    (hf : f = (e.poisonLine line (e.reg COH.DIR_CTL.SWEEP_CLASS)).raise COH.flag.BI_TIMEOUT 0
      ([t.host, t.win, t.arr] ++ leBytes 6 ((e.poisonLine line (e.reg COH.DIR_CTL.SWEEP_CLASS)).qlaOfLine line)) [t.host])
    (hstale : f.isStale t.host line = false)
    (hroom : (f.coh.stale.filter (fun x => homeSlice x.2.1 == homeSlice line)).length < 64) :
    d.snoopLate sid line t = { f with coh := { f.coh with
      stale := f.coh.stale ++ [(t.host, line, t.arr)], late := f.coh.late ++ [⟨sid, t.host, t.win, t.arr, line⟩] } } := by
  unfold Device.snoopLate
  dsimp only
  rw [← he, ← hf, if_neg (by simp [hstale]), if_pos hroom]

/-- Settles O14: the answer goes to the first list that awaits it, and the timer decides a timeout. -/
theorem snoopAnswersAndTimeouts : Obligations.SnoopAnswersAndTimeouts := by
  unfold Obligations.SnoopAnswersAndTimeouts
  intro d w sid
  refine ⟨fun p l hup => ⟨_, _, _, rfl, rfl, rfl, leads_of_exec rfl (congrArg _ (Device.biRsp_blk hup)), fun ans hans => ?_⟩,
    fun s hs => ⟨fun hrun => leads_of_exec rfl (congrArg _ (Device.biTimeout_early hs hrun)),
      fun hover => ⟨_, rfl, leads_of_exec rfl (congrArg _ (Device.biTimeout_expires hs hover rfl))⟩⟩,
    fun hown hrem => leads_of_exec rfl (congrArg _ (Device.biTimeout_none hown hrem)),
    fun line t => ⟨_, _, rfl, rfl, Device.snoopLate_stale rfl rfl⟩⟩
  have hrsp := Device.biRsp_eq (sid := sid) hup hans
  refine ⟨fun s hown hs => ⟨_, rfl, ?_⟩, fun x hown hrem hx => ⟨_, rfl, ?_⟩, fun x hown hrem hlate => ?_, fun hown hrem hlate => ?_⟩
  · rw [hown] at hrsp
    exact leads_of_exec rfl (congrArg _ (hrsp.trans (Device.snoopAnswer_eq ans hs rfl)))
  · rw [hown, hrem] at hrsp
    exact leads_of_exec rfl (congrArg _ (hrsp.trans (Device.remoteAnswer_tells ans hx rfl)))
  · rw [hown, hrem, hlate] at hrsp
    exact leads_of_exec rfl (congrArg _ hrsp)
  · rw [hown, hrem, hlate] at hrsp
    exact leads_of_exec rfl (congrArg _ hrsp)

end Sys2Proof.Machine
end

section
/-! PROOFS. Directory queries (R159), the broadcast sweep of a set (R133), the sweep after a loss (R156) and the notice-flush marker
(R155). -/

namespace Sys2Proof.Machine

/-! ### A value in a LO and HI pair -/

section
variable (d : Device) {lo hi : Field} (v : Nat) {i : Nat}

/-- The lower half of a pair. -/
theorem Device.reg_setPair_lo (hw : lo.width = 32) (h : lo.key i ≠ hi.key i) : (d.setPair lo hi v i).reg lo i = v % 2 ^ 32 := by
  rw [Device.setPair, Device.reg_setReg_ne _ _ h, Device.reg_setReg_self, hw, Nat.mod_mod]

/-- The upper half of a pair. -/
theorem Device.reg_setPair_hi (hw : hi.width = 32) : (d.setPair lo hi v i).reg hi i = v / 2 ^ 32 % 2 ^ 32 := by
  rw [Device.setPair, Device.reg_setReg_self, hw]

/-- Every other field reads as before a pair is set. -/
theorem Device.reg_setPair_ne {g : Field} {j : Nat} (hlo : g.key j ≠ lo.key i) (hhi : g.key j ≠ hi.key i) :
    (d.setPair lo hi v i).reg g j = d.reg g j := by
  rw [Device.setPair, Device.reg_setReg_ne _ _ hhi, Device.reg_setReg_ne _ _ hlo]

end

/-! ### Queries -/

/-- A query stores its three flags and the word of the entry. -/
theorem Device.dirQuery_eq (d : Device) {line word : Nat} {found : Bool}
    (hline : line = d.reg COH.QUERY_LLA_LO.LLA_LO + 2 ^ 26 * d.reg COH.QUERY_LLA_HI.LLA_HI)
    (hfound : found = ((KMap.find d.coh.dir line).isSome && !((d.entry line).isFree && !d.linePend line)))
    (hword : word = if found = true then (d.entry line).word line (d.linePend line) else 0) : d.dirQuery =
      (((d.setReg COH.QUERY_CMD.FOUND (if found = true then 1 else 0)).setReg COH.QUERY_CMD.SET_OVF
        (if d.setOvf (dirSet line) = true then 1 else 0)).setReg COH.QUERY_CMD.LOGGED (if d.coh.log.contains line = true then 1 else 0)).setPair
        COH.QUERY_ENTRY_LO.ENTRY_LO COH.QUERY_ENTRY_HI.ENTRY_HI word := by
  subst hline hfound hword
  rfl

/-- A condition stored in a field of one bit reads back. -/
theorem ite_mod_two_pow_one (c : Bool) : (if c = true then 1 else 0) % 2 ^ 1 = if c = true then 1 else 0 := by
  cases c <;> rfl

/-! ### Sweeps -/

/-- A set without logged lines, or one that is full of pinned ways, is not swept. -/
theorem Device.broadcastSweep_eq_self {d : Device} {set : Nat}
    (h : d.setOvf set = false ∨ ((d.waysOf set).length = 16 ∧ (d.waysOf set).all (fun e => e.2.pin) = true)) :
    d.broadcastSweep set = d := if_pos (h.imp_left (fun hovf => by simp [hovf]))

/-- Another set is: each of its logged lines that is homed here with no snoop in flight is broadcast or leaves the log. -/
theorem Device.broadcastSweep_sweeps {d : Device} {set : Nat} (hovf : d.setOvf set = true)
    (hroom : ¬((d.waysOf set).length = 16 ∧ (d.waysOf set).all (fun e => e.2.pin) = true)) : d.broadcastSweep set =
      ((d.coh.log.filter (fun l => dirSet l == set && d.homesLine l && !d.linePend l)).foldl (fun (d : Device) l =>
        match d.regionOfLine l with
        | some (_, g) => d.broadcast l g .sweep none
        | none => d.logDrop l) d).proceed :=
  if_neg (not_or.mpr ⟨by simp [hovf], hroom⟩)

/-- Nothing is swept without a loss. -/
theorem Device.sweepDone_idle {d : Device} (h : d.coh.lossSweep = false) : d.sweepDone = d := if_pos (by simp [h])

/-- The sweep after a loss takes the pointers to lost links, forgets those links and what is stale or late of them, and reports. -/
theorem Device.sweepDone_sweeps {d e : Device} {lines : List Nat} (h : d.coh.lossSweep = true)
    (hlines : lines = (d.coh.dir.map Prod.fst).foldl (fun l x => insertSet x l) [])
    (he : e = (lines.filter (fun l => d.homesLine l)).foldl (fun x l => x.purgeLost l) d) :
    d.sweepDone = (({ e with
      coh := { e.coh with
        lostPtrs := [], lossSweep := false, lossRaised := false
        stale := e.coh.stale.filter (fun x => !e.isLost { host := x.1, win := 0, arr := x.2.2 })
        late := e.coh.late.filter (fun x => !e.isLost { host := x.host, win := 0, arr := x.arr }) }
      host := { e.host with links := e.host.links.map (fun x => (x.1, { x.2 with sweepPend := false })) } } : Device).evt
        COH.flag.SWEEP_DONE).proceed := by
  subst hlines he
  exact if_neg (by simp [h])

/-! ### The notice-flush marker -/

/-- A late notice of a device that is not awaited. -/
theorem Device.noticeLate_eq_self {d : Device} {arr : Nat} (h : d.coh.flushWait.contains arr = false) : d.noticeLate arr = d :=
  if_neg (ne_true_of_eq_false h)

/-- Settles O15: the registers of a query lie under different keys; a sweep or a late notice acts where its guard lets it. -/
theorem directoryQueriesAndSweeps : Obligations.DirectoryQueriesAndSweeps := by
  unfold Obligations.DirectoryQueriesAndSweeps
  intro d w
  refine ⟨⟨_, leads_of_exec rfl (d.dirQuery_eq rfl rfl rfl), rfl, _, _, _, rfl, rfl, rfl, ?_, ?_, ?_, ?_, ?_⟩,
    fun set h => leads_of_exec rfl (Device.broadcastSweep_eq_self h),
    fun set hovf hroom => leads_of_exec rfl (Device.broadcastSweep_sweeps hovf hroom),
    fun hidle => leads_of_exec rfl (Device.sweepDone_idle hidle),
    fun hloss => ⟨_, _, rfl, rfl, leads_of_exec rfl (Device.sweepDone_sweeps hloss rfl rfl)⟩,
    fun arr hgone => leads_of_exec rfl (Device.noticeLate_eq_self hgone), fun arr hwait => leads_of_exec rfl (if_pos hwait)⟩
  · rw [Device.reg_setPair_ne _ _ (by decide) (by decide), Device.reg_setReg_ne _ _ (by decide), Device.reg_setReg_self]
    exact ite_mod_two_pow_one _
  · rw [Device.reg_setPair_ne _ _ (by decide) (by decide), Device.reg_setReg_self]
    exact ite_mod_two_pow_one _
  · rw [Device.reg_setPair_ne _ _ (by decide) (by decide), Device.reg_setReg_ne _ _ (by decide), Device.reg_setReg_ne _ _ (by decide),
      Device.reg_setReg_self]
    exact ite_mod_two_pow_one _
  · exact Device.reg_setPair_lo _ _ rfl (by decide)
  · exact Device.reg_setPair_hi _ _ rfl

end Sys2Proof.Machine
end

section
/-! PROOFS. Batch windows: aperture accesses by the state of the window's slot, WIN_CMD and the base (R178 to R181). -/

namespace Sys2Proof.Machine

section
variable {d : Device} {n p l : Nat}

/-! ### Accesses through a window that is not bound -/

/-- The write is discarded. -/
theorem Device.apertureWrite_unbound (hbound : d.winBound n p l = false) (off : Nat) (bytes : List (Nat × Bool)) :
    d.apertureWrite n p l off bytes = d := if_pos (by simp [hbound])

/-- The read returns zeros with EP. -/
theorem Device.apertureRead_unbound (hbound : d.winBound n p l = false) (tag off len : Nat) :
    d.apertureRead n p l tag off len = d.send (.aperture n tag 0 false { ido := (d.hostLink p l).idoCpl }) := if_pos (by simp [hbound])

section
variable (hbound : d.winBound n p l = true)
include hbound

/-! ### Aperture writes of a bound window -/

section
variable {off : Nat} {bytes : List (Nat × Bool)}

/-- A write of a size or offset that is not allowed. -/
theorem Device.apertureWrite_badSize (hsize : apertureOk off bytes.length = false) :
    d.apertureWrite n p l off bytes = d.raise BWIN.flag.BAD_SIZE n [] [] false := by
  rw [Device.apertureWrite, if_neg (by simp [hbound]), if_pos (by simp [hsize])]

variable {v : Line} {m : BitVec 64} (hsize : apertureOk off bytes.length = true)
  (hv : v = lineOfBytes (List.replicate (off % 64) 0 ++ bytes.map Prod.fst))
  (hm : m = BitVec.ofNat 64 (((bytes.zip (List.range 64)).filter (fun e => e.1.2)).foldl (fun k e => k + 2 ^ (off % 64 + e.2)) 0))
include hsize hv hm

/-- An allowed write to a line that the window may not write. -/
theorem Device.apertureWrite_refused (hhome : d.batchWriteHome (d.winReq n off 0 0 (.siteWriteMasked v m true)) = none) :
    d.apertureWrite n p l off bytes = d.refuse (d.winReq n off 0 0 (.siteWriteMasked v m true)) 4 := by
  subst hv hm
  rw [Device.apertureWrite, if_neg (by simp [hbound]), if_neg (by simp [hsize])]
  dsimp only
  rw [hhome]

/-- An allowed write to a line that the window may write is charged and then does what the state of the slot says. -/
theorem Device.apertureWrite_charged {home : Nat} {e : Device}
    (hhome : d.batchWriteHome (d.winReq n off 0 0 (.siteWriteMasked v m true)) = some home)
    (he : e = d.chargeBytes (d.reg BWIN.WIN_CLASS.CLASS n) bytes.length) :
    ((e.slot (1024 + n)).state = .opened →
      d.apertureWrite n p l off bytes = e.sendBatchWrite (d.winReq n off 0 0 (.siteWriteMasked v m true)) home) ∧
    ((e.slot (1024 + n)).state = .free → d.apertureWrite n p l off bytes =
      (e.openSlot (1024 + n)).sendBatchWrite ((e.openSlot (1024 + n)).winReq n off 0 0 (.siteWriteMasked v m true)) home) ∧
    ((e.slot (1024 + n)).state = .committing → d.apertureWrite n p l off bytes = e.winCmdState n) ∧
    ((e.slot (1024 + n)).state = .aborted → d.apertureWrite n p l off bytes = e) := by
  have hcls (op : HomeOp) : (d.winReq n off 0 0 op).cls = d.reg BWIN.WIN_CLASS.CLASS n := rfl
  subst hv hm
  rw [Device.apertureWrite, if_neg (by simp [hbound]), if_neg (by simp [hsize])]
  dsimp only
  rw [hhome, hcls, ← he]
  dsimp only
  exact ⟨fun hs => by rw [hs], fun hs => by rw [hs], fun hs => by rw [hs], fun hs => by rw [hs]⟩

end

/-! ### Aperture reads of a bound window -/

section
variable {off len : Nat} (tag : Nat)

/-- A read of a size or offset that is not allowed raises BAD_SIZE and returns zeros with EP. -/
theorem Device.apertureRead_badSize (hsize : apertureOk off len = false) : d.apertureRead n p l tag off len =
    (d.raise BWIN.flag.BAD_SIZE n [] [] false).send (.aperture n tag 0 false { ido := (d.hostLink p l).idoCpl }) := by
  rw [Device.apertureRead, if_neg (by simp [hbound]), if_pos (by simp [hsize])]

variable (hsize : apertureOk off len = true)
include hsize

/-- An allowed read of a batch that lives sees the batch's own writes. -/
theorem Device.apertureRead_own (hs : (d.slot (1024 + n)).state = .opened ∨ (d.slot (1024 + n)).state = .committing) :
    d.apertureRead n p l tag off len = d.route (d.winReq n off (tag + 1) len (.siteRead 1 true)) := by
  rw [Device.apertureRead, if_neg (by simp [hbound]), if_neg (by simp [hsize])]
  rcases hs with hs | hs <;> rw [hs]

/-- Another allowed read sees the home copy. -/
theorem Device.apertureRead_home (hs : (d.slot (1024 + n)).state = .free ∨ (d.slot (1024 + n)).state = .aborted) :
    d.apertureRead n p l tag off len = d.route (d.winReq n off (tag + 1) len (.siteRead 1 false)) := by
  rw [Device.apertureRead, if_neg (by simp [hbound]), if_neg (by simp [hsize])]
  rcases hs with hs | hs <;> rw [hs]

end

/-! ### Commands of a bound window -/

section
variable {w : List Instr} {e : Device}

/-- COMMIT of a bound window. -/
theorem leads_winCmdCommit (he : d.winCommit n = e) : Leads (.winCmdCommit n p l) ⟨d, w⟩ e :=
  leads_of_exec rfl ((if_pos hbound).trans he)

/-- ABORT of a bound window. -/
theorem leads_winCmdAbort (he : d.winAbort n = e) : Leads (.winCmdAbort n p l) ⟨d, w⟩ e :=
  leads_of_exec rfl ((if_pos hbound).trans he)

/-- A write of the base of a bound window. -/
theorem leads_winBaseWrite {hi : Bool} {v : Nat} (he : d.winBaseWrite n hi v = e) : Leads (.winBaseWrite n p l hi v) ⟨d, w⟩ e :=
  leads_of_exec rfl ((if_pos hbound).trans he)

end

end

/-- COMMIT of an OPEN batch starts the commit at its home. -/
theorem Device.winCommit_opened {h : Nat} (hs : (d.slot (1024 + n)).state = .opened) (hhome : (d.slot (1024 + n)).home = some h) :
    d.winCommit n = d.sendCommit (1024 + n) { d.winReq n 0 0 0 (.batchCommit (1024 + n)) with qla := (d.slot (1024 + n)).addr } h := by
  unfold Device.winCommit
  dsimp only
  rw [hs, hhome]

/-- ABORT of an OPEN batch leaves its home and frees the slot. -/
theorem Device.winAbort_opened (hs : (d.slot (1024 + n)).state = .opened) :
    d.winAbort n = ((d.leaveHome (1024 + n) 1).freeSlot (1024 + n)).winLast n 2 1 (d.slot (1024 + n)).bseq := by
  unfold Device.winAbort
  dsimp only
  rw [hs]

/-- Either command frees an ABORTED slot and reports its cause. -/
theorem Device.winCmd_aborted {e : Device} (hs : (d.slot (1024 + n)).state = .aborted)
    (he : e = (d.freeSlot (1024 + n)).winLast n 2 (d.slot (1024 + n)).cause (d.slot (1024 + n)).bseq) :
    d.winCommit n = e ∧ d.winAbort n = e := by
  unfold Device.winCommit Device.winAbort
  dsimp only
  rw [hs, he]
  exact ⟨rfl, rfl⟩

/-- A FREE or COMMITTING slot takes neither command. -/
theorem Device.winCmd_badState (hs : (d.slot (1024 + n)).state = .free ∨ (d.slot (1024 + n)).state = .committing) :
    d.winCommit n = d.winCmdState n ∧ d.winAbort n = d.winCmdState n := by
  unfold Device.winCommit Device.winAbort
  dsimp only
  rcases hs with hs | hs <;> rw [hs] <;> exact ⟨rfl, rfl⟩

/-- The base cannot be written while the slot is not free. -/
theorem Device.winBaseWrite_busy (hs : (d.slot (1024 + n)).state ≠ .free) (hi : Bool) (v : Nat) :
    d.winBaseWrite n hi v = d.raise BWIN.flag.BASE_BUSY n [] [] false := if_neg hs

end

/-- Settles O16: an aperture access is decided by the binding, the size, the home of the line and the state of the slot, a command by the
state alone. -/
theorem batchWindowsActOnTheirSlot : Obligations.BatchWindowsActOnTheirSlot := by
  unfold Obligations.BatchWindowsActOnTheirSlot
  intro d w n p l
  refine ⟨fun hunbound tag off len bytes => ⟨leads_of_exec rfl (Device.apertureWrite_unbound hunbound off bytes),
    leads_of_exec rfl (Device.apertureRead_unbound hunbound tag off len)⟩, fun hbound => ⟨?_, ?_, ?_, ?_, ?_, ?_, ?_, ?_, ?_, ?_⟩⟩
  · exact fun tag off len hsize => leads_of_exec rfl (Device.apertureRead_badSize hbound tag hsize)
  · exact fun off bytes v m hsize hv hm hhome => leads_of_exec rfl (Device.apertureWrite_refused hbound hsize hv hm hhome)
  · exact fun off bytes hsize => leads_of_exec rfl (Device.apertureWrite_badSize hbound hsize)
  · intro off bytes home v m hsize hv hm hhome
    obtain ⟨hopened, hfree, hcommitting, haborted⟩ := Device.apertureWrite_charged hbound hsize hv hm hhome rfl
    exact ⟨_, rfl, fun hs => leads_of_exec rfl (hopened hs), fun hs => leads_of_exec rfl (hfree hs),
      fun hs => leads_of_exec rfl (hcommitting hs), fun hs => leads_of_exec rfl (haborted hs)⟩
  · exact fun tag off len hsize => ⟨fun hs => leads_of_exec rfl (Device.apertureRead_own hbound tag hsize hs),
      fun hs => leads_of_exec rfl (Device.apertureRead_home hbound tag hsize hs)⟩
  · exact fun hs => ⟨fun h hhome => leads_winCmdCommit hbound (Device.winCommit_opened hs hhome),
      leads_winCmdAbort hbound (Device.winAbort_opened hs),
      fun hi v => leads_winBaseWrite hbound (Device.winBaseWrite_busy (by simp [hs]) hi v)⟩
  · intro hs
    obtain ⟨hcommit, habort⟩ := Device.winCmd_aborted hs rfl
    exact ⟨leads_winCmdCommit hbound hcommit, leads_winCmdAbort hbound habort⟩
  · intro hs
    obtain ⟨hcommit, habort⟩ := Device.winCmd_badState hs
    exact ⟨leads_winCmdCommit hbound hcommit, leads_winCmdAbort hbound habort⟩
  · exact fun hs v => ⟨leads_winBaseWrite hbound (if_pos hs), leads_winBaseWrite hbound (if_pos hs)⟩
  · exact fun hs hi v => leads_winBaseWrite hbound (Device.winBaseWrite_busy hs hi v)

end Sys2Proof.Machine
end

section
/-! PROOFS. The timeout of a batch (R174, R177), the sending of its commit record (R182, R183) and the outcomes of commits (R191, R192). -/

namespace Sys2Proof.Machine

/-! ### COMMIT_SEND -/

section
variable {d e : Device} {w : List Instr} {slot arr : Nat}

/-- COMMIT_SEND of a batch that commits here. -/
theorem leads_commitSend {b : HomeBatch} (hb : d.batch.home.find? (fun b => b.slot == slot && b.arr == arr && b.committing) = some b)
    (he : d.commitSend b = e) : Leads (.commitSend slot arr) ⟨d, w⟩ e :=
  leads_of_exec rfl (by dsimp only; rw [hb]; exact he)

/-- COMMIT_SEND of a batch that does not commit here. -/
theorem leads_commitSend_none (hb : d.batch.home.find? (fun b => b.slot == slot && b.arr == arr && b.committing) = none) :
    Leads (.commitSend slot arr) ⟨d, w⟩ d :=
  leads_of_exec rfl (by dsimp only; rw [hb])

end

section
variable {d : Device} {b : HomeBatch}

/-- A batch that has been sent, or that waits for a line, is not sent. -/
theorem Device.commitSend_eq_self
    (h : b.sent = true ∨ ∃ x ∈ b.shadow, b.owned.contains x.1 = false ∨ d.linePend x.1 = true) : d.commitSend b = d := by
  refine if_pos ?_
  rcases h with hsent | ⟨x, hx, hwaits⟩
  · simp [hsent]
  · have howned : b.shadow.all (fun e => b.owned.contains e.1 && !d.linePend e.1) = false :=
      List.all_eq_false.mpr ⟨x, hx, by rcases hwaits with h | h <;> rw [h] <;> simp⟩
    rw [howned, Bool.and_false]
    rfl

section
variable (hcommitting : b.committing = true) (hsent : b.sent = false)
  (howned : ∀ x ∈ b.shadow, b.owned.contains x.1 = true ∧ d.linePend x.1 = false)
include hcommitting hsent howned

/-- The guard of COMMIT_SEND lets a batch pass that has not been sent and waits for no line. -/
theorem Device.commitSend_ready :
    ¬(!(b.committing && !b.sent && b.shadow.all (fun e => b.owned.contains e.1 && !d.linePend e.1))) = true := by
  have hall : b.shadow.all (fun e => b.owned.contains e.1 && !d.linePend e.1) = true :=
    List.all_eq_true.mpr fun x hx => by rw [(howned x hx).1, (howned x hx).2]; rfl
  rw [hcommitting, hsent, hall]
  decide

/-- Without a mirrored line the flip follows at once. -/
theorem Device.commitSend_flips (hmirror : ∀ x ∈ b.shadow, d.mirrored (lpnOf x.1) = false) : d.commitSend b = d.commitFlip b :=
  (if_neg (Device.commitSend_ready hcommitting hsent howned)).trans (if_neg (by simpa using hmirror))

/-- With one, the commit record leaves on the stream of the first line, and its countersign is awaited. -/
theorem Device.commitSend_sends {x : Nat × T0Line} {rest : List (Nat × T0Line)} {rc : CommitRec} {e : Device}
    (hfirst : b.shadow = x :: rest) (hmirror : ∃ y ∈ b.shadow, d.mirrored (lpnOf y.1) = true)
    (hrc : rc = { bseq := b.bseq, slot := b.slot, arr := b.arr, cls := b.cls
                  lines := b.shadow.map (fun y => { line := y.1, data := d.wireData y.1 y.2.data y.2.poison, poison := y.2.poison })
                  after := (d.stream (1 - streamOf x.1)).next, passed := if d.twin.resyncRun then d.twin.resyncPos else 2 ^ 32 })
    (he : e = d.chargeTwin b.cls (64 * ((8 + (38 * b.shadow.length + 7) / 8 + 64 * b.shadow.length + 63) / 64))) :
    d.commitSend b = ((e.twinSend (streamOf x.1) (.commitRec rc)).1.setBatch { b with sent := true }).awaitCs (streamOf x.1)
      (e.twinSend (streamOf x.1) (.commitRec rc)).2 (.commit b.slot b.arr b.bseq) := by
  have hstream : (match b.shadow with | e :: _ => streamOf e.1 | [] => 0) = streamOf x.1 := by rw [hfirst]
  subst hrc he
  rw [← hstream]
  exact (if_neg (Device.commitSend_ready hcommitting hsent howned)).trans (if_pos (by simpa using hmirror))

end

end

/-- Settles O17: the guard of each event decides it, and the three fields of OUTCOME_RESULT lie under different keys. That OUTCOME_ASK
sends a FWD_REQ of the model's own kind is its choice (DESIGN CHOICE, log entry 139). -/
theorem batchTimeoutsAndOutcomes : Obligations.BatchTimeoutsAndOutcomes := by
  unfold Obligations.BatchTimeoutsAndOutcomes
  intro d w slot
  refine ⟨fun hs => leads_of_exec rfl (if_pos hs), fun hs => leads_of_exec rfl (if_neg hs), fun arr hb => leads_commitSend_none hb,
    fun arr b hb => ⟨fun hwaits => leads_commitSend hb (Device.commitSend_eq_self hwaits), fun hsent howned => ?_⟩,
    ⟨_, _, leads_of_exec rfl rfl, rfl, rfl, ?_, ?_, Device.reg_setReg_self _ _ _ _⟩,
    fun bseq home heir arr cond hcond => ⟨fun h => leads_of_exec rfl ?_, fun h => leads_of_exec rfl (if_neg (mt hcond.mpr h))⟩⟩
  · have hselected := List.find?_some hb
    have hcommitting : b.committing = true := (Bool.and_eq_true_iff.mp hselected).2
    exact ⟨fun hmirror => leads_commitSend hb (Device.commitSend_flips hcommitting hsent howned hmirror),
      fun x rest hfirst hmirror => ⟨_, _, rfl, rfl,
        leads_commitSend hb (Device.commitSend_sends hcommitting hsent howned hfirst hmirror rfl rfl)⟩⟩
  · rw [Device.outcomeQuery, Device.reg_setReg_ne _ _ (by decide), Device.reg_setReg_ne _ _ (by decide), Device.reg_setReg_self]
    rfl
  · rw [Device.outcomeQuery, Device.reg_setReg_ne _ _ (by decide), Device.reg_setReg_self]
    rfl
  · obtain ⟨-, -, hbseq, -⟩ := hcond.mp h
    subst hbseq
    exact if_pos (hcond.mp h)

end Sys2Proof.Machine
end

section
/-! PROOFS. The batch commands, STATUS and TIME of a site, and requests that are malformed or reserved (R161, R176, R254, R257, R259, R270). -/

namespace Sys2Proof.Machine

/-! ### Acceptance -/

/-- Accepting a request leaves the batch engine alone. -/
@[simp] theorem Device.siteAccept_batch (d : Device) (s opc tag dl : Nat) (sync : Bool) (lines pl n : Nat) :
    (d.siteAccept s opc tag dl sync lines pl n).1.batch = d.batch := rfl

/-- Accepting a request takes no time. -/
@[simp] theorem Device.siteAccept_time (d : Device) (s opc tag dl : Nat) (sync : Bool) (lines pl n : Nat) :
    (d.siteAccept s opc tag dl sync lines pl n).1.time = d.time := rfl

/-- Every slot is after acceptance what it was. -/
@[simp] theorem Device.slot_siteAccept (d : Device) (s opc tag dl : Nat) (sync : Bool) (lines pl n t : Nat) :
    (d.siteAccept s opc tag dl sync lines pl n).1.slot t = d.slot t := by
  rw [Device.slot, Device.siteAccept_batch, ← Device.slot]

/-- Every outcome entry is after acceptance what it was. -/
@[simp] theorem Device.outcome_siteAccept (d : Device) (s opc tag dl : Nat) (sync : Bool) (lines pl n q t : Nat) :
    (d.siteAccept s opc tag dl sync lines pl n).1.outcome q t = d.outcome q t := by
  rw [Device.outcome, Device.siteAccept_batch, ← Device.outcome]

/-- On an ACTIVE link a command acts on the device that has accepted it. -/
theorem Device.onSite_up {d : Device} {s : Nat} (hup : d.siteUp s = true) (opc tag dl : Nat) (sync : Bool) (lines pl n : Nat)
    (f : Device → Nat → Device) : d.onSite s opc tag dl sync lines pl n f =
      f (d.siteAccept s opc tag dl sync lines pl n).1 (d.siteAccept s opc tag dl sync lines pl n).2 := if_pos hup

section
variable {d : Device} {s tag dl : Nat} {a : Device × Nat} (hup : d.siteUp s = true)
include hup

/-! ### Batch commands -/

section
variable (ha : a = d.siteAccept s 0x30 tag dl false 0 svcPool 0)
include ha

/-- BATCH_OPEN of a FREE slot. -/
theorem Device.siteBatchOpen_free (hs : (d.slot s).state = .free) :
    d.siteBatchOpen s tag dl = (a.1.openSlot s).answerSite s a.2 { bseq := ((a.1.openSlot s).slot s).bseq } := by
  subst ha
  rw [Device.siteBatchOpen, Device.onSite_up hup, Device.slot_siteAccept, if_pos hs]

/-- BATCH_OPEN of another slot. -/
theorem Device.siteBatchOpen_busy (hs : (d.slot s).state ≠ .free) :
    d.siteBatchOpen s tag dl = a.1.answerSite s a.2 { status := 3, bseq := (d.slot s).bseq } := by
  subst ha
  rw [Device.siteBatchOpen, Device.onSite_up hup, Device.slot_siteAccept, if_neg hs]

end

section
variable (ha : a = d.siteAccept s 0x31 tag dl false 0 svcPool 0)
include ha

/-- BATCH_COMMIT of an OPEN batch without a write. -/
theorem Device.siteBatchCommit_empty (hs : (d.slot s).state = .opened) (hhome : (d.slot s).home = none) : d.siteBatchCommit s tag dl =
    ((a.1.freeSlot s).countWrap BATCH.COMMITS.COUNT).answerSite s a.2 { bseq := (d.slot s).bseq } := by
  subst ha
  rw [Device.siteBatchCommit, Device.onSite_up hup, Device.slot_siteAccept]
  dsimp only
  rw [if_pos hs, hhome]

/-- BATCH_COMMIT of an OPEN batch with a home. -/
theorem Device.siteBatchCommit_sends {h : Nat} (hs : (d.slot s).state = .opened) (hhome : (d.slot s).home = some h) :
    d.siteBatchCommit s tag dl = a.1.sendCommit s (a.1.siteReq s a.2 dl (d.slot s).addr (.batchCommit s)) h := by
  subst ha
  rw [Device.siteBatchCommit, Device.onSite_up hup, Device.slot_siteAccept]
  dsimp only
  rw [if_pos hs, hhome]

/-- BATCH_COMMIT of a slot that is not OPEN. -/
theorem Device.siteBatchCommit_closes (hs : (d.slot s).state ≠ .opened) : d.siteBatchCommit s tag dl = a.1.siteClose s a.2 := by
  subst ha
  rw [Device.siteBatchCommit, Device.onSite_up hup, Device.slot_siteAccept]
  exact if_neg hs

end

section
variable (ha : a = d.siteAccept s 0x32 tag dl false 0 svcPool 0)
include ha

/-- BATCH_ABORT of an OPEN batch. -/
theorem Device.siteBatchAbort_opened (hs : (d.slot s).state = .opened) : d.siteBatchAbort s tag dl =
    ((a.1.leaveHome s 1).freeSlot s).answerSite s a.2 { status := 5, cause := 1, bseq := (d.slot s).bseq } := by
  subst ha
  rw [Device.siteBatchAbort, Device.onSite_up hup, Device.slot_siteAccept]
  exact if_pos hs

/-- BATCH_ABORT of a slot that is not OPEN. -/
theorem Device.siteBatchAbort_closes (hs : (d.slot s).state ≠ .opened) : d.siteBatchAbort s tag dl = a.1.siteClose s a.2 := by
  subst ha
  rw [Device.siteBatchAbort, Device.onSite_up hup, Device.slot_siteAccept]
  exact if_neg hs

end

/-! ### STATUS, TIME and requests that are malformed -/

/-- STATUS of the site. -/
theorem Device.siteStatus_eq {dut f : Nat} (ha : a = d.siteAccept s 0x40 tag dl false 0 svcPool 0)
    (hdut : dut = a.1.reg SITE.SITE_DUT.DUT s + (if a.1.flagReg SITE.SITE_DUT.VALID s = true then 2 ^ 15 else 0))
    (hf : f = (if a.1.flagReg TIER.CAP_STAT.EL_EXHAUSTED = true then 1 else 0) + (if a.1.flagReg TIER.CAP_STAT.BIN_FULL = true then 2 else 0) +
      (if a.1.flagReg SITE.SITE_HOMING.DUAL s = true then 4 else 0) + 16 * (d.slot s).state.code) :
    d.siteStatus s tag dl = a.1.answerSite s a.2 { result := [a.1.siteClass s] ++ leBytes 2 dut ++ [f] ++ leBytes 2 (d.slot s).bseq ++
      [if (d.slot s).state = .aborted then (d.slot s).cause else 0, 0] } := by
  subst hdut hf ha
  rw [Device.siteStatus, Device.onSite_up hup, Device.slot_siteAccept]

/-- A request that is malformed, outside the write-data pool (which unused fields count as reserved: DEDUCED, log entry 127). -/
theorem leads_reservedOpcode {w : List Instr} {opc size pl n : Nat} {sync : Bool} (hpl : pl ≠ 1)
    (ha : a = d.siteAccept s opc tag dl sync (if opc = 0x22 then 16 else if opc = 0x01 then sizeLines size else 0) pl n) :
    Leads (.reservedOpcode s opc tag dl sync size pl n) ⟨d, w⟩ (a.1.answerSite s a.2 { status := 3 }) := by
  subst ha
  exact leads_of_exec rfl ((if_neg fun h => hpl h.2).trans (Device.onSite_up hup ..))

end

/-- An ABORTED slot closes with its cause. -/
theorem Device.siteClose_aborted {d : Device} {s id : Nat} {x : BatchSlot} (hx : d.slot s = x) (hs : x.state = .aborted) :
    d.siteClose s id = (d.freeSlot s).answerSite s id { status := 5, cause := x.cause, bseq := x.bseq } := by
  subst hx
  exact if_pos hs

/-- Another slot is not closed: a COMMITTING one is answered as a FREE one (DEDUCED, log entry 42). -/
theorem Device.siteClose_access {d : Device} {s id : Nat} {x : BatchSlot} (hx : d.slot s = x) (hs : x.state ≠ .aborted) :
    d.siteClose s id = d.answerSite s id { status := 3, bseq := x.bseq } := by
  subst hx
  exact if_neg hs

/-- Settles O19: on an ACTIVE link each command acts after acceptance, which leaves the slot as it was; so the slot's state decides. -/
theorem siteBatchAndStatusCommands : Obligations.SiteBatchAndStatusCommands := by
  unfold Obligations.SiteBatchAndStatusCommands
  intro d w s tag dl hup
  have hslot (opc : Nat) := d.slot_siteAccept s opc tag dl false 0 svcPool 0 s
  refine ⟨fun opc => d.siteAccept s opc tag dl false 0 svcPool 0, fun _ => rfl, hslot, ?_, ?_, ?_, ?_, ?_, ?_, ?_, ?_, ?_, ?_⟩
  · exact fun hs => leads_of_exec rfl (Device.siteBatchOpen_free hup rfl hs)
  · exact fun hs => leads_of_exec rfl (Device.siteBatchOpen_busy hup rfl hs)
  · exact fun hs => ⟨fun hhome => leads_of_exec rfl (Device.siteBatchCommit_empty hup rfl hs hhome),
      fun h hhome => leads_of_exec rfl (Device.siteBatchCommit_sends hup rfl hs hhome),
      leads_of_exec rfl (Device.siteBatchAbort_opened hup rfl hs)⟩
  · intro hs
    have hopen : (d.slot s).state ≠ .opened := by simp [hs]
    exact ⟨leads_of_exec rfl ((Device.siteBatchCommit_closes hup rfl hopen).trans (Device.siteClose_aborted (hslot _) hs)),
      leads_of_exec rfl ((Device.siteBatchAbort_closes hup rfl hopen).trans (Device.siteClose_aborted (hslot _) hs))⟩
  · intro hs
    have hopen : (d.slot s).state ≠ .opened := by rcases hs with hs | hs <;> simp [hs]
    have habort : (d.slot s).state ≠ .aborted := by rcases hs with hs | hs <;> simp [hs]
    exact ⟨leads_of_exec rfl ((Device.siteBatchCommit_closes hup rfl hopen).trans (Device.siteClose_access (hslot _) habort)),
      leads_of_exec rfl ((Device.siteBatchAbort_closes hup rfl hopen).trans (Device.siteClose_access (hslot _) habort))⟩
  · exact ⟨_, _, _, rfl, rfl, rfl, leads_of_exec rfl (Device.siteStatus_eq hup rfl rfl rfl)⟩
  · intro q hq
    have hcode : q / 4 % 2 * 4 + q % 4 % 4 = q := by omega
    refine leads_of_exec rfl ((Device.onSite_up hup ..).trans ?_)
    dsimp only
    rw [hcode, Device.outcome_siteAccept]
  · refine leads_of_exec rfl ((Device.onSite_up hup ..).trans ?_)
    dsimp only
    rw [Device.siteAccept_time]
  · exact fun opc sync size pl n hpl => ⟨_, rfl, leads_reservedOpcode hup hpl rfl⟩
  · exact fun opc sync size n => leads_of_exec rfl (if_pos ⟨hup, rfl⟩)

end Sys2Proof.Machine
end

section
/-! PROOFS. The FEC of Ronlink-P (R205). Multiplication by α is linear on bytes, so a wrong byte adds its pattern to the first syndrome and
its pattern times a power of α to the second. The powers of α run through all 255 nonzero bytes before they repeat, so among 82 places
only one explains the two. -/

namespace Sys2Proof.Machine

/-! ### Repeated multiplication -/

/-- One more application inside is one more outside. -/
theorem repeat_apply {α : Type} (g : α → α) (n : Nat) (a : α) : Nat.repeat g n (g a) = g (Nat.repeat g n a) := by
  induction n with
  | zero => rfl
  | succ n ih => exact congrArg g ih

/-- Applications add up. -/
theorem repeat_add {α : Type} (g : α → α) (m n : Nat) (a : α) : Nat.repeat g (m + n) a = Nat.repeat g m (Nat.repeat g n a) := by
  induction m with
  | zero => rw [Nat.zero_add]; rfl
  | succ m ih => rw [Nat.succ_add]; exact congrArg g ih

/-- Applications of the identity change nothing. -/
theorem repeat_id {α : Type} (n : Nat) (a : α) : Nat.repeat id n a = a := by
  induction n with
  | zero => rfl
  | succ n ih => exact ih

/-! ### Multiplication by α -/

/-- Numbers that add up to 0 are equal. -/
theorem eq_of_xor_eq_zero {a b : Nat} (h : a ^^^ b = 0) : a = b := by
  calc a = (a ^^^ b) ^^^ b := by rw [Nat.xor_assoc, Nat.xor_self, Nat.xor_zero]
    _ = b := by rw [h, Nat.zero_xor]

/-- Multiplication by α shifts a byte left and reduces by the polynomial of the field where bit 7 leaves the byte. -/
theorem gf8x_eq_shift {a : Nat} (ha : a < 256) : gf8x a = (a <<< 1) % 2 ^ 8 ^^^ (if a.testBit 7 then 0x1D else 0) := by
  have hbit : a.testBit 7 = decide (128 ≤ a) := by
    rw [Nat.testBit_eq_decide_div_mod_eq, decide_eq_decide]
    omega
  rw [Nat.shiftLeft_eq, hbit, gf8x]
  by_cases h : 128 ≤ a
  · simp [h, Nat.mul_comm]
  · have hfit : a * 2 % 256 = 2 * a := by omega
    simp [h, hfit]

/-- Multiplication by α takes bytes to bytes. -/
theorem gf8x_lt (a : Nat) (ha : a < 256) : gf8x a < 256 := by
  unfold gf8x
  split
  · exact Nat.xor_lt_two_pow (n := 8) (Nat.mod_lt _ (by decide)) (by decide)
  · omega

/-- Multiplication by α takes nonzero bytes to nonzero bytes: what it reduces by is odd. -/
theorem gf8x_pos {a : Nat} (h0 : 0 < a) : 0 < gf8x a := by
  unfold gf8x
  split
  · refine Nat.pos_of_ne_zero fun h => ?_
    have hodd := eq_of_xor_eq_zero h
    omega
  · omega

/-- Multiplication by α is additive on bytes. -/
theorem gf8x_xor (a : Nat) (ha : a < 256) (b : Nat) (hb : b < 256) : gf8x (a ^^^ b) = gf8x a ^^^ gf8x b := by
  have hmask (p q : Bool) : (if (p ^^ q) then 0x1D else 0) = (if p then 0x1D else 0) ^^^ (if q then 0x1D else 0) := by
    cases p <;> cases q <;> rfl
  rw [gf8x_eq_shift ha, gf8x_eq_shift hb, gf8x_eq_shift (Nat.xor_lt_two_pow (n := 8) ha hb), Nat.shiftLeft_xor_distrib, Nat.xor_mod_two_pow,
    Nat.testBit_xor, hmask]
  ac_rfl

/-- Multiplication by α is one to one on bytes. -/
theorem gf8x_inj {a b : Nat} (ha : a < 256) (hb : b < 256) (h : gf8x a = gf8x b) : a = b := by
  have hsum : gf8x (a ^^^ b) = 0 := by rw [gf8x_xor a ha b hb, h, Nat.xor_self]
  exact eq_of_xor_eq_zero (Nat.eq_zero_of_not_pos fun hpos => absurd (gf8x_pos hpos) (by omega))

/-- A nonzero byte times a power of α is a nonzero byte. -/
theorem repeat_gf8x_byte {e : Nat} (h0 : 0 < e) (he : e < 256) (n : Nat) : 0 < Nat.repeat gf8x n e ∧ Nat.repeat gf8x n e < 256 := by
  induction n with
  | zero => exact ⟨h0, he⟩
  | succ n ih => exact ⟨gf8x_pos ih.1, gf8x_lt _ ih.2⟩

/-- Multiplication by a power of α is one to one on nonzero bytes. -/
theorem repeat_gf8x_inj {a b : Nat} (ha : 0 < a ∧ a < 256) (hb : 0 < b ∧ b < 256) {n : Nat} (h : Nat.repeat gf8x n a = Nat.repeat gf8x n b) :
    a = b := by
  induction n with
  | zero => exact h
  | succ n ih => exact ih (gf8x_inj (repeat_gf8x_byte ha.1 ha.2 n).2 (repeat_gf8x_byte hb.1 hb.2 n).2 h)

/-! ### The order of α is 255 -/

/-- The powers of α do not come back to 1 before the 255th. -/
theorem repeat_gf8x_one_ne : ∀ m < 255, 0 < m → Nat.repeat gf8x m 1 ≠ 1 := by decide +kernel

/-- Products with powers of α that do not come back to a byte are distinct. -/
theorem repeat_gf8x_distinct {e : Nat} (h0 : 0 < e) (he : e < 256) (hne : ∀ m < 255, 0 < m → Nat.repeat gf8x m e ≠ e) {i j : Nat}
    (hi : i < 255) (hij : i < j) (hj : j < 255) : Nat.repeat gf8x i e ≠ Nat.repeat gf8x j e := by
  intro h
  have hsplit : j = i + (j - i) := by omega
  rw [hsplit, repeat_add] at h
  exact hne (j - i) (by omega) (by omega) (repeat_gf8x_inj ⟨h0, he⟩ (repeat_gf8x_byte h0 he _) h).symm

/-- Every nonzero byte is a power of α: the 255 powers are distinct nonzero bytes, and there are no more than 255 of those. -/
theorem exists_repeat_gf8x_one {e : Nat} (h0 : 0 < e) (he : e < 256) : ∃ t, Nat.repeat gf8x t 1 = e := by
  refine Classical.byContradiction fun hnone => ?_
  have hpowers : ((List.range 255).map (fun t => Nat.repeat gf8x t 1)).Nodup := by
    refine List.pairwise_map.mpr (List.pairwise_lt_range.imp_of_mem fun hi hj hij => ?_)
    exact repeat_gf8x_distinct (by decide) (by decide) repeat_gf8x_one_ne (List.mem_range.mp hi) hij (List.mem_range.mp hj)
  have hnew : e ∉ (List.range 255).map (fun t => Nat.repeat gf8x t 1) := fun h => by
    obtain ⟨t, -, ht⟩ := List.mem_map.mp h
    exact hnone ⟨t, ht⟩
  have hbytes : e :: (List.range 255).map (fun t => Nat.repeat gf8x t 1) ⊆ List.range' 1 255 := by
    intro x hx
    rw [List.mem_range'_1]
    rcases List.mem_cons.mp hx with rfl | hx
    · omega
    · obtain ⟨t, -, rfl⟩ := List.mem_map.mp hx
      have hbyte := repeat_gf8x_byte (e := 1) (by decide) (by decide) t
      omega
  have hcount := List.Nodup.length_le_of_subset (List.nodup_cons.mpr ⟨hnew, hpowers⟩) hbytes
  rw [List.length_cons, List.length_map, List.length_range, List.length_range'] at hcount
  omega

/-- The products of a nonzero byte with the powers of α do not come back to it before the 255th. -/
theorem repeat_gf8x_ne {e : Nat} (h0 : 0 < e) (he : e < 256) (m : Nat) (hm : m < 255) (hpos : 0 < m) : Nat.repeat gf8x m e ≠ e := by
  obtain ⟨t, rfl⟩ := exists_repeat_gf8x_one h0 he
  rw [← repeat_add, Nat.add_comm, repeat_add]
  exact fun h => repeat_gf8x_one_ne m hm hpos (repeat_gf8x_inj (repeat_gf8x_byte (by decide) (by decide) m) (by decide) h)

/-- Different powers of α, below the 255th, give different products with a nonzero byte. -/
theorem repeat_gf8x_eq_iff {e i j : Nat} (h0 : 0 < e) (he : e < 256) (hi : i < 255) (hj : j < 255) :
    Nat.repeat gf8x i e = Nat.repeat gf8x j e ↔ i = j := by
  refine ⟨fun h => ?_, fun h => by rw [h]⟩
  rcases Nat.lt_trichotomy i j with hij | hij | hij
  · exact absurd h (repeat_gf8x_distinct h0 he (repeat_gf8x_ne h0 he) hi hij hj)
  · exact hij
  · exact absurd h.symm (repeat_gf8x_distinct h0 he (repeat_gf8x_ne h0 he) hj hij hi)

/-! ### The syndromes of a codeword with one wrong byte -/

/-- The value of a codeword at the point that `g` multiplies by, highest coefficient first, after a prefix with the value `s`. -/
def horner (g : Nat → Nat) (s : Nat) (l : List Nat) : Nat := l.foldl (fun s c => g s ^^^ c) s

/-- The syndromes are the values at 1 and at α. -/
theorem rsSyndromes_eq_horner (cw : List Nat) : rsSyndromes cw = (horner id 0 cw, horner gf8x 0 cw) := rfl

section
variable {g : Nat → Nat} (hlt : ∀ a < 256, g a < 256) (hxor : ∀ a < 256, ∀ b < 256, g (a ^^^ b) = g a ^^^ g b)
include hlt hxor

/-- What is added before a suffix is multiplied once for each of its bytes. -/
theorem horner_xor {s t : Nat} (hs : s < 256) (ht : t < 256) {l : List Nat} (hl : ∀ b ∈ l, b < 256) :
    horner g (s ^^^ t) l = horner g s l ^^^ Nat.repeat g (l.length) t := by
  induction l generalizing s t with
  | nil => rfl
  | cons b l ih =>
    obtain ⟨hb, hl⟩ := List.forall_mem_cons.mp hl
    have hstep : g (s ^^^ t) ^^^ b = (g s ^^^ b) ^^^ g t := by rw [hxor s hs t ht]; ac_rfl
    have hnext := ih (Nat.xor_lt_two_pow (n := 8) (hlt s hs) hb) (hlt t ht) hl
    rw [repeat_apply] at hnext
    exact (congrArg (horner g · l) hstep).trans hnext

/-- A pattern added to one byte is added to the value, multiplied once for each byte behind that one. -/
theorem horner_set {s e i : Nat} {l : List Nat} (hs : s < 256) (he : e < 256) (hl : ∀ b ∈ l, b < 256) (hi : i < l.length) :
    horner g s (l.set i (l.getD i 0 ^^^ e)) = horner g s l ^^^ Nat.repeat g (l.length - 1 - i) e := by
  induction l generalizing s i with
  | nil => simp at hi
  | cons b l ih =>
    obtain ⟨hb, hl⟩ := List.forall_mem_cons.mp hl
    have hstep : g s ^^^ b < 256 := Nat.xor_lt_two_pow (n := 8) (hlt s hs) hb
    cases i with
    | zero => exact (congrArg (horner g · l) (Nat.xor_assoc ..).symm).trans (horner_xor hlt hxor hstep he hl)
    | succ i =>
      have hlen : (b :: l).length - 1 - (i + 1) = l.length - 1 - i := by simp; omega
      rw [hlen]
      exact ih hstep hl (Nat.lt_of_succ_lt_succ hi)

end

/-- With one byte wrong, the first syndrome is the pattern and the second its product with the power of α of the place, counted from the end. -/
theorem rsSyndromes_set {cw : List Nat} {i e : Nat} (hcw : ∀ b ∈ cw, b < 256) (h0 : rsSyndromes cw = (0, 0)) (hi : i < cw.length)
    (he : e < 256) : rsSyndromes (cw.set i (cw.getD i 0 ^^^ e)) = (e, Nat.repeat gf8x (cw.length - 1 - i) e) := by
  rw [rsSyndromes_eq_horner, Prod.mk.injEq] at h0
  rw [rsSyndromes_eq_horner, horner_set (g := id) (fun _ => id) (fun _ _ _ _ => rfl) (by decide) he hcw hi,
    horner_set gf8x_lt gf8x_xor (by decide) he hcw hi, h0.1, h0.2, repeat_id, Nat.zero_xor,
    Nat.zero_xor]

/-! ### The search for the place -/

/-- The search of the decoder lists the places whose power of α takes the first syndrome to the second, the last one first. -/
theorem rsHits_eq (s0 s1 n : Nat) :
    (List.range n).foldl (fun (st : List Nat × Nat) i => (if st.2 = s1 then i :: st.1 else st.1, gf8x st.2)) ([], s0) =
      (((List.range n).filter (fun i => Nat.repeat gf8x i s0 == s1)).reverse, Nat.repeat gf8x n s0) := by
  induction n with
  | zero => rfl
  | succ n ih =>
    rw [List.range_succ, List.foldl_append, ih, List.filter_append, List.reverse_append]
    by_cases h : Nat.repeat gf8x n s0 = s1 <;> simp [h, Nat.repeat]

/-- For a nonzero pattern only one of the 82 places explains its syndromes. -/
theorem filter_repeat_gf8x {e n : Nat} (h0 : 0 < e) (he : e < 256) (hn : n < 82) :
    (List.range 82).filter (fun i => Nat.repeat gf8x i e == Nat.repeat gf8x n e) = [n] := by
  have hplace : ∀ i ∈ List.range 82, (Nat.repeat gf8x i e == Nat.repeat gf8x n e) = (i == n) := by
    intro i hi
    have hi := List.mem_range.mp hi
    rw [Bool.eq_iff_iff, beq_iff_eq, beq_iff_eq, repeat_gf8x_eq_iff h0 he (by omega) (by omega)]
  rw [List.filter_congr hplace, List.filter_beq, List.count_range, if_pos hn]
  rfl

/-! ### The decoder -/

/-- A codeword with both syndromes zero stays as it is. -/
theorem rsCorrect_of_zero {cw : List Nat} (h : rsSyndromes cw = (0, 0)) : rsCorrect cw = some (cw, false) := by
  simp [rsCorrect, h]

/-- Syndromes that place `n` from the end explains correct its byte by the first of them. -/
theorem rsCorrect_of_place {cw : List Nat} {e n : Nat} (h0 : 0 < e) (he : e < 256) (hn : n < 82)
    (h : rsSyndromes cw = (e, Nat.repeat gf8x n e)) : rsCorrect cw = some (cw.set (81 - n) (cw.getD (81 - n) 0 ^^^ e), true) := by
  have hne : e ≠ 0 := Nat.ne_of_gt h0
  have hne' : Nat.repeat gf8x n e ≠ 0 := Nat.ne_of_gt (repeat_gf8x_byte h0 he n).1
  simp [rsCorrect, h, hne, hne', rsHits_eq, filter_repeat_gf8x h0 he hn]

/-- Adding a pattern to a byte twice gives the byte back. -/
theorem set_xor_set_xor (l : List Nat) (i e : Nat) (hi : i < l.length) :
    (l.set i (l.getD i 0 ^^^ e)).set i ((l.set i (l.getD i 0 ^^^ e)).getD i 0 ^^^ e) = l := by
  have hread (x : Nat) : (l.set i x).getD i 0 = x := by simp [hi]
  have hsame : l.set i (l.getD i 0) = l := by simp [hi]
  rw [hread, List.set_set, Nat.xor_assoc, Nat.xor_self, Nat.xor_zero, hsame]

/-- Settles O50: the syndromes of a single wrong byte are its pattern and the pattern times the power of α of its place, which no other place
shares. -/
theorem fecCorrectsEverySingleByte : Obligations.FecCorrectsEverySingleByte := by
  unfold Obligations.FecCorrectsEverySingleByte
  intro cw hlen hcw hzero
  refine ⟨rsCorrect_of_zero hzero, fun i e hi h0 he => ?_⟩
  have hi' : i < cw.length := hlen ▸ hi
  have hsyn := rsSyndromes_set hcw hzero hi' he
  rw [rsCorrect_of_place h0 he (by omega) hsyn, hlen, show 81 - (82 - 1 - i) = i by omega, set_xor_set_xor cw i e hi']

end Sys2Proof.Machine
end

section
/-! SUPPORT. The state of a Ronlink link: what is put there reads back, and a register that is written leaves an ACTIVE link as it was. -/

namespace Sys2Proof.Machine

/-- A link that was replaced reads as replaced. -/
@[simp] theorem Device.link_setLink_self (d : Device) (k : LinkId) (x : Link) : (d.setLink k x).link k = x := by
  simp [Device.link, Device.setLink]

/-- Of two replacements of a link the last one stays. -/
@[simp] theorem Device.setLink_setLink (d : Device) (k : LinkId) (x y : Link) : (d.setLink k x).setLink k y = d.setLink k y := by
  simp [Device.setLink]

/-- An ACTIVE link is listed, so it depends on the list of links alone: one that is not listed is in DETECT or DISABLED. -/
theorem Device.link_eq_of_active {d e : Device} {k : LinkId} (hlinks : e.links = d.links) (h : (d.link k).state = .active) :
    e.link k = d.link k := by
  unfold Device.link at h ⊢
  rw [hlinks]
  cases hfind : KMap.find d.links (linkKey k) with
  | some x => rfl
  | none =>
    rw [hfind] at h
    cases k with
    | site s => by_cases hlive : d.siteLive s = true <;> simp [hlive] at h
    | peer p => cases h

end Sys2Proof.Machine
end

section
/-! PROOFS. The training of a link: what each event does is decided by the state that the link is in (R212 to R216, R237, R238, R242, R247). -/

namespace Sys2Proof.Machine

/-! ### Training flits (R213 to R215) -/

section
variable {d : Device} {k : LinkId}

/-- On an ACTIVE link a training flit takes the link down with cause 5. -/
theorem Device.trainFlit_active (h : (d.link k).state = .active) (f : TrainFields) :
    d.ts1 k f = d.linkFalls k 5 ∧ d.ts2 k f = d.linkFalls k 5 := by
  simp [Device.ts1, Device.ts2, h]

/-- In TS1 either training flit is counted as the other. -/
theorem Device.trainFlit_ts1 (h : (d.link k).state = .ts1) (f : TrainFields) : d.ts1 k f = d.countTs1 k f ∧ d.ts2 k f = d.countTs1 k f := by
  simp [Device.ts1, Device.ts2, h]

/-- In TS2 a TS1 flit breaks the run and a TS2 flit is examined. -/
theorem Device.trainFlit_ts2 (h : (d.link k).state = .ts2) (f : TrainFields) :
    d.ts1 k f = d.setLink k { d.link k with trainCount := 0 } ∧ d.ts2 k f = d.countTs2 k f := by
  simp [Device.ts1, Device.ts2, h]

/-- In the other states training flits change nothing. -/
theorem Device.trainFlit_eq_self
    (h : (d.link k).state = .disabled ∨ (d.link k).state = .quiet ∨ (d.link k).state = .detect ∨ (d.link k).state = .sleep ∨
      (d.link k).state = .ending) (f : TrainFields) : d.ts1 k f = d ∧ d.ts2 k f = d := by
  rcases h with h | h | h | h | h <;> simp [Device.ts1, Device.ts2, h]

/-- The first seven training flits in TS1 are counted. -/
theorem Device.countTs1_lt {f : TrainFields} (h : (d.link k).trainCount < 7) :
    d.countTs1 k f = (d.hear k f).setLink k { (d.hear k f).link k with trainCount := (d.link k).trainCount + 1 } := by
  simp [Device.countTs1, Device.hear, h]

/-- The eighth leads to TS2, where the link sends TS2. -/
theorem Device.countTs1_ge {f : TrainFields} (h : 7 ≤ (d.link k).trainCount) :
    d.countTs1 k f =
      ((d.hear k f).setLink k { (d.hear k f).link k with state := .ts2, trainCount := 0, ts2Sent := 0, lastTs2 := none }).sendTs2 k := by
  simp [Device.countTs1, Device.hear, Nat.not_lt.mpr h]

/-- A TS2 flit that does not fit fails the training; where no width fits without a flag. -/
theorem Device.countTs2_fails {f : TrainFields} {b : Nat} (h : d.ts2Fails k f = some b) :
    d.countTs2 k f = (if b = 0 then d else d.linkErr k b).trainFails k := by
  simp [Device.countTs2, h]

/-- The device when a good TS2 flit has been counted: anew where its fields, the LANE apart, differ from the last one's. -/
def Device.tookTs2 (d : Device) (k : LinkId) (f : TrainFields) : Device :=
  d.setLink k { d.link k with
    heard := some (f.linkId, f.port), lastTs2 := some { f with lane := 0 }, ts2Sent := (d.link k).ts2Sent + 1,
    trainCount := if (d.link k).lastTs2 = some { f with lane := 0 } then (d.link k).trainCount + 1 else 1 }

/-- A good TS2 flit is answered by a TS2, or by TS_END 3, 2, 1, 0 where the counts are reached. -/
theorem Device.countTs2_good {f : TrainFields} (h : d.ts2Fails k f = none) :
    d.countTs2 k f =
      if 8 ≤ ((d.tookTs2 k f).link k).trainCount ∧ 16 ≤ (d.link k).ts2Sent + 1 then
        [3, 2, 1, 0].foldl (fun (e : Device) m => e.sendTrain k 2 { e.myTrain k with endCount := m })
          ((d.tookTs2 k f).setLink k { (d.tookTs2 k f).link k with state := .ending, endSent := true })
      else (d.tookTs2 k f).sendTs2 k := by
  simp [Device.countTs2, Device.hear, Device.tookTs2, h]

end

/-! ### The end of training, and its timers (R214, R242) -/

section
variable {d : Device} {k : LinkId}

/-- END ends with the fields of the partner's last TS2. -/
theorem Device.trainEnds_some {f : TrainFields} (h : (d.link k).lastTs2 = some f) : d.trainEnds k = d.goActive k f := by
  simp [Device.trainEnds, h]

/-- Without a TS2 of the partner training does not end. -/
theorem Device.trainEnds_none (h : (d.link k).lastTs2 = none) : d.trainEnds k = d := by
  simp [Device.trainEnds, h]

/-- TS_END ends training in TS2 and END. -/
theorem leads_tsEnd_trainEnds {w : List Instr} {e : Device} (h : (d.link k).state = .ts2 ∨ (d.link k).state = .ending) (he : d.trainEnds k = e) :
    Leads (.tsEnd k) ⟨d, w⟩ e := by
  rcases h with h | h <;> exact leads_of_exec rfl (by simp [h, he])

/-- In a state before TS2, and on a link that is down or asleep, TS_END changes nothing. -/
theorem leads_tsEnd_self {w : List Instr}
    (h : (d.link k).state = .disabled ∨ (d.link k).state = .quiet ∨ (d.link k).state = .detect ∨ (d.link k).state = .sleep ∨
      (d.link k).state = .ts1) : Leads (.tsEnd k) ⟨d, w⟩ d := by
  rcases h with h | h | h | h | h <;> exact leads_of_exec rfl (by simp [h])

/-- In a training state the timeout raises its flag and fails the training. -/
theorem Device.trainTimeout_training
    (h : (d.link k).state = .detect ∨ (d.link k).state = .ts1 ∨ (d.link k).state = .ts2 ∨ (d.link k).state = .ending) :
    d.trainTimeout k = (d.linkErr k 3).trainFails k := by
  rcases h with h | h | h | h <;> simp [Device.trainTimeout, h]

/-- In another state the timeout changes nothing. -/
theorem Device.trainTimeout_eq_self
    (h : (d.link k).state = .active ∨ (d.link k).state = .sleep ∨ (d.link k).state = .quiet ∨ (d.link k).state = .disabled) :
    d.trainTimeout k = d := by
  rcases h with h | h | h | h <;> simp [Device.trainTimeout, h]

/-- A grace timer that does not run, or runs on a link that is up, flushes nothing. -/
theorem Device.graceExpires_eq_self (h : (d.link k).graceRun = false ∨ (d.link k).state = .active ∨ (d.link k).state = .sleep) :
    d.graceExpires k = d := by
  rcases h with h | h | h <;> simp [Device.graceExpires, h]

/-- A grace timer that ends raises its flag and flushes the link to the next epoch; in TS2 the flits count anew. -/
theorem Device.graceExpires_flushes {e : Device} (hrun : (d.link k).graceRun = true) (ha : (d.link k).state ≠ .active)
    (hs : (d.link k).state ≠ .sleep) (he : e = (d.linkEvt k 2).flush k (((d.link k).epoch + 1) % 256)) :
    d.graceExpires k = if (d.link k).state = .ts2 then e.setLink k { e.link k with trainCount := 0, ts2Sent := 0 } else e := by
  simp [Device.graceExpires, hrun, ha, hs, he]

/-! ### Enabling and retraining (R213, R247) -/

/-- May the link be enabled? -/
def Device.linkLive (d : Device) : LinkId → Bool
  | .site s => d.siteLive s
  | .peer p => d.peerLive p

/-- Enabling trains a DISABLED link that may be enabled. -/
theorem Device.linkEnable_detects (hd : (d.link k).state = .disabled) (hl : d.linkLive k = true) : d.linkEnable k = d.detect k := by
  cases k <;> exact if_pos (by simpa [hd, Device.linkLive] using hl)

/-- Enabling changes no other link. -/
theorem Device.linkEnable_eq_self (h : (d.link k).state ≠ .disabled ∨ d.linkLive k = false) : d.linkEnable k = d := by
  cases k <;> exact if_neg (by rcases h with h | h <;> simp_all [Device.linkLive])

/-- A retrain of an ACTIVE link tells the partner first. -/
theorem Device.retrainLink_active (h : (d.link k).state = .active) : d.retrainLink k = (d.sendLctl k 1).linkFalls k 7 := by
  simp [Device.retrainLink, h]

/-- A retrain of a sleeping or training link takes it down. -/
theorem Device.retrainLink_falls
    (h : (d.link k).state = .sleep ∨ (d.link k).state = .detect ∨ (d.link k).state = .ts1 ∨ (d.link k).state = .ts2 ∨
      (d.link k).state = .ending) :
    d.retrainLink k = d.linkFalls k 7 := by
  rcases h with h | h | h | h | h <;> simp [Device.retrainLink, h]

/-- On a QUIET or DISABLED link of the device a retrain only sets its bit. -/
theorem Device.retrainLink_waits (h : (d.link k).state = .quiet ∨ (d.link k).state = .disabled) :
    d.retrainLink k = if d.hasLink k = true then d.setReg (lf k SITE.LINK_CTL.RETRAIN PEER.LINK_CTL.RETRAIN) 1 (linkNo k) else d := by
  rcases h with h | h <;> cases hk : d.hasLink k <;> simp [Device.retrainLink, h, hk]

end

/-! ### The obligation -/

/-- Settles O40: each event is decided by the state that the link is in. -/
theorem linkTraining : Obligations.LinkTraining := by
  unfold Obligations.LinkTraining
  rintro d w k x rfl
  refine ⟨?_, ?_, ?_, ?_, ?_, ?_, ?_, ?_, ?_, ?_, ?_, ?_, ?_, ?_, ?_, ?_, ?_, ?_, ?_, ?_, ?_, ?_, ?_, ?_⟩
  · exact fun lanes => ⟨fun h => leads_of_exec rfl (if_pos h), fun h => leads_of_exec rfl (if_neg h)⟩
  · rintro f e h rfl
    obtain ⟨h1, h2⟩ := Device.trainFlit_ts1 h f
    exact ⟨fun hn => ⟨leads_of_exec rfl (h1.trans (Device.countTs1_lt hn)), leads_of_exec rfl (h2.trans (Device.countTs1_lt hn))⟩,
      fun hn => ⟨leads_of_exec rfl (h1.trans (Device.countTs1_ge hn)), leads_of_exec rfl (h2.trans (Device.countTs1_ge hn))⟩⟩
  · exact fun f h => leads_of_exec rfl (Device.trainFlit_ts2 h f).1
  · intro f h
    obtain ⟨h1, h2⟩ := Device.trainFlit_active h f
    exact ⟨leads_of_exec rfl h1, leads_of_exec rfl h2, leads_of_exec rfl (by simp [h])⟩
  · intro f h
    obtain ⟨h1, h2⟩ := Device.trainFlit_eq_self h f
    exact ⟨leads_of_exec rfl h1, leads_of_exec rfl h2⟩
  · exact fun h => leads_tsEnd_self h
  · exact fun h => leads_of_exec rfl (if_neg h)
  · intro f h
    obtain ⟨-, h2⟩ := Device.trainFlit_ts2 h f
    refine ⟨fun b hb => ?_, ?_⟩
    · have hfails := h2.trans (Device.countTs2_fails hb)
      exact ⟨fun h0 => leads_of_exec rfl (hfails.trans (by rw [if_pos h0])), fun h0 => leads_of_exec rfl (hfails.trans (by rw [if_neg h0]))⟩
    · rintro n g e hb rfl rfl rfl
      have hgood := h2.trans (Device.countTs2_good hb)
      rw [Device.tookTs2, Device.link_setLink_self] at hgood
      refine ⟨fun hn => leads_of_exec rfl (hgood.trans (if_neg hn)), fun hn => leads_of_exec rfl (hgood.trans ?_)⟩
      rw [if_pos hn, Device.link_setLink_self]
  · exact fun f => rfl
  · exact fun h => ⟨fun f hf => leads_tsEnd_trainEnds h (Device.trainEnds_some hf), fun hf => leads_tsEnd_trainEnds h (Device.trainEnds_none hf)⟩
  · exact fun h => ⟨fun f hf => leads_of_exec rfl ((if_pos h).trans (Device.trainEnds_some hf)),
      fun hf => leads_of_exec rfl ((if_pos h).trans (Device.trainEnds_none hf))⟩
  · exact fun h => leads_of_exec rfl (Device.trainTimeout_training h)
  · exact fun h => leads_of_exec rfl (Device.trainTimeout_eq_self h)
  · exact fun h => leads_of_exec rfl (if_pos h)
  · exact fun h => leads_of_exec rfl (if_neg h)
  · exact fun h => leads_of_exec rfl (Device.graceExpires_eq_self h)
  · intro e hrun ha hs he
    have hflush := Device.graceExpires_flushes hrun ha hs he
    exact ⟨fun h => leads_of_exec rfl (hflush.trans (if_pos h)), fun h => leads_of_exec rfl (hflush.trans (if_neg h))⟩
  · rintro live rfl
    exact ⟨fun h => leads_of_exec rfl (Device.linkEnable_eq_self h), fun hd hl => leads_of_exec rfl (Device.linkEnable_detects hd hl)⟩
  · exact fun h => leads_of_exec rfl (Device.retrainLink_active h)
  · exact fun h => leads_of_exec rfl (Device.retrainLink_falls h)
  · exact fun h => ⟨fun hk => leads_of_exec rfl ((Device.retrainLink_waits h).trans (if_pos hk)),
      fun hk => leads_of_exec rfl ((Device.retrainLink_waits h).trans (if_neg (by simp [hk])))⟩
  · exact fun hk => leads_of_exec rfl (if_pos hk)
  · exact fun hk => leads_of_exec rfl (if_neg (by simp [hk]))
  · exact fun kind n height width => leads_of_exec rfl rfl

end Sys2Proof.Machine
end

section
/-! PROOFS. Received flits and frames of a link, sleep, replay and going down (R201, R203 to R206, R209, R211, R213, R223, R225, R236, R244, R245). -/

namespace Sys2Proof.Machine

/-! ### Flits (R209, R211, R223, R245) -/

section
variable {d : Device} {k : LinkId}

/-- Invalid block headers are counted on an ACTIVE site link. -/
theorem Device.headerErrs_active {s : Nat} (h : (d.link (.site s)).state = .active) (n : Nat) :
    d.headerErrs (.site s) n = d.countSat SITE.HDR_ERRS.COUNT s n := if_pos h

/-- On a peer link, and on one that is not ACTIVE, invalid block headers are not counted. -/
theorem Device.headerErrs_eq_self (h : (∃ p, k = .peer p) ∨ (d.link k).state ≠ .active) (n : Nat) : d.headerErrs k n = d := by
  cases k with
  | site s => exact if_neg (h.resolve_left (by simp))
  | peer p => rfl

/-- Counting invalid block headers leaves the list of links. -/
@[simp] theorem Device.headerErrs_links (d : Device) (k : LinkId) (n : Nat) : (d.headerErrs k n).links = d.links := by
  unfold Device.headerErrs
  split
  · split <;> rfl
  · rfl

/-- Counting invalid block headers leaves the link's state. -/
theorem Device.headerErrs_state (d : Device) (k : LinkId) (n : Nat) : ((d.headerErrs k n).link k).state = (d.link k).state := by
  by_cases h : (d.link k).state = .active
  · rw [Device.link_eq_of_active (d.headerErrs_links k n) h]
  · rw [Device.headerErrs_eq_self (.inr h)]

/-- On an ACTIVE link a good flit with a protocol error in its header takes the link down with cause 3. -/
theorem Device.flit_bad {h : FlitHdr} (f : Device → Device) (ha : (d.link k).state = .active) (hb : (d.link k).badHeader h = true) :
    d.flit k h f = d.linkFalls k 3 := by
  simp [Device.flit, ha, hb]

/-- Any other is taken by its header first, and has its own effect where that leaves the link ACTIVE. -/
theorem Device.flit_good {h : FlitHdr} (f : Device → Device) (ha : (d.link k).state = .active) (hb : (d.link k).badHeader h = false) :
    d.flit k h f = if ((d.takeHeader k h).link k).state = .active then (f (d.takeHeader k h)).pump k else d.takeHeader k h := by
  simp [Device.flit, ha, hb]

/-- What a command does that is a good flit with effect `f`: its block headers are counted, then the link's state and the header decide. -/
theorem leads_flit {w : List Instr} {c : Instr} {h : FlitHdr} {n : Nat} {f : Device → Device}
    (hc : exec c ⟨d, w⟩ = .next ⟨settle ((d.headerErrs k n).flit k h f), w⟩) :
    ((d.link k).state ≠ .active → Leads c ⟨d, w⟩ d) ∧
    ((d.link k).state = .active → (d.link k).badHeader h = true → Leads c ⟨d, w⟩ ((d.headerErrs k n).linkFalls k 3)) ∧
    (∀ g, (d.link k).state = .active → (d.link k).badHeader h = false → g = (d.headerErrs k n).takeHeader k h →
      ((g.link k).state = .active → Leads c ⟨d, w⟩ ((f g).pump k)) ∧ ((g.link k).state ≠ .active → Leads c ⟨d, w⟩ g)) := by
  have hlink (ha : (d.link k).state = .active) : (d.headerErrs k n).link k = d.link k :=
    Device.link_eq_of_active (d.headerErrs_links k n) ha
  refine ⟨fun ha => leads_of_exec hc ?_, fun ha hb => leads_of_exec hc (Device.flit_bad f ?_ ?_), ?_⟩
  · rw [Device.headerErrs_eq_self (.inr ha)]
    exact if_pos ha
  · rw [hlink ha, ha]
  · rw [hlink ha, hb]
  · rintro g ha hb rfl
    have hflit := Device.flit_good (h := h) f ((congrArg Link.state (hlink ha)).trans ha) ((congrArg (Link.badHeader · h) (hlink ha)).trans hb)
    exact ⟨fun hg => leads_of_exec hc (hflit.trans (if_pos hg)), fun hg => leads_of_exec hc (hflit.trans (if_neg hg))⟩

/-- A flit with a bad CRC is counted and asked for again on an ACTIVE link. -/
theorem Device.badCrc_active (h : (d.link k).state = .active) :
    d.badCrc k = (d.linkCount k SITE.CRC_ERRS.COUNT PEER.CRC_ERRS.COUNT).nak k := by
  simp [Device.badCrc, h]

/-- In TS1 and TS2 a flit with a bad CRC is counted and breaks the run. -/
theorem Device.badCrc_training (h : (d.link k).state = .ts1 ∨ (d.link k).state = .ts2) :
    d.badCrc k = (d.linkCount k SITE.CRC_ERRS.COUNT PEER.CRC_ERRS.COUNT).setLink k
      { (d.linkCount k SITE.CRC_ERRS.COUNT PEER.CRC_ERRS.COUNT).link k with trainCount := 0 } := by
  rcases h with h | h <;> simp [Device.badCrc, h]

/-- In END a flit with a bad CRC is counted. -/
theorem Device.badCrc_ending (h : (d.link k).state = .ending) : d.badCrc k = d.linkCount k SITE.CRC_ERRS.COUNT PEER.CRC_ERRS.COUNT := by
  simp [Device.badCrc, h]

/-- Before training and asleep a flit with a bad CRC changes nothing. -/
theorem Device.badCrc_eq_self
    (h : (d.link k).state = .disabled ∨ (d.link k).state = .quiet ∨ (d.link k).state = .detect ∨ (d.link k).state = .sleep) :
    d.badCrc k = d := by
  rcases h with h | h | h | h <;> simp [Device.badCrc, h]

end

/-! ### Frames (R203 to R206) -/

section
variable {d : Device} {p : Nat}

/-- On a link that is not ACTIVE frames change nothing. -/
theorem Device.frames_eq_self (h : (d.link (.peer p)).state ≠ .active) (adj : Bool) (bytes : List Nat) :
    d.skipFrame p adj = d ∧ d.dataFrame p bytes = d := ⟨if_pos h, if_pos h⟩

variable (h : (d.link (.peer p)).state = .active)
include h

/-- A SKIP frame restarts the count of frames, and counts where the receiver adjusts. -/
theorem Device.skipFrame_active (adj : Bool) :
    d.skipFrame p adj = if adj = true then (d.setLink (.peer p) { d.link (.peer p) with frames := 0 }).countSat PEER.SKIP_ADJ.COUNT p
      else d.setLink (.peer p) { d.link (.peer p) with frames := 0 } :=
  if_neg (not_not_intro h)

/-- A data frame that is a SKIP frame by its bytes is one. -/
theorem Device.dataFrame_skip {bytes : List Nat} (hskip : isSkip bytes = true) : d.dataFrame p bytes = d.skipFrame p false := by
  simp [Device.dataFrame, h, hskip]

/-- A frame that FEC cannot correct is counted; it loses the framing, or its three flits are bad. -/
theorem Device.dataFrame_uncorrectable {bytes : List Nat} (hskip : isSkip bytes = false) (hdec : decodeFrame bytes = none) {e : Device}
    (he : e = (d.setLink (.peer p) { d.link (.peer p) with
      rxScr := (scrambleBytes (d.link (.peer p)).rxScr (bytes.take 240)).2, badFrames := (d.link (.peer p)).badFrames + 1,
      frames := (d.link (.peer p)).frames + 1 }).countSat PEER.FEC_UNCORR.COUNT p) :
    d.dataFrame p bytes =
      if 8 ≤ (d.link (.peer p)).badFrames + 1 ∨ 2048 ≤ (d.link (.peer p)).frames + 1 then e.linkFalls (.peer p) 1
      else ((e.badCrc (.peer p)).badCrc (.peer p)).badCrc (.peer p) := by
  simp [Device.dataFrame, h, hskip, hdec, he]

/-- A frame that FEC corrects is counted; it loses the framing, or delivers its three flits. -/
theorem Device.dataFrame_corrected {bytes data : List Nat} {fixed : Nat} (hskip : isSkip bytes = false)
    (hdec : decodeFrame bytes = some (data, fixed)) {e : Device}
    (he : e = (d.setLink (.peer p) { d.link (.peer p) with
      rxScr := (scrambleBytes (d.link (.peer p)).rxScr data).2, badFrames := 0, frames := (d.link (.peer p)).frames + 1 }).countSat
        PEER.FEC_CORR.COUNT p fixed) :
    d.dataFrame p bytes =
      if 2048 ≤ (d.link (.peer p)).frames + 1 then e.linkFalls (.peer p) 1
      else (chunk 80 3 (scrambleBytes (d.link (.peer p)).rxScr data).1).foldl (fun (e : Device) b => e.frameFlit (.peer p) b) e := by
  simp [Device.dataFrame, h, hskip, hdec, he]

end

/-! ### Going down (R236, R245) -/

/-- The margin plan is told before a link goes down. -/
theorem Device.linkFalls_eq (d : Device) (k : LinkId) (c : Nat) {e : Device} (he : e = d.reeqFails (if isPeer k = true then 1 else 0) (linkNo k)) :
    d.linkFalls k c = if (e.link k).state = .active then (e.linkDown k c).peerFell k else e.linkDown k c := by
  subst he
  cases k <;> rfl

/-! ### The obligation -/

/-- Settles O41: a flit is taken by its header first and then by its type, a frame by its FEC, and the link's state decides which of them count. -/
theorem linkFlitsFramesAndSleep : Obligations.LinkFlitsFramesAndSleep := by
  unfold Obligations.LinkFlitsFramesAndSleep
  rintro d w k x rfl
  refine ⟨?_, ?_, ?_, ?_, ?_, ?_, ?_, ?_, ?_, ?_, ?_⟩
  · refine fun n => ⟨?_, fun h => Device.headerErrs_eq_self h n⟩
    rintro s rfl ha
    exact Device.headerErrs_active ha n
  · rintro h n c f e rfl hmem
    simp only [List.mem_cons, Prod.mk.injEq, List.not_mem_nil, or_false] at hmem
    rcases hmem with ⟨rfl, rfl⟩ | ⟨rfl, rfl⟩ | ⟨rfl, rfl⟩ | ⟨rfl, rfl⟩ | ⟨rfl, rfl⟩ | ⟨rfl, rfl⟩ | ⟨rfl, rfl⟩ <;> exact leads_flit rfl
  · rintro n e g rfl rfl
    have hstate := d.headerErrs_state k n
    refine ⟨fun h => leads_of_exec rfl (Device.badCrc_active (hstate.trans h)),
      fun h => leads_of_exec rfl (Device.badCrc_training (hstate ▸ h)),
      fun h => leads_of_exec rfl (Device.badCrc_ending (hstate.trans h)), fun h => leads_of_exec rfl ?_⟩
    have hcounted : d.headerErrs k n = d := Device.headerErrs_eq_self (.inr fun ha => by simp [ha] at h) n
    exact (congrArg (Device.badCrc · k) hcounted).trans (Device.badCrc_eq_self h)
  · exact fun h => leads_of_exec rfl (if_pos h)
  · exact fun h => leads_of_exec rfl (if_neg h)
  · rintro p rfl h
    exact ⟨fun adj => leads_of_exec rfl (Device.frames_eq_self h adj []).1, fun bytes => leads_of_exec rfl (Device.frames_eq_self h false bytes).2⟩
  · rintro p rfl h
    refine ⟨leads_of_exec rfl (Device.skipFrame_active h false), leads_of_exec rfl (Device.skipFrame_active h true),
      fun bytes hskip => leads_of_exec rfl ((Device.dataFrame_skip h hskip).trans (Device.skipFrame_active h false)), ?_, ?_⟩
    · intro bytes e hskip hdec he
      have hframe := Device.dataFrame_uncorrectable h hskip hdec he
      exact ⟨fun hlost => leads_of_exec rfl (hframe.trans (if_pos (by omega))),
        fun hb hf => leads_of_exec rfl (hframe.trans (if_neg (by omega)))⟩
    · intro bytes data fixed e hskip hdec he
      have hframe := Device.dataFrame_corrected h hskip hdec he
      exact ⟨fun hlost => leads_of_exec rfl (hframe.trans (if_pos (by omega))), fun hf => leads_of_exec rfl (hframe.trans (if_neg (by omega)))⟩
  · exact fun h => ⟨leads_of_exec rfl (if_pos h), leads_of_exec rfl (if_pos h)⟩
  · exact fun h => ⟨leads_of_exec rfl (if_neg h), leads_of_exec rfl (if_neg h), leads_of_exec rfl (if_neg (fun ha => h ha.1))⟩
  · exact fun h => ⟨fun hnone => leads_of_exec rfl (if_neg (by simp [hnone])), fun hsome => leads_of_exec rfl (if_pos (by simp [h, hsome]))⟩
  · rintro c e he
    exact ⟨fun h => (d.linkFalls_eq k c he).trans (if_pos h), fun h => (d.linkFalls_eq k c he).trans (if_neg h)⟩

end Sys2Proof.Machine
end

section
/-! PROOFS. READ, WRITE, WRITE_MASKED and ATOMIC of a site: each is accepted, and then goes to the home of its line, to the site's batch, or is
answered ACCESS by its size and alignment (R176, R250 to R255, R263, R265, R266). -/

namespace Sys2Proof.Machine

/-! ### The port of a site -/

/-- The port of a site reads back. -/
@[simp] theorem Device.sitePort_setSitePort_self (d : Device) (s : Nat) (x : SitePort) : (d.setSitePort s x).sitePort s = x := by
  simp [Device.sitePort, Device.setSitePort]

/-- Receive credits are a matter of the link alone. -/
@[simp] theorem Device.sitePort_consume (d : Device) (k : LinkId) (pl n : Nat) (hold : Bool) (s : Nat) :
    (d.consume k pl n hold).sitePort s = d.sitePort s := rfl

/-- An accepted request stands last in the order of its port, under the port's next number (R251, R255). -/
theorem Device.sitePort_siteAccept (d : Device) (s opc tag dl : Nat) (sync : Bool) (lines pl n : Nat) :
    (d.siteAccept s opc tag dl sync lines pl n).1.sitePort s = { d.sitePort s with
      nextId := (d.sitePort s).nextId + 1
      reqs := (d.sitePort s).reqs ++ [{ id := (d.sitePort s).nextId, opcode := opc, tag := tag, arrived := d.time
                                        deadline := if dl = 0 then 0 else d.time + 16 * dl, sync := sync, lines := lines }] } := by
  simp [Device.siteAccept]

section
variable {d : Device} {s tag dl : Nat} {a : Device × Nat} (hup : d.siteUp s = true)
include hup

/-! ### READ -/

section
variable {sync : Bool} {size : Nat} (ha : a = d.siteAccept s 0x01 tag dl sync (sizeLines size) cmdPool 0)
include ha

/-- A READ of an allowed size at an aligned address. -/
theorem Device.siteReadCmd_aligned {addr : Nat} (hsize : size < 3) (halign : addr % (64 * sizeLines size) = 0) (hrange : addr < 2 ^ 46)
    (batch : Bool) {r : Request} (hr : r = a.1.siteReq s a.2 dl addr (.siteRead (sizeLines size) batch)) :
    d.siteReadCmd s tag dl sync batch size addr = if batch then a.1.siteBatchOp s a.2 r else a.1.route r := by
  subst hr ha
  rw [Device.siteReadCmd, Device.onSite_up hup]
  exact if_neg (by omega)

/-- A READ of the reserved size or at a misaligned address (R254, log entry 41). -/
theorem Device.siteReadCmd_access {addr : Nat} (h : 3 ≤ size ∨ addr % (64 * sizeLines size) ≠ 0) (batch : Bool) :
    d.siteReadCmd s tag dl sync batch size addr = a.1.answerSite s a.2 { status := 3 } := by
  subst ha
  rw [Device.siteReadCmd, Device.onSite_up hup]
  exact if_pos (or_assoc.mp (.inl h))

end

/-! ### WRITE -/

/-- A WRITE of the reserved size breaks the protocol, since the number of its data flits is undefined (R254, log entry 41). -/
theorem Device.siteWriteCmd_reservedSize {size : Nat} (hsize : 3 ≤ size) (batch : Bool) (addr : Nat) (data : List Line) :
    d.siteWriteCmd s tag dl batch size addr data = d.siteProto s := if_pos ⟨hup, hsize⟩

section
variable {size : Nat} (ha : a = d.siteAccept s 0x02 tag dl false 0 cmdPool (sizeLines size)) (hsize : size < 3)
include ha hsize

/-- A WRITE of an allowed size at an aligned address is charged its bytes. -/
theorem Device.siteWriteCmd_aligned {addr : Nat} (halign : addr % (64 * sizeLines size) = 0) (hrange : addr < 2 ^ 46) (batch : Bool)
    (data : List Line) {c : Device} (hc : c = a.1.chargeBytes (a.1.siteClass s) (64 * sizeLines size)) {r : Request}
    (hr : r = a.1.siteReq s a.2 dl addr (.siteWrite ((data ++ List.replicate 16 0).take (sizeLines size)) batch)) :
    d.siteWriteCmd s tag dl batch size addr data = if batch then c.siteBatchOp s a.2 r else c.route r := by
  subst hr hc ha
  exact (if_neg (by omega)).trans ((Device.onSite_up hup ..).trans (if_neg (by omega)))

/-- A WRITE of an allowed size at a misaligned address. -/
theorem Device.siteWriteCmd_access {addr : Nat} (h : addr % (64 * sizeLines size) ≠ 0) (batch : Bool) (data : List Line) :
    d.siteWriteCmd s tag dl batch size addr data = a.1.answerSite s a.2 { status := 3 } := by
  subst ha
  exact (if_neg (by omega)).trans ((Device.onSite_up hup ..).trans (if_pos (.inl h)))

end

/-! ### WRITE_MASKED -/

section
variable (ha : a = d.siteAccept s 0x03 tag dl false 0 cmdPool 1)
include ha

/-- A WRITE_MASKED of a line is charged 64 bytes. -/
theorem Device.siteMaskedCmd_aligned {addr : Nat} (halign : addr % 64 = 0) (hrange : addr < 2 ^ 46) (batch : Bool) (mask : BitVec 64)
    (data : Line) {c : Device} (hc : c = a.1.chargeBytes (a.1.siteClass s) 64) {r : Request}
    (hr : r = a.1.siteReq s a.2 dl addr (.siteWriteMasked data mask batch)) :
    d.siteMaskedCmd s tag dl batch addr mask data = if batch then c.siteBatchOp s a.2 r else c.route r := by
  subst hr hc ha
  exact (Device.onSite_up hup ..).trans (if_neg (by omega))

/-- A WRITE_MASKED at a misaligned address. -/
theorem Device.siteMaskedCmd_access {addr : Nat} (h : addr % 64 ≠ 0) (batch : Bool) (mask : BitVec 64) (data : Line) :
    d.siteMaskedCmd s tag dl batch addr mask data = a.1.answerSite s a.2 { status := 3 } := by
  subst ha
  exact (Device.onSite_up hup ..).trans (if_pos (.inl h))

end

/-! ### ATOMIC -/

section
variable (ha : a = d.siteAccept s 0x04 tag dl false 0 cmdPool 0) {addr : Nat} {wide : Bool}
include ha

/-- An ATOMIC on an aligned word. -/
theorem Device.siteAtomicCmd_aligned (halign : addr % (if wide then 8 else 4) = 0) (hrange : addr < 2 ^ 46) (op : AtomicOp)
    (op1 op2 atag : Nat) :
    d.siteAtomicCmd s tag dl addr op wide op1 op2 atag = a.1.route (a.1.siteReq s a.2 dl addr (.atomic op wide op1 op2 atag)) := by
  subst ha
  exact (Device.onSite_up hup ..).trans (if_neg (by omega))

/-- An ATOMIC at a misaligned address. -/
theorem Device.siteAtomicCmd_access (h : addr % (if wide then 8 else 4) ≠ 0) (op : AtomicOp) (op1 op2 atag : Nat) :
    d.siteAtomicCmd s tag dl addr op wide op1 op2 atag = a.1.answerSite s a.2 { status := 3 } := by
  subst ha
  exact (Device.onSite_up hup ..).trans (if_pos (.inl h))

end

end

/-! ### The obligation -/

/-- Settles O18: after acceptance the size and the alignment decide between the answer ACCESS and the home, and the batch flag between the
home and the site's batch. -/
theorem siteReadsWritesAndAtomics : Obligations.SiteReadsWritesAndAtomics := by
  unfold Obligations.SiteReadsWritesAndAtomics
  intro d w s tag dl hup
  refine ⟨fun opc sync n k => d.siteAccept s opc tag dl sync n cmdPool k, fun _ _ _ _ => rfl, ?_, ?_, ?_, ?_, ?_, ?_, ?_, ?_⟩
  · exact fun opc sync n k => ⟨rfl, congrArg SitePort.reqs (d.sitePort_siteAccept s opc tag dl sync n cmdPool k)⟩
  · exact fun sync batch size addr hsize halign hrange => ⟨_, rfl,
      leads_of_exec rfl (Device.siteReadCmd_aligned hup rfl hsize halign hrange false rfl),
      leads_of_exec rfl (Device.siteReadCmd_aligned hup rfl hsize halign hrange true rfl),
      fun bad hbad => leads_of_exec rfl (Device.siteReadCmd_access hup rfl (.inr hbad) batch)⟩
  · exact fun batch size addr data hsize halign hrange => ⟨_, _, rfl, rfl,
      leads_of_exec rfl (Device.siteWriteCmd_aligned hup rfl hsize halign hrange false data rfl rfl),
      leads_of_exec rfl (Device.siteWriteCmd_aligned hup rfl hsize halign hrange true data rfl rfl),
      fun bad hbad => leads_of_exec rfl (Device.siteWriteCmd_access hup rfl hsize hbad batch data)⟩
  · exact fun sync batch addr => ⟨_, rfl, leads_of_exec rfl (Device.siteReadCmd_access hup rfl (.inl (Nat.le_refl 3)) batch)⟩
  · exact fun batch addr data => leads_of_exec rfl (Device.siteWriteCmd_reservedSize hup (Nat.le_refl 3) batch addr data)
  · exact fun batch addr mask data h => ⟨_, rfl, leads_of_exec rfl (Device.siteMaskedCmd_access hup rfl h batch mask data)⟩
  · exact fun addr mask data halign hrange => ⟨_, _, rfl, rfl,
      leads_of_exec rfl (Device.siteMaskedCmd_aligned hup rfl halign hrange false mask data rfl rfl),
      leads_of_exec rfl (Device.siteMaskedCmd_aligned hup rfl halign hrange true mask data rfl rfl)⟩
  · exact fun addr op wide op1 op2 atag => ⟨_, rfl,
      fun halign hrange => leads_of_exec rfl (Device.siteAtomicCmd_aligned hup rfl halign hrange op op1 op2 atag),
      fun h => leads_of_exec rfl (Device.siteAtomicCmd_access hup rfl h op op1 op2 atag)⟩

end Sys2Proof.Machine
end

section
/-! PROOFS. FAIL_OR and FAIL_REC of a site (R268, R291, R292, R295), and how its multicast commands join, leave and pull from a group
(R272, R273, R275). -/

namespace Sys2Proof.Machine

section
variable {d : Device} {s tag dl : Nat} {a : Device × Nat} (hup : d.siteUp s = true)
include hup

/-! ### FAIL_OR -/

section
variable (ha : a = d.siteAccept s 0x10 tag dl false 0 svcPool 1) {line : Nat} (mask : Line)
include ha

/-- FAIL_OR of a site without a DUT. -/
theorem Device.siteFailOr_noDut (hdut : a.1.siteDut s = none) (line : Nat) :
    d.siteFailOr s tag dl line mask = a.1.answerSite s a.2 { status := 3 } := by
  subst ha
  rw [Device.siteFailOr, Device.onSite_up hup, hdut]

/-- FAIL_OR past the bitmap of the DUT. -/
theorem Device.siteFailOr_past {t : DutCtx} (hdut : a.1.siteDut s = some t) (hline : (geoDims t.g).nb * (geoDims t.g).bl ≤ line) :
    d.siteFailOr s tag dl line mask = a.1.answerSite s a.2 { status := 3 } := by
  subst ha
  rw [Device.siteFailOr, Device.onSite_up hup, hdut]
  exact if_pos hline

/-- FAIL_OR of a line of the bitmap. -/
theorem Device.siteFailOr_within {t : DutCtx} (hdut : a.1.siteDut s = some t) (hline : line < (geoDims t.g).nb * (geoDims t.g).bl) :
    d.siteFailOr s tag dl line mask =
      (a.1.chargeBytes (a.1.siteClass s) 64).route (a.1.siteReq s a.2 dl (t.b.bmap + 64 * line) (.failOr t.id line mask)) := by
  subst ha
  rw [Device.siteFailOr, Device.onSite_up hup, hdut]
  exact if_neg (Nat.not_le.mpr hline)

end

/-! ### FAIL_REC -/

/-- What one record of an accepted FAIL_REC does, given with its place in the request. -/
def Device.siteRecord (s id dl : Nat) (t : DutCtx) (d : Device) (r : Nat × Nat) : Device :=
  if cellOk t.g (failCell r.1) then
    (d.chargeBytes (d.siteClass s) 8).route (d.siteReq s id dl (t.b.bmap + 64 * (recordMask t.g r.1).1) (.failRec t.id r.2 r.1))
  else (d.countWrap FAIL.REC_REFUSED.COUNT).answerSite s id { status := 3, result := [0, 0] }

section
variable (ha : a = d.siteAccept s 0x11 tag dl false 0 svcPool 0) {recs : List Nat}
include ha

/-- A FAIL_REC whose number of records or whose reserved bytes are not allowed. -/
theorem Device.siteFailRec_malformed (h : recs = [] ∨ 6 < recs.length ∨ recs.any (fun r => bitsOf r 56 8 != 0) = true) :
    d.siteFailRec s tag dl recs = a.1.answerSite s a.2 { status := 3 } := by
  subst ha
  rw [Device.siteFailRec, Device.onSite_up hup]
  exact if_pos h

section
variable (hrecs : ¬(recs = [] ∨ 6 < recs.length ∨ recs.any (fun r => bitsOf r 56 8 != 0) = true))
include hrecs

/-- A FAIL_REC of a site without a DUT refuses each of its records (DEDUCED, log entry 99). -/
theorem Device.siteFailRec_noDut (hdut : a.1.siteDut s = none) : d.siteFailRec s tag dl recs =
    (a.1.countWrap FAIL.REC_REFUSED.COUNT 0 recs.length).answerSite s a.2 { status := 3 } := by
  subst ha
  rw [Device.siteFailRec, Device.onSite_up hup, if_neg hrecs, hdut]

/-- A FAIL_REC with a DUT takes its records in order, each as a part of the request. -/
theorem Device.siteFailRec_records {t : DutCtx} (hdut : a.1.siteDut s = some t) {e : Device}
    (he : e = a.1.setSitePort s { a.1.sitePort s with
      reqs := (a.1.sitePort s).reqs.map (fun q => if q.id = a.2 then { q with parts := recs.length } else q) }) :
    d.siteFailRec s tag dl recs = (recs.zip (List.range 6)).foldl (Device.siteRecord s a.2 dl t) e := by
  subst he ha
  rw [Device.siteFailRec, Device.onSite_up hup, if_neg hrecs, hdut]
  rfl

end

end

/-! ### MCAST_JOIN and MCAST_LEAVE -/

section
variable (ha : a = d.siteAccept s 0x20 tag dl false 0 svcPool 0) {g : Nat}
include ha

/-- A JOIN of an enabled group whose source the site may read. -/
theorem Device.siteJoin_member (hg : g < 64) (hpage : a.1.pageOn .mcast = true) (hon : a.1.groupOn g = true)
    (hmay : a.1.siteMayJoin s g = true) {e : Device}
    (he : e = (if (a.1.group g).members.contains s = true then a.1 else a.1.setGroup g { a.1.group g with members := (a.1.group g).members ++ [s] })) :
    d.siteJoin s tag dl g = e.answerSite s a.2 { result := leBytes 3 (e.groupLen g) ++ leBytes 3 (a.1.group g).low } := by
  subst he ha
  rw [Device.siteJoin, Device.onSite_up hup]
  exact if_pos ⟨hg, hpage, hon, hmay⟩

/-- A JOIN of an enabled group whose source the site may not read is a refused access (R68). -/
theorem Device.siteJoin_refused (hg : g < 64) (hpage : a.1.pageOn .mcast = true) (hon : a.1.groupOn g = true)
    (hmay : a.1.siteMayJoin s g = false) {r : Request} (hr : r = a.1.siteReq s a.2 dl (a.1.blockAddr g 0) (.siteRead 16 false)) :
    d.siteJoin s tag dl g = (a.1.refuse r (if (a.1.regionOf r.qla).isSome = true then 4 else 3)).answerSite s a.2 { status := 3 } := by
  subst hr ha
  rw [Device.siteJoin, Device.onSite_up hup, if_neg (by simp [hmay])]
  dsimp only
  rw [if_pos ⟨hg, hpage, hon⟩]

/-- A JOIN of a group, or with a page, that is off. -/
theorem Device.siteJoin_off (h : a.1.groupOn g = false ∨ a.1.pageOn .mcast = false) :
    d.siteJoin s tag dl g = a.1.answerSite s a.2 { status := 3 } := by
  subst ha
  rw [Device.siteJoin, Device.onSite_up hup]
  rcases h with h | h <;> simp [h]

end

/-- MCAST_LEAVE ends a membership, if there is one. -/
theorem Device.siteLeave_eq (ha : a = d.siteAccept s 0x21 tag dl false 0 svcPool 0) (g : Nat) : d.siteLeave s tag dl g =
    (if (a.1.group g).members.contains s = true then a.1.setGroup g { a.1.group g with members := (a.1.group g).members.filter (fun m => m != s) }
      else a.1).answerSite s a.2 {} := by
  subst ha
  exact Device.onSite_up hup ..

end

/-! ### MCAST_PULL -/

/-- A group with its window moved up to a block that lies past it; the blocks that leave the window are given up (R273). -/
def Group.movedTo (x : Group) (b : Nat) : Group :=
  if x.low + 127 < b then { x with low := b - 127, blocks := x.blocks.keep (fun k _ => decide (b - 127 ≤ k)) } else x

/-- The device with another deadline for the requests of one fill, wherever they wait (R273). -/
def Device.setFillDeadline (d : Device) (n deadline : Nat) : Device :=
  { d with
    coh := { d.coh with queue := d.coh.queue.map (fun r => if r.origin = .engine 6 n then { r with deadline := deadline } else r)
                        withheld := d.coh.withheld.map (fun r => if r.origin = .engine 6 n then { r with deadline := deadline } else r) }
    qos := { d.qos with queues := d.qos.queues.map (fun q => (q.1, q.2.map (fun y => if y.frm = .engine 6 n then { y with deadline := deadline } else y))) } }

section
variable {d : Device} {s g b : Nat} (id dl : Nat)

/-- A pull that the page, the group, the membership or the length of the stream does not allow. -/
theorem Device.mcastPull_access
    (h : d.pageOn .mcast = false ∨ d.groupOn g = false ∨ (d.group g).members.contains s = false ∨ d.groupLen g ≤ b) :
    d.mcastPull s id dl g b = d.answerSite s id { status := 3 } := by
  simp only [Device.mcastPull, Bool.not_eq_true', if_pos h]

section
variable (hallowed : ¬(d.pageOn .mcast = false ∨ d.groupOn g = false ∨ (d.group g).members.contains s = false ∨ d.groupLen g ≤ b))
include hallowed

/-- A pull behind the window is counted and reads memory. -/
theorem Device.mcastPull_behind (hlow : b < (d.group g).low) : d.mcastPull s id dl g b =
    (d.countWrap MCAST.GRP_BEHIND.COUNT g).route (d.siteReq s id dl (d.blockAddr g b) (.siteRead 16 false)) := by
  simp only [Device.mcastPull, Bool.not_eq_true', if_neg hallowed, if_pos hlow]

section
variable (hlow : ¬b < (d.group g).low) {x : Group} {e : Device} (hx : x = (d.group g).movedTo b) (he : e = d.setGroup g x)
include hlow hx he

/-- A pull of a block that is held is a hit. -/
theorem Device.mcastPull_hit {ls : List (Line × Bool)} (hheld : KMap.find x.blocks b = some ls) : d.mcastPull s id dl g b =
    (((e.countWrap MCAST.GRP_HITS.COUNT g).chargeT0 (e.siteClass s) 1024).chargeBytes (e.siteClass s) 1024).answerSite s id { data := ls } := by
  rw [Group.movedTo] at hx
  simp only [Device.mcastPull, Bool.not_eq_true', if_neg hallowed, if_neg hlow, ← hx, ← he, hheld]

section
variable (hmissing : KMap.find x.blocks b = none) {abs : Nat} (habs : abs = (if dl = 0 then 0 else d.time + 16 * dl))
include hmissing habs

/-- A pull of a block whose fill is under way joins the fill, which takes the earlier deadline. -/
theorem Device.mcastPull_joins {f : Fill} (hfill : x.fills.find? (fun f => f.block == b && !f.dropped) = some f) {early : Nat} {h : Device}
    (hearly : early = (if f.deadline = 0 then abs else if abs = 0 then f.deadline else min f.deadline abs))
    (hh : h = e.setGroup g { x with
      fills := x.fills.map (fun y => if y = f then { f with pulls := f.pulls ++ [(s, id, e.siteClass s)], demand := true, deadline := early } else y) }) :
    d.mcastPull s id dl g b = (h.setFillDeadline (fillNo g b) early).countWrap MCAST.GRP_HITS.COUNT g := by
  rw [Group.movedTo] at hx
  have htime : e.time = d.time := by rw [he, Device.setGroup_time]
  simp only [Device.mcastPull, Bool.not_eq_true', if_neg hallowed, if_neg hlow, ← hx, ← he, hmissing, hfill, htime, ← habs, ← hearly, ← hh]
  rfl

/-- A pull of a block that is neither held nor under way starts a fill. -/
theorem Device.mcastPull_fills (hfill : x.fills.find? (fun f => f.block == b && !f.dropped) = none) :
    d.mcastPull s id dl g b = e.addFill g { block := b, demand := true, pulls := [(s, id, e.siteClass s)], deadline := abs } := by
  rw [Group.movedTo] at hx
  have htime : e.time = d.time := by rw [he, Device.setGroup_time]
  simp only [Device.mcastPull, Bool.not_eq_true', if_neg hallowed, if_neg hlow, ← hx, ← he, hmissing, hfill, htime, ← habs]

end
end

end

end

/-- An accepted pull leads to what the group makes of it. -/
theorem leads_mcastPull {d : Device} {w : List Instr} {s tag dl g b : Nat} {sync : Bool} {a : Device × Nat} {e : Device}
    (hup : d.siteUp s = true) (ha : a = d.siteAccept s 0x22 tag dl sync 16 svcPool 0) (he : a.1.mcastPull s a.2 dl g b = e) :
    Leads (.mcastPull s tag dl sync g b) ⟨d, w⟩ e := by
  subst ha
  exact leads_of_exec rfl ((Device.onSite_up hup ..).trans he)

/-! ### The obligation -/

/-- Settles O20: after acceptance each command is decided by the site's DUT and its bitmap, or by the page, the group and its window. -/
theorem siteFailAndMulticastCommands : Obligations.SiteFailAndMulticastCommands := by
  unfold Obligations.SiteFailAndMulticastCommands
  intro d w s tag dl hup
  refine ⟨?_, ?_, ?_, ?_, ?_⟩
  · exact fun line mask a ha => ⟨fun hdut => leads_of_exec rfl (Device.siteFailOr_noDut hup ha mask hdut line),
      fun t hdut => ⟨fun hline => leads_of_exec rfl (Device.siteFailOr_past hup ha mask hdut hline),
        fun hline => leads_of_exec rfl (Device.siteFailOr_within hup ha mask hdut hline)⟩⟩
  · refine fun recs a ha => ⟨fun h => leads_of_exec rfl (Device.siteFailRec_malformed hup ha h), fun hnil hlen hres => ?_⟩
    have hrecs : ¬(recs = [] ∨ 6 < recs.length ∨ recs.any (fun r => bitsOf r 56 8 != 0) = true) := by simp [hnil, hlen, hres]
    exact ⟨fun hdut => leads_of_exec rfl (Device.siteFailRec_noDut hup ha hrecs hdut),
      fun t hdut => ⟨_, rfl, leads_of_exec rfl (Device.siteFailRec_records hup ha hrecs hdut rfl)⟩⟩
  · exact fun g a ha hg =>
      ⟨fun hpage hon hmay => ⟨_, rfl, leads_of_exec rfl (Device.siteJoin_member hup ha hg hpage hon hmay rfl)⟩,
        fun hpage hon hmay => ⟨_, rfl, leads_of_exec rfl (Device.siteJoin_refused hup ha hg hpage hon hmay rfl)⟩,
        fun hoff => leads_of_exec rfl (Device.siteJoin_off hup ha hoff)⟩
  · exact fun g a ha => leads_of_exec rfl (Device.siteLeave_eq hup ha g)
  · refine fun sync g b a ha => ⟨fun h => leads_mcastPull hup ha (Device.mcastPull_access a.2 dl h), fun hpage hon hmem hlen => ?_⟩
    have hallowed : ¬(a.1.pageOn .mcast = false ∨ a.1.groupOn g = false ∨ (a.1.group g).members.contains s = false ∨ a.1.groupLen g ≤ b) := by
      rw [hpage, hon, hmem]
      simpa using hlen
    refine ⟨fun hlow => leads_mcastPull hup ha (Device.mcastPull_behind a.2 dl hallowed hlow), fun hge => ?_⟩
    have hlow : ¬b < (a.1.group g).low := Nat.not_lt.mpr hge
    exact ⟨(a.1.group g).movedTo b, _, _, rfl, rfl, rfl,
      fun ls hheld => leads_mcastPull hup ha (Device.mcastPull_hit a.2 dl hallowed hlow rfl rfl hheld),
      fun f hmissing hfill => ⟨_, _, rfl, rfl,
        leads_mcastPull hup ha (Device.mcastPull_joins a.2 dl hallowed hlow rfl rfl hmissing rfl hfill rfl rfl)⟩,
      fun hmissing hfill => leads_mcastPull hup ha (Device.mcastPull_fills a.2 dl hallowed hlow rfl rfl hmissing rfl hfill)⟩

end Sys2Proof.Machine
end

section
/-! PROOFS. Enabling, disabling and configuring a multicast group, and the end of a fill (R272 to R274, R276, R277, R643). -/

namespace Sys2Proof.Machine

/-! ### Groups -/

/-- A group reads back. -/
@[simp] theorem Device.group_setGroup_self (d : Device) (g : Nat) (x : Group) : (d.setGroup g x).group g = x := by
  simp [Device.group, Device.setGroup]

/-- A group that disables ends when it has no fill (R277). -/
theorem Device.groupIdle_ends {d : Device} {g : Nat} (hdis : (d.group g).disabling = true) (hfills : (d.group g).fills = []) :
    d.groupIdle g = ((d.setGroup g {}).setReg MCAST.GRP_CTL.BUSY 0 g).evt MCAST.flag.DISABLED := if_pos ⟨hdis, hfills⟩

section
variable {d : Device} {w : List Instr} {g : Nat}

/-! ### GRP_CTL.ENABLE -/

section
variable (hlock : (d.page .mcast).lock = false)
include hlock

/-- On an unlocked page a write of ENABLE = 1 leads to what it makes of the group. -/
theorem leads_grpEnable {e : Device} (he : d.groupEnable g = e) : Leads (.grpEnable g) ⟨d, w⟩ e :=
  leads_of_exec rfl ((d.rwl_unlocked hlock _ _).trans he)

/-- On an unlocked page a write of ENABLE = 0 leads to what it makes of the group. -/
theorem leads_grpDisable {e : Device} (he : d.groupDisable g = e) : Leads (.grpDisable g) ⟨d, w⟩ e :=
  leads_of_exec rfl ((d.rwl_unlocked hlock _ _).trans he)

/-- On an unlocked page a write of a configuration field leads to what it makes of the group. -/
theorem leads_grpCfgWrite {k v : Nat} {e : Device} (he : d.groupCfg g k v = e) : Leads (.grpCfgWrite g k v) ⟨d, w⟩ e :=
  leads_of_exec rfl ((d.rwl_unlocked hlock _ _).trans he)

end

/-- Enabling an enabled group changes nothing. -/
theorem Device.groupEnable_on (hon : d.groupOn g = true) : d.groupEnable g = d := if_pos (.inr hon)

section
variable (hgrade : d.hw.gradeH = false) (hoff : d.groupOn g = false)
include hgrade hoff

/-- Enabling a group whose earlier disable still runs (R277). -/
theorem Device.groupEnable_busy (hdis : (d.group g).disabling = true) :
    d.groupEnable g = d.raise MCAST.flag.CFG_BUSY 0 [] [] false := by
  simp [Device.groupEnable, hgrade, hoff, hdis]

/-- Enabling a group whose disable has ended is decided by its source (R272). -/
theorem Device.groupEnable_off (hdis : (d.group g).disabling = false) : d.groupEnable g =
    if d.groupSource g = true then (d.setGroup g {}).setReg MCAST.GRP_CTL.ENABLE 1 g
    else d.raise MCAST.flag.BAD_SOURCE 0 [] [] false := by
  simp [Device.groupEnable, hgrade, hoff, hdis]

end

/-- Disabling an enabled group ends its memberships and blocks. -/
theorem Device.groupDisable_on (hon : d.groupOn g = true) : d.groupDisable g =
    ((((d.setReg MCAST.GRP_CTL.ENABLE 0 g).setReg MCAST.GRP_CTL.BUSY 1 g).setGroup g
      { d.group g with members := [], blocks := [], disabling := true }).groupIdle g) := if_pos hon

/-- Disabling a disabled group changes nothing. -/
theorem Device.groupDisable_off (hoff : d.groupOn g = false) : d.groupDisable g = d := if_neg (by simp [hoff])

/-! ### Configuration -/

section
variable (hgrade : d.hw.gradeH = false) (k v : Nat)
include hgrade

/-- A configuration field of a disabled group is stored. -/
theorem Device.groupCfg_off (hoff : d.groupOn g = false) :
    d.groupCfg g k v = d.store (groupField k) (v % 2 ^ (groupField k).width) g := by
  simp [Device.groupCfg, hgrade, hoff]

/-- A configuration field of an enabled group is kept, and a write that would change it is told (R272). -/
theorem Device.groupCfg_on (hon : d.groupOn g = true) : d.groupCfg g k v =
    if v % 2 ^ (groupField k).width = d.reg (groupField k) g then d else d.raise MCAST.flag.CFG_BUSY 0 [] [] false := by
  simp [Device.groupCfg, hgrade, hon]

end

/-! ### The end of a fill -/

section
variable {b : Nat} {e : Device} (he : e = (d.takeInbox 6 (fillNo g b)).1)
include he

/-- A fill that has not come back. -/
theorem Device.fillDone_pending (hans : (d.takeInbox 6 (fillNo g b)).2 = []) : d.fillDone g b = e := by
  have htake : d.takeInbox 6 (fillNo g b) = (e, []) := Prod.ext he.symm hans
  rw [Device.fillDone, htake]

/-- A fill that has come back answers its pulls, and then prefetches, other fills and the group's end follow. -/
theorem Device.fillDone_answered {a : EngineAnswer} {as : List EngineAnswer} (hans : (d.takeInbox 6 (fillNo g b)).2 = a :: as) {f : Fill}
    (hf : (e.group g).fills.find? (fun f => f.block == b && f.started) = some f) {h k : Device}
    (hh : h = f.pulls.foldl (fun x q => (x.chargeBytes q.2.2 1024).answerSite q.1 q.2.1 { status := a.status, data := a.data })
      (e.setGroup g { e.group g with
        fills := (e.group g).fills.erase f
        blocks := if (!f.dropped && decide ((e.group g).low ≤ b) && e.groupOn g && a.status == 0) = true then KMap.put (e.group g).blocks b a.data
          else (e.group g).blocks }))
    (hk : k = (if f.demand = true ∧ h.groupOn g = true then h.prefetch g b else h)) :
    d.fillDone g b = (k.startFills g (k.group g).fills []).groupIdle g := by
  have htake : d.takeInbox 6 (fillNo g b) = (e, a :: as) := Prod.ext he.symm hans
  rw [Device.fillDone, htake]
  dsimp only
  rw [hf]
  subst hk hh
  rfl

end

end

/-! ### The obligation -/

/-- Settles O21: behind the page's lock, ENABLE and the running disable decide what a write makes of a group; a fill that has come back is
followed step by step. -/
theorem multicastGroupsAndFills : Obligations.MulticastGroupsAndFills := by
  unfold Obligations.MulticastGroupsAndFills
  intro d w g hlock hgrade
  refine ⟨?_, ?_, ?_, ?_, ?_, ?_, ?_, ?_, ?_, ?_, ?_⟩
  · intro hoff hdis
    have henable := Device.groupEnable_off hgrade hoff hdis
    exact ⟨fun hsrc => leads_grpEnable hlock (henable.trans (if_pos hsrc)),
      fun hsrc => leads_grpEnable hlock (henable.trans (if_neg (by simp [hsrc])))⟩
  · exact fun hoff hdis => leads_grpEnable hlock (Device.groupEnable_busy hgrade hoff hdis)
  · exact fun hon => leads_grpEnable hlock (Device.groupEnable_on hon)
  · exact fun hon => leads_grpDisable hlock (Device.groupDisable_on hon)
  · intro hon hfills
    refine ⟨_, rfl, _, rfl, leads_grpDisable hlock ((Device.groupDisable_on hon).trans (Device.groupIdle_ends ?_ ?_))⟩
    · rw [Device.group_setGroup_self]
    · rw [Device.group_setGroup_self, hfills]
  · exact fun hoff => leads_grpDisable hlock (Device.groupDisable_off hoff)
  · exact fun k v hoff => leads_grpCfgWrite hlock (Device.groupCfg_off hgrade k v hoff)
  · exact fun k v hon hsame => leads_grpCfgWrite hlock ((Device.groupCfg_on hgrade k v hon).trans (if_pos hsame))
  · exact fun k v hon hdiff => leads_grpCfgWrite hlock ((Device.groupCfg_on hgrade k v hon).trans (if_neg hdiff))
  · exact fun b hans => leads_of_exec rfl (Device.fillDone_pending rfl hans)
  · exact fun b a as f => ⟨_, rfl, fun hans hf => ⟨_, _, rfl, rfl, leads_of_exec rfl (Device.fillDone_answered rfl hans hf rfl rfl)⟩⟩

end Sys2Proof.Machine
end

section
/-! PROOFS. The commands of FAIL.CMD on geometries and DUTs: a command starts behind the lock and the command that runs, the coordinator takes it
up with the result of its checks and carries it out, and FAIL_CMD_DONE ends it (R286, R288, R293, R294, R296 to R298, R325). -/

namespace Sys2Proof.Machine

section
variable {d : Device}

/-! ### The start of a command (R293, R325, R643) -/

/-- Each command of FAIL.CMD runs its own part behind the lock and the command that runs. -/
theorem leads_failCmd (d : Device) (w : List Instr) (id : Nat) (b : Bool) {k : Instr}
    (hk : k ∈ [Instr.geoSet id, .geoClear id, .geoRead id, .dutBind id, .dutUnbind id b, .dutClear id b, .dutRebuild id b, .dutRead id]) :
    ∃ f : Device → Device, Leads k ⟨d, w⟩ (d.failCmd f) := by
  simp only [List.mem_cons, List.not_mem_nil, or_false] at hk
  rcases hk with rfl | rfl | rfl | rfl | rfl | rfl | rfl | rfl <;> exact ⟨_, rfl⟩

section
variable (hlock : (d.page .fail).lock = false) (hgrade : d.hw.gradeH = false)
include hlock hgrade

/-- On an unlocked page a command is refused while another runs. -/
theorem Device.failCmd_busy (hrun : d.fail.run.isSome = true) (f : Device → Device) :
    d.failCmd f = d.raise FAIL.flag.CMD_BUSY 0 [] [] false := by
  simp [Device.failCmd, d.rwl_unlocked hlock, hgrade, hrun]

variable (hnone : d.fail.run = none)
include hnone

/-- On an unlocked page a command starts while none runs. -/
theorem Device.failCmd_starts (f : Device → Device) : d.failCmd f = f d := by
  simp [Device.failCmd, d.rwl_unlocked hlock, hgrade, hnone]

/-- A command that changes a table runs without a result, and is brought to the coordinator. -/
theorem Device.failTable_starts (op id : Nat) (busy : Bool) (c : TableCmd) : d.failTable op id busy c =
    ({ d with fail := { d.fail with run := some { op := op, id := id % 1024, result := 0, ask := some ⟨d.myArr, 0, busy, c⟩ } } } : Device).askTable
      ⟨d.myArr, 0, busy, c⟩ := Device.failCmd_starts hlock hgrade hnone _

/-- A geometry that is set is read into the staging registers. -/
theorem Device.geoRead_found {id : Nat} {g : Geometry} (hg : KMap.find d.fail.geos (id % 1024) = some g) :
    d.geoRead id = (d.loadGeo g).failStart 3 (id % 1024) 0 := by
  rw [Device.geoRead, Device.failCmd_starts hlock hgrade hnone, hg]

/-- A geometry that is not set has result 2. -/
theorem Device.geoRead_unknown {id : Nat} (hg : KMap.find d.fail.geos (id % 1024) = none) : d.geoRead id = d.failStart 3 (id % 1024) 2 := by
  rw [Device.geoRead, Device.failCmd_starts hlock hgrade hnone, hg]

/-- A binding is read into the staging registers. -/
theorem Device.dutRead_bound {id : Nat} {b : Dut} (hb : KMap.find d.fail.duts (id % 1024) = some b) : d.dutRead id =
    (((((((d.setReg FAIL.DUT_GEO.GEO b.geo).setReg FAIL.DUT_GEO.BOUND 1).setReg FAIL.DUT_BMAP_LO.QLA_LO (b.bmap / 4096)).setReg FAIL.DUT_BMAP_HI.QLA_HI
      (b.bmap / 2 ^ 32)).setReg FAIL.DUT_TALLY_LO.QLA_LO (b.tally / 4096)).setReg FAIL.DUT_TALLY_HI.QLA_HI (b.tally / 2 ^ 32)).failStart 8 (id % 1024) 0) := by
  rw [Device.dutRead, Device.failCmd_starts hlock hgrade hnone, hb]

/-- A DUT that is not bound leaves all staging registers but BOUND. -/
theorem Device.dutRead_unbound {id : Nat} (hb : KMap.find d.fail.duts (id % 1024) = none) :
    d.dutRead id = (d.setReg FAIL.DUT_GEO.BOUND 0).failStart 8 (id % 1024) 0 := by
  rw [Device.dutRead, Device.failCmd_starts hlock hgrade hnone, hb]

end

/-! ### The coordinator takes a command up (R293) -/

/-- A result for the fail command that this device runs is kept. -/
theorem Device.giveResult_fail {x : FailRun} (hrun : d.fail.run = some x) (hask : x.ask.isSome = true) (code id : Nat) (r : Option Region) :
    d.giveResult d.myArr true code id r = { d with fail := { d.fail with run := some { x with result := code, ask := none } } } := by
  simp [Device.giveResult, Device.gotResult, hrun, hask]

/-- A command of FAIL.CMD that passes its checks is carried out by every device in service and this one. -/
theorem Device.tableStart_fail {y : TableCmd} (hy : TableCmd.ofFail y = true) (frm id : Nat) : d.tableStart frm id y =
    (({ d with regions := { d.regions with
        exec := some (frm, true, id)
        await := d.myArr :: d.twin.inService.filter (fun z => z != d.myArr) } } : Device).tableToAll y).applyTable y := by
  rw [Device.tableStart, hy]

/-! ### The result of a command (R288, R293, R294, R298) -/

section
variable {frm : Nat} {free : Int} {busy : Bool} {id : Nat} {b : Dut}

/-- No DUT is bound while a position has no device in service. -/
theorem Device.askResult_dutBind_unreachable (hall : d.allReachable = false) :
    d.askResult ⟨frm, free, busy, .dutBind id b⟩ = (8, id, .dutBind id b, none) := by
  simp [Device.askResult, hall]

section
variable (hall : d.allReachable = true)
include hall

/-- A DUT that is bound is not bound again. -/
theorem Device.askResult_dutBind_bound (hb : (KMap.find d.fail.duts id).isSome = true) :
    d.askResult ⟨frm, free, busy, .dutBind id b⟩ = (5, id, .dutBind id b, none) := by
  simp [Device.askResult, hall, hb]

/-- A DUT is not bound to a geometry that is not set. -/
theorem Device.askResult_dutBind_noGeometry (hb : KMap.find d.fail.duts id = none) (hg : KMap.find d.fail.geos b.geo = none) :
    d.askResult ⟨frm, free, busy, .dutBind id b⟩ = (2, id, .dutBind id b, none) := by
  simp [Device.askResult, hall, hb, hg]

/-- A DUT is bound where its ranges are well placed for its geometry. -/
theorem Device.askResult_dutBind_placed {h : Geometry} (hb : KMap.find d.fail.duts id = none) (hg : KMap.find d.fail.geos b.geo = some h) :
    d.askResult ⟨frm, free, busy, .dutBind id b⟩ = (if d.dutPlaced b h = true then 0 else 4, id, .dutBind id b, none) := by
  simp [Device.askResult, hall, hb, hg]

end

/-- What a command on a DUT finds: the binding, and the jobs that name it. -/
theorem Device.dutResult_eq (d : Device) (id : Nat) (busy : Bool) : d.dutResult id busy =
    if KMap.find d.fail.duts (id % 1024) = none then 6 else if (busy || d.dutNamed id) = true then 7 else 0 := by
  rw [Device.dutResult]
  cases KMap.find d.fail.duts (id % 1024) <;> rfl

/-- A command on a bound DUT asks for every position, and then for the DUT. -/
theorem Device.askResult_dut {c : TableCmd} (hc : c = .dutUnbind id ∨ c = .dutClear id ∨ c = .dutRebuild id) :
    d.askResult ⟨frm, free, busy, c⟩ = (if d.allReachable = false then 8 else d.dutResult id busy, id, c, none) := by
  rcases hc with rfl | rfl | rfl <;> simp [Device.askResult]

/-- GEO_SET asks for every position, the ID, the DUTs that use it and a valid descriptor, in this order. -/
theorem Device.askResult_geoSet (g : Geometry) : d.askResult ⟨frm, free, busy, .geoSet id g⟩ =
    (if d.allReachable = false then 8 else if 255 < id then 2 else if d.geoUsed id = true then 3 else if geoValid g = true then 0 else 1,
      id, .geoSet id g, none) := by
  simp [Device.askResult]

/-- GEO_CLEAR asks as GEO_SET does, without a descriptor. -/
theorem Device.askResult_geoClear : d.askResult ⟨frm, free, busy, .geoClear id⟩ =
    (if d.allReachable = false then 8 else if 255 < id then 2 else if d.geoUsed id = true then 3 else 0, id, .geoClear id, none) := by
  simp [Device.askResult]

end

/-! ### The end of a command (R293, R297) -/

section
variable {e : Device} (he : e = d.proceed.tableStep)
include he

/-- Without a command only what is due advances. -/
theorem Device.failDone_none (hrun : e.fail.run = none) : d.failDone = e := by
  unfold Device.failDone
  rw [← he]
  dsimp only
  rw [hrun]

/-- A command that has no result runs on. -/
theorem Device.failDone_asked {c : FailRun} (hrun : e.fail.run = some c) (hask : c.ask.isSome = true) : d.failDone = e := by
  unfold Device.failDone
  rw [← he]
  dsimp only
  rw [hrun]
  exact if_pos hask

/-- A command that has its result ends, and requests that waited for it are tried again. -/
theorem Device.failDone_ends {c : FailRun} (hrun : e.fail.run = some c) (hask : c.ask = none) : d.failDone =
    (((({ e with fail := { e.fail with run := none } } : Device).setReg FAIL.CMD_STAT.RESULT c.result).setReg
      FAIL.CMD_STAT.ID c.id).evt FAIL.flag.CMD_DONE).pumpQueue := by
  unfold Device.failDone
  rw [← he]
  dsimp only
  rw [hrun]
  exact if_neg (by simp [hask])

end

end

/-! ### The obligation -/

/-- Settles O24: a command starts behind the lock and the command that runs, the coordinator takes it up with the result of its checks, each
device changes its own tables, and the end follows from what the advance leaves of the command. -/
theorem failCommandsOnTheTables : Obligations.FailCommandsOnTheTables := by
  unfold Obligations.FailCommandsOnTheTables
  intro d w id
  refine ⟨fun hlock hgrade => ⟨fun hnone => ?_, fun hrun k b hk => ?_⟩, fun a x n y code hrun hask hcoord hexec hasks hfrm hy hres => ?_,
    fun a k hk hne => Device.askTable_elsewhere hk hne a, fun frm free busy g b => ?_, ?_⟩
  · refine ⟨⟨_, fun op busy c => ⟨_, rfl, rfl⟩, ?_⟩, fun g hg => leads_of_exec rfl (Device.geoRead_found hlock hgrade hnone hg),
      fun hg => leads_of_exec rfl (Device.geoRead_unknown hlock hgrade hnone hg),
      fun hb => leads_of_exec rfl (Device.dutRead_unbound hlock hgrade hnone hb),
      fun b hb => leads_of_exec rfl (Device.dutRead_bound hlock hgrade hnone hb)⟩
    have hstart := Device.failTable_starts hlock hgrade hnone
    exact ⟨leads_of_exec rfl (hstart 1 id _ _), leads_of_exec rfl (hstart 2 id _ _), leads_of_exec rfl (hstart 4 id _ _),
      fun busy => ⟨leads_of_exec rfl (hstart 5 id _ _), leads_of_exec rfl (hstart 6 id _ _), leads_of_exec rfl (hstart 7 id _ _)⟩⟩
  · obtain ⟨f, hf⟩ := leads_failCmd d w id b hk
    exact Device.failCmd_busy hlock hgrade hrun f ▸ hf
  · have htake := Device.askTable_idle hcoord hexec hasks hres
    rw [hfrm, hy] at htake
    refine ⟨fun hcode => ?_, fun hcode => ?_⟩
    · rw [htake, if_pos (.inl hcode), Device.giveResult_fail hrun hask]
    · rw [htake, if_neg (by simp [hcode]), Device.tableStart_fail hy]
  · refine ⟨Device.askResult_geoSet g, Device.askResult_geoClear, Device.askResult_dutBind_unreachable, Device.askResult_dutBind_bound,
      Device.askResult_dutBind_noGeometry, fun _ hall => Device.askResult_dutBind_placed hall, fun c hc => ?_, rfl, rfl, rfl, rfl⟩
    rw [Device.askResult_dut hc, Device.dutResult_eq]
  · obtain ⟨e, he⟩ : ∃ e, e = d.proceed.tableStep := ⟨_, rfl⟩
    exact ⟨e, he, fun hrun => leads_of_exec rfl (Device.failDone_none he hrun),
      fun c hrun hask => leads_of_exec rfl (Device.failDone_asked he hrun hask),
      fun c hrun hask => ⟨_, rfl, leads_of_exec rfl (Device.failDone_ends he hrun hask)⟩⟩

end Sys2Proof.Machine
end

section
/-! PROOFS. Doorbells, enable, disable, abort and configuration of a queue of the Assayer or of the DMA engine: each command runs one operation on the
queue's ring, and the state that the ring is in decides what that does (R318 to R320, R326, R327, R380, R388, R643). -/

namespace Sys2Proof.Machine

/-- The commands of a queue lead to what the operations on its ring make of the device: a tail, a head, enable, disable, abort, and a
configuration field. -/
structure QueueCommands (d : Device) (w : List Instr) (r v k : Nat) (t h e x a c : Instr) : Prop where
  tail : Leads t ⟨d, w⟩ (d.sqTail r v)
  head : Leads h ⟨d, w⟩ (d.cqHeadWrite r v)
  enable : Leads e ⟨d, w⟩ (d.ringEnable r)
  disable : Leads x ⟨d, w⟩ (d.ringDisable r)
  abort : Leads a ⟨d, w⟩ (d.ringAbort r)
  cfg : Leads c ⟨d, w⟩ (if (d.ring r).disabling = true ∨ d.ringReg r ASSAY.Q_CTL.ENABLE DMA.Q_CTL.ENABLE = 1 then d.cfgBusy r
    else d.store (ringField r k) v (r % 100))

section
variable {d : Device} {w : List Instr} {q r v k : Nat}

/-! ### The commands of a queue -/

/-- A field of a ring lies on the page of its engine. -/
theorem ringF_page {f g : Field} (hf : f.page = .assay) (hg : g.page = .dma) (r : Nat) :
    (ringF r f g).page = if 100 ≤ r then .dma else .assay := by
  rw [ringF, apply_ite Field.page, hf, hg]

/-- Every configuration field of a ring lies on the page of its engine. -/
theorem ringField_page (r k : Nat) : (ringField r k).page = if 100 ≤ r then .dma else .assay := by
  unfold ringField
  split <;> exact ringF_page rfl rfl r

/-- On an unlocked page a write of a configuration field is decided by the queue's disable and ENABLE. -/
theorem Device.ringCfg_unlocked (hlock : (d.page (ringField r k).page).lock = false) : d.ringCfg r k v =
    if (d.ring r).disabling = true ∨ d.ringReg r ASSAY.Q_CTL.ENABLE DMA.Q_CTL.ENABLE = 1 then d.cfgBusy r
    else d.store (ringField r k) v (r % 100) := by
  rw [Device.ringCfg]
  exact d.rwl_unlocked hlock _ _

/-- A device that has the fail service carries out the commands of the Assayer's queues. -/
theorem Device.onAssay_served (hgrade : d.hw.gradeH = false) (hq : q < 16) (f : Device → Device) : d.onAssay q f = f d :=
  if_neg (by simp [hgrade, hq])

/-- While the Hub is up the commands of the DMA engine's queues are carried out. -/
theorem Device.onDma_served (hup : d.hubUp = true) (hq : q < 4) (f : Device → Device) : d.onDma q f = f d := if_pos ⟨hq, hup⟩

/-- The commands of an Assayer queue on an unlocked page. -/
theorem queueCommands_assay (hgrade : d.hw.gradeH = false) (hq : q < 16) (hlock : (d.page .assay).lock = false) :
    QueueCommands d w q v k (.assaySqTail q v) (.assayCqHead q v) (.assayEnable q) (.assayDisable q) (.assayAbort q) (.assayCfgWrite q k v) := by
  have hserved := Device.onAssay_served hgrade hq
  have hpage : (ringField q k).page = .assay := (ringField_page q k).trans (if_neg (by omega))
  exact {
    tail := leads_of_exec rfl (hserved _)
    head := leads_of_exec rfl (hserved _)
    enable := leads_of_exec rfl ((hserved _).trans (d.rwl_unlocked hlock _ _))
    disable := leads_of_exec rfl ((hserved _).trans (d.rwl_unlocked hlock _ _))
    abort := leads_of_exec rfl (hserved _)
    cfg := leads_of_exec rfl ((hserved _).trans (Device.ringCfg_unlocked (by rw [hpage, hlock]))) }

/-- The commands of a DMA queue on an unlocked page. -/
theorem queueCommands_dma (hup : d.hubUp = true) (hq : q < 4) (hlock : (d.page .dma).lock = false) :
    QueueCommands d w (100 + q) v k (.dmaSqTail q v) (.dmaCqHead q v) (.dmaEnable q) (.dmaDisable q) (.dmaAbort q) (.dmaCfgWrite q k v) := by
  have hserved := Device.onDma_served hup hq
  have hpage : (ringField (100 + q) k).page = .dma := (ringField_page (100 + q) k).trans (if_pos (by omega))
  exact {
    tail := leads_of_exec rfl (hserved _)
    head := leads_of_exec rfl (hserved _)
    enable := leads_of_exec rfl ((hserved _).trans (d.rwl_unlocked hlock _ _))
    disable := leads_of_exec rfl ((hserved _).trans (d.rwl_unlocked hlock _ _))
    abort := leads_of_exec rfl (hserved _)
    cfg := leads_of_exec rfl ((hserved _).trans (Device.ringCfg_unlocked (by rw [hpage, hlock]))) }

/-! ### Doorbells (R318, R327) -/

/-- A tail within the ring of an ACTIVE queue is stored, and the next fetch starts. -/
theorem Device.sqTail_active (hact : (d.ring r).state = 1) (hv : v < d.sqSize r) : d.sqTail r v =
    ((d.setReg (ringF r ASSAY.SQ_TAIL.TAIL DMA.SQ_TAIL.TAIL) v (r % 100)).setRing r { d.ring r with tail := v }).ringFetch r :=
  if_neg (by omega)

/-- Any other tail is a bad doorbell. -/
theorem Device.sqTail_bad (hbad : d.sqSize r ≤ v ∨ (d.ring r).state ≠ 1) : d.sqTail r v = d.badDoorbell r := if_pos hbad

/-- A head within the ring of an ACTIVE queue is stored, held completions go out, and an abort or disable may end. -/
theorem Device.cqHeadWrite_active (hact : (d.ring r).state = 1) (hv : v < d.cqSize r) : d.cqHeadWrite r v =
    ((((d.setReg (ringF r ASSAY.CQ_HEAD.HEAD DMA.CQ_HEAD.HEAD) v (r % 100)).setRing r { d.ring r with cqHead := v }).releaseHeld r
      (d.eng.held.length + 1)).ringSettle r) := if_neg (by omega)

/-- Any other head is a bad doorbell. -/
theorem Device.cqHeadWrite_bad (hbad : d.cqSize r ≤ v ∨ (d.ring r).state ≠ 1) : d.cqHeadWrite r v = d.badDoorbell r := if_pos hbad

/-! ### Enable, disable and abort (R320) -/

/-- Enabling a queue whose earlier disable still runs. -/
theorem Device.ringEnable_busy (hdis : (d.ring r).disabling = true) : d.ringEnable r = d.cfgBusy r := if_pos hdis

/-- Enabling a queue that is not DISABLED changes nothing. -/
theorem Device.ringEnable_on (hon : (d.ring r).state ≠ 0) (hdis : (d.ring r).disabling = false) : d.ringEnable r = d := by
  simp [Device.ringEnable, hon, hdis]

/-- Enabling a DISABLED queue makes it ACTIVE anew, and the answers to its earlier fetches are dropped. -/
theorem Device.ringEnable_off {f : Device} (hoff : (d.ring r).state = 0) (hdis : (d.ring r).disabling = false)
    (hf : f = ((d.setReg (ringF r ASSAY.Q_CTL.ENABLE DMA.Q_CTL.ENABLE) 1 (r % 100)).setReg
      (ringF r ASSAY.SQ_TAIL.TAIL DMA.SQ_TAIL.TAIL) 0 (r % 100)).setReg (ringF r ASSAY.CQ_HEAD.HEAD DMA.CQ_HEAD.HEAD) 0 (r % 100)) :
    d.ringEnable r =
      ({ f with eng := { f.eng with inbox := f.eng.inbox.filter (fun y => !((y.kind == 0 || y.kind == 2) && y.q == r)) } } : Device).setRing r
        { state := 1, last := (d.ring r).last } := by
  simp [Device.ringEnable, hoff, hdis, hf]

/-- Disabling a DISABLED queue only writes ENABLE. -/
theorem Device.ringDisable_off (hoff : (d.ring r).state = 0) :
    d.ringDisable r = d.setReg (ringF r ASSAY.Q_CTL.ENABLE DMA.Q_CTL.ENABLE) 0 (r % 100) := if_pos hoff

/-- Disabling another queue drops its held completions and ends its work. -/
theorem Device.ringDisable_on {f : Device} (hon : (d.ring r).state ≠ 0)
    (hf : f = d.setReg (ringF r ASSAY.Q_CTL.ENABLE DMA.Q_CTL.ENABLE) 0 (r % 100)) : d.ringDisable r =
    ((({ f with eng := { f.eng with held := f.eng.held.filter (fun y => y.ring != r) } } : Device).setRing r { d.ring r with disabling := true }).abortWork r
      (if isDma r then 6 else 4)).ringSettle r := by
  rw [hf]
  exact if_neg hon

/-- Aborting an ACTIVE queue ends its held completions and its work. -/
theorem Device.ringAbort_active (hact : (d.ring r).state = 1) : d.ringAbort r =
    (((d.setRing r { d.ring r with aborting := true }).abortHeld r (if isDma r then 6 else 4)).abortWork r (if isDma r then 6 else 4)).ringSettle r :=
  if_neg (by simp [hact])

/-- Aborting a queue that is not ACTIVE changes nothing. -/
theorem Device.ringAbort_inactive (hact : (d.ring r).state ≠ 1) : d.ringAbort r = d := if_pos hact

end

/-! ### The obligation -/

/-- Settles O25: the commands of either engine run the same operations on a ring, and the ring's state decides what each does. -/
theorem queueDoorbellsAndControls : Obligations.QueueDoorbellsAndControls := by
  unfold Obligations.QueueDoorbellsAndControls
  intro d w r q v k t h e x a c hqueue
  have hcmds : QueueCommands d w r v k t h e x a c := by
    rcases hqueue with ⟨hgrade, hq, rfl, rfl, rfl, rfl, rfl, rfl, rfl, hlock⟩ | ⟨hup, hq, rfl, rfl, rfl, rfl, rfl, rfl, rfl, hlock⟩
    · exact queueCommands_assay hgrade hq hlock
    · exact queueCommands_dma hup hq hlock
  refine ⟨fun hact => ⟨fun hv => ?_, fun hv => ?_, fun hv => ⟨_, rfl, ?_⟩, fun hv => ?_, ?_⟩, fun hact => ⟨?_, ?_, ?_⟩,
    fun hdis => ?_, fun hbusy => ?_, fun hon hdis => ?_, fun hoff hdis => ⟨_, rfl, ?_⟩, fun hoff => ?_, fun hon => ⟨_, rfl, ?_⟩, fun hdis hoff => ?_⟩
  · exact leads_of_exec hcmds.tail (Device.sqTail_active hact hv)
  · exact leads_of_exec hcmds.tail (Device.sqTail_bad (.inl hv))
  · exact leads_of_exec hcmds.head (Device.cqHeadWrite_active hact hv)
  · exact leads_of_exec hcmds.head (Device.cqHeadWrite_bad (.inl hv))
  · exact leads_of_exec hcmds.abort (Device.ringAbort_active hact)
  · exact leads_of_exec hcmds.tail (Device.sqTail_bad (.inr hact))
  · exact leads_of_exec hcmds.head (Device.cqHeadWrite_bad (.inr hact))
  · exact leads_of_exec hcmds.abort (Device.ringAbort_inactive hact)
  · exact leads_of_exec hcmds.enable (Device.ringEnable_busy hdis)
  · exact leads_of_exec hcmds.cfg (if_pos hbusy)
  · exact leads_of_exec hcmds.enable (Device.ringEnable_on hon hdis)
  · exact leads_of_exec hcmds.enable (Device.ringEnable_off hoff hdis rfl)
  · exact leads_of_exec hcmds.disable (Device.ringDisable_off hoff)
  · exact leads_of_exec hcmds.disable (Device.ringDisable_on hon rfl)
  · exact leads_of_exec hcmds.cfg (if_neg (by simp [hdis, hoff]))

end Sys2Proof.Machine
end

section
/-! PROOFS. The Assayer's descriptor fetches, the dispatch of its jobs, and the end of a block: what has come back, and then the state of the queue or
job, decide what each command does (R309, R310, R314, R315, R317 to R319, R642). -/

namespace Sys2Proof.Machine

section
variable {d : Device}

/-! ### Descriptor fetches (R318) -/

section
variable {q : Nat} {g : Device} (hg : g = (d.takeInbox 0 q).1)
include hg

/-- A fetch that has not come back changes nothing more. -/
theorem Device.descFetched_pending (hans : (d.takeInbox 0 q).2 = []) : d.descFetched q = g := by
  have htake : d.takeInbox 0 q = (g, []) := Prod.ext hg.symm hans
  rw [Device.descFetched, htake]

section
variable {a : EngineAnswer} {as : List EngineAnswer} (hans : (d.takeInbox 0 q).2 = a :: as)
include hans

/-- A queue that is not ACTIVE only notes that no fetch runs. -/
theorem Device.descFetched_inactive (hact : (g.ring q).state ≠ 1) :
    d.descFetched q = g.setRing q { g.ring q with fetching := false } := by
  have htake : d.takeInbox 0 q = (g, a :: as) := Prod.ext hg.symm hans
  rw [Device.descFetched, htake]
  exact if_pos hact

/-- An entry of an ACTIVE queue advances the head and takes a job number; then its read, the queue's abort or disable, and its checks decide. -/
theorem Device.descFetched_active {f e : Device} {b : List Nat} (hact : (g.ring q).state = 1)
    (hf : f = g.setRing q { g.ring q with fetching := false, head := ((g.ring q).head + 1) % g.sqSize q })
    (he : e = { f with eng := { f.eng with nextJob := f.eng.nextJob + 1 } }) (hb : b = g.entryOf q a) :
    d.descFetched q =
      if readStatus a ≠ 0 then
        ((e.setRing q { e.ring q with stopping := true }).complete q 7
          (jobCpl { id := f.eng.nextJob, queue := q, desc := List.replicate 64 0 } 7)).ringSettle q
      else if (g.ring q).aborting = true ∨ (g.ring q).disabling = true then
        (e.complete q 4 (jobCpl { id := f.eng.nextJob, queue := q, desc := b } 4)).ringSettle q
      else (e.jobCheck b).elim
        (({ e with eng := { e.eng with jobs := e.eng.jobs ++ [{ id := f.eng.nextJob, queue := q, desc := b }] } } : Device).ringFetch q)
        (fun st => (e.complete q st (jobCpl { id := f.eng.nextJob, queue := q, desc := b } st)).ringFetch q) := by
  have htake : d.takeInbox 0 q = (g, a :: as) := Prod.ext hg.symm hans
  rw [Device.descFetched, htake]
  refine (if_neg (by simp [hact])).trans ?_
  rw [← hf, ← hb]
  dsimp only at he ⊢
  rw [← he]
  cases e.jobCheck b with
  | none => rw [he]; rfl
  | some st => rfl

end

end

/-! ### Dispatch (R318, R642) -/

/-- A free unit takes the next job, and its reads start. -/
theorem Device.dispatchJob_takes {j : Job} (hpage : d.pageOn .assay = true) (hheld : d.enginesHeld = false) (hfree : d.unitsBusy < 8)
    (hnext : d.nextJob = some j) {e : Device} (he : e = d.setJob { j with running := true }) :
    d.dispatchJob = ({ e with eng := { e.eng with turn := j.queue } } : Device).jobRead j.id := by
  simp [Device.dispatchJob, hpage, hheld, hfree, hnext, he]

/-- No job is taken while the page takes no work, the engines are held, all units are in use, or no job waits. -/
theorem Device.dispatchJob_none
    (hnot : d.pageOn .assay = false ∨ d.enginesHeld = true ∨ 8 ≤ d.unitsBusy ∨ d.nextJob = none) : d.dispatchJob = d := by
  rw [Device.dispatchJob]
  rcases hnot with hpage | hheld | hbusy | hnext
  · simp [hpage]
  · simp [hheld]
  · simp [Nat.not_lt.mpr hbusy]
  · simp [hnext]

/-! ### The reads and the result entry of a block (R310, R314, R315) -/

/-- The reads of a job that runs without a result entry advance. -/
theorem Device.blockReads_eq (d : Device) (id : Nat) :
    d.blockReads id = if (d.job id).any (fun j => j.running && j.entry.isNone) = true then d.jobRead id else d := by
  rw [Device.blockReads]
  cases d.job id with
  | none => rfl
  | some j => simp

section
variable {e : Device} {j : Job} {t : DutCtx}

/-- A block with a result entry keeps it. -/
theorem Device.blockEntry_written (hentry : j.entry.isSome = true) : e.blockEntry j t = e := if_pos hentry

section
variable (hentry : j.entry = none)
include hentry

/-- A block whose reads have not all come back gets no result entry. -/
theorem Device.blockEntry_waits {keys : List Nat} (hreads : e.jobReads t j = .need keys) : e.blockEntry j t = e := by
  simp [Device.blockEntry, hentry, hreads]

/-- A block whose reads have come back gets its result entry, by the early outcome or by the analysis. -/
theorem Device.blockEntry_writes {r : Repair} {f : Device} (hf : (e.jobReads t j = .early r ∧ f = e.jobWrite j t r) ∨
      ∃ a b x, e.jobReads t j = .full a b x ∧ f = e.jobWrite j t { x with changed := decide (a ≠ b) }) : e.blockEntry j t = f := by
  rcases hf with ⟨hreads, rfl⟩ | ⟨a, b, x, hreads, rfl⟩
  · simp [Device.blockEntry, hentry, hreads]
  · simp [Device.blockEntry, hentry, hreads]

end

/-! ### The end of a block (R317, R319) -/

section
variable {id : Nat} (he : e = d.blockReads id)
include he

/-- A job that does not exist. -/
theorem Device.blockDone_noJob (hjob : e.job id = none) : d.blockDone id = e := by
  rw [Device.blockDone, ← he]
  dsimp only
  rw [hjob]

section
variable (hjob : e.job id = some j)
include hjob

/-- A job that does not run, runs while the engines are held, or names no bound DUT goes no further. -/
theorem Device.blockDone_stays (hnot : j.running = false ∨ e.enginesHeld = true ∨ e.dut j.dut = none) : d.blockDone id = e := by
  rw [Device.blockDone, ← he]
  dsimp only
  rw [hjob]
  rcases hnot with hrun | hheld | hdut
  · simp [hrun]
  · simp [hheld]
  · simp [hdut]

section
variable (hrun : j.running = true) (hheld : e.enginesHeld = false) (hdut : e.dut j.dut = some t) {f : Device} (hf : e.blockEntry j t = f)
include hrun hheld hdut hf

/-- A job that writing its result entry has ended. -/
theorem Device.blockDone_ended (hafter : f.job id = none) : d.blockDone id = f := by
  rw [Device.blockDone, ← he]
  simp [hjob, hrun, hheld, hdut, hf, hafter]

/-- A job that has its result entry for the block in hand looks for the answers to its writes. -/
theorem Device.blockDone_after {k : Job} (hafter : f.job id = some k) :
    d.blockDone id = if k.entry.isSome = true ∧ k.next = j.next then f.jobWritten k else f := by
  rw [Device.blockDone, ← he]
  simp [hjob, hrun, hheld, hdut, hf, hafter]

end

end

end

/-- A job waits while writes of its result entry are out. -/
theorem Device.jobWritten_waits (hout : (e.eng.inbox.filter (fun a => a.kind == 5 && a.q == j.id)).length < j.sent) :
    e.jobWritten j = e := if_pos hout

/-- When all writes of the result entry have come back, a refusal ends the job, then a want of capacity; else it goes on. -/
theorem Device.jobWritten_answered (hall : j.sent ≤ (e.eng.inbox.filter (fun a => a.kind == 5 && a.q == j.id)).length) {g : Device}
    {as : List EngineAnswer} (hg : g = (e.takeInbox 5 j.id).1) (has : as = (e.takeInbox 5 j.id).2) : e.jobWritten j =
      if as.any (fun a => a.status == 3) = true then g.endJob j 2
      else if as.any (fun a => a.status == 2) = true then g.endJob j 3 else g.jobNext j := by
  subst hg has
  exact if_neg (Nat.not_lt.mpr hall)

end

end

/-! ### The obligation -/

/-- Settles O26: what has come back for a queue or a job is taken first, and then its state decides. -/
theorem assayerJobsAndDescriptors : Obligations.AssayerJobsAndDescriptors := by
  unfold Obligations.AssayerJobsAndDescriptors
  intro d w
  refine ⟨fun q hq => ⟨_, rfl, ?_⟩, fun j hpage hheld hfree hnext => ⟨_, rfl, ?_⟩, fun hnot => ?_, fun id => ⟨_, rfl, ?_⟩⟩
  · have hfetch {e : Device} (he : d.descFetched q = e) : Leads (.assayDescFetched q) ⟨d, w⟩ e :=
      leads_of_exec rfl ((if_pos hq).trans he)
    refine ⟨fun hans => hfetch (Device.descFetched_pending rfl hans), fun a as hans => ⟨fun hact => ?_, fun hact f e b hf he hb => ?_⟩⟩
    · exact hfetch (Device.descFetched_inactive rfl hans hact)
    · have hentry := Device.descFetched_active rfl hans hact hf he hb
      refine ⟨fun hbad => ?_, fun hgood hends => ?_, fun hgood habort hdis => ?_⟩
      · exact hfetch (hentry.trans (if_pos hbad))
      · rw [if_neg (not_not_intro hgood), if_pos hends] at hentry
        exact hfetch hentry
      · rw [if_neg (not_not_intro hgood), if_neg (by simp [habort, hdis])] at hentry
        exact ⟨fun st hst => hfetch (by rw [hentry, hst]; rfl), fun hok => hfetch (by rw [hentry, hok]; rfl)⟩
  · exact leads_of_exec rfl (Device.dispatchJob_takes hpage hheld hfree hnext rfl)
  · exact leads_of_exec rfl (Device.dispatchJob_none hnot)
  · have he := (d.blockReads_eq id).symm
    have hblock {e : Device} (hdone : d.blockDone id = e) : Leads (.assayBlockDone id) ⟨d, w⟩ e := leads_of_exec rfl hdone
    refine ⟨fun hjob => hblock (Device.blockDone_noJob he hjob), fun j hjob => ⟨fun hnot => hblock (Device.blockDone_stays he hjob hnot),
      fun t hrun hheld hdut => ⟨fun hentry => ?_, fun hentry => ⟨fun keys hreads => ?_, fun r f hf => ?_⟩⟩⟩⟩
    · have hdone := (Device.blockDone_after he hjob hrun hheld hdut (Device.blockEntry_written hentry) hjob).trans (if_pos ⟨hentry, rfl⟩)
      refine ⟨fun hout => hblock (hdone.trans (Device.jobWritten_waits hout)), fun hall => ⟨_, _, rfl, rfl, ?_⟩⟩
      have hwritten := hdone.trans (Device.jobWritten_answered hall rfl rfl)
      exact ⟨fun hacc => hblock (hwritten.trans (if_pos hacc)),
        fun hacc hcap => hblock (hwritten.trans ((if_neg (ne_true_of_eq_false hacc)).trans (if_pos hcap))),
        fun hacc hcap => hblock (hwritten.trans ((if_neg (ne_true_of_eq_false hacc)).trans
          (if_neg (ne_true_of_eq_false hcap))))⟩
    · exact hblock ((Device.blockDone_after he hjob hrun hheld hdut (Device.blockEntry_waits hentry hreads) hjob).trans
        (if_neg (by simp [hentry])))
    · have hwrites := Device.blockEntry_writes hentry hf
      refine ⟨fun hafter => hblock (Device.blockDone_ended he hjob hrun hheld hdut hwrites hafter), fun k hafter => ?_⟩
      have hdone := Device.blockDone_after he hjob hrun hheld hdut hwrites hafter
      exact ⟨fun hnot => hblock (hdone.trans (if_neg (by rcases hnot with hk | hk <;> simp [hk]))),
        fun hk hnext => hblock (hdone.trans (if_pos ⟨hk, hnext⟩))⟩

end Sys2Proof.Machine
end

section
/-! PROOFS. Event logs and firmware slots through the mailbox (R373, R374, R564): a command on a link that is up is answered with what
its operation on the log or on the slot makes of the device. -/

namespace Sys2Proof.Machine

/-! ### Firmware slots (R564) -/

section
variable {d : Device} {slot off : Nat} {data : List Nat} (hslot : slot < 2)
include hslot

/-- Bytes for a slot that does not run are stored in it. -/
theorem Device.fwWrite_stores (hrun : slot ≠ d.runSlot) (hend : off + data.length ≤ 0x2000000) : d.fwWrite slot off data =
    ({ d with sec := { d.sec with flash := Memory.setBytes d.sec.flash (slotBase slot + off) data } }, 0) := by
  rw [Device.fwWrite, if_neg (by omega), if_neg hrun]

/-- Bytes for the running slot are refused. -/
theorem Device.fwWrite_running (hrun : slot = d.runSlot) (hend : off + data.length ≤ 0x2000000) : d.fwWrite slot off data = (d, 1) := by
  rw [Device.fwWrite, if_neg (by omega), if_pos hrun]

/-- A slot whose image is valid is the next trial. -/
theorem Device.fwActivate_valid (hvalid : d.imageValid slot = true) :
    d.fwActivate slot = ({ d with sec := { d.sec with nextSlot := slot, trial := true } }, 0) := by
  rw [Device.fwActivate, if_neg (by omega), if_pos hvalid]

/-- Another is rejected. -/
theorem Device.fwActivate_invalid (hvalid : ¬ d.imageValid slot = true) :
    d.fwActivate slot = (d.secFault SECALM.flag.IMAGE_REJECT 4 0 slot 0, 1) := by
  rw [Device.fwActivate, if_neg (by omega), if_neg hvalid]

end

/-! ### Answers of the mailbox (R373, R498) -/

section
variable {d e : Device} {w : List Instr} {p l : Nat} (hup : (d.hostLink p l).up = true) (hfw : d.fwAlive = true)
include hup hfw

/-- A command on a link that is up is answered while firmware runs. -/
theorem Device.mailbox_answers {f : Device → Device × MboxCode × List Nat} {code : MboxCode} {data : List Nat}
    (hf : f d = (e, code, data)) : d.mailbox p l f = e.send (.mailbox p l code data) := by
  rw [Device.mailbox, if_pos (by simp [hup, hfw]), hf]

/-- Naming the oldest records in order clears them; that the overflow count clears with the last of them is the model's choice (log
entry 47). -/
theorem leads_clearEventRecords {k : Nat} {a b : List Record} (hk : k < 4) (hrecs : (d.evLog p l k).recs = a ++ b) :
    Leads (.clearEventRecords p l k false (a.map Record.seq)) ⟨d, w⟩ ((d.setEvLog p l k { d.evLog p l k with
      recs := b, overflow := if b.isEmpty then 0 else (d.evLog p l k).overflow }).send (.mailbox p l .success [])) := by
  have hfront : ((d.evLog p l k).recs.take (a.map Record.seq).length).map (fun r => r.seq) = a.map Record.seq := by simp [hrecs]
  have hrest : (d.evLog p l k).recs.drop (a.map Record.seq).length = b := by simp [hrecs]
  refine leads_of_exec rfl (Device.mailbox_answers hup hfw ((if_neg (by omega)).trans ((if_neg Bool.false_ne_true).trans
    ((if_pos hfront).trans ?_))))
  rw [hrest]

section
variable (hmgmt : d.mgmtLink p l = true) {slot st : Nat}
include hmgmt

/-- A management link carries out the commands of management links. -/
theorem Device.mgmtMailbox_answers {f : Device → Device × MboxCode × List Nat} {code : MboxCode} {data : List Nat}
    (hf : f d = (e, code, data)) : d.mgmtMailbox p l f = e.send (.mailbox p l code data) :=
  Device.mailbox_answers hup hfw ((if_pos hmgmt).trans hf)

/-- Transfer FW is answered with what the write of the slot makes of the device. -/
theorem leads_transferFw {off : Nat} {data : List Nat} (hslot : slot ≠ 0) (hwrite : d.fwWrite (slot - 1) off data = (e, st)) :
    Leads (.transferFw p l slot off data) ⟨d, w⟩
      (e.send (.mailbox p l (if st = 0 then .success else if st = 1 then .invalidSlot else .invalidInput) [])) := by
  refine leads_of_exec rfl (Device.mgmtMailbox_answers hup hfw hmgmt ((if_neg hslot).trans ?_))
  rw [hwrite]

/-- Activate FW is answered with what the activation of the slot makes of the device. -/
theorem leads_activateFw (hslot : ¬ (slot = 0 ∨ 2 < slot)) (hact : d.fwActivate (slot - 1) = (e, st)) :
    Leads (.activateFw p l slot false) ⟨d, w⟩ (e.send (.mailbox p l (if st = 0 then .success else .authFailed) [])) := by
  refine leads_of_exec rfl (Device.mgmtMailbox_answers hup hfw hmgmt ((if_neg Bool.false_ne_true).trans ((if_neg hslot).trans ?_)))
  rw [hact]

end

end

/-- Settles O10: each command is answered, with what its operation on the log or on the slot makes of the device. -/
theorem eventLogsAndFirmwareOfTheMailbox : Obligations.EventLogsAndFirmwareOfTheMailbox := by
  unfold Obligations.EventLogsAndFirmwareOfTheMailbox
  intro d w p l hup hfw
  refine ⟨fun k hk => ?_, fun k seqs hk => ?_, fun k seqs a b hk hrecs hseqs => ?_, fun o1 v1 o2 v2 o3 v3 => ⟨_, fun e k on v => rfl, ?_⟩,
    fun hmgmt => ⟨fun slot off data hslot hrun hend => ?_, fun slot off data hslot hrun hend => ?_, fun slot hlo hhi => ?_, fun slot => ?_⟩⟩
  · exact leads_of_exec rfl ((if_pos (by simp [hup, hfw])).trans (if_neg (by omega)))
  · exact leads_of_exec rfl (Device.mailbox_answers hup hfw ((if_neg (by omega)).trans (if_pos rfl)))
  · exact hseqs ▸ leads_clearEventRecords hup hfw hk hrecs
  · exact leads_of_exec rfl (Device.mailbox_answers hup hfw rfl)
  · exact leads_transferFw hup hfw hmgmt (by omega) (Device.fwWrite_stores (by omega) hrun hend)
  · exact leads_transferFw hup hfw hmgmt (by omega) (Device.fwWrite_running (by omega) hrun hend)
  · split
    · next hvalid => exact leads_activateFw hup hfw hmgmt (by omega) (Device.fwActivate_valid (by omega) hvalid)
    · next hvalid => exact leads_activateFw hup hfw hmgmt (by omega) (Device.fwActivate_invalid (by omega) hvalid)
  · exact leads_of_exec rfl (Device.mgmtMailbox_answers hup hfw hmgmt (if_pos rfl))

end Sys2Proof.Machine
end

section
/-! PROOFS. DOE discovery, the CXL tables (R375) and the SPDM responder (R575 to R577): a request is decided by the version of its
connection and by its own fields, and the answer closes it. -/

namespace Sys2Proof.Machine

/-! ### DOE (R375) -/

section
variable {d : Device} {w : List Instr} {p l : Nat} (hup : (d.hostLink p l).up = true) (hfw : d.fwAlive = true)
include hup hfw

/-- Discovery names the protocol of an index and the next index (numbers of the model, log entry 24). -/
theorem leads_doeDiscovery {inst index vendor type next : Nat} (hprotocol : (doeProtocols inst)[index]? = some (vendor, type))
    (hnext : (if index + 1 < (doeProtocols inst).length then index + 1 else 0) = next) :
    Leads (.doeDiscovery p l inst index) ⟨d, w⟩ (d.send (.doe p l inst [vendor, type, next])) := by
  refine leads_of_exec rfl ((if_pos (by simp [hup, hfw])).trans ?_)
  rw [hprotocol, hnext]

/-- A table access sends the table, whose second word is the capacity that the link shows. -/
theorem leads_cxlTableAccess : ∃ t, Leads (.cxlTableAccess p l) ⟨d, w⟩ (d.send (.doe p l 1 t)) ∧ t[1]? = some (d.linkCapacity p l) :=
  ⟨_, leads_of_exec rfl (if_pos (by simp [hup, hfw])), rfl⟩

end

/-! ### SPDM (R575) -/

/-- A connection's state after a request: the transcript goes on with the request, and the held hash is discarded. -/
def SpdmConn.noting (x : SpdmConn) (nonce : List Nat) (code : Nat) : SpdmConn :=
  { x with log := x.log ++ code :: nonce, held := none }

section
variable {d : Device} {w : List Instr} {c : Nat} (hconn : d.connOk c = true)
include hconn

/-- A request on a connection that may carry requests runs the responder. -/
theorem leads_spdmRequest {q : SpdmReq} {nonce : List Nat} {e : Device} (he : d.spdmRequest c q nonce = e) :
    Leads (.spdmRequest c q nonce) ⟨d, w⟩ e := leads_of_exec rfl ((if_pos hconn).trans he)

/-- GET_PQ_SIG answers by what is held. -/
theorem leads_getPqSig {held : Option (List Nat)} (hheld : (d.conn c).held = held) : Leads (.getPqSig c) ⟨d, w⟩
    (held.elim (d.spdmAnswer c (d.conn c) none .errUnexpected [])
      (fun t => d.spdmAnswer c (d.conn c) none .pqSig (Config.mldsaSign d.aliasSalt ctxAtt (Config.sha384 t)))) := by
  refine leads_of_exec rfl ((if_pos hconn).trans ?_)
  rw [hheld]
  cases held <;> rfl

end

section
variable {d : Device} {c i : Nat} {nonce : List Nat}

/-- A capabilities request fixes a known version. -/
theorem Device.spdmRequest_getCapabilities (v : Nat) : d.spdmRequest c (.getCapabilities v) nonce =
    if v = 0x12 ∨ v = 0x13 then d.spdmAnswer c { (d.conn c).noting nonce 0xE1 with version := v } none .capabilities [v]
    else d.spdmAnswer c ((d.conn c).noting nonce 0xE1) none .errInvalid [] := rfl

/-- A request for an open session is acknowledged. -/
theorem Device.spdmAnswer_open (hopen : (d.conn c).open_ i = true) (code : Nat) (ack : SpdmRsp) :
    d.spdmAnswer c ((d.conn c).noting nonce code) none (if (d.conn c).open_ i = true then ack else .errInvalid) [] =
      d.spdmAnswer c ((d.conn c).noting nonce code) none ack [] := by
  rw [if_pos hopen]

section
variable (hversion : (d.conn c).version ≠ 0)
include hversion

/-- A measurement is answered with its block, which the transcript then holds; a signed answer holds that transcript. -/
theorem Device.spdmRequest_getMeasurements (hlo : 1 ≤ i) (hhi : i ≤ 8) {signed : Bool} {x : SpdmConn}
    (hx : x = { (d.conn c).noting nonce 0xE0 with log := ((d.conn c).noting nonce 0xE0).log ++ d.measurement i }) :
    d.spdmRequest c (.getMeasurements i signed) nonce =
      if signed = true then d.spdmAnswer c x (some x.log) .measurements (d.measurement i ++ d.spdmSign x.log)
      else d.spdmAnswer c x none .measurements (d.measurement i) := by
  have hblock : (if i = 0xFF then [1, 2, 3, 4, 5, 6, 7, 8] else [i]).flatMap d.measurement = d.measurement i := by
    rw [if_neg (by omega), List.flatMap_singleton]
  subst hx
  refine (if_neg hversion).trans ((if_neg (by omega)).trans ((if_neg (by omega)).trans ?_))
  rw [hblock]
  rfl

/-- A key exchange opens the lowest free session, and its signed answer holds the transcript. -/
theorem Device.spdmRequest_keyExchange (hmint : d.mintOk = true) (hfree : (d.conn c).freeSession = some i) {x : SpdmConn}
    (hx : x = (d.conn c).noting nonce 0xE4) : d.spdmRequest c (.keyExchange 0) nonce =
      d.spdmAnswer c { x with sessions := x.sessions ++ [i] } (some x.log) .keyExchangeRsp (i :: d.spdmSign x.log) := by
  subst hx
  refine (if_neg hversion).trans ((if_neg (by simp [hmint])).trans ((if_neg (by simp)).trans ?_))
  split
  · next j hj =>
    obtain rfl : j = i := Option.some_inj.mp (hj.symm.trans hfree)
    rfl
  · next hnone => exact absurd (hnone.symm.trans hfree) (by simp)

end

end

/-- Settles O11: each request is decided by the version of its connection and by its own fields. -/
theorem doeAndSpdmResponder : Obligations.DoeAndSpdmResponder := by
  unfold Obligations.DoeAndSpdmResponder
  intro d w
  refine ⟨fun p l hup hfw => ⟨leads_doeDiscovery hup hfw rfl rfl, leads_doeDiscovery hup hfw rfl rfl, leads_doeDiscovery hup hfw rfl rfl,
    leads_doeDiscovery hup hfw rfl rfl, leads_doeDiscovery hup hfw rfl rfl, leads_cxlTableAccess hup hfw⟩,
    fun c nonce hconn => ⟨_, fun x r data => rfl, _, fun code => rfl, ?_, fun v => ?_, ?_, fun hnone => ?_, fun hversion => ?_,
      fun off len => ?_, fun t ht => ?_, fun hnone => ?_⟩⟩
  · exact leads_spdmRequest hconn rfl
  · exact leads_spdmRequest hconn (Device.spdmRequest_getCapabilities v)
  · exact leads_spdmRequest hconn rfl
  · exact leads_spdmRequest hconn (if_pos hnone)
  · refine ⟨?_, ?_, fun off len => ?_, ?_, ?_, fun i hlo hhi => ⟨?_, ?_⟩, fun i hmint hfree => ?_, fun i hopen => ⟨?_, ?_, ?_, ?_⟩⟩
    · exact leads_spdmRequest hconn (if_neg hversion)
    · exact leads_spdmRequest hconn (if_neg hversion)
    · exact leads_spdmRequest hconn ((if_neg hversion).trans (if_pos rfl))
    · exact leads_spdmRequest hconn ((if_neg hversion).trans (if_pos rfl))
    · exact leads_spdmRequest hconn ((if_neg hversion).trans (if_pos rfl))
    · exact leads_spdmRequest hconn (Device.spdmRequest_getMeasurements hversion hlo hhi rfl)
    · exact leads_spdmRequest hconn (Device.spdmRequest_getMeasurements hversion hlo hhi rfl)
    · exact leads_spdmRequest hconn (Device.spdmRequest_keyExchange hversion hmint hfree rfl)
    · exact leads_spdmRequest hconn ((if_neg hversion).trans (Device.spdmAnswer_open hopen 0xE5 .finishRsp))
    · exact leads_spdmRequest hconn ((if_neg hversion).trans (Device.spdmAnswer_open hopen 0xE8 .heartbeatAck))
    · exact leads_spdmRequest hconn ((if_neg hversion).trans (Device.spdmAnswer_open hopen 0xE9 .keyUpdateAck))
    · exact leads_spdmRequest hconn ((if_neg hversion).trans (if_pos hopen))
  · exact leads_of_exec rfl (if_pos hconn)
  · exact leads_getPqSig hconn ht
  · exact leads_getPqSig hconn hnone

end Sys2Proof.Machine
end

section
/-! PROOFS. Bus mastering and MSI-X (R379, R393), decoders and BI Enable (R369, R370), and the end of outbound tags (R378, R394, R395):
each operation is a store of the link's state, and then the messages, requests or fetches that it lets go. -/

namespace Sys2Proof.Machine

section
variable {d : Device} {p l : Nat}

/-! ### Bus mastering and MSI-X (R379, R393) -/

/-- After a link's state is stored, the pending messages whose conditions it clears are sent, and the others stay pending (the
conditions as operands: log entry 50). -/
theorem Device.msixFlush_setHostLink {h : HostLink} {go : List Nat} (hgo : go = h.msixPending.filter (fun v => h.msixReady v)) :
    (d.setHostLink p l h).msixFlush p l = go.foldl (fun (x : Device) v => x.send (.msix p l v))
      ((d.setHostLink p l h).setHostLink p l { h with msixPending := h.msixPending.filter (fun v => !(go.contains v)) }) := by
  rw [Device.msixFlush, Device.hostLink_setHostLink_self, hgo]

/-- Every Completion Timeout Value that is no reserved one has its time. -/
theorem find_cplTimes_isSome {cto : Nat} (h : cto ∈ [0, 1, 2, 5, 6, 9, 10, 13, 14]) : (KMap.find cplTimes cto).isSome = true := by
  fin_cases h <;> rfl

/-- Setting Bus Master Enable stores the controls that the host left, where they are no reserved ones. -/
theorem Device.bmeSet_stores (hup : (d.hostLink p l).up = true) {mrrs cto : Nat} (ir ic : Bool)
    (hmrrs : mrrs ∈ [128, 256, 512, 1024, 2048, 4096]) (hcto : cto ∈ [0, 1, 2, 5, 6, 9, 10, 13, 14]) :
    d.bmeSet p l ⟨mrrs, cto, ir, ic⟩ = (d.setHostLink p l { d.hostLink p l with
      bme := true, mrrs := mrrs, cto := cto, idoReq := ir, idoCpl := ic }).msixFlush p l := by
  rw [Device.bmeSet, if_pos hup, if_pos (List.contains_iff_mem.mpr hmrrs), if_pos (find_cplTimes_isSome hcto)]

/-! ### Decoders and BI Enable (R369, R370) -/

section
variable (hup : (d.hostLink p l).up = true)
include hup

/-- On a link that is up the commit rules decide whether a decoder is stored, at its DPA (log entry 49), or its error bit is set. -/
theorem Device.decoderCommit_eq (n hpa size skip iw : Nat) (bi lock : Bool) : d.decoderCommit p l n hpa size skip iw bi lock =
    if (d.hostLink p l).mayCommit n size skip iw bi = true then d.setHostLink p l { d.hostLink p l with
      decoders := KMap.put (d.hostLink p l).decoders n
        { hpa := hpa, size := size, dpaSkip := skip, dpa := (d.hostLink p l).decoderBase n skip, locked := lock }
      decErr := (d.hostLink p l).decErr.filter (fun i => i != n) }
    else if (d.hostLink p l).decErr.contains n = true then d
    else d.setHostLink p l { d.hostLink p l with decErr := (d.hostLink p l).decErr ++ [n] } := if_neg (by simp [hup])

/-- A write of BI Enable is stored, and setting it sends the requests that waited to their home. -/
theorem Device.biEnableWrite_eq (v : Bool) : d.biEnableWrite p l v =
    if v = true then (d.hostLink p l).waitBi.foldl (fun (x : Device) r => x.route r)
      (d.setHostLink p l { d.hostLink p l with biEnable := true, waitBi := [] })
    else d.setHostLink p l { d.hostLink p l with biEnable := false } := if_neg (by simp [hup])

end

/-! ### Outbound completions and their timers (R378, R395) -/

/-- A completion that matches an outstanding tag and its generation ends it, an error status as status 7. -/
theorem Device.outCompletion_matches {t : OutTag} {tag : Nat} (status : Nat) (data : List Nat)
    (ht : (d.hostLink p l).tags.find? (fun x => x.tag + (if x.gen then 2 ^ 13 else 0) == tag) = some t) :
    d.outCompletion p l tag status data = d.tagEnds p l t (if status ≤ 1 then status else 7) data := by
  rw [Device.outCompletion, ht]

/-- One that matches none is late. -/
theorem Device.outCompletion_late {tag : Nat} (status : Nat) (data : List Nat)
    (hnone : (d.hostLink p l).tags.find? (fun x => x.tag + (if x.gen then 2 ^ 13 else 0) == tag) = none) :
    d.outCompletion p l tag status data = d.countSat (if l = 0 then HOST.LATE_CPL.COUNT 0 else HOST.LATE_CPL.COUNT 1) p := by
  rw [Device.outCompletion, hnone]

/-- A completion timer that has run out is counted, is noted in AER (log entry 125) and ends the tag with an error. -/
theorem Device.cplTimeout_expires {t : OutTag} {tag : Nat} {e : Device} (ht : (d.hostLink p l).tags.find? (fun x =>
      x.tag == tag && decide (x.sent + KMap.get cplTimes 40000000 (d.hostLink p l).cto ≤ d.time)) = some t)
    (he : e = d.countSat (if l = 0 then HOST.CPL_TIMEOUTS.COUNT 0 else HOST.CPL_TIMEOUTS.COUNT 1) p) :
    d.cplTimeout p l tag = (e.setHostLink p l { e.hostLink p l with aerCto := true }).tagEnds p l t 7 [] := by
  rw [Device.cplTimeout, ht, he]

/-! ### The end of a tag (R393, R394) -/

section
variable {t : OutTag} {status : Nat} {data : List Nat} {e : Device}
  (he : e = d.setHostLink p l { d.hostLink p l with tags := (d.hostLink p l).tags.filter (fun x => x.tag != t.tag) })
include he

/-- The answer of an old tag is discarded, and the last old tag ends the drain. -/
theorem Device.tagEnds_old (hold : t.old = true) : d.tagEnds p l t status data =
    if ((d.hostLink p l).tags.filter (fun x => x.tag != t.tag)).any (fun x => x.old) = true then e else e.flipGen p l := by
  rw [Device.tagEnds, if_pos hold, he]

/-- The answer of another goes to the engine that asked, data of another length as an error (log entry 128), unless it is of a DMA write
whose descriptor has ended; the rings that waited for a tag fetch. -/
theorem Device.tagEnds_answers {a : EngineAnswer} {f : Device} (hold : t.old = false)
    (hlive : t.kind ≠ 8 ∨ d.eng.dma.any (fun x => x.id == t.q) = true)
    (ha : a = if 1 < status ∨ data.length = t.len then { kind := t.kind, q := t.q, qla := t.off, status := status, bytes := data }
      else { kind := t.kind, q := t.q, qla := t.off, status := 7, bytes := [] })
    (hf : f = { e with eng := { e.eng with inbox := e.eng.inbox ++ [a] } }) : d.tagEnds p l t status data =
      (allRings.filter (fun r => f.ringOn r p l && f.ringOnHost r)).foldl (fun (x : Device) r => x.ringFetch r) f := by
  have hasks : ¬ (t.kind = 8 ∧ d.eng.dma.all (fun x => x.id != t.q) = true) := by
    rintro ⟨hkind, hended⟩
    rcases hlive with hother | hany
    · exact hother hkind
    · obtain ⟨x, hx, hid⟩ := List.any_eq_true.mp hany
      exact bne_iff_ne.mp (List.all_eq_true.mp hended x hx) (eq_of_beq hid)
  have hanswer : ({ kind := t.kind, q := t.q, qla := t.off
                    status := if (decide (1 < status) || data.length == t.len) = true then status else 7
                    bytes := if (decide (1 < status) || data.length == t.len) = true then data else [] } : EngineAnswer) = a := by
    rw [ha]
    by_cases hgood : 1 < status ∨ data.length = t.len <;> simp [hgood]
  rw [Device.tagEnds, if_neg (ne_true_of_eq_false hold)]
  dsimp only
  rw [hanswer, ← he, if_neg (he ▸ hasks), ← hf]

end

end

/-- Settles O12: each command is decided by the state of its link. -/
theorem hostFunctionControls : Obligations.HostFunctionControls := by
  unfold Obligations.HostFunctionControls
  intro d w p l
  refine ⟨fun en fm vs => ⟨_, _, rfl, rfl, ?_⟩, fun hup mrrs cto ir ic hmrrs hcto => ⟨_, _, rfl, rfl, ?_⟩,
    fun n hpa size skip iw bi lock hup => ⟨fun hmay => ?_, fun hmay herr => ?_⟩, fun hup => ?_, fun hup => ?_,
    fun t tag data ht => ⟨?_, ?_, ?_⟩, fun tag status data hnone => ?_, fun t tag ht => ⟨_, rfl, ?_⟩,
    fun t status data => ⟨_, rfl, Device.tagEnds_old rfl, fun hold hlive => ⟨_, rfl, _, rfl, Device.tagEnds_answers rfl hold hlive rfl rfl⟩⟩⟩
  · rw [Device.hostLink_setHostLink_self]
    exact leads_of_exec rfl (Device.msixFlush_setHostLink rfl)
  · exact leads_of_exec rfl ((Device.bmeSet_stores hup ir ic hmrrs hcto).trans (Device.msixFlush_setHostLink rfl))
  · exact leads_of_exec rfl ((Device.decoderCommit_eq hup ..).trans (if_pos hmay))
  · exact leads_of_exec rfl ((Device.decoderCommit_eq hup ..).trans
      ((if_neg (ne_true_of_eq_false hmay)).trans (if_neg (ne_true_of_eq_false herr))))
  · exact leads_of_exec rfl (Device.biEnableWrite_eq hup false)
  · exact leads_of_exec rfl (Device.biEnableWrite_eq hup true)
  · exact leads_of_exec rfl (Device.outCompletion_matches 0 data ht)
  · exact leads_of_exec rfl (Device.outCompletion_matches 1 data ht)
  · exact leads_of_exec rfl (Device.outCompletion_matches 2 data ht)
  · exact leads_of_exec rfl (Device.outCompletion_late status data hnone)
  · exact leads_of_exec rfl (Device.cplTimeout_expires ht rfl)

end Sys2Proof.Machine
end

section
/-! PROOFS. Resets of a host link and of its port (R394, R396 to R398), training and containment (R360, R389, R390), and release (R391,
R392): each operation has one guard, and past it says what becomes of the link. -/

namespace Sys2Proof.Machine

/-- A link is up in two of its states. -/
theorem HostLink.up_iff (h : HostLink) : h.up = true ↔ h.state = .upIo ∨ h.state = .upMem := by simp [HostLink.up]

section
variable {d : Device} {p l : Nat}

/-! ### FLR, Bus Master Enable and CXL Reset (R393, R394, R397) -/

section
variable (hup : (d.hostLink p l).up = true)
include hup

/-- An FLR resets the function's controls (the read request size: log entry 78), starts the drain and closes the link's batch windows. -/
theorem Device.flr_resets (hflr : (d.hostLink p l).flr = false) : d.flr p l = (((d.setHostLink p l { d.hostLink p l with
    bme := false, flr := true, flrAt := d.time, msixEnable := false, msixFuncMask := false, msixOpen := [], msixPending := [],
    mrrs := 512, bar := 0, cto := 0, idoReq := false, idoCpl := false }).startDrain p l).closeWindows p l) :=
  if_neg (by simp [hup, hflr])

/-- Clearing Bus Master Enable starts the drain. -/
theorem Device.bmeClear_drains (hbme : (d.hostLink p l).bme = true) :
    d.bmeClear p l = (d.setHostLink p l { d.hostLink p l with bme := false }).startDrain p l := if_pos (by simp [hup, hbme])

/-- A CXL Reset takes back what the link's host holds; without a valid host ID it uncommits the decoders at once. -/
theorem Device.cxlReset_eq (hreset : (d.hostLink p l).resetting = false) : d.cxlReset p l =
    if d.hostValid p l = true then (d.setHostLink p l { d.hostLink p l with resetting := true }).recallAll (d.hostId p l)
    else d.setHostLink p l { d.hostLink p l with decoders := [], decErr := [], biEnable := false } := by
  refine (if_neg (by simp [hup, hreset])).trans ?_
  rw [Device.setHostLink_setHostLink]
  rfl

end

/-- An FLR completes when 90 ms have passed. -/
theorem Device.flrRelease_eq (hflr : (d.hostLink p l).flr = true) :
    d.flrRelease p l = if (d.hostLink p l).flrAt + 90000000 ≤ d.time then d.flipGen p l else d := by
  simp [Device.flrRelease, hflr]

/-! ### Hot reset and link disable (R396) -/

/-- A link that neither PERST nor a disable holds trains where its page is on. -/
theorem Device.freeState_eq (hperst : d.host.perst.contains p = false) (hheld : (d.hostLink p l).held = false) :
    d.freeState p l = if d.pageOn .host p then .training else .down := by
  rw [Device.freeState, if_neg (ne_true_of_eq_false hperst), hheld]
  cases d.pageOn .host p <;> rfl

section
variable {e : Device} (hpresent : d.linkPresent p l = true) (hfree : (d.hostLink p l).contained = false)
  (hperst : d.host.perst.contains p = false)
include hpresent hfree hperst

/-- A reset or disable of a link that is there, not contained and not in its port's reset takes effect. -/
theorem Device.hotReset_acts :
    ¬ ((d.hostLink p l).contained = true ∨ d.host.perst.contains p = true ∨ (!d.linkPresent p l) = true) := by
  rw [hpresent, hfree, hperst]
  decide

/-- The reset or the disable drops the link; only a disable holds it down. -/
theorem Device.hotReset_drops {kind : Nat} (hkind : kind ≠ 2)
    (he : e = d.setHostLink p l { d.hostLink p l with held := (d.hostLink p l).held || kind == 1 }) :
    d.hotReset p l kind = (e.dropLink p l (e.freeState p l)).proceed := by
  rw [he]
  exact (if_neg (Device.hotReset_acts hpresent hfree hperst)).trans (if_neg hkind)

/-- The end of a disable lets the link train where its page is on. -/
theorem Device.hotReset_enables (hheld : (d.hostLink p l).held = true)
    (he : e = d.setHostLink p l { d.hostLink p l with held := false }) : d.hotReset p l 2 =
      e.setHostLink p l { e.hostLink p l with state := if d.pageOn .host p then .training else .down } := by
  have hstate : e.freeState p l = if d.pageOn .host p then .training else .down := by
    subst he
    exact Device.freeState_eq hperst (by rw [Device.hostLink_setHostLink_self])
  refine (if_neg (Device.hotReset_acts hpresent hfree hperst)).trans ((if_pos rfl).trans ((if_pos hheld).trans ?_))
  rw [← he, hstate]

end

/-! ### PERST of a port (R398) -/

/-- The fall of PERST drops both links, applies the pending configuration and is noted as a reset. -/
theorem Device.perst_drops (hp : p < 4) (hperst : d.host.perst.contains p = false) : d.perst p =
    ((((({ d with host := { d.host with perst := d.host.perst ++ [p] } } : Device).dropLink p 0 .inReset).dropLink p 1 .inReset).applyPortCfg p
      |>.noteReset 2 0 [p]).proceed) :=
  if_neg (by simpa [hp] using hperst)

/-- A link that is there and not contained, freed from the port's reset. -/
def Device.freeLink (p : Nat) (d : Device) (l : Nat) : Device :=
  if d.linkPresent p l && !(d.hostLink p l).contained then d.setHostLink p l { d.hostLink p l with state := d.freeState p l } else d

/-- The rise of PERST frees both links. -/
theorem Device.perstRise_frees (hperst : d.host.perst.contains p = true) : d.perstRise p =
    Device.freeLink p (Device.freeLink p { d with host := { d.host with perst := d.host.perst.filter (fun q => q != p) } } 0) 1 :=
  if_neg (by simpa using hperst)

/-! ### Training (R360) -/

/-- A link that finishes training comes up in the state of its flit mode. -/
theorem Device.hostLinkUp_trained (hstate : (d.hostLink p l).state = .training) (hpresent : d.linkPresent p l = true) (rate width : Nat)
    (f : Bool) : d.hostLinkUp p l rate width f = (d.setHostLink p l { d.hostLink p l with
      state := if f then .upMem else .upIo, rate := max rate (d.reg HOST.PORT_CFG.MAX_RATE p)
      width := min width (if (d.hostLink p l).split then 8 else 16), flit256 := f }).evt (HOST.flag.LINK_UP l) p :=
  if_neg (by simp [hstate, hpresent])

/-! ### Containment and release (R389 to R392) -/

/-- Containment cuts the link's traffic, shows the cause, reports LINK_DOWN of a link that was up, and CONTAINED with a record. -/
theorem Device.contain_cuts {e f : Device} (hpresent : d.linkPresent p l = true) (hfree : (d.hostLink p l).contained = false) {k : Nat}
    (he : e = d.cutLink p l) (hf : f = e.setHostLink p l { e.hostLink p l with
      state := .contained, contained := true, cause := k, resetting := false, rate := 0, width := 0, flit256 := false }) :
    d.contain p l k = (if (d.hostLink p l).up = true then f.evt (HOST.flag.LINK_DOWN l) p else f).evtRec (HOST.flag.CONTAINED l) p
      [l, k] [l, k] := by
  rw [Device.contain, if_neg (by simp [hpresent, hfree])]
  dsimp only
  simp only [← he, ← hf, HostLink.up_iff]

/-- A release waits for the link's sweep. -/
theorem Device.release_eq {ag : Agent} (hcontained : (d.hostLink p l).contained = true) (hpresent : d.linkPresent p l = true)
    (hmay : d.mayRelease ag p l = true) : d.release ag p l =
      if (d.hostLink p l).sweepPend = true then d.raise (HOST.flag.RELEASE_EARLY l) p [l] [l] false else d.releaseLink p l :=
  if_neg (by simp [hcontained, hpresent, hmay])

end

/-- Settles O13: each command runs its operation, whose guard the hypotheses decide. -/
theorem hostResetsAndLoss : Obligations.HostResetsAndLoss := by
  unfold Obligations.HostResetsAndLoss
  intro d w p l
  refine ⟨fun hup hflr => ?_, fun hflr hover => ?_, fun hflr hruns => ?_, fun hup hbme => ?_, fun hup hreset => ⟨fun hvalid => ?_, fun hvalid => ?_⟩,
    fun hpresent hfree hperst => ⟨fun e he => ?_, fun e he => ?_, fun hheld e he => ?_⟩, fun hp hperst => ?_,
    fun hperst => ⟨Device.freeLink p, fun x m => ?_, ?_⟩, fun rate width f hstate hpresent => ?_,
    fun hpresent hfree => ⟨fun k => (d.contain p l k).proceed, fun k => ⟨_, _, rfl, rfl, ?_⟩, fun hup => ⟨?_, ?_⟩, fun k hlo hhi => ?_, ?_⟩,
    fun ag hcontained hpresent hmay => ⟨fun hsweep => ?_, fun hsweep => ⟨_, rfl, ?_⟩⟩⟩
  · exact leads_of_exec rfl (Device.flr_resets hup hflr)
  · exact leads_of_exec rfl ((Device.flrRelease_eq hflr).trans (if_pos hover))
  · exact leads_of_exec rfl ((Device.flrRelease_eq hflr).trans (if_neg (Nat.not_le.mpr hruns)))
  · exact leads_of_exec rfl (Device.bmeClear_drains hup hbme)
  · exact leads_of_exec rfl ((Device.cxlReset_eq hup hreset).trans (if_pos hvalid))
  · exact leads_of_exec rfl ((Device.cxlReset_eq hup hreset).trans (if_neg (ne_true_of_eq_false hvalid)))
  · exact leads_of_exec rfl (Device.hotReset_drops hpresent hfree hperst (by decide) (he.trans (by simp)))
  · exact leads_of_exec rfl (Device.hotReset_drops hpresent hfree hperst (by decide) (he.trans (by simp)))
  · exact leads_of_exec rfl (Device.hotReset_enables hpresent hfree hperst hheld he)
  · exact leads_of_exec rfl (Device.perst_drops hp hperst)
  · simp [Device.freeLink]
  · exact leads_of_exec rfl (Device.perstRise_frees hperst)
  · exact leads_of_exec rfl (Device.hostLinkUp_trained hstate hpresent rate width f)
  · exact congrArg Device.proceed (Device.contain_cuts hpresent hfree rfl rfl)
  · exact leads_of_exec rfl (if_pos hup)
  · exact leads_of_exec rfl (if_pos hup)
  · exact leads_of_exec rfl (if_pos ⟨hlo, hhi⟩)
  · exact leads_of_exec rfl rfl
  · exact leads_of_exec rfl ((Device.release_eq hcontained hpresent hmay).trans (if_pos hsweep))
  · exact leads_of_exec rfl ((Device.release_eq hcontained hpresent hmay).trans (if_neg (ne_true_of_eq_false hsweep)))

end Sys2Proof.Machine
end

section
/-! PROOFS. The DMA engine's descriptor fetches (R318, R384), the steps of a COPY and a FILL (R382, R383, R385), and the end of a
descriptor: what has come back, and then the state of the queue or the descriptor, decide what each command does. -/

namespace Sys2Proof.Machine

section
variable {d : Device}

/-! ### Descriptor fetches (R318, R384) -/

section
variable {r : Nat} {g : Device} (hg : g = (d.takeInbox 2 r).1)
include hg

/-- A fetch that has not come back changes nothing more. -/
theorem Device.dmaFetched_pending (hans : (d.takeInbox 2 r).2 = []) : d.dmaFetched r = g := by
  have htake : d.takeInbox 2 r = (g, []) := Prod.ext hg.symm hans
  rw [Device.dmaFetched, htake]

section
variable {a : EngineAnswer} {as : List EngineAnswer} (hans : (d.takeInbox 2 r).2 = a :: as)
include hans

/-- A queue that is not ACTIVE only notes that no fetch runs. -/
theorem Device.dmaFetched_inactive (hact : (g.ring r).state ≠ 1) : d.dmaFetched r = g.setRing r { g.ring r with fetching := false } := by
  have htake : d.takeInbox 2 r = (g, a :: as) := Prod.ext hg.symm hans
  rw [Device.dmaFetched, htake]
  exact if_pos hact

/-- An entry of an ACTIVE queue advances the head and takes a number; then its read, the queue's abort or disable, and the table of
descriptors decide. -/
theorem Device.dmaFetched_active {f e : Device} {x : DmaRun} (hact : (g.ring r).state = 1)
    (hf : f = g.setRing r { g.ring r with fetching := false, head := ((g.ring r).head + 1) % g.sqSize r })
    (hx : x = { id := g.eng.nextJob, ring := r, desc := g.entryOf r a })
    (he : e = { f with eng := { f.eng with nextJob := f.eng.nextJob + 1 } }) :
    d.dmaFetched r =
      if readStatus a ≠ 0 then
        ((e.setRing r { e.ring r with stopping := true }).complete r 10 (dmaCpl { x with desc := List.replicate 32 0 } 10)).ringSettle r
      else if (g.ring r).aborting = true ∨ (g.ring r).disabling = true then (e.complete r 6 (dmaCpl x 6)).ringSettle r
      else if e.dmaOk x = true then ({ e with eng := { e.eng with dma := e.eng.dma ++ [x] } } : Device).ringFetch r
      else (e.complete r 1 (dmaCpl x 1)).ringFetch r := by
  have htake : d.takeInbox 2 r = (g, a :: as) := Prod.ext hg.symm hans
  rw [Device.dmaFetched, htake]
  refine (if_neg (not_not_intro hact)).trans ?_
  rw [he, hx, hf]

end

end

/-! ### Taking up a descriptor (R382, R500): the rotation of the queues is log entry 144 -/

section
variable {q n : Nat} {fill : Bool}

/-- Nothing moves while the engines are held or the queue has no descriptor. -/
theorem Device.dmaRun_idle (h : d.enginesHeld = true ∨ d.dmaFront (100 + q) = none) : d.dmaRun q n fill = d := by
  rw [Device.dmaRun]
  rcases h with hheld | hnone
  · simp [hheld]
  · simp [hnone]

section
variable {x : DmaRun} (hx : d.dmaFront (100 + q) = some x)
include hx

/-- Nothing moves for a descriptor of the other kind, or for one whose turn has not come. -/
theorem Device.dmaRun_waits (h : x.fill ≠ fill ∨ (x.busy = false ∧ d.dmaTurn q = false)) : d.dmaRun q n fill = d := by
  rw [Device.dmaRun, hx]
  rcases h with hkind | ⟨hbusy, hturn⟩
  · simp [hkind]
  · simp [hbusy, hturn]

/-- Otherwise the queue's descriptor makes its steps; one that is not yet taken up passes the turn on. -/
theorem Device.dmaRun_steps (hup : d.hubUp = true) (hq : q < 4) (hheld : d.enginesHeld = false) (hn : 0 < n) (hkind : x.fill = fill) :
    d.dmaRun q n fill = if x.busy = true then d.dmaSteps (100 + q) n
      else if d.dmaTurn q = true then ({ d with eng := { d.eng with dmaTurn := (q + 1) % 4 } } : Device).dmaSteps (100 + q) n else d := by
  rw [Device.dmaRun, if_neg (by simp [hup, hheld]; omega), hx]
  exact if_neg (not_not_intro hkind)

end

end

/-! ### A step (R382, R385): the steps are the model's (log entry 93) -/

section
variable {r : Nat} {e : Device} (he : e = d.dmaArrivals r)
include he

/-- A queue without a descriptor only notes what has come. -/
theorem Device.dmaStep_none (hfront : e.dmaFront r = none) : d.dmaStep r = e := by
  rw [Device.dmaStep, ← he]
  dsimp only
  rw [hfront]

section
variable {x : DmaRun} (hfront : e.dmaFront r = some x)
include hfront

section
variable (hphase : x.phase ≠ 0) {g : Device} (hg : g = (e.takeInbox 3 x.id).1)
include hphase hg

/-- A descriptor waits for an answer that has not come. -/
theorem Device.dmaStep_waits (hans : (e.takeInbox 3 x.id).2 = []) : d.dmaStep r = g := by
  have htake : e.takeInbox 3 x.id = (g, []) := Prod.ext hg.symm hans
  rw [Device.dmaStep, ← he]
  simp only [hfront, if_pos hphase, htake]

/-- One that has come is taken. -/
theorem Device.dmaStep_answered {a : EngineAnswer} {as : List EngineAnswer} (hans : (e.takeInbox 3 x.id).2 = a :: as) :
    d.dmaStep r = g.dmaAnswer x a := by
  have htake : e.takeInbox 3 x.id = (g, a :: as) := Prod.ext hg.symm hans
  rw [Device.dmaStep, ← he]
  simp only [hfront, if_pos hphase, htake]

end

section
variable (hphase : x.phase = 0)
include hphase

/-- A descriptor that has stopped with nothing in hand does nothing. -/
theorem Device.dmaStep_stopped (hstop : x.stop.isSome = true) (hgot : x.got = []) : d.dmaStep r = e := by
  rw [Device.dmaStep, ← he]
  simp [hfront, hphase, hstop, hgot]

/-- Another reads the source while it has nothing in hand or too little of its unit, and writes the destination else. -/
theorem Device.dmaStep_moves {y : DmaRun} (hy : y = { x with busy := true }) (hgoes : x.stop = none ∨ x.got ≠ []) : d.dmaStep r =
    if x.got = [] ∨ (x.dstSpace ≠ 3 ∧ x.got.length < x.chunk ∧ ¬ (x.dstSpace = 1 ∧ y.endsShort = true)) then e.dmaRead y
    else e.dmaWrite y := by
  have hstays : ¬ (x.stop.isSome = true ∧ x.got = []) := by
    rintro ⟨hstop, hgot⟩
    rcases hgoes with hnone | hsome
    · simp [hnone] at hstop
    · exact hsome hgot
  have hshort : (decide (x.dstSpace ≠ 3) && decide (x.got.length < x.chunk) && !(x.dstSpace == 1 && y.endsShort)) = true ↔
      x.dstSpace ≠ 3 ∧ x.got.length < x.chunk ∧ ¬ (x.dstSpace = 1 ∧ y.endsShort = true) := by
    simp [and_assoc, imp_iff_not_or]
  subst hy
  rw [Device.dmaStep, ← he]
  simp only [hfront, if_neg (not_not_intro hphase), if_neg hstays]
  exact if_congr (or_congr_right hshort) rfl rfl

end

end

end

/-! ### Reading the source (R377, R383) -/

section
variable {x : DmaRun}

/-- A FILL repeats the pattern of its descriptor. -/
theorem Device.dmaRead_fill (hfill : x.fill = true) : d.dmaRead x =
    d.setDma { x with got := (List.range x.chunk).map (fun k => x.desc.getD (8 + (x.moved + k) % 8) 0) } := if_pos hfill

section
variable (hfill : x.fill = false)
include hfill

/-- A COPY from memory asks the line's home. -/
theorem Device.dmaRead_memory (hsrc : x.srcSpace = 0) : d.dmaRead x =
    (d.setDma { x with phase := 1 }).engRead 3 x.id (d.ringClass x.ring) ((x.src + x.moved + x.got.length) % 2 ^ 64) 1 := by
  rw [Device.dmaRead, if_neg (ne_true_of_eq_false hfill), hsrc]
  rfl

/-- A COPY from a host takes or asks for host data. -/
theorem Device.dmaRead_host (hsrc : x.srcSpace = 1) : d.dmaRead x = d.dmaHost x := by
  rw [Device.dmaRead, if_neg (ne_true_of_eq_false hfill), hsrc]
  rfl

section
variable {a : Nat} (ha : a = x.src + x.moved + x.got.length)
include ha

/-- A COPY from a raw address is stopped where the address is blocked, and else reads the burst once its channel serves. -/
theorem Device.dmaRead_raw (hsrc : x.srcSpace = 2) {e : Device} {v : Line} {p : Bool}
    (hraw : d.dmaRaw (d.ringClass x.ring) a = (e, v, p)) : d.dmaRead x =
      (d.rawBlocked a).elim (if d.rawServes a = true then e.setDma { x with got := lineBytes v, bad := p } else d)
        (fun m => (d.blockedAccess 1 m a).dmaFail x 4) := by
  rw [Device.dmaRead, if_neg (ne_true_of_eq_false hfill), hsrc, ← ha, hraw]
  cases d.rawBlocked a with
  | some m => rfl
  | none => cases d.rawServes a <;> rfl

/-- A COPY from a register reads it. -/
theorem Device.dmaRead_register (hsrc : x.srcSpace = 3) {e : Device} {v : Nat} (hread : d.readReg (.dma (x.ring % 100)) a = (e, v)) :
    d.dmaRead x = e.setDma { x with got := x.got ++ leBytes 4 v } := by
  rw [Device.dmaRead, if_neg (ne_true_of_eq_false hfill), hsrc, ← ha, hread]
  rfl

end

end

end

/-! ### The end of a descriptor (R384) -/

/-- A descriptor that waits for an answer makes one more step before it ends. -/
theorem Device.descAnswer_eq (d : Device) (r : Nat) :
    d.descAnswer r = if (d.dmaFront r).any (fun x => x.phase != 0) = true then d.dmaStep r else d := by
  rw [Device.descAnswer]
  cases d.dmaFront r with
  | none => rfl
  | some x => by_cases hphase : x.phase = 0 <;> simp [hphase]

section
variable {r : Nat} {e : Device} (he : e = d.descAnswer r)
include he

/-- A queue without a descriptor. -/
theorem Device.descDone_none (hfront : e.dmaFront r = none) : d.descDone r = e := by
  rw [Device.descDone, ← he, hfront]

section
variable {x : DmaRun} (hfront : e.dmaFront r = some x)
include hfront

/-- A descriptor that has not stopped, or has something in hand or in flight, goes on. -/
theorem Device.descDone_goes (hgoes : x.stop = none ∨ x.phase ≠ 0 ∨ x.got ≠ []) : d.descDone r = e := by
  rw [Device.descDone, ← he, hfront]
  cases hstop : x.stop with
  | none => simp only [hstop]
  | some st =>
    have hopen : ¬ (x.phase = 0 ∧ x.got = []) := not_and_or.mpr (hgoes.resolve_left (by simp [hstop]))
    simp only [hstop, if_neg hopen]

/-- One that has stopped with nothing in hand or in flight ends, and the next entry is fetched. -/
theorem Device.descDone_ends {st : Nat} (hstop : x.stop = some st) (hphase : x.phase = 0) (hgot : x.got = []) :
    d.descDone r = (e.endDma x st).ringFetch r := by
  simp only [Device.descDone, ← he, hfront, hstop, if_pos (And.intro hphase hgot)]

end

end

end

/-! ### The obligation -/

/-- Settles O27: what has come back for a queue is taken first, and then the state of the queue or of its descriptor decides. -/
theorem dmaDescriptorsCopiesAndFills : Obligations.DmaDescriptorsCopiesAndFills := by
  unfold Obligations.DmaDescriptorsCopiesAndFills
  intro d w q hup hq
  have hserved := Device.onDma_served hup hq
  have hfetch {e : Device} (he : d.dmaFetched (100 + q) = e) : Leads (.dmaDescFetched q) ⟨d, w⟩ e := leads_of_exec rfl ((hserved _).trans he)
  have hdone {e : Device} (he : d.descDone (100 + q) = e) : Leads (.descDone q) ⟨d, w⟩ e := leads_of_exec rfl ((hserved _).trans he)
  refine ⟨⟨_, rfl, fun hans => ?_, fun a as hans => ⟨fun hact => ?_, fun hact f e x hf hx he => ?_⟩⟩, fun n c fill hc => ?_,
    fun r n => ⟨rfl, rfl⟩, fun r => ⟨_, rfl, Device.dmaStep_none rfl, fun x hfront y hy => ⟨fun hphase g hg => ?_, ?_, fun hphase hgoes => ?_⟩⟩,
    fun x a ha => ⟨Device.dmaRead_fill, fun hfill => ⟨fun hsrc => ?_, Device.dmaRead_host hfill, fun hsrc => ?_, fun hsrc e v => ?_⟩⟩,
    ⟨_, rfl, ?_⟩⟩
  · exact hfetch (Device.dmaFetched_pending rfl hans)
  · exact hfetch (Device.dmaFetched_inactive rfl hans hact)
  · have hentry := Device.dmaFetched_active rfl hans hact hf hx he
    refine ⟨fun hbad => hfetch (hentry.trans (if_pos hbad)), fun hgood hends => ?_, fun hgood habort hdis => ?_⟩
    · exact hfetch (hentry.trans ((if_neg (not_not_intro hgood)).trans (if_pos hends)))
    · have hchecked := hentry.trans ((if_neg (not_not_intro hgood)).trans (if_neg (by simp [habort, hdis])))
      exact ⟨fun hok => hfetch (hchecked.trans (if_pos hok)),
        fun hok => hfetch (hchecked.trans (if_neg (ne_true_of_eq_false hok)))⟩
  · have hrun {e : Device} (he : d.dmaRun q n fill = e) : Leads c ⟨d, w⟩ e := by
      rcases hc with ⟨rfl, rfl⟩ | ⟨rfl, rfl⟩
      · exact leads_of_exec rfl he
      · exact leads_of_exec rfl he
    refine ⟨fun hidle => hrun (Device.dmaRun_idle hidle), fun x hx => ⟨fun hwaits => hrun (Device.dmaRun_waits hx hwaits),
      fun hheld hn hkind hbusy => ?_, fun hheld hn hkind hbusy hturn => ⟨_, rfl, ?_⟩⟩⟩
    · exact hrun ((Device.dmaRun_steps hx hup hq hheld hn hkind).trans (if_pos hbusy))
    · exact hrun ((Device.dmaRun_steps hx hup hq hheld hn hkind).trans ((if_neg (ne_true_of_eq_false hbusy)).trans (if_pos hturn)))
  · exact ⟨Device.dmaStep_waits rfl hfront hphase hg, fun a as hans => Device.dmaStep_answered rfl hfront hphase hg hans⟩
  · exact Device.dmaStep_stopped rfl hfront
  · have hmoves := Device.dmaStep_moves rfl hfront hphase hy hgoes
    exact ⟨fun hread => hmoves.trans (if_pos hread), fun hgot hfull => hmoves.trans (if_neg (by grind))⟩
  · exact ha ▸ Device.dmaRead_memory hfill hsrc
  · refine ⟨fun m hblocked => ?_, fun hopen hserves => ?_, fun hopen hserves e v p hraw => ?_⟩
    · rw [Device.dmaRead_raw hfill ha hsrc rfl, hblocked]
      rfl
    · rw [Device.dmaRead_raw hfill ha hsrc rfl, hopen]
      exact if_neg (ne_true_of_eq_false hserves)
    · rw [Device.dmaRead_raw hfill ha hsrc hraw, hopen]
      exact if_pos hserves
  · exact Device.dmaRead_register hfill ha hsrc
  · rw [← Device.descAnswer_eq]
    refine ⟨fun hfront => ?_, fun x hfront => ⟨fun hgoes => ?_, fun st hstop hphase hgot => ?_⟩⟩
    · exact hdone (Device.descDone_none rfl hfront)
    · exact hdone (Device.descDone_goes rfl hfront hgoes)
    · exact hdone (Device.descDone_ends rfl hfront hstop hphase hgot)

end Sys2Proof.Machine
end

section
/-! PROOFS. The raw address map (R404, R405). The target of an address is the fold of its bits above bit 13 XOR RA[13:9], so target and TA
give the address back; and the fields of a place are consecutive digits of TA. -/

namespace Sys2Proof.Machine

/-! ### Target and address within the target (R404) -/

/-- RA[13:9] enters the target as it is; the rest of the target is that of the bits above it. -/
theorem targetOf_eq_xor (ra : Nat) : targetOf ra = bitsOf ra 9 5 ^^^ targetOf (2 ^ 14 * (ra / 2 ^ 14)) := by
  have hlow : bitsOf (2 ^ 14 * (ra / 2 ^ 14)) 9 5 = 0 := by unfold bitsOf; omega
  have hhigh (k : Nat) : bitsOf (2 ^ 14 * (ra / 2 ^ 14)) (14 + k) 5 = bitsOf ra (14 + k) 5 := by
    simp only [bitsOf, Nat.pow_add, ← Nat.div_div_eq_div_mul, Nat.mul_div_cancel_left _ (Nat.two_pow_pos 14)]
  simp only [targetOf, hlow, hhigh 0, hhigh 5, hhigh 10, hhigh 15, Nat.zero_xor, Nat.xor_assoc]

/-- TA holds the bits above bit 13. -/
theorem taOf_div (ra : Nat) : taOf ra / 512 = ra / 2 ^ 14 := by unfold taOf; omega

/-- TA holds the lowest nine bits. -/
theorem taOf_mod (ra : Nat) : taOf ra % 512 = ra % 512 := by unfold taOf; omega

/-- Target and TA give the raw address back. -/
theorem raw_of_target_of_ta (ra : Nat) :
    2 ^ 14 * (taOf ra / 512) + 512 * (targetOf ra ^^^ targetOf (2 ^ 14 * (taOf ra / 512))) + taOf ra % 512 = ra := by
  rw [taOf_div, taOf_mod, targetOf_eq_xor ra, Nat.xor_assoc, Nat.xor_self, Nat.xor_zero, bitsOf]
  omega

/-- Settles O56: target and TA are fields of the address, and together they give it back. -/
theorem rawAddressMap : Obligations.RawAddressMap := by
  unfold Obligations.RawAddressMap
  refine ⟨fun ra hra => ⟨rfl, targetOf_lt ra, rfl, ?_⟩, fun d ra => ⟨rfl, rfl⟩, fun d ra k hk hbytes hra => ?_, fun a b ht hta => ?_⟩
  · unfold taOf
    omega
  · have hhigh : ra / 2 ^ 14 < 2 ^ (k - 14) :=
      Nat.div_lt_of_lt_mul (by rwa [← Nat.pow_add, Nat.add_sub_cancel' hk, ← hbytes])
    have hwidth : 2 ^ (k - 5) = 512 * 2 ^ (k - 14) := by
      rw [show k - 5 = 9 + (k - 14) by omega, Nat.pow_add]
    unfold taOf
    omega
  · rw [← raw_of_target_of_ta a, ht, hta, raw_of_target_of_ta b]

/-! ### Places in DRAM (R405) -/

/-- The lowest digits of a number and the next field make the digits up to the field's end. -/
theorem mod_add_field (v lo w : Nat) : v % 2 ^ lo + bitsOf v lo w * 2 ^ lo = v % 2 ^ (lo + w) := by
  rw [bitsOf, Nat.pow_add, Nat.mod_mul, Nat.mul_comm]

/-- The column holds TA[8:6] and the field above the bank; the bits between them and below are those of a burst's start. -/
theorem ta_low_of_column {ta high : Nat} (hta : ta % 64 = 0) :
    64 * ((128 * high + bitsOf ta 6 3 * 16) / 16 % 8) + 2 ^ 9 * bitsOf ta 9 3 + 2 ^ 12 * bitsOf ta 12 2 +
      2 ^ 14 * ((128 * high + bitsOf ta 6 3 * 16) / 128) = ta % 2 ^ 14 + high * 2 ^ 14 := by
  unfold bitsOf
  omega

/-- The fields of a place make TA. -/
theorem Device.ta_of_place (d : Device) {ra : Nat} (hra : ra % 64 = 0)
    (hta : taOf ra < 2 ^ (14 + d.hw.colBits + d.hw.rankBits + d.hw.cidBits + d.hw.rowBits + (if d.hw.dimms = 2 then 1 else 0))) :
    64 * ((d.dramLoc ra).col / 16 % 8) + 2 ^ 9 * (d.dramLoc ra).bg + 2 ^ 12 * (d.dramLoc ra).bank + 2 ^ 14 * ((d.dramLoc ra).col / 128) +
      (d.dramLoc ra).rank * 2 ^ (14 + d.hw.colBits) + (d.dramLoc ra).cid * 2 ^ (14 + d.hw.colBits + d.hw.rankBits) +
      (d.dramLoc ra).row * 2 ^ (14 + d.hw.colBits + d.hw.rankBits + d.hw.cidBits) +
      (d.dramLoc ra).dimm * 2 ^ (14 + d.hw.colBits + d.hw.rankBits + d.hw.cidBits + d.hw.rowBits) = taOf ra := by
  have hstart : taOf ra % 64 = 0 := by unfold taOf; omega
  simp only [Device.dramLoc]
  rw [ta_low_of_column hstart, mod_add_field, mod_add_field, mod_add_field, mod_add_field, mod_add_field, Nat.mod_eq_of_lt hta]

/-- Settles O57: the fields of the place make TA, and its channel and subchannel the target. -/
theorem dramPlacesNameTheBurst : Obligations.DramPlacesNameTheBurst := by
  unfold Obligations.DramPlacesNameTheBurst
  intro d ra hra hta
  have htarget : (d.dramLoc ra).ch * 2 + (d.dramLoc ra).sub = targetOf ra := Nat.div_add_mod' (targetOf ra) 2
  rw [Device.rawOf, d.ta_of_place hra hta, htarget, raw_of_target_of_ta]

end Sys2Proof.Machine
end

section
/-! PROOFS. The write queues (R408 to R411). A burst reads as its entry in the queue of its target, or else as memory's line; so what an
operation does to every burst follows from the queue that it replaces and the line that it stores. -/

namespace Sys2Proof.Machine

/-! ### Entries of a queue -/

/-- A burst reads as its entry in a queue, or else as a line. -/
def entryOr (q : List WqEntry) (l : Line × Bool) (b : Nat) : Line × Bool :=
  (q.find? (fun e => e.ra == b)).elim l (fun e => (e.data, e.poison))

theorem Device.burstNow_eq (d : Device) (b : Nat) :
    d.burstNow b = entryOr (KMap.get (d.chan (channelOf b)).wq [] (targetOf b % 2)) (d.memLine b) b := by
  unfold Device.burstNow Device.wqFind entryOr
  cases List.find? _ _ <;> rfl

/-- The first entry decides for its own burst and says nothing of another. -/
theorem entryOr_cons (e : WqEntry) (q : List WqEntry) (l : Line × Bool) (b : Nat) :
    entryOr (e :: q) l b = if e.ra = b then (e.data, e.poison) else entryOr q l b := by
  by_cases h : e.ra = b <;> simp [entryOr, h]

/-- A burst without an entry reads as the line. -/
theorem entryOr_absent {q : List WqEntry} {b : Nat} (h : ∀ e ∈ q, e.ra ≠ b) (l : Line × Bool) : entryOr q l b = l := by
  rw [entryOr, List.find?_eq_none.mpr (by simpa using h), Option.elim_none]

/-- An entry at the end of a queue decides where none before it does. -/
theorem entryOr_append (q : List WqEntry) (e : WqEntry) (l : Line × Bool) (b : Nat) :
    entryOr (q ++ [e]) l b = entryOr q (if e.ra = b then (e.data, e.poison) else l) b := by
  induction q with
  | nil => exact entryOr_cons e [] l b
  | cons o q ih => rw [List.cons_append, entryOr_cons, entryOr_cons, ih]

/-- The queue in which an entry takes the place of the one of its burst (R410). -/
def replaced (e : WqEntry) (q : List WqEntry) : List WqEntry := q.map (fun o => if o.ra == e.ra then e else o)

theorem replaced_cons (e o : WqEntry) (q : List WqEntry) : replaced e (o :: q) = (if o.ra = e.ra then e else o) :: replaced e q := by
  simp [replaced]

/-- A replacement changes what its own burst reads as, if that has an entry, and no other burst. -/
theorem entryOr_replaced (e : WqEntry) (q : List WqEntry) (l : Line × Bool) (b : Nat) :
    entryOr (replaced e q) l b = if e.ra = b ∧ b ∈ q.map WqEntry.ra then (e.data, e.poison) else entryOr q l b := by
  induction q with
  | nil => simp [replaced]
  | cons o q ih =>
    simp only [replaced_cons, entryOr_cons, ih, List.map_cons, List.mem_cons]
    by_cases ho : o.ra = e.ra
    · simp only [ho]
      grind
    · simp only [if_neg ho]
      grind

theorem map_ra_replaced (e : WqEntry) (q : List WqEntry) : (replaced e q).map WqEntry.ra = q.map WqEntry.ra := by
  induction q with
  | nil => rfl
  | cons o q ih =>
    rw [replaced_cons, List.map_cons, List.map_cons, ih]
    split
    · next h => rw [h]
    · rfl

/-! ### Queues of one target -/

/-- What WritesPlaced says of the queue of one target. -/
def QueuePlaced (c sub : Nat) (q : List WqEntry) : Prop :=
  (∀ e ∈ q, channelOf e.ra = c ∧ targetOf e.ra % 2 = sub ∧ e.ra % 64 = 0) ∧ (q.map WqEntry.ra).Nodup

/-- The premise depends on the bursts that have entries, not on their data. -/
theorem QueuePlaced.replaced {c sub : Nat} {q : List WqEntry} (h : QueuePlaced c sub q) (e : WqEntry) :
    QueuePlaced c sub (Machine.replaced e q) := by
  obtain ⟨hplace, hnodup⟩ := h
  refine ⟨fun o ho => ?_, (map_ra_replaced e q).symm ▸ hnodup⟩
  obtain ⟨x, hx, hxo⟩ := List.mem_map.mp (map_ra_replaced e q ▸ List.mem_map_of_mem ho)
  rw [← hxo]
  exact hplace x hx

theorem QueuePlaced.append {c sub : Nat} {q : List WqEntry} (h : QueuePlaced c sub q) {e : WqEntry}
    (he : channelOf e.ra = c ∧ targetOf e.ra % 2 = sub ∧ e.ra % 64 = 0) (hnew : ∀ o ∈ q, o.ra ≠ e.ra) : QueuePlaced c sub (q ++ [e]) := by
  obtain ⟨hplace, hnodup⟩ := h
  refine ⟨fun o ho => ?_, ?_⟩
  · rcases List.mem_append.mp ho with ho | ho
    · exact hplace o ho
    · exact List.mem_singleton.mp ho ▸ he
  · rw [List.map_append]
    exact List.Nodup.append hnodup (List.nodup_singleton _) (by simpa using hnew)

/-! ### States that the write queues leave readable -/

/-- Memory has its canonical form, and each write queue holds bursts of its target at most once. -/
structure Device.Placed (d : Device) : Prop where
  wf : Memory.wf d.mem = true
  placed : ∀ c sub, QueuePlaced c sub (KMap.get (d.chan c).wq [] sub)

theorem Device.placed_iff (d : Device) : d.Placed ↔ WritesPlaced d ∧ Memory.wf d.mem = true :=
  ⟨fun h => ⟨h.placed, h.wf⟩, fun h => ⟨h.2, h.1⟩⟩

/-- The second device keeps the premise, and every burst reads in it as in the first. -/
structure Device.KeepsBursts (d e : Device) : Prop extends e.Placed where
  reads : ∀ b, b % 64 = 0 → e.burstNow b = d.burstNow b

/-- The second device keeps the premise, one burst reads in it as written, and every other as in the first. -/
structure Device.WritesBurst (d : Device) (ra : Nat) (v : Line) (poison : Bool) (e : Device) : Prop extends e.Placed where
  reads_self : e.burstNow ra = (v, poison)
  reads_ne : ∀ b, b ≠ ra → b % 64 = 0 → e.burstNow b = d.burstNow b

/-- Where one queue is replaced by one of its target's bursts, the premise is kept. -/
theorem Device.Placed.of_queue {d e : Device} {c sub : Nat} {q : List WqEntry} (hd : d.Placed) (hwf : Memory.wf e.mem = true)
    (hq : QueuePlaced c sub q) (hqueue : ∀ c' s', KMap.get (e.chan c').wq [] s' =
      if c' = c ∧ s' = sub then q else KMap.get (d.chan c').wq [] s') : e.Placed := by
  refine ⟨hwf, fun c' s' => ?_⟩
  rw [hqueue]
  split
  · next h => exact h.1 ▸ h.2 ▸ hq
  · exact hd.placed c' s'

theorem Device.KeepsBursts.trans {d e f : Device} (h : d.KeepsBursts e) (k : e.KeepsBursts f) : d.KeepsBursts f :=
  ⟨k.toPlaced, fun b hb => (k.reads b hb).trans (h.reads b hb)⟩

theorem Device.wakeChan_keepsBursts {d : Device} (hd : d.Placed) (c : Nat) : d.KeepsBursts (d.wakeChan c) := by
  obtain ⟨hqueue, hmem, hline⟩ := d.wakeChan_keeps c
  refine ⟨⟨hmem ▸ hd.wf, fun c' s' => hqueue c' s' ▸ hd.placed c' s'⟩, fun b _ => ?_⟩
  rw [Device.burstNow_eq, Device.burstNow_eq, hqueue, hline]

/-- A drain moves the oldest entry of a queue to memory, where its burst reads as before. -/
theorem Device.drainOne_keepsBursts {d : Device} (hd : d.Placed) (c sub : Nat) : d.KeepsBursts (d.drainOne c sub) := by
  have hqueue := d.queue_drainOne c sub
  cases hq : KMap.get (d.chan c).wq [] sub with
  | nil =>
    rw [d.drainOne_nil c sub hq]
    exact ⟨hd, fun _ _ => rfl⟩
  | cons e rest =>
    rw [hq, List.tail_cons] at hqueue
    obtain ⟨hplace, hnodup⟩ := hq ▸ hd.placed c sub
    obtain ⟨hc, hs, halign⟩ := hplace e List.mem_cons_self
    rw [List.map_cons, List.nodup_cons] at hnodup
    have hwf : Memory.wf (d.drainOne c sub).mem = true := by
      rw [d.drainOne_mem c sub e rest hq, Device.storeBurst_mem]
      exact Memory.wf_setBytes _ _ hd.wf
    refine ⟨hd.of_queue hwf ⟨fun o ho => hplace o (List.mem_cons_of_mem _ ho), hnodup.2⟩ hqueue, fun b hb => ?_⟩
    rw [Device.burstNow_eq, Device.burstNow_eq, hqueue, d.memLine_drainOne c sub e rest hq]
    by_cases hbe : b = e.ra
    · rw [hbe, if_pos ⟨hc, hs⟩, hc, hs, hq, entryOr_cons, if_pos rfl, d.memLine_storeBurst_self _ _ _ hd.wf]
      exact entryOr_absent (fun o ho heq => hnodup.1 (List.mem_map.mpr ⟨o, ho, heq⟩)) _
    · rw [d.memLine_storeBurst_ne _ _ _ _ hd.wf halign hb hbe]
      split
      · next h => rw [h.1, h.2, hq, entryOr_cons, if_neg (Ne.symm hbe)]
      · rfl

/-! ### Putting a burst -/

/-- Replace one write queue. -/
def Device.setQueue (d : Device) (c sub : Nat) (q : List WqEntry) : Device :=
  d.setChan c { d.chan c with wq := KMap.put (d.chan c).wq sub q }

theorem Device.queue_setQueue (d : Device) (c sub : Nat) (q : List WqEntry) (c' s' : Nat) :
    KMap.get ((d.setQueue c sub q).chan c').wq [] s' = if c' = c ∧ s' = sub then q else KMap.get (d.chan c').wq [] s' :=
  d.queue_setChan c sub q c' s'

theorem Device.memLine_setQueue (d : Device) (c sub : Nat) (q : List WqEntry) (b : Nat) : (d.setQueue c sub q).memLine b = d.memLine b := rfl

theorem Device.wqFind_isSome_iff (d : Device) (ra : Nat) :
    (d.wqFind ra).isSome = true ↔ ra ∈ (KMap.get (d.chan (channelOf ra)).wq [] (targetOf ra % 2)).map WqEntry.ra := by
  simp [Device.wqFind]

section
variable {d : Device} {ra : Nat} {v : Line} {poison : Bool} {owner : Option Nat}

/-- A burst that waits is replaced in place. -/
theorem Device.putBurst_waiting (h : (d.wqFind ra).isSome = true) : ∃ e : WqEntry, e.ra = ra ∧ e.data = v ∧ e.poison = poison ∧
    d.putBurst ra v poison owner = (d.wakeChan (channelOf ra)).setQueue (channelOf ra) (targetOf ra % 2)
      (replaced e (KMap.get (d.chan (channelOf ra)).wq [] (targetOf ra % 2))) := by
  obtain ⟨hqueue, _, _⟩ := d.wakeChan_keeps (channelOf ra)
  refine ⟨{ ra := ra, data := v, poison := poison, key := (d.wakeChan (channelOf ra)).keySlot ra owner }, rfl, rfl, rfl, ?_⟩
  unfold Device.putBurst
  dsimp only
  rw [hqueue]
  exact if_pos h

/-- Another joins the end of its queue, from which the oldest entry may have been written out. -/
theorem Device.putBurst_joins (h : (d.wqFind ra).isSome = false) : ∃ (e : WqEntry) (f : Device), e.ra = ra ∧ e.data = v ∧ e.poison = poison ∧
    (f = d.wakeChan (channelOf ra) ∨ f = (d.wakeChan (channelOf ra)).drainOne (channelOf ra) (targetOf ra % 2)) ∧
    d.putBurst ra v poison owner = f.setQueue (channelOf ra) (targetOf ra % 2)
      (KMap.get (f.chan (channelOf ra)).wq [] (targetOf ra % 2) ++ [e]) := by
  obtain ⟨hqueue, _, _⟩ := d.wakeChan_keeps (channelOf ra)
  refine ⟨{ ra := ra, data := v, poison := poison, key := (d.wakeChan (channelOf ra)).keySlot ra owner }, _, rfl, rfl, rfl,
    ite_eq_or_eq (64 ≤ (KMap.get (d.chan (channelOf ra)).wq [] (targetOf ra % 2)).length) _ _ |>.symm, ?_⟩
  unfold Device.putBurst
  dsimp only
  rw [hqueue]
  exact if_neg (ne_true_of_eq_false h)

/-- Where a queue is replaced by one in which only the entry of a burst is new, that burst is written and no other changes. -/
theorem Device.KeepsBursts.setQueue_writes {f : Device} {q : List WqEntry} (h : d.KeepsBursts f)
    (hq : QueuePlaced (channelOf ra) (targetOf ra % 2) q) (hentry : ∀ l b, entryOr q l b =
      if ra = b then (v, poison) else entryOr (KMap.get (f.chan (channelOf ra)).wq [] (targetOf ra % 2)) l b) :
    d.WritesBurst ra v poison (f.setQueue (channelOf ra) (targetOf ra % 2) q) := by
  have hqueue := f.queue_setQueue (channelOf ra) (targetOf ra % 2) q
  have hline := f.memLine_setQueue (channelOf ra) (targetOf ra % 2) q
  refine ⟨h.toPlaced.of_queue h.wf hq hqueue, ?_, fun b hne hb => ?_⟩
  · rw [Device.burstNow_eq, hqueue, if_pos ⟨rfl, rfl⟩, hentry, if_pos rfl]
  · rw [← h.reads b hb, Device.burstNow_eq, Device.burstNow_eq, hqueue, hline]
    split
    · next htarget => rw [hentry, if_neg hne.symm, htarget.1, htarget.2]
    · rfl

/-- Putting a burst writes it, and every other burst reads as before. -/
theorem Device.putBurst_writes (hd : d.Placed) (halign : ra % 64 = 0) : d.WritesBurst ra v poison (d.putBurst ra v poison owner) := by
  have hwake := Device.wakeChan_keepsBursts hd (channelOf ra)
  obtain ⟨hqueue, _, _⟩ := d.wakeChan_keeps (channelOf ra)
  cases hfind : (d.wqFind ra).isSome with
  | true =>
    obtain ⟨e, rfl, rfl, rfl, hput⟩ := Device.putBurst_waiting (v := v) (poison := poison) (owner := owner) hfind
    rw [hput]
    refine hwake.setQueue_writes ((hd.placed _ _).replaced e) fun l b => ?_
    rw [entryOr_replaced, hqueue]
    by_cases hb : e.ra = b
    · rw [if_pos hb, if_pos ⟨hb, hb ▸ (d.wqFind_isSome_iff e.ra).mp hfind⟩]
    · rw [if_neg hb, if_neg (hb ·.1)]
  | false =>
    obtain ⟨e, f, rfl, rfl, rfl, hf, hput⟩ := Device.putBurst_joins (v := v) (poison := poison) (owner := owner) hfind
    have hkeeps : d.KeepsBursts f := by
      rcases hf with rfl | rfl
      · exact hwake
      · exact hwake.trans (Device.drainOne_keepsBursts hwake.toPlaced _ _)
    have hnew : ∀ o ∈ KMap.get (f.chan (channelOf e.ra)).wq [] (targetOf e.ra % 2), o.ra ≠ e.ra := by
      intro o ho heq
      refine ne_true_of_eq_false hfind ((d.wqFind_isSome_iff e.ra).mpr (List.mem_map.mpr ⟨o, ?_, heq⟩))
      rcases hf with rfl | rfl
      · exact hqueue _ _ ▸ ho
      · rw [Device.queue_drainOne, if_pos ⟨rfl, rfl⟩, hqueue] at ho
        exact List.mem_of_mem_tail ho
    rw [hput]
    refine hkeeps.setQueue_writes ((hkeeps.placed _ _).append ⟨rfl, rfl, halign⟩ hnew) fun l b => ?_
    rw [entryOr_append]
    by_cases hb : e.ra = b
    · rw [if_pos hb, if_pos hb]
      exact entryOr_absent (hb ▸ hnew) _
    · rw [if_neg hb, if_neg hb]

/-- A burst that is replaced in place leaves its queue as long as it was. -/
theorem Device.queued_putBurst (h : (d.wqFind ra).isSome = true) : (d.putBurst ra v poison owner).queued (channelOf ra) (targetOf ra % 2) =
    d.queued (channelOf ra) (targetOf ra % 2) := by
  obtain ⟨e, -, -, -, hput⟩ := Device.putBurst_waiting (v := v) (poison := poison) (owner := owner) h
  rw [hput, Device.queued, Device.queue_setQueue, if_pos ⟨rfl, rfl⟩]
  exact List.length_map _

end

/-! ### The obligation -/

/-- At reset no burst waits and memory is empty. -/
theorem reset_placed : State.reset.dev.Placed := ⟨rfl, fun _ _ => ⟨fun _ h => absurd h List.not_mem_nil, List.nodup_nil⟩⟩

/-- Settles O51: a put replaces one queue, in which only the entry of its burst is new, and a drain moves an entry to where its burst is read next. -/
theorem writeQueueKeepsEveryBurst : Obligations.WriteQueueKeepsEveryBurst := by
  unfold Obligations.WriteQueueKeepsEveryBurst
  refine ⟨(Device.placed_iff _).mp reset_placed, fun d ra v poison owner hwf hplaced halign => ?_, fun d c sub hwf hplaced => ?_⟩
  · have hd : d.Placed := (Device.placed_iff d).mpr ⟨hplaced, hwf⟩
    have hput : d.WritesBurst ra v poison (d.putBurst ra v poison owner) := Device.putBurst_writes hd halign
    exact ⟨hput.wf, hput.placed, hput.reads_self, hput.reads_ne, Device.queued_putBurst, fun harea => if_neg (ne_true_of_eq_false harea)⟩
  · have hdrain := Device.drainOne_keepsBursts ((Device.placed_iff d).mpr ⟨hplaced, hwf⟩) c sub
    refine ⟨hdrain.wf, hdrain.placed, hdrain.reads, ?_⟩
    rw [Device.queued, Device.queue_drainOne, if_pos ⟨rfl, rfl⟩]
    exact List.length_tail

end Sys2Proof.Machine
end

section
/-! PROOFS. Requests of a memory channel (R407 to R410), DRAM returns (R411, R412, R436), drains (R411), refresh (R415, R418) and ALERT_n
(R420): an operation that its guards bar leaves the device as it is, and past them it has the statement's cases. -/

namespace Sys2Proof.Machine

section
variable {d : Device}

/-! ### Requests and DRAM returns (R407 to R412, R436) -/

section
variable {ra : Nat}

/-- What a read, a write and a DRAM return ask first: is the channel in service, and the address installed? -/
theorem Device.request_barred_iff : (!(d.chanServes (channelOf ra)) || decide (d.rawBytes ≤ ra)) = true ↔
    (d.chan (channelOf ra)).inService = false ∨ d.rawBytes ≤ ra := by
  simp [Device.chanServes]

theorem Device.request_free (hserves : (d.chan (channelOf ra)).inService = true) (hraw : ra < d.rawBytes) :
    ¬ (!(d.chanServes (channelOf ra)) || decide (d.rawBytes ≤ ra)) = true := by
  simp [Device.chanServes, hserves, hraw]

end

section
variable {ra n : Nat} {new : List Nat} (hserves : (d.chan (channelOf ra)).inService = true) (hraw : ra < d.rawBytes)
  (hnew : new = (sliceBursts ra n).filter (fun a => (d.wqFind a).isNone))
include hserves hraw hnew

/-- A read that finds no room in the read queue has not left the scheduler. -/
theorem Device.channelRead_full (hfull : 32 < (KMap.get (d.chan (channelOf ra)).rq [] (targetOf ra % 2)).length + new.length) :
    d.channelRead ra n = d := (if_neg (Device.request_free hserves hraw)).trans (if_pos (hnew ▸ hfull))

/-- Another is served from the write queue where that holds its bursts, and queues the rest. -/
theorem Device.channelRead_eq (hroom : (KMap.get (d.chan (channelOf ra)).rq [] (targetOf ra % 2)).length + new.length ≤ 32) {e : Device}
    (he : e = ((sliceBursts ra n).filter (fun a => ((d.wakeChan (channelOf ra)).wqFind a).isSome)).foldl
      (fun x _ => x.countSat DDRCH.FWD_HITS.COUNT (channelOf ra)) (d.wakeChan (channelOf ra))) :
    d.channelRead ra n = if new.isEmpty then e else e.setChan (channelOf ra) { e.chan (channelOf ra) with
      rq := KMap.put (e.chan (channelOf ra)).rq (targetOf ra % 2) (KMap.get (d.chan (channelOf ra)).rq [] (targetOf ra % 2) ++ new) } := by
  subst hnew he
  exact (if_neg (Device.request_free hserves hraw)).trans (if_neg (Nat.not_lt.mpr hroom))

end

section
variable {ra a : Nat} {q ahead : List Nat} (ha : a = 64 * (ra / 64)) (hq : q = KMap.get (d.chan (channelOf a)).rq [] (targetOf a % 2))
  (hahead : ahead = (if q.contains a then q.takeWhile (fun x => x != a) else [])) (err : List Nat) (cls : Nat)
include ha hq hahead

/-- A burst does not leave the read queue while its subchannel drains, nor before the reads that must come first. -/
theorem Device.dramReturn_eq_self (h : (d.chan (channelOf a)).inService = false ∨ d.rawBytes ≤ a ∨
    (d.chan (channelOf a)).draining.contains (targetOf a % 2) = true ∨ d.mayPass (channelOf a) a ahead = false) :
    d.dramReturn ra err cls = d := by
  subst ha hq hahead
  rw [← or_assoc, ← Device.request_barred_iff] at h
  by_cases hbar : (!(d.chanServes (channelOf (64 * (ra / 64)))) || decide (d.rawBytes ≤ 64 * (ra / 64))) = true
  · exact if_pos hbar
  · exact (if_neg hbar).trans (if_pos (by simpa using h.resolve_left hbar))

/-- Another leaves it; it is decoded unless a queued write or a test replaces it. -/
theorem Device.dramReturn_issued (hserves : (d.chan (channelOf a)).inService = true) (hraw : a < d.rawBytes)
    (hdrain : (d.chan (channelOf a)).draining.contains (targetOf a % 2) = false) (hpass : d.mayPass (channelOf a) a ahead = true)
    {e : Device} (he : e = d.readIssued (channelOf a) (targetOf a % 2) a ahead) : d.dramReturn ra err cls =
    if (e.wqFind a).isSome || e.underTest a then e else ((e.bankAccess a).addErrors a err).checkBurst a cls := by
  subst ha hq hahead he
  exact (if_neg (Device.request_free hserves hraw)).trans (if_neg (by simp only [hdrain, hpass]; decide))

end

/-! ### Drains (R411) -/

section
variable {c sub : Nat} {aged due : Bool} (hdue : due = (decide (d.reg DDRCH.WDRAIN.HIGH c ≤ d.wqLen c sub) ||
  (d.rqEmpty c sub && decide (0 < d.wqLen c sub)) || (aged && decide (0 < d.wqLen c sub))))
include hdue

theorem Device.drainStart_eq_self (h : (d.chan c).inService = false ∨ 2 ≤ sub ∨ due = false) : d.drainStart c sub aged = d := by
  subst hdue
  exact if_pos (by simpa only [Device.chanServes, Bool.or_eq_true, Bool.not_eq_true', decide_eq_true_iff, or_assoc] using h)

/-- A drain that starts writes entries while it runs, and has ended if none is left. -/
theorem Device.drainStart_drains (hserves : (d.chan c).inService = true) (hsub : sub < 2) (hstart : due = true) {e : Device}
    (he : e = d.drainTo c sub (if d.rqEmpty c sub then 0 else d.reg DDRCH.WDRAIN.LOW c) 64) : d.drainStart c sub aged =
    e.setChan c { e.chan c with draining := if e.wqLen c sub = 0 then (e.chan c).draining.filter (fun i => i != sub)
      else if (e.chan c).draining.contains sub then (e.chan c).draining else (e.chan c).draining ++ [sub] } := by
  subst hdue he
  exact if_neg (by simp only [Device.chanServes, hserves, hstart, Nat.not_le.mpr hsub]; decide)

end

/-! ### Refresh (R415, R418) -/

section
variable {c rank : Nat} {busy : Bool}

theorem Device.refreshDue_eq_self (h : (d.chan c).state ≠ .active) : d.refreshDue c rank busy = d := if_pos (by simp [h])

/-- A refresh of an ACTIVE channel is postponed or issued. -/
theorem Device.refreshDue_active (h : (d.chan c).state = .active) : d.refreshDue c rank busy =
    if busy ∧ KMap.get (d.chan c).postponed 0 rank < 4
    then d.setChan c { d.chan c with postponed := KMap.put (d.chan c).postponed rank (KMap.get (d.chan c).postponed 0 rank + 1) }
    else d.setChan c { d.chan c with
      postponed := KMap.drop (d.chan c).postponed rank, openRows := (d.chan c).openRows.keep (fun b _ => b / 128 % 4 != rank) } :=
  if_neg (by simp [h])

end

/-! ### ALERT_n (R420) -/

/-- An error on ALERT_n of a channel in service is counted and raised; it starts a retrain unless its retry succeeded in time. -/
theorem Device.alertN_eq {c : Nat} {wcrc ok : Bool} (hserves : (d.chan c).inService = true) {e f : Device} {times : List Nat}
    (he : e = d.wakeChan c) (htimes : times = e.time :: (e.chan c).alerts.filter (fun t => decide (e.time < t + 1000000)))
    (hf : f = (((e.setChan c { e.chan c with alerts := times }).countSat (if wcrc then DDRCH.WCRC_ERRS.COUNT else DDRCH.CA_PARITY_ERRS.COUNT) c).raise
      DDRCH.flag.BUS_RETRAIN c [c, if wcrc then 1 else 0] [c])) : d.alertN c wcrc ok =
    if ok = true ∧ times.length < 16 then f else (f.setChan c { f.chan c with alerts := [] }).startRetrain c := by
  subst he htimes hf
  exact (if_neg (by simp [hserves])).trans (if_congr (by rw [Bool.and_eq_true, decide_eq_true_iff]) rfl rfl)

end

/-! ### The obligation -/

/-- Settles O31: each command runs its operation, and the operation's guards are the statement's cases. -/
theorem channelRequestsAndDrains : Obligations.ChannelRequestsAndDrains := by
  unfold Obligations.ChannelRequestsAndDrains
  intro d w c
  refine ⟨fun ra hbar => ⟨fun n => ?_, fun b => ?_⟩, fun ra n new hserves hraw hnew => ⟨fun hfull => ?_, fun hroom => ⟨_, rfl, ?_⟩⟩,
    fun ra b hserves hraw => ?_, fun ra a err cls q ahead ha hq hahead => ⟨fun hheld => ?_, fun hserves hraw hdrain hpass => ⟨_, rfl, ?_⟩⟩,
    fun sub aged due hdue => ⟨fun hheld => ?_, fun hserves hsub hstart => ⟨_, rfl, ?_⟩⟩,
    fun sub => ⟨fun hlow hqueued => ?_, fun hruns => ?_⟩,
    fun b => ?_, fun rank b => ⟨fun hidle => ?_, fun hactive => ?_⟩, fun rank => ⟨?_, ?_⟩,
    fun wcrc ok => ⟨fun hout => ?_, fun hserves => ⟨_, _, _, rfl, rfl, rfl, ?_⟩⟩⟩
  · exact leads_of_exec rfl (if_pos (Device.request_barred_iff.mpr hbar))
  · exact leads_of_exec rfl (if_pos (Device.request_barred_iff.mpr hbar))
  · exact leads_of_exec rfl (Device.channelRead_full hserves hraw hnew hfull)
  · have hread := Device.channelRead_eq hserves hraw hnew hroom rfl
    exact ⟨fun hnone => leads_of_exec rfl (hread.trans (if_pos (List.isEmpty_iff.mpr hnone))),
      fun hsome => leads_of_exec rfl (hread.trans (if_neg (mt List.isEmpty_iff.mp hsome)))⟩
  · exact leads_of_exec rfl (if_neg (Device.request_free hserves hraw))
  · exact leads_of_exec rfl (congrArg Device.proceed (Device.dramReturn_eq_self ha hq hahead err cls hheld))
  · have hissued := Device.dramReturn_issued ha hq hahead err cls hserves hraw hdrain hpass rfl
    exact ⟨fun hreplaced => leads_of_exec rfl (congrArg Device.proceed (hissued.trans (if_pos (by simpa using hreplaced)))),
      fun hwq htest => leads_of_exec rfl (congrArg Device.proceed (hissued.trans (if_neg (by simp [hwq, htest]))))⟩
  · exact leads_of_exec rfl (Device.drainStart_eq_self hdue hheld)
  · have hdrains := Device.drainStart_drains hdue hserves hsub hstart rfl
    exact ⟨fun hnone => leads_of_exec rfl (hdrains.trans (by rw [if_pos hnone])),
      fun hleft hon => leads_of_exec rfl (hdrains.trans (by rw [if_neg hleft, if_pos hon])),
      fun hleft hoff => leads_of_exec rfl (hdrains.trans (by rw [if_neg hleft, if_neg (ne_true_of_eq_false hoff)]))⟩
  · exact leads_of_exec rfl (if_pos ⟨hlow, hqueued⟩)
  · exact leads_of_exec rfl (if_neg (by grind))
  · exact leads_of_exec rfl rfl
  · exact leads_of_exec rfl (Device.refreshDue_eq_self hidle)
  · have hdue := Device.refreshDue_active (rank := rank) (busy := b) hactive
    exact ⟨fun hbusy hfew => leads_of_exec rfl (hdue.trans (if_pos ⟨hbusy, hfew⟩)),
      fun hissue => leads_of_exec rfl (hdue.trans (if_neg (by grind)))⟩
  · exact leads_of_exec rfl rfl
  · exact leads_of_exec rfl rfl
  · exact leads_of_exec rfl (if_pos hout)
  · have halert := Device.alertN_eq (wcrc := wcrc) (ok := ok) hserves rfl rfl rfl
    exact ⟨fun hok hfew => leads_of_exec rfl (halert.trans (if_pos ⟨hok, hfew⟩)),
      fun hbad => leads_of_exec rfl (halert.trans (if_neg (by grind)))⟩

end Sys2Proof.Machine
end

section
/-! PROOFS. Self-refresh (R421 to R423), retrains (R424 to R431) and the stop of a test on a channel that leaves service (R457): the state of
the channel, and for a planned retrain that of the device, decide what each command does. -/

namespace Sys2Proof.Machine

section
variable {d : Device} {c : Nat}

/-! ### Self-refresh (R421 to R423) -/

section
variable {idle : Bool}
  (hidle : idle = ((d.chanQueue c).isEmpty && (d.chan c).wq.all (fun q => q.2.isEmpty) && (d.chan c).rq.all (fun q => q.2.isEmpty)))
include hidle

/-- A channel enters self-refresh where it is enabled, ACTIVE and idle. -/
theorem Device.selfRefresh_eq : d.selfRefresh c = if d.flagReg DDRCH.CH_CFG.SR_EN c = true ∧ (d.chan c).state = .active ∧ idle = true
    then (d.setChan c { d.chan c with state := .selfRefresh, openRows := [], postponed := [] }).countSat DDRCH.SR_ENTRIES.COUNT c
    else d := by
  subst hidle
  exact if_congr (by rw [Bool.and_eq_true, Bool.and_eq_true, beq_iff_eq, and_assoc]) rfl rfl

end

/-! ### The start of a retrain (R424, R429, R431, R457) -/

/-- A retrain is planned only while the twin serves and no channel is out of service. -/
theorem Device.plannedRetrain_refused (h : d.twin.svc ≠ .paired ∨ d.twinServes = false ∨
      (List.range 16).all (fun k => (d.chan k).inService) = false) :
    (d.plannedRetrain c).1 = d.raise DDRCH.flag.RETRAIN_REFUSED c [] [] := by
  rw [Device.plannedRetrain, if_neg (by grind)]

theorem Device.plannedRetrain_starts (hpaired : d.twin.svc = .paired) (htwin : d.twinServes = true)
    (hall : (List.range 16).all (fun k => (d.chan k).inService) = true) : (d.plannedRetrain c).1 = d.startRetrain c := by
  rw [Device.plannedRetrain, if_pos ⟨hpaired, htwin, hall⟩]

/-- A channel in self-refresh first wakes and drains its write queues; then its retrain starts. -/
theorem Device.startRetrain_starts : ∃ e : Device,
    ((d.chan c).state = .selfRefresh → e = ((d.wakeChan c).drainTo c 0 0 64).drainTo c 1 0 64) ∧ ((d.chan c).state ≠ .selfRefresh → e = d) ∧
    d.startRetrain c = ((((e.setChan c { e.chan c with state := .retraining, attempts := 0, openRows := [], draining := [] }).countSat
      DDRCH.RETRAINS.COUNT c).evt DDRCH.flag.OUT_OF_SERVICE c).stopTest c).chanChanged :=
  ⟨if (d.chan c).state = .selfRefresh then ((d.wakeChan c).drainTo c 0 0 64).drainTo c 1 0 64 else d, fun h => if_pos h, fun h => if_neg h, rfl⟩

/-- A test on another channel, or none, goes on. -/
theorem Device.stopTest_eq_self (h : d.integ.test = none ∨ ∃ t, d.integ.test = some t ∧ channelOf t.ra ≠ c) : d.stopTest c = d := by
  rcases h with h | ⟨t, h, hne⟩
  · rw [Device.stopTest, h]
  · rw [Device.stopTest, h]
    exact if_neg hne

/-- A test on the channel stops: its verdict is UNTESTED, and its copy is kept. -/
theorem Device.stopTest_stops {t : ProofTest} (h : d.integ.test = some t) (hc : channelOf t.ra = c) : d.stopTest c =
    ((d.setInteg { d.integ with test := none, kept := d.integ.kept ++ [t] }).setReg INTEG.PROOF_STAT.BUSY 0).verdict t.ra 3 0 0 := by
  rw [Device.stopTest, h]
  exact if_pos hc

/-! ### The end of a retrain (R425, R426, R428) -/

theorem Device.retrainDone_eq_self (h : (d.chan c).state ≠ .retraining) (ok : Bool) : d.retrainDone c ok = d := if_pos (by simp [h])

section
variable (h : (d.chan c).state = .retraining)
include h

theorem Device.retrainDone_succeeds : d.retrainDone c true =
    ((((d.setChan c { d.chan c with state := .active, attempts := 0, pinned := [], alerts := [] }).evt DDRCH.flag.IN_SERVICE c).rewritePrivate
      c).restoreKept c).chanChanged := by
  unfold Device.retrainDone
  dsimp only
  rw [if_neg (by simp [h]), if_pos rfl]

/-- The first two failures are counted, and the third fails the channel. -/
theorem Device.retrainDone_fails : d.retrainDone c false =
    if (d.chan c).attempts < 2 then d.setChan c { d.chan c with attempts := (d.chan c).attempts + 1 } else (d.failChannel c).chanChanged :=
  if_neg (by simp [h])

end

end

/-! ### The obligation -/

/-- Settles O32: each command runs its operation, and the state of the channel and of the device tells which of its cases it is. -/
theorem selfRefreshAndRetrains : Obligations.SelfRefreshAndRetrains := by
  unfold Obligations.SelfRefreshAndRetrains
  intro d w c
  refine ⟨fun idle hidle => ⟨fun hon hactive hempty => ?_, fun hstays => ?_⟩, fun hnone => ?_, fun hheld => ?_, fun hbar => ?_,
    fun hpaired htwin hall => ?_, fun t htest hc => Device.stopTest_stops htest hc,
    fun hgoes => Device.stopTest_eq_self hgoes, fun hretrain => ⟨?_, fun hfew => ?_, fun hthird => ?_⟩, fun hidle ok => ?_⟩
  · exact leads_of_exec rfl ((Device.selfRefresh_eq hidle).trans (if_pos ⟨hon, hactive, hempty⟩))
  · exact leads_of_exec rfl ((Device.selfRefresh_eq hidle).trans (if_neg (by grind)))
  · exact leads_of_exec rfl (if_pos (List.isEmpty_iff.mpr hnone))
  · exact leads_of_exec rfl (if_neg (mt List.isEmpty_iff.mp hheld))
  · exact leads_of_exec rfl (Device.plannedRetrain_refused hbar)
  · obtain ⟨e, hsr, hother, hstarts⟩ := Device.startRetrain_starts (d := d) (c := c)
    exact ⟨e, hsr, hother, leads_of_exec rfl ((Device.plannedRetrain_starts hpaired htwin hall).trans hstarts)⟩
  · exact leads_of_exec rfl (Device.retrainDone_succeeds hretrain)
  · exact leads_of_exec rfl ((Device.retrainDone_fails hretrain).trans (if_pos hfew))
  · exact leads_of_exec rfl ((Device.retrainDone_fails hretrain).trans (if_neg (Nat.not_lt.mpr hthird)))
  · exact leads_of_exec rfl (Device.retrainDone_eq_self hidle ok)

end Sys2Proof.Machine
end

section
/-! PROOFS. What every step keeps (95_what_each_step_holds.md). A step, a command or a tick, ends by forming the collector again from the
flags, so the collector agrees after it whatever it did; a command leaves the queue alone, so the queue is served from its front; and a
tick changes the clocks and the guarantee buckets alone while no frame, plan or cycle of the FET model is due. -/

namespace Sys2Proof.Machine

open Sys2Proof

/-! ### The collector formed again (R507, R508, R510, R517, R658) -/

/-- Forming the collector again changes nothing that ERR_L follows. -/
theorem errLine_settle (d : Device) : errLine (settle d) = errLine d := rfl

/-- The collector formed again from the flags agrees with them. -/
theorem collected_settle (d : Device) : Collected (settle d) where
  summary s hs := by
    change (errSources d.fc.testCls d.hdr (fun c => c ≠ .none) ||| sourcesOf d.fc.escalated).getLsbD s = true ↔ _
    rw [BitVec.getLsbD_or, Bool.or_eq_true, errSources_bit _ _ _ _ hs, sourcesOf_bit _ _ hs]
    exact Iff.rfl
  uc s hs := errSources_bit _ _ _ s hs
  timers s hs := (nextTimers_isSome _ _ _ s hs).trans (errSources_bit _ _ _ s hs)
  events s hs := pageSources_bit _ _ s hs
  accesses s hs := pageSources_bit _ _ s hs
  line := (errLine_settle d).symm

/-- The collector agrees after every command, from any state. -/
theorem collected_of_exec {c : Instr} {s t : State} (h : exec c s = .next t) : Collected t.dev := by
  obtain ⟨d, hd⟩ := exec_next c s
  obtain rfl : { s with dev := settle d } = t := Host.Outcome.next.inj (hd.symm.trans h)
  exact collected_settle d

/-- Settles O5: a step is a tick or a command, and either forms the collector again. -/
theorem collectorAgreesAfterEveryStep : Obligations.CollectorAgreesAfterEveryStep := by
  unfold Obligations.CollectorAgreesAfterEveryStep
  refine ⟨fun s t _ h => ?_, fun c s t h => collected_of_exec h⟩
  unfold step at h
  split at h
  · obtain rfl : { s with dev := settle s.dev.tick } = t := Host.Outcome.next.inj h
    exact collected_settle _
  · exact collected_of_exec h

/-- The device after reset is one whose collector has been formed. -/
theorem settle_reset : settle State.reset.dev = State.reset.dev := by decide

/-- Settles O6: the device after reset is its own collected form, and holds nothing yet. -/
theorem resetStateIsCollected : Obligations.ResetStateIsCollected := by
  unfold Obligations.ResetStateIsCollected
  exact ⟨settle_reset ▸ collected_settle State.reset.dev, rfl, rfl, rfl, rfl, rfl, rfl⟩

/-! ### The queue of waiting commands -/

/-- A command answers a next state with the queue that it was given. -/
theorem exec_keeps_pending (c : Instr) (s : State) : ∃ t, exec c s = .next t ∧ t.pending = s.pending := by
  obtain ⟨d, hd⟩ := exec_next c s
  exact ⟨_, hd, rfl⟩

/-- Settles O3. -/
theorem commandsLeaveTheQueueAlone : Obligations.CommandsLeaveTheQueueAlone := exec_keeps_pending

/-- A step with a command in front is that command on the rest of the queue. -/
theorem step_cons (c : Instr) (rest : List Instr) (s : State) : step { s with pending := c :: rest } = exec c { s with pending := rest } :=
  rfl

/-- Settles O1. -/
theorem stepRunsTheFrontCommand : Obligations.StepRunsTheFrontCommand := step_cons

/-- A step takes one command off the queue. -/
theorem step_pops {c : Instr} {rest : List Instr} {s : State} (h : s.pending = c :: rest) : ∃ t, step s = .next t ∧ t.pending = rest := by
  obtain ⟨t, ht, hp⟩ := exec_keeps_pending c { s with pending := rest }
  refine ⟨t, ?_, hp⟩
  rw [← ht, ← step_cons, ← h]

/-- A run of no steps ends where it starts. -/
theorem runs_zero_iff (s t : State) : Runs 0 s t ↔ s = t := ⟨Host.Outcome.next.inj, congrArg Host.Outcome.next⟩

/-- A machine that goes on with its first step runs from the state after it. -/
theorem machine_run_succ (M : Host.Core) {s m : M.State} (h : M.step s = .next m) (n : Nat) : M.run (n + 1) s = M.run n m := by
  rw [Host.Core.run, h]

/-- A run whose first step is known is the run from the state after it. -/
theorem runs_succ_iff {s m : State} (h : step s = .next m) (n : Nat) (t : State) : Runs (n + 1) s t ↔ Runs n m t :=
  iff_of_eq (congrArg (· = Host.Outcome.next t) (machine_run_succ core h n))

/-- A run of as many steps as a first part of the queue serves that part, and every run that goes on from there is one of the whole. -/
theorem runs_first_part (a b : List Instr) (s : State) (h : s.pending = a ++ b) :
    ∃ t, Runs a.length s t ∧ t.pending = b ∧ ∀ n u, Runs n t u ↔ Runs (a.length + n) s u := by
  induction a generalizing s with
  | nil => exact ⟨s, (runs_zero_iff s s).mpr rfl, h, fun n u => by rw [List.length_nil, Nat.zero_add]⟩
  | cons c a ih =>
    obtain ⟨m, hstep, hm⟩ := step_pops h
    obtain ⟨t, hrun, hb, hgo⟩ := ih m hm
    refine ⟨t, (runs_succ_iff hstep _ _).mpr hrun, hb, fun n u => (hgo n u).trans ?_⟩
    rw [List.length_cons, Nat.add_right_comm]
    exact (runs_succ_iff hstep _ _).symm

/-- Settles O4: the whole queue is the first part of itself. -/
theorem queueDrainsInOrder : Obligations.QueueDrainsInOrder := by
  unfold Obligations.QueueDrainsInOrder
  refine ⟨fun s => ?_, fun s a b h => ?_⟩
  · obtain ⟨t, hrun, hempty, _⟩ := runs_first_part s.pending [] s (List.append_nil _).symm
    exact ⟨t, hrun, hempty⟩
  · obtain ⟨t, hrun, hb, hgo⟩ := runs_first_part a b s h
    exact ⟨t, hrun, hb, hgo b.length⟩

/-! ### A tick (log entry 1) -/

/-- A step with no command waiting is a tick. -/
theorem step_idle {s : State} (h : s.pending = []) : step s = .next { s with dev := settle s.dev.tick } := by
  obtain ⟨d, w⟩ := s
  subst h
  rfl

section
variable {d : Device}

/-- Between two cycles of the always-on clock the FET model stands. -/
theorem Device.tickFet_between (h : d.power.aon % 1000 ≠ 0) : d.tickFet = d := if_neg (by simp [h])

/-- With no frame in hand on a peer link, none leaves. -/
theorem Device.tickFrames_none (h : ∀ p, (d.link (.peer p)).txFrame = []) : d.tickFrames = d := by
  have hfill : ∀ p, d.fillFrame p = d := fun p => if_neg fun hp => hp.2 (h p)
  simp only [Device.tickFrames, List.foldl_cons, List.foldl_nil, hfill]

/-- With no twin link held for a margin plan, none is reset. -/
theorem Device.reeqReset_unarmed (h : d.power.plan.armed = none) : d.reeqReset = d := by rw [Device.reeqReset, h]

/-- Without AUX and main power a tick changes nothing. -/
theorem Device.tick_unpowered (hmain : d.power.mainOn = false) (haux : d.power.auxOk = false) : d.tick = d := by
  have haon : d.tickAon = d := if_neg (by simp [haux])
  have hfet : d.tickFet = d := if_neg (by simp [haux])
  rw [Device.tick, haon, hfet]
  exact if_neg (by simp [hmain])

/-- With power, the Hub out of reset and nothing else due, a tick moves the clocks and fills the buckets. -/
theorem Device.tick_powered (hmain : d.power.mainOn = true) (hhub : d.power.hubReset = false) (haux : d.power.auxOk = true)
    (hcycle : (d.power.aon + 1) % 1000 ≠ 0) (hplan : d.power.plan.armed = none) (hframe : ∀ p, (d.link (.peer p)).txFrame = []) :
    d.tick = d.tickAon.tickTime.tickBuckets := by
  have haon : d.tickAon = { d with power := { d.power with aon := d.power.aon + 1 } } := if_pos haux
  have hfet : d.tickAon.tickFet = d.tickAon := Device.tickFet_between (by rw [haon]; exact hcycle)
  have hframes : d.tickAon.tickTime.tickBuckets.tickFrames = d.tickAon.tickTime.tickBuckets :=
    Device.tickFrames_none (by rw [haon]; exact hframe)
  have hreset : d.tickAon.tickTime.tickBuckets.reeqReset = d.tickAon.tickTime.tickBuckets :=
    Device.reeqReset_unarmed (by rw [haon]; exact hplan)
  rw [Device.tick, hfet]
  refine (if_pos (by rw [haon]; simp [hmain, hhub])).trans ?_
  rw [hframes, hreset]

end

/-- Settles O2: a step with no command waiting is a tick, and the clocks and buckets are all that a tick moves where nothing else is due. -/
theorem emptyQueueStepIsOneTick : Obligations.EmptyQueueStepIsOneTick := by
  unfold Obligations.EmptyQueueStepIsOneTick
  refine ⟨fun s h => ⟨_, step_idle h, h⟩, fun d hmain hhub haux hcycle hplan hframe => ?_, fun s h hmain haux => ?_⟩
  · rw [step_idle rfl, Device.tick_powered hmain hhub haux hcycle hplan hframe, Device.tickAon, if_pos haux]
    rfl
  · rw [step_idle h, Device.tick_unpowered hmain haux]

end Sys2Proof.Machine
end

section
/-! PROOFS. The DRAM code (R434 to R438). A symbol error adds its value to the first syndrome and its value times the power of α of its
position to the second. 1 + α^m has an inverse in GF(2^16) for m from 1 to 9, so no two of the ten positions explain the same syndromes. -/

namespace Sys2Proof.Machine

/-! ### Multiplication by α in GF(2^16) (R434) -/

/-- Multiplication by α shifts a symbol left and reduces by the polynomial of the field where bit 15 leaves the symbol. -/
theorem gf16x_eq_shift {a : Nat} (ha : a < 65536) : gf16x a = (a <<< 1) % 2 ^ 16 ^^^ (if a.testBit 15 then 0x100B else 0) := by
  have hbit : a.testBit 15 = decide (32768 ≤ a) := by
    rw [Nat.testBit_eq_decide_div_mod_eq, decide_eq_decide]
    omega
  rw [Nat.shiftLeft_eq, hbit, gf16x]
  by_cases h : 32768 ≤ a
  · simp [h, Nat.mul_comm]
  · have hfit : a * 2 % 65536 = 2 * a := by omega
    simp [h, hfit]

/-- Multiplication by α takes symbols to symbols. -/
theorem gf16x_lt {a : Nat} (ha : a < 65536) : gf16x a < 65536 := by
  rw [gf16x_eq_shift ha]
  exact Nat.xor_lt_two_pow (n := 16) (Nat.mod_lt _ (by decide)) (by split <;> decide)

/-- Multiplication by α is additive on symbols. -/
theorem gf16x_xor {a b : Nat} (ha : a < 65536) (hb : b < 65536) : gf16x (a ^^^ b) = gf16x a ^^^ gf16x b := by
  have hmask (p q : Bool) : (if (p ^^ q) then 0x100B else 0) = (if p then 0x100B else 0) ^^^ (if q then 0x100B else 0) := by
    cases p <;> cases q <;> rfl
  rw [gf16x_eq_shift ha, gf16x_eq_shift hb, gf16x_eq_shift (Nat.xor_lt_two_pow (n := 16) ha hb), Nat.shiftLeft_xor_distrib,
    Nat.xor_mod_two_pow, Nat.testBit_xor, hmask]
  ac_rfl

/-! ### Powers of α -/

theorem gf16pow_lt {a : Nat} (ha : a < 65536) (i : Nat) : gf16pow i a < 65536 := by
  induction i generalizing a with
  | zero => exact ha
  | succ i ih => exact ih (gf16x_lt ha)

theorem gf16pow_xor {a b : Nat} (ha : a < 65536) (hb : b < 65536) (i : Nat) : gf16pow i (a ^^^ b) = gf16pow i a ^^^ gf16pow i b := by
  induction i generalizing a b with
  | zero => rfl
  | succ i ih => exact (congrArg (gf16pow i) (gf16x_xor ha hb)).trans (ih (gf16x_lt ha) (gf16x_lt hb))

theorem gf16pow_zero (i : Nat) : gf16pow i 0 = 0 := by
  induction i with
  | zero => rfl
  | succ i ih => exact ih

/-- Exponents add up. -/
theorem gf16pow_add (i m a : Nat) : gf16pow (i + m) a = gf16pow m (gf16pow i a) := by
  induction i generalizing a with
  | zero => rw [Nat.zero_add]; rfl
  | succ i ih => rw [Nat.succ_add]; exact ih (gf16x a)

/-! ### What is multiplied by 1 + α^m is multiplied back -/

/-- Two functions that are additive on symbols are equal on symbols if they agree on the sixteen single bits. -/
theorem eq_of_additive {f g : Nat → Nat} (hf : ∀ a < 65536, ∀ b < 65536, f (a ^^^ b) = f a ^^^ f b)
    (hg : ∀ a < 65536, ∀ b < 65536, g (a ^^^ b) = g a ^^^ g b) (hzero : f 0 = g 0) (hbit : ∀ i < 16, f (2 ^ i) = g (2 ^ i)) {a : Nat}
    (ha : a < 65536) : f a = g a := by
  have key : ∀ n ≤ 16, ∀ a < 2 ^ n, f a = g a := by
    intro n
    induction n with
    | zero =>
      intro _ a ha
      obtain rfl : a = 0 := by omega
      exact hzero
    | succ n ih =>
      intro hn a ha
      by_cases hlow : a < 2 ^ n
      · exact ih (by omega) a hlow
      · have hpow : 2 ^ n < 65536 := Nat.pow_lt_pow_right (by decide) (show n < 16 by omega)
        have htop : a.testBit n = true := by
          rw [Nat.testBit_eq_decide_div_mod_eq, Nat.div_eq_of_lt_le (k := 1) (by omega) (by omega), decide_eq_true_iff]
        have hrest : a ^^^ 2 ^ n < 2 ^ n := by
          refine Nat.lt_pow_two_of_testBit _ fun i hi => ?_
          rw [Nat.testBit_xor, Nat.testBit_two_pow]
          rcases Nat.lt_or_eq_of_le hi with h | rfl
          · rw [Nat.testBit_lt_two_pow (lt_of_lt_of_le ha (Nat.pow_le_pow_right (by decide) h)), decide_eq_false (Nat.ne_of_lt h)]
            rfl
          · rw [htop, decide_eq_true rfl]
            rfl
        have hsplit : a = 2 ^ n ^^^ (a ^^^ 2 ^ n) := by rw [Nat.xor_comm a, ← Nat.xor_assoc, Nat.xor_self, Nat.zero_xor]
        rw [hsplit, hf _ hpow _ (hrest.trans hpow), hg _ hpow _ (hrest.trans hpow), hbit n (by omega), ih (by omega) _ hrest]
  exact key 16 (le_refl _) a ha

/-- Multiplication by a fixed symbol is additive. -/
theorem gf16mul_xor {a b : Nat} (ha : a < 65536) (hb : b < 65536) (c : Nat) : gf16mul (a ^^^ b) c = gf16mul a c ^^^ gf16mul b c := by
  have key : ∀ (l : List Nat) (m n : Nat),
      l.foldl (fun s i => if c / 2 ^ i % 2 = 1 then s ^^^ gf16pow i (a ^^^ b) else s) (m ^^^ n) =
        l.foldl (fun s i => if c / 2 ^ i % 2 = 1 then s ^^^ gf16pow i a else s) m ^^^
          l.foldl (fun s i => if c / 2 ^ i % 2 = 1 then s ^^^ gf16pow i b else s) n := by
    intro l
    induction l with
    | nil => exact fun _ _ => rfl
    | cons i l ih =>
      intro m n
      simp only [List.foldl_cons]
      split
      · rw [gf16pow_xor ha hb, ← ih]
        congr 1
        ac_rfl
      · exact ih m n
  exact key (List.range 16) 0 0

theorem gf16mul_zero (c : Nat) : gf16mul 0 c = 0 := by simp [gf16mul, gf16pow_zero]

/-- The inverse of 1 + α^m in GF(2^16), for m from 1 to 9. -/
def onePlusInv (m : Nat) : Nat := [0, 0xF006, 0x5002, 0x26DA, 0xB004, 0x952C, 0x6F3F, 0xC50D, 0xFBBD, 0x949F].getD m 0

/-- On the single bits, multiplication by 1 + α^m and by its inverse gives the bit back. -/
theorem onePlusInv_bit : ∀ m < 10, 0 < m → ∀ i < 16, gf16mul (gf16pow m (2 ^ i) ^^^ 2 ^ i) (onePlusInv m) = 2 ^ i := by decide +kernel

/-- A symbol times 1 + α^m, times the inverse of 1 + α^m, is the symbol. -/
theorem gf16mul_onePlusInv {m a : Nat} (hpos : 0 < m) (hm : m < 10) (ha : a < 65536) : gf16mul (gf16pow m a ^^^ a) (onePlusInv m) = a := by
  refine eq_of_additive (f := fun a => gf16mul (gf16pow m a ^^^ a) (onePlusInv m)) (g := id) (fun a ha b hb => ?_) (fun _ _ _ _ => rfl)
    ?_ (onePlusInv_bit m hm hpos) ha
  · have hsum : gf16pow m (a ^^^ b) ^^^ (a ^^^ b) = (gf16pow m a ^^^ a) ^^^ (gf16pow m b ^^^ b) := by rw [gf16pow_xor ha hb]; ac_rfl
    rw [hsum, gf16mul_xor (Nat.xor_lt_two_pow (n := 16) (gf16pow_lt ha m) ha) (Nat.xor_lt_two_pow (n := 16) (gf16pow_lt hb m) hb)]
  · rw [gf16pow_zero]
    exact gf16mul_zero _

/-- Only 0 times α^m is itself, for m from 1 to 9. -/
theorem eq_zero_of_gf16pow_eq {m a : Nat} (hpos : 0 < m) (hm : m < 10) (ha : a < 65536) (h : gf16pow m a = a) : a = 0 := by
  have hback := gf16mul_onePlusInv hpos hm ha
  rw [h, Nat.xor_self] at hback
  rw [← hback]
  exact gf16mul_zero _

/-- Only 0 times a power of α is 0, up to the tenth power. -/
theorem eq_zero_of_gf16pow_eq_zero {i a : Nat} (hi : i < 10) (ha : a < 65536) (h : gf16pow i a = 0) : a = 0 := by
  induction i generalizing a with
  | zero => exact h
  | succ i ih =>
    have hx : gf16x a = 0 := ih (by omega) (gf16x_lt ha) h
    unfold gf16x at hx
    split at hx
    · have hodd := eq_of_xor_eq_zero hx
      omega
    · omega

/-- A nonzero symbol has ten different products with the powers of α of the ten positions. -/
theorem gf16pow_distinct {a i j : Nat} (hne : a ≠ 0) (ha : a < 65536) (hij : i < j) (hj : j < 10) : gf16pow i a ≠ gf16pow j a := by
  intro h
  have hsplit : j = i + (j - i) := by omega
  rw [hsplit, gf16pow_add] at h
  exact hne (eq_zero_of_gf16pow_eq_zero (by omega) ha (eq_zero_of_gf16pow_eq (by omega) (by omega) (gf16pow_lt ha i) h.symm))

/-! ### Errors confined to one symbol position (R436) -/

/-- A codeword with an error at one position only: the ten symbol errors. -/
def oneError (j e : Nat) : List Nat := (List.range 10).map (fun i => if i = j then e else 0)

section
variable {j e : Nat} (hj : j < 10)
include hj

/-- The syndromes of a single symbol error are its value and its value times the power of α of its position. -/
theorem syndromes_oneError : syndromes (oneError j e) = (e, gf16pow j e) := by
  have key : ∀ n, (List.range n).foldl (fun (s : Nat × Nat) i => (s.1 ^^^ (if i = j then e else 0), s.2 ^^^ gf16pow i (if i = j then e else 0)))
      (0, 0) = if j < n then (e, gf16pow j e) else (0, 0) := by
    intro n
    induction n with
    | zero => rfl
    | succ n ih =>
      rw [List.range_succ, List.foldl_append, ih]
      rcases Nat.lt_trichotomy j n with h | rfl | h
      · simp [h, Nat.lt_succ_of_lt h, Nat.ne_of_gt h, gf16pow_zero]
      · simp
      · simp [Nat.not_lt_of_gt h, Nat.not_le_of_gt h, Nat.ne_of_lt h, gf16pow_zero]
  have hzip : (oneError j e).zip (List.range (oneError j e).length) = (List.range 10).map (fun i => (if i = j then e else 0, i)) := by
    rw [List.map_prod_right_eq_zip, oneError, List.length_map, List.length_range]
  rw [syndromes, hzip, List.foldl_map, key, if_pos hj]

/-- A codeword with one nonzero symbol error indicates its position. -/
theorem indicated_oneError (hne : e ≠ 0) (he : e < 65536) : indicated (oneError j e) = j := by
  have hfind : (List.range 10).find? (fun i => gf16pow i e == gf16pow j e) = some j := by
    rw [List.find?_range_eq_some]
    exact ⟨beq_self_eq_true _, List.mem_range.mpr hj, fun i hi => by simpa using gf16pow_distinct hne he hi hj⟩
  simp [indicated, syndromes_oneError hj, hne, hfind]

/-- A codeword whose one symbol error is 0 is clean. -/
theorem indicated_oneError_zero : indicated (oneError j 0) = 0xF := by
  simp [indicated, syndromes_oneError hj, gf16pow_zero]

/-- The correction of the one position leaves no error. -/
theorem oneError_corrected : (oneError j e).set j ((oneError j e).getD j 0 ^^^ (syndromes (oneError j e)).1) = oneError j 0 := by
  have hread : (oneError j e).getD j 0 = e := by simp [oneError, hj]
  rw [hread, syndromes_oneError hj, Nat.xor_self]
  refine List.ext_getElem (by simp only [oneError, List.length_set, List.length_map]) fun i hi _ => ?_
  simp only [oneError, List.getElem_set, List.getElem_map, List.getElem_range, ite_self]
  by_cases h : i = j
  · rw [if_pos h.symm]
  · rw [if_neg (Ne.symm h), if_neg h]

end

/-- Without an error nothing is wrong. -/
theorem oneError_zero (j : Nat) : oneError j 0 = List.replicate 10 0 := by simp [oneError]

/-! ### The outcome of a burst (R436, R438) -/

section
variable {err : List Nat} {j : Nat} (hj : j < 10) (hrest : ∀ k i, k < 4 → i < 10 → i ≠ j → err.getD (10 * k + i) 0 = 0)
  (hsym : ∀ k, k < 4 → err.getD (10 * k + j) 0 < 65536)
include hrest hsym

/-- Each codeword of such a burst has an error at the position only. -/
theorem symbolErrors_confined {k : Nat} (hk : k < 4) : symbolErrors err k false = oneError j (err.getD (10 * k + j) 0) := by
  refine List.map_congr_left fun i hi => ?_
  rw [Bool.false_and, if_neg Bool.false_ne_true, Nat.xor_zero]
  by_cases h : i = j
  · rw [if_pos h, h, Nat.mod_eq_of_lt (hsym k hk)]
  · rw [if_neg h, hrest k i hk (List.mem_range.mp hi) h, Nat.zero_mod]

include hj

/-- A codeword of such a burst indicates the position where it has an error there, and is clean elsewhere. -/
theorem indicated_confined {k : Nat} (hk : k < 4) :
    indicated (symbolErrors err k false) = if err.getD (10 * k + j) 0 = 0 then 0xF else j := by
  rw [symbolErrors_confined hrest hsym hk]
  split
  · next h => rw [h, indicated_oneError_zero hj]
  · next h => exact indicated_oneError hj h (hsym k hk)

/-- Such a burst with an error is corrected. -/
theorem burstOutcome_confined (hbad : ∃ k, k < 4 ∧ err.getD (10 * k + j) 0 ≠ 0) : burstOutcome err false = .corrected := by
  have hps : ∀ p ∈ positionsOf err false, p = 0xF ∨ p = j := by
    intro p hp
    obtain ⟨k, hk, rfl⟩ := List.mem_map.mp hp
    rw [indicated_confined hj hrest hsym (List.mem_range.mp hk)]
    split
    · exact .inl rfl
    · exact .inr rfl
  have hmem : j ∈ positionsOf err false := by
    obtain ⟨k, hk, hne⟩ := hbad
    exact List.mem_map.mpr ⟨k, List.mem_range.mpr hk, (indicated_confined hj hrest hsym hk).trans (if_neg hne)⟩
  have hfound : allClean (positionsOf err false) = false := by
    rw [allClean, List.all_eq_false]
    exact ⟨j, hmem, by simp; omega⟩
  have hwrong : ∀ p ∈ (positionsOf err false).filter (fun p => p != 0xF), p = j := fun p hp => by
    obtain ⟨hp, hne⟩ := List.mem_filter.mp hp
    exact (hps p hp).resolve_left (by simpa using hne)
  have hone : oneSymbol (positionsOf err false) = true := by
    have hhead : ((positionsOf err false).filter (fun p => p != 0xF)).headD 0 = j := by
      have hin : j ∈ (positionsOf err false).filter (fun p => p != 0xF) := List.mem_filter.mpr ⟨hmem, by simp; omega⟩
      cases hl : (positionsOf err false).filter (fun p => p != 0xF) with
      | nil => rw [hl] at hin; exact absurd hin List.not_mem_nil
      | cons p l => exact hwrong p (by rw [hl]; exact List.mem_cons_self)
    rw [oneSymbol, hhead, Bool.and_eq_true, List.all_eq_true, List.all_eq_true]
    exact ⟨fun p hp => by simp [hwrong p hp, hj], fun p hp => by simp [hwrong p hp]⟩
  simp [burstOutcome, hfound, hone]

/-- After the correction of such a burst no data symbol is wrong. -/
theorem residual_confined {k : Nat} (hk : k < 4) : residual err k false = false := by
  have hclean : ∀ l : List Nat, l = oneError j 0 → ((l.take 8).any fun v => v != 0) = false := by
    rintro l rfl
    rw [oneError_zero]
    rfl
  refine hclean _ ?_
  rw [indicated_confined hj hrest hsym hk, symbolErrors_confined hrest hsym hk]
  by_cases h : err.getD (10 * k + j) 0 = 0
  · rw [if_pos h, h]
    exact if_neg (by decide)
  · rw [if_neg h, if_pos hj, oneError_corrected hj]

end

/-- Settles O59: each codeword of such a burst has at most one wrong symbol, whose position its syndromes tell. -/
theorem dramCodeCorrectsOneSymbol : Obligations.DramCodeCorrectsOneSymbol := by
  unfold Obligations.DramCodeCorrectsOneSymbol
  refine ⟨by decide +kernel, by decide +kernel, fun err j hj hrest hsym hbad => ?_⟩
  exact ⟨burstOutcome_confined hj hrest hsym hbad, fun k hk => residual_confined hj hrest hsym hk⟩

end Sys2Proof.Machine
end

section
/-! PROOFS. The arrival of a peer message (R463, R467 to R470): it is received by one operation, whatever its content. A message with a
place in a twin stream joins those kept there, and the streams then apply what is due: the first of them that stands ready. -/

namespace Sys2Proof.Machine

section
variable {d : Device} {k : Nat}

/-! ### What stands ready in a twin stream (R469) -/

/-- The stream keeps the next message of its order, and the other stream has nothing to apply before it. -/
def Device.StreamReady (d : Device) (k : Nat) (m : StreamMsg) : Prop :=
  (d.stream k).early.find? (fun y => y.tseq == (d.stream k).applied) = some m ∧ d.streamHolds k m.msg = false

/-- The stream does not keep the next message of its order, or must wait with it for the other stream. -/
def Device.StreamStands (d : Device) (k : Nat) : Prop :=
  ∀ x, (d.stream k).early.find? (fun y => y.tseq == (d.stream k).applied) = some x → d.streamHolds k x.msg = true

/-- The stream applies a message: the message leaves those kept, and the stream expects the number after it. -/
def Device.streamApplies (d : Device) (k : Nat) (m : StreamMsg) : Device :=
  (d.setStream k { d.stream k with applied := (m.tseq + 1) % 65536, early := (d.stream k).early.filter (fun e => e.tseq != m.tseq) }).applyMsg
    (3 + k) k m.tseq m.msg m.bad

/-- Where the first stream stands ready, its message is applied. -/
theorem Device.runStreams_first {m : StreamMsg} (h : d.StreamReady 0 m) (n : Nat) :
    d.runStreams (n + 1) = (d.streamApplies 0 m).runStreams n := by
  obtain ⟨hfind, hfree⟩ := h
  rw [Device.runStreams]
  simp only [hfind, hfree]
  rfl

/-- Where only the second stream stands ready, its message is applied. -/
theorem Device.runStreams_second (h0 : d.StreamStands 0) {m : StreamMsg} (h : d.StreamReady 1 m) (n : Nat) :
    d.runStreams (n + 1) = (d.streamApplies 1 m).runStreams n := by
  obtain ⟨hfind, hfree⟩ := h
  rw [Device.runStreams]
  cases hzero : (d.stream 0).early.find? (fun y => y.tseq == (d.stream 0).applied) with
  | none => simp only [hzero, hfind, hfree]; rfl
  | some x => simp only [hzero, h0 x hzero, hfind, hfree]; rfl

/-- Where neither stream stands ready, nothing more happens. -/
theorem Device.runStreams_stands (h0 : d.StreamStands 0) (h1 : d.StreamStands 1) (n : Nat) : d.runStreams n = d := by
  cases n with
  | zero => rfl
  | succ n =>
    rw [Device.runStreams]
    cases hzero : (d.stream 0).early.find? (fun y => y.tseq == (d.stream 0).applied) with
    | none =>
      cases hone : (d.stream 1).early.find? (fun y => y.tseq == (d.stream 1).applied) with
      | none => simp only [hzero, hone]
      | some y => simp only [hzero, hone, h1 y hone, if_true]
    | some x =>
      cases hone : (d.stream 1).early.find? (fun y => y.tseq == (d.stream 1).applied) with
      | none => simp only [hzero, hone, h0 x hzero, if_true]
      | some y => simp only [hzero, hone, h0 x hzero, h1 y hone, if_true]

/-- The stream that stands ready, first among the two, applies its message. -/
theorem Device.runStreams_ready (hk : k = 0 ∨ (k = 1 ∧ d.StreamStands 0)) {m : StreamMsg} (h : d.StreamReady k m) (n : Nat) :
    d.runStreams (n + 1) = (d.streamApplies k m).runStreams n := by
  rcases hk with rfl | ⟨rfl, h0⟩
  · exact Device.runStreams_first h n
  · exact Device.runStreams_second h0 h n

/-- A stream that keeps nothing stands. -/
theorem Device.streamStands_empty (h : (d.stream k).early = []) : d.StreamStands k := by
  intro x hx
  rw [h] at hx
  exact absurd hx (by simp)

/-! ### Replacing a stream's state -/

@[simp] theorem Device.stream_setStream_self (s : Stream) : (d.setStream k s).stream k = s := KMap.get_put_self ..

theorem Device.stream_setStream_ne {j : Nat} (h : j ≠ k) (s : Stream) : (d.setStream k s).stream j = d.stream j := KMap.get_put_ne _ _ _ h

@[simp] theorem Device.setStream_setStream (s t : Stream) : (d.setStream k s).setStream k t = d.setStream k t := by
  simp [Device.setStream]

/-- Whether a message must wait depends on the other stream alone. -/
theorem Device.streamHolds_setStream (hk : k < 2) (s : Stream) (m : PeerMsg) : (d.setStream k s).streamHolds k m = d.streamHolds k m := by
  have hother : (d.setStream k s).stream (1 - k) = d.stream (1 - k) := Device.stream_setStream_ne (by omega) s
  unfold Device.streamHolds
  rw [hother]

/-! ### A message of a twin stream arrives (R468 to R470) -/

section
variable {t : Nat} {m : PeerMsg} {bad : Option Nat}

/-- A number of the half behind the next one, or one that is kept, is discarded. -/
theorem Device.recvStream_discards (h : 32768 ≤ tseqDist t (d.stream k).applied ∨ (d.stream k).early.any (fun x => x.tseq == t) = true) :
    d.recvStream k t m bad = d := if_pos h

/-- Any other joins those kept, and both streams apply what is due. -/
theorem Device.recvStream_keeps {f : Device} (hnear : tseqDist t (d.stream k).applied < 32768)
    (hnew : (d.stream k).early.any (fun x => x.tseq == t) = false)
    (hf : f = d.setStream k { d.stream k with early := (d.stream k).early ++ [{ tseq := t, msg := m, bad := bad }] }) :
    d.recvStream k t m bad = f.runStreams ((f.stream 0).early.length + (f.stream 1).early.length) := by
  subst hf
  exact if_neg (by simp only [hnew, Bool.false_eq_true, or_false]; omega)

section
variable (hk : k < 2) (hmine : (d.stream k).early = []) (hother : (d.stream (1 - k)).early = [])
include hk hmine hother

/-- With nothing else kept, the arrival is the only message that the streams may apply. -/
theorem Device.recvStream_alone {f : Device} (hnear : tseqDist t (d.stream k).applied < 32768)
    (hf : f = d.setStream k { d.stream k with early := [{ tseq := t, msg := m, bad := bad }] }) :
    d.recvStream k t m bad = f.runStreams 1 ∧ f.StreamStands (1 - k) := by
  have hjoin : f = d.setStream k { d.stream k with early := (d.stream k).early ++ [{ tseq := t, msg := m, bad := bad }] } := by
    rw [hmine]; exact hf
  have hself : (f.stream k).early = [{ tseq := t, msg := m, bad := bad }] := by rw [hf, Device.stream_setStream_self]
  have hrest : (f.stream (1 - k)).early = [] := by rw [hf, Device.stream_setStream_ne (by omega), hother]
  have hlen : (f.stream 0).early.length + (f.stream 1).early.length = 1 := by
    obtain rfl | rfl : k = 0 ∨ k = 1 := by omega
    · rw [hself, hrest]; rfl
    · rw [hself, hrest]; rfl
  rw [Device.recvStream_keeps hnear (by rw [hmine]; rfl) hjoin, hlen]
  exact ⟨rfl, Device.streamStands_empty hrest⟩

/-- A message ahead of its turn, with nothing else kept, is kept. -/
theorem Device.recvStream_ahead (hnear : tseqDist t (d.stream k).applied < 32768) (hne : t ≠ (d.stream k).applied) :
    d.recvStream k t m bad = d.setStream k { d.stream k with early := [{ tseq := t, msg := m, bad := bad }] } := by
  obtain ⟨hrun, hstands⟩ := Device.recvStream_alone (m := m) (bad := bad) hk hmine hother hnear rfl
  have hself : (d.setStream k { d.stream k with early := [{ tseq := t, msg := m, bad := bad }] }).StreamStands k := by
    intro x hx
    rw [Device.stream_setStream_self] at hx
    simp [hne] at hx
  rw [hrun]
  obtain rfl | rfl : k = 0 ∨ k = 1 := by omega
  · exact Device.runStreams_stands hself hstands 1
  · exact Device.runStreams_stands hstands hself 1

/-- The next message, with nothing else kept and nothing to wait for, is applied at once. -/
theorem Device.recvStream_next (hnext : t = (d.stream k).applied) (hlt : t < 65536) (hfree : d.streamHolds k m = false) :
    d.recvStream k t m bad =
      (d.setStream k { d.stream k with applied := (t + 1) % 65536, early := [] }).applyMsg (3 + k) k t m bad := by
  have hnear : tseqDist t (d.stream k).applied < 32768 := by rw [← hnext, tseqDist, Nat.mod_eq_of_lt hlt]; omega
  obtain ⟨hrun, hstands⟩ := Device.recvStream_alone (m := m) (bad := bad) hk hmine hother hnear rfl
  have hready : (d.setStream k { d.stream k with early := [{ tseq := t, msg := m, bad := bad }] }).StreamReady k
      { tseq := t, msg := m, bad := bad } := by
    refine ⟨?_, (Device.streamHolds_setStream hk _ m).trans hfree⟩
    rw [Device.stream_setStream_self]
    simp [hnext]
  have hfirst : k = 0 ∨ (k = 1 ∧ (d.setStream k { d.stream k with early := [{ tseq := t, msg := m, bad := bad }] }).StreamStands 0) := by
    obtain rfl | rfl : k = 0 ∨ k = 1 := by omega
    · exact .inl rfl
    · exact .inr ⟨rfl, hstands⟩
  rw [hrun, Device.runStreams_ready hfirst hready, Device.streamApplies, Device.stream_setStream_self, Device.setStream_setStream]
  simp [Device.runStreams]

end

end

/-! ### A message arrives on a link (R463, R467) -/

section
variable {v : Via} {m : PeerMsg}

/-- On a link that takes no such message it changes nothing. -/
theorem Device.receive_barred (h : d.mayArrive v.p m = false) : d.receive v m = d := if_neg (by simp [h])

/-- On a mesh link, or without a place in a stream, the message happens as it comes. -/
theorem Device.receive_mesh (h : d.mayArrive v.p m = true) (hmesh : v.tseq = none ∨ v.p < 3) :
    d.receive v m = (d.consumeMsg v.p m).applyMsg v.p 0 0 m v.bad := by
  rw [Device.receive, if_pos h]
  rcases hmesh with hnone | hlow
  · simp only [hnone]
  · cases ht : v.tseq with
    | none => rfl
    | some t => exact if_neg (Nat.not_le.mpr hlow)

/-- On a twin link a message with a place goes to its stream. -/
theorem Device.receive_twin {t : Nat} (h : d.mayArrive v.p m = true) (ht : v.tseq = some t) (hp : 3 ≤ v.p) :
    d.receive v m = (d.consumeMsg v.p m).recvStream (v.k % 2) t m v.bad := by
  rw [Device.receive, if_pos h]
  simp only [ht]
  exact if_pos hp

end

end

/-! ### The obligation -/

/-- A command that hands its message to the operation that receives one is the arrival of that message. -/
theorem arrives_of_receive {c : Via → Instr} {m : PeerMsg} (h : ∀ v s, exec (c v) s = s.run (fun d => d.receive v m)) : Arrives c m := by
  intro d w v
  have lead {e : Device} (he : d.receive v m = e) : Leads (c v) ⟨d, w⟩ e := leads_of_exec (h v ⟨d, w⟩) he
  refine ⟨fun hbar => lead (Device.receive_barred hbar), fun hmay hmesh => lead (Device.receive_mesh hmay hmesh), ?_⟩
  rintro t k s e hmay ht hp rfl rfl rfl
  have hk : v.k % 2 < 2 := Nat.mod_lt _ (by decide)
  have htwin := Device.receive_twin hmay ht hp
  exact ⟨fun hold => lead (htwin.trans (Device.recvStream_discards hold)),
    fun hnear hnew => ⟨_, rfl, lead (htwin.trans (Device.recvStream_keeps hnear hnew rfl))⟩,
    fun hnear hne hmine hother => lead (htwin.trans (Device.recvStream_ahead hk hmine hother hnear hne)),
    fun hnext hlt hmine hother hfree => lead (htwin.trans (Device.recvStream_next hk hmine hother hnext hlt hfree))⟩

/-- Settles O34: every peer message is received by one operation, and the streams apply what stands ready in them. -/
theorem peerMessagesArriveOnce : Obligations.PeerMessagesArriveOnce := by
  unfold Obligations.PeerMessagesArriveOnce
  refine ⟨?_, ?_, ?_, ?_, ?_, ?_, ?_, ?_, ?_, ?_, ?_, ?_, ?_, ?_, ?_, ?_, ?_, ?_, ?_, ?_, ?_, ?_, ?_, ?_, ?_, ?_, ?_, ?_⟩
  case refine_27 => exact fun d n k m hk hfind hfree => Device.runStreams_ready hk ⟨hfind, hfree⟩ n
  case refine_28 => exact fun d n h => Device.runStreams_stands (fun x => h 0 x (by decide)) (fun x => h 1 x (by decide)) n
  all_goals intros; exact arrives_of_receive fun _ _ => rfl

end Sys2Proof.Machine
end

section
/-! PROOFS. The commands of the twin service (R464 to R499): resync, heartbeat and waits, withdrawal and handover, requests that are sent
again, the time base, and stewardship. The service states of both twins decide which case a command is. -/

namespace Sys2Proof.Machine

section
variable {d : Device}

/-! ### Resync (R484 to R490) -/

/-- With a resync running, or without a twin link, none starts. -/
theorem Device.resyncStart_barred (h : d.twin.resyncRun = true ∨ d.twinLinkUp = false) : d.resyncStart = d := if_pos h

/-- A resync begins at its first loaf; the source and the receiver begin alike. -/
def Device.resyncBegins (d : Device) (source : Bool) : Device :=
  (((({ d with twin := { d.twin with resyncRun := true, resyncSource := source, resyncPos := 0, resyncBytes := 0, resyncCur := [] } } : Device).setReg
    TWIN.RESYNC_STAT.RUN 1).setReg TWIN.RESYNC_STAT.SOURCE (if source then 1 else 0)).setReg TWIN.RESYNC_POS.LPN 0).setReg TWIN.RESYNC_GIB.GIB 0

section
variable (hrun : d.twin.resyncRun = false) (hlink : d.twinLinkUp = true)
include hrun hlink

/-- With a twin link and none running, the pair of service states decides. -/
theorem Device.resyncStart_eq : d.resyncStart =
    if d.twin.svc = .join ∧ d.twin.twinSvc = .solo then (d.resyncBegins false).setSvc .resync
    else if d.twin.svc = .solo ∧ (d.twin.twinSvc = .join ∨ d.twin.twinSvc = .resync) then
      ((d.resyncBegins true).newPoisonKey.twinSend 0 (d.resyncBegins true).newPoisonKey.resyncTables).1
    else d := if_neg (by simp [hrun, hlink])

/-- A receiver in JOIN with its twin SOLO enters RESYNC. -/
theorem Device.resyncStart_receiver (hjoin : d.twin.svc = .join) (hsolo : d.twin.twinSvc = .solo) :
    d.resyncStart = (d.resyncBegins false).setSvc .resync := (Device.resyncStart_eq hrun hlink).trans (if_pos ⟨hjoin, hsolo⟩)

/-- A source in SOLO with its twin in JOIN or RESYNC takes a new poison key and sends the tables. -/
theorem Device.resyncStart_source (hsolo : d.twin.svc = .solo) (htwin : d.twin.twinSvc = .join ∨ d.twin.twinSvc = .resync) :
    d.resyncStart = ((d.resyncBegins true).newPoisonKey.twinSend 0 (d.resyncBegins true).newPoisonKey.resyncTables).1 := by
  rw [Device.resyncStart_eq hrun hlink, if_neg (by simp [hsolo]), if_pos ⟨hsolo, htwin⟩]

/-- In any other pair of states no resync starts. -/
theorem Device.resyncStart_other (hreceiver : ¬(d.twin.svc = .join ∧ d.twin.twinSvc = .solo))
    (hsource : ¬(d.twin.svc = .solo ∧ (d.twin.twinSvc = .join ∨ d.twin.twinSvc = .resync))) : d.resyncStart = d := by
  rw [Device.resyncStart_eq hrun hlink, if_neg hreceiver, if_neg hsource]

end

/-- Only the source of a running resync makes a step of it. -/
theorem Device.resyncStep_idle (h : d.twin.resyncRun = false ∨ d.twin.resyncSource = false ∨ d.twin.svc ≠ .solo) : d.resyncStep = d := by
  refine if_pos ?_
  rcases h with h | h | h <;> simp [h]

section
variable (hrun : d.twin.resyncRun = true) (hsource : d.twin.resyncSource = true) (hsolo : d.twin.svc = .solo)
include hrun hsource hsolo

/-- The next loaf waits for its channels, then for the hosts that own its lines, and is then copied. -/
theorem Device.resyncStep_loaf {lpn : Nat} {e f : Device} (hnext : d.resyncNext = some lpn) (he : e = d.resyncSnoop lpn)
    (hf : f = e.resyncLoaf lpn) : d.resyncStep = if d.resyncWaits lpn = true then d else if e.resyncAwaits lpn = true then e
      else ({ f with twin := { f.twin with resyncPos := lpn + 1, resyncCur := [] } } : Device).setReg TWIN.RESYNC_POS.LPN (lpn + 1) := by
  rw [hf, he]
  unfold Device.resyncStep
  rw [if_neg (by simp [hrun, hsource, hsolo])]
  simp only [hnext]

/-- After the last loaf both ends are sent, once every mirror is countersigned. -/
theorem Device.resyncStep_last {e : Device} (hnext : d.resyncNext = none)
    (he : e = ({ d with twin := { d.twin with resyncPos := d.nloaf } } : Device).setReg TWIN.RESYNC_POS.LPN d.nloaf) :
    d.resyncStep = if d.coh.csWait.isEmpty = true then ((e.twinSend 0 .rsDone).1.twinSend 1 .rsDone).1.enterPaired true else e := by
  subst he
  unfold Device.resyncStep
  rw [if_neg (by simp [hrun, hsource, hsolo])]
  simp only [hnext]
  rfl

end

/-- With no resync running there is none to interrupt. -/
theorem Device.resyncStop_idle (h : d.twin.resyncRun = false) : d.resyncStop = d := if_pos (by simp [h])

/-- An interrupted resync is counted and reported; a receiver forgets what it placed, a source gives up its countersigns. -/
theorem Device.resyncStop_running {e f g : Device} (hrun : d.twin.resyncRun = true)
    (he : e = (((({ d with twin := { d.twin with resyncRun := false, resyncPos := 0, resyncBytes := 0 } } : Device).setReg
      TWIN.RESYNC_STAT.RUN 0).setReg TWIN.RESYNC_POS.LPN 0).setReg TWIN.RESYNC_GIB.GIB 0))
    (hf : f = (e.countSat TWIN.RESYNCS_RESTARTED.COUNT).evt TWIN.flag.RESYNC_RESTART) (hg : g = f.wipeRecords.wipePages) :
    d.resyncStop = if d.twin.svc = .resync then
      (({ g with regions := {}, fail := {}, batch := { g.batch with outcomes := [] }, site := { g.site with atomics := [] } } : Device).setSvc
        .join).joinStep
      else f.csAll.proceed := by
  have hsvc : f.twin.svc = d.twin.svc := by
    have htwin : f.twin = (e.countSat TWIN.RESYNCS_RESTARTED.COUNT).twin := by
      obtain ⟨-, -, -, -, htwin, -⟩ := (Device.evt_reports (e.countSat TWIN.RESYNCS_RESTARTED.COUNT) TWIN.flag.RESYNC_RESTART 0).keeps
      rw [hf, htwin]
    rw [htwin, he]
    rfl
  subst he hg
  rw [← hsvc, hf]
  exact if_neg (by simp [hrun])

/-! ### Waits, the heartbeat and the twin links (R465, R478, R479) -/

/-- The heartbeat is the twin's no longer, or this device's link to it is a fault. -/
theorem Device.heartbeatStopped_eq {e : Device} (he : e = { d with twin := { d.twin with hbIn := false } }) : d.heartbeatStopped =
    if (d.twin.svc = .paired ∨ d.twin.svc = .handingOver) ∧ d.twinLinkUp = true then e.raise TWIN.flag.HB_FAULT 0 [] [] else e.twinWatch := by
  subst he
  refine ite_congr (propext ?_) (fun _ => rfl) (fun _ => rfl)
  rw [Bool.and_eq_true, Bool.or_eq_true, beq_iff_eq, beq_iff_eq]
  rfl

/-- A device in SOLO has no twin to watch. -/
theorem Device.twinWatch_solo (h : d.twin.svc = .solo) : d.twinWatch = d := by
  unfold Device.twinWatch
  rw [h]

/-- Without a confirmation the heartbeat is not driven. -/
theorem Device.heartbeatOut_unconfirmed (h : d.twin.confirm = false) : d.heartbeatOut = { d with twin := { d.twin with hbOut := false } } := by
  rw [Device.heartbeatOut, h, Bool.and_false]

/-- The link wait loses the twin on side A alone, in a pair whose links are down while the heartbeat runs. -/
theorem Device.linksWaitOver_eq : d.linksWaitOver =
    if (d.twin.svc = .paired ∨ d.twin.svc = .handingOver) ∧ d.twinLinkUp = false ∧ d.twin.hbIn = true ∧ d.side = 0 then
      (d.raise TWIN.flag.HB_FAULT 0 [] []).twinLost
    else d := by
  refine ite_congr (propext ?_) (fun _ => rfl) (fun _ => rfl)
  simp [and_assoc]

/-! ### Withdrawal and handover (R491 to R494) -/

/-- A device that hands nothing over has no wait and no drain to end. -/
theorem Device.hand_idle (h : d.twin.hand = none) : d.handBatchWait = d ∧ d.handDone = d := by
  simp [Device.handBatchWait, Device.handDone, h]

section
variable {h : Hand} (hhand : d.twin.hand = some h)
include hhand

/-- The batch wait ends in the step of the home slices alone. -/
theorem Device.handBatchWait_eq : d.handBatchWait =
    if h.step = 0 then (((d.handBatches h).filter (fun b => !b.committing)).foldl (fun (e : Device) b => e.abortBatch b 6) d).proceedAll
    else d := by
  unfold Device.handBatchWait
  rw [hhand]

/-- The drain ends in the step of the site requests alone, once none is outstanding. -/
theorem Device.handDone_eq {e : Device} (he : e = (d.withdraw 2).evt TWIN.flag.HANDOVER_DONE) : d.handDone =
    if h.step ≠ 2 ∨ d.site.ports.any (fun e => !e.2.reqs.isEmpty) = true then d
    else { e with twin := { e.twin with resetAfter := !(e.flagReg TWIN.HANDOVER_CTL.HOLD) } } := by
  rw [he]
  simp only [Device.handDone, hhand]

end

/-! ### Requests that are sent again (R483) -/

/-- A request of no region, once sent, is counted and sent again. -/
theorem Device.fwdAgain_counts {f : Forward} (hregion : d.regionOf f.req.qla = none) (hsent : f.link.isSome = true) :
    d.fwdAgain f = (d.countSat TWIN.REFORWARDS.COUNT).route f.req := by
  simp [Device.fwdAgain, hregion, hsent]

/-- A request that was not sent is sent, and does not count. -/
theorem Device.fwdAgain_unsent {f : Forward} (h : f.link = none) : d.fwdAgain f = d.route f.req := by
  simp [Device.fwdAgain, h]

/-! ### The time base (R496) -/

/-- TIME_SYNC on each peer link in use. -/
def Device.timeSyncs (d : Device) : Device :=
  [0, 1, 2, 3, 4].foldl (fun (e : Device) p =>
    if (e.link (.peer p)).state = .active ∧ e.twin.peerOk.contains p = true then e.peerSend p none (.timeSync e.time 0 0 false) else e) d

/-- Has the device no route to the time master? -/
def Device.timeLone (d : Device) : Bool :=
  match d.coordinator with
  | some a => a != d.myArr && (d.routeTo a).isNone
  | none => true

theorem Device.timeLone_iff :
    d.timeLone = true ↔ d.coordinator = none ∨ ∃ a, d.coordinator = some a ∧ a ≠ d.myArr ∧ (d.routeTo a).isNone = true := by
  unfold Device.timeLone
  cases d.coordinator <;> simp

/-- A locked device without a route to its master loses the lock. -/
def Device.timeJudge (d : Device) : Device :=
  if d.twin.timeLocked && d.timeLone then
    { (d.evt TWIN.flag.TIME_UNLOCK).setReg TWIN.TIME_STAT.LOCKED 0 with
      twin := { ((d.evt TWIN.flag.TIME_UNLOCK).setReg TWIN.TIME_STAT.LOCKED 0).twin with timeLocked := false } }
  else d

/-- The timer sends its messages and then judges the lock. -/
theorem Device.timeTick_eq : d.timeTick = d.timeSyncs.timeJudge := by
  unfold Device.timeTick
  extract_lets e lone
  have he : d.timeSyncs = e := rfl
  clear_value e
  have hlone : lone = e.timeLone := rfl
  rw [he, hlone]
  rfl

/-- A device that is not locked, is the master, or has a route to it stays as it is. -/
theorem Device.timeJudge_keeps
    (h : d.twin.timeLocked = false ∨ (∃ a, d.coordinator = some a ∧ (a = d.myArr ∨ (d.routeTo a).isSome = true))) : d.timeJudge = d := by
  refine if_neg ?_
  rw [Bool.and_eq_true, Device.timeLone_iff]
  rintro ⟨hlocked, hlone⟩
  rcases h with h | ⟨a, ha, h⟩
  · simp [h] at hlocked
  · rcases hlone with hnone | ⟨b, hb, hne, hroute⟩
    · simp [hnone] at ha
    · obtain rfl : b = a := Option.some.inj (hb.symm.trans ha)
      exact h.elim hne fun h => by simp [Option.isNone_iff_eq_none.mp hroute] at h

/-- A locked device without a route to its master loses the lock. -/
theorem Device.timeJudge_unlocks (hlocked : d.twin.timeLocked = true)
    (h : d.coordinator = none ∨ (∃ a, d.coordinator = some a ∧ a ≠ d.myArr ∧ (d.routeTo a).isNone = true)) : d.timeJudge =
    { (d.evt TWIN.flag.TIME_UNLOCK).setReg TWIN.TIME_STAT.LOCKED 0 with
      twin := { ((d.evt TWIN.flag.TIME_UNLOCK).setReg TWIN.TIME_STAT.LOCKED 0).twin with timeLocked := false } } :=
  if_pos (by rw [Bool.and_eq_true]; exact ⟨hlocked, Device.timeLone_iff.mpr h⟩)

/-! ### Stewardship (R499) -/

section
variable {v : Via} {id : Nat}

/-- A steward's access comes on a twin link that takes it. -/
theorem Device.stewReq_barred {addr : Nat} {x : Option Nat} (h : v.p < 3 ∨ d.mayArrive v.p (.stewReq id addr x) = false) :
    d.stewReq v id addr x = d := by
  refine if_neg ?_
  rcases h with h | h <;> simp [h]

/-- There it is served. -/
theorem Device.stewReq_served {addr : Nat} {x : Option Nat} (hp : 3 ≤ v.p) (hmay : d.mayArrive v.p (.stewReq id addr x) = true) :
    d.stewReq v id addr x = (d.consumeMsg v.p (.stewReq id addr x)).stewServe v.p id addr x := if_pos (by simp [hp, hmay])

/-- A device under no stewardship, and a barred word, answer not ok. -/
theorem Device.stewServe_refuses {p addr : Nat} {x : Option Nat} (h : d.twin.stewarded = false ∨ d.stewBarred addr = true) :
    d.stewServe p id addr x = d.peerSend p none (.stewRsp id false 0) := if_pos (by simpa using h)

/-- An access that is served is refused by its alignment, or else writes or reads its word. -/
theorem Device.stewServe_eq {p addr : Nat} {x : Option Nat} (hsteward : d.twin.stewarded = true) (hfree : d.stewBarred addr = false) :
    (addr % 4 ≠ 0 → d.stewServe p id addr x = (d.badAccess .steward addr 4).peerSend p none (.stewRsp id true 0)) ∧
    (∀ y, addr % 4 = 0 → x = some y → d.stewServe p id addr x = (d.writeReg .steward addr y).peerSend p none (.stewRsp id true 0)) ∧
    (addr % 4 = 0 → x = none → d.stewServe p id addr x =
      (d.readReg .steward addr).1.peerSend p none (.stewRsp id true (d.readReg .steward addr).2)) := by
  have hserves : ¬((!d.twin.stewarded || d.stewBarred addr) = true) := by simp [hsteward, hfree]
  refine ⟨fun hodd => (if_neg hserves).trans (if_pos hodd), ?_, ?_⟩
  · rintro y heven rfl
    exact (if_neg hserves).trans (if_neg (by simp [heven]))
  · rintro heven rfl
    exact (if_neg hserves).trans (if_neg (by simp [heven]))

/-- The answer to a steward goes to its management. -/
theorem Device.stewRsp_eq {ok : Bool} {value : Nat} : d.stewRsp v id ok value =
    if d.mayArrive v.p (.stewRsp id ok value) = true ∧ 3 ≤ v.p then
      (d.consumeMsg v.p (.stewRsp id ok value)).send (.regValue .steward id (if ok then value else 0)) else d := by
  refine ite_congr (propext ?_) (fun _ => rfl) (fun _ => rfl)
  simp

end

end

/-! ### The obligation -/

/-- Settles O36: each command runs its operation, and the states of the twins tell which of its cases it is. -/
theorem serviceStatesOfTheTwins : Obligations.ServiceStatesOfTheTwins := by
  unfold Obligations.ServiceStatesOfTheTwins
  intro d w
  refine ⟨?_, ?_, ?_, ?_, ?_, ?_, ?_, ?_, ?_, ?_, ?_, ?_, ?_, ?_, ?_, ?_, ?_, ?_, ?_, ?_, ?_, ?_, ?_, ?_, ?_⟩
  · exact fun h => leads_of_exec rfl (Device.resyncStart_barred h)
  · refine fun hrun hlink => ⟨?_, ?_, fun hreceiver hsource => leads_of_exec rfl (Device.resyncStart_other hrun hlink hreceiver hsource)⟩
    · rintro e hjoin hsolo rfl
      exact leads_of_exec rfl (Device.resyncStart_receiver hrun hlink hjoin hsolo)
    · rintro e hsolo htwin rfl
      exact leads_of_exec rfl (Device.resyncStart_source hrun hlink hsolo htwin)
  · exact fun h => leads_of_exec rfl (Device.resyncStep_idle h)
  · refine fun hrun hsource hsolo => ⟨fun lpn e f hnext he hf => ?_, fun e hnext he => ?_⟩
    · have hstep := Device.resyncStep_loaf hrun hsource hsolo hnext he hf
      exact ⟨fun hwait => leads_of_exec rfl (hstep.trans (if_pos hwait)),
        fun hgo hawait => leads_of_exec rfl (hstep.trans (by rw [if_neg (by simp [hgo]), if_pos hawait])),
        fun hgo hfree => leads_of_exec rfl (hstep.trans (by rw [if_neg (by simp [hgo]), if_neg (by simp [hfree])]))⟩
    · have hstep := Device.resyncStep_last hrun hsource hsolo hnext he
      exact ⟨fun hwait => leads_of_exec rfl (hstep.trans (if_neg (by simp [hwait]))), fun hall => leads_of_exec rfl (hstep.trans (if_pos hall))⟩
  · exact fun h => leads_of_exec rfl (congrArg Device.joinStep (Device.resyncStop_idle h))
  · intro hrun e f he hf
    exact ⟨fun hsvc => leads_of_exec rfl (congrArg Device.joinStep ((Device.resyncStop_running hrun he hf rfl).trans (if_neg hsvc))),
      fun hsvc g hg => leads_of_exec rfl (congrArg Device.joinStep ((Device.resyncStop_running hrun he hf hg).trans (if_pos hsvc)))⟩
  · exact fun hjoin hwait => leads_of_exec rfl (if_pos ⟨hjoin, hwait⟩)
  · exact fun hstays => leads_of_exec rfl (if_neg (by grind))
  · intro e he
    have hstop := Device.heartbeatStopped_eq he
    refine ⟨fun hpair => leads_of_exec rfl (hstop.trans (if_pos hpair)), fun hother => leads_of_exec rfl (hstop.trans (if_neg hother)), fun hsolo => ?_⟩
    have hwatch : e.twinWatch = e := Device.twinWatch_solo (by rw [he]; exact hsolo)
    exact leads_of_exec rfl (hstop.trans ((if_neg (by simp [hsolo])).trans hwatch))
  · exact leads_of_exec rfl (Device.heartbeatOut_unconfirmed rfl)
  · exact fun hpair hlink hbeat hside => leads_of_exec rfl (Device.linksWaitOver_eq.trans (if_pos ⟨hpair, hlink, hbeat, hside⟩))
  · exact fun hstays => leads_of_exec rfl (Device.linksWaitOver_eq.trans (if_neg (by grind)))
  · exact fun hbar => leads_of_exec rfl (if_neg (by grind))
  · exact fun hpaired htwin hnone hgained => leads_of_exec rfl (if_pos ⟨hpaired, htwin, hnone, hgained⟩)
  · exact fun hbar => leads_of_exec rfl (if_neg (by grind))
  · exact fun hpaired htwin hfollows hgained => leads_of_exec rfl (if_pos ⟨hpaired, htwin, hfollows, hgained⟩)
  · exact fun hnone => ⟨leads_of_exec rfl (Device.hand_idle hnone).1, leads_of_exec rfl (Device.hand_idle hnone).2⟩
  · intro h hhand
    have hwait := Device.handBatchWait_eq hhand
    refine ⟨fun h0 => leads_of_exec rfl (hwait.trans (if_pos h0)), fun h0 => leads_of_exec rfl (hwait.trans (if_neg h0)),
      fun hbusy => leads_of_exec rfl ((Device.handDone_eq hhand rfl).trans (if_pos hbusy)), fun h2 hdrained e he => ?_⟩
    exact leads_of_exec rfl ((Device.handDone_eq hhand he).trans (if_neg (by simp [h2, hdrained])))
  · exact fun hnone => leads_of_exec rfl (if_neg (by simp [hnone]))
  · exact fun hafter => leads_of_exec rfl (if_pos hafter)
  · exact leads_of_exec rfl rfl
  · exact fun e f => ⟨Device.fwdAgain_counts, Device.fwdAgain_unsent⟩
  · intro e he
    have htick : d.timeTick = e.timeJudge := he ▸ Device.timeTick_eq
    exact ⟨fun hkeeps => leads_of_exec rfl (htick.trans (Device.timeJudge_keeps hkeeps)),
      fun hlocked hlost => ⟨_, rfl, leads_of_exec rfl (htick.trans (Device.timeJudge_unlocks hlocked hlost))⟩⟩
  · intro v id addr x
    refine ⟨fun hbar => leads_of_exec rfl (Device.stewReq_barred hbar), fun hp hmay e he => ?_⟩
    have hserve : d.stewReq v id addr x = e.stewServe v.p id addr x := he ▸ Device.stewReq_served hp hmay
    refine ⟨fun hbar => leads_of_exec rfl (hserve.trans (Device.stewServe_refuses hbar)), fun hsteward hfree => ?_⟩
    obtain ⟨hodd, hwrite, hread⟩ := Device.stewServe_eq (p := v.p) (id := id) (x := x) hsteward hfree
    exact ⟨fun h => leads_of_exec rfl (hserve.trans (hodd h)), fun y h hx => leads_of_exec rfl (hserve.trans (hwrite y h hx)),
      fun h hx => leads_of_exec rfl (hserve.trans (hread h hx))⟩
  · exact fun v id ok value => ⟨fun hbar => leads_of_exec rfl (Device.stewRsp_eq.trans (if_neg (by grind))),
      fun hp hmay => leads_of_exec rfl (Device.stewRsp_eq.trans (if_pos ⟨hmay, hp⟩))⟩

end Sys2Proof.Machine
end

section
/-! PROOFS. Error lines, management pairs, escalation, the fatal reaction, FC_TEST, the Tier-0 dies and the coalescing table (R498 to R543). -/

namespace Sys2Proof.Machine

section
variable {d : Device}

/-! ### Error lines (R507, R569) -/

section
variable {p : Page} {i : Nat} {info : List Nat}

/-- A line of no flag, or of a page that does not exist, changes nothing. -/
theorem Device.errorLine_eq_self {bit : Nat} (h : p.errFlags.find? (fun x => x.bit == bit) = none ∨ Page.count d.hw.gradeH p ≤ i) :
    d.errorLine p i bit info = d := by
  unfold Device.errorLine
  rcases h with h | h
  · rw [h]
  · cases p.errFlags.find? (fun x => x.bit == bit) with
    | none => rfl
    | some f => exact if_pos h

section
variable {f : Flag} (hf : p.errFlags.find? (fun x => x.bit == f.bit) = some f) (hi : i < Page.count d.hw.gradeH p)
include hf hi

/-- A line raises its flag, and a security flag with a class writes its record too. -/
theorem Device.errorLine_eq : d.errorLine p i f.bit info =
    if (p = .mint ∨ p = .secalm) ∧ f.cls ≠ .none then d.secFault f (secCode f) (info.headD 0) (info.getD 1 0) (ofLe (info.drop 2))
    else d.raise f i info info := by
  unfold Device.errorLine
  rw [hf]
  exact if_neg (Nat.not_le.mpr hi)

end

end

/-! ### Management pairs (R498, R522) -/

/-- A pair that does not run, or has no Hub to run for, does not stop. -/
theorem Device.pairStops_eq_self {n : Nat} (h : 2 ≤ n ∨ (if n = 0 then d.mgmt.run0 else d.mgmt.run1) = false ∨ d.hubUp = false) :
    d.pairStops n = d := if_pos h

section
variable (hup : d.hubUp = true)
include hup

/-- Pair 0 stops, and pair 1 takes over where it runs. -/
theorem Device.pairStops_zero (h0 : d.mgmt.run0 = true) (h1 : d.mgmt.run1 = true) {e : Device}
    (he : e = { d with mgmt := { d.mgmt with run0 := false, active := if d.mgmt.active = 0 then 1 else d.mgmt.active } }) :
    d.pairStops 0 = (e.raise MGMT.flag.PAIR0_STOP 0 [] []).mgmtRecord 0 0 := by
  by_cases hactive : d.mgmt.active = 0 <;> simp [Device.pairStops, hup, h0, h1, he, hactive]

/-- Pair 1 stops, and pair 0 takes over where it runs. -/
theorem Device.pairStops_one (h0 : d.mgmt.run0 = true) (h1 : d.mgmt.run1 = true) {e : Device}
    (he : e = { d with mgmt := { d.mgmt with run1 := false, active := if d.mgmt.active = 1 then 0 else d.mgmt.active } }) :
    d.pairStops 1 = (e.raise MGMT.flag.PAIR1_STOP 0 [] []).mgmtRecord 0 1 := by
  by_cases hactive : d.mgmt.active = 1 <;> simp [Device.pairStops, hup, h0, h1, he, hactive]

/-- With pair 0, the last one, management is gone. -/
theorem Device.pairStops_zero_last (h0 : d.mgmt.run0 = true) (h1 : d.mgmt.run1 = false) {e : Device}
    (he : e = { d with mgmt := { d.mgmt with run0 := false } }) :
    d.pairStops 0 = ((e.raise MGMT.flag.PAIR0_STOP 0 [] []).mgmtRecord 0 0).mgmtGone 0 := by
  simp [Device.pairStops, hup, h0, h1, he]

/-- With pair 1, the last one, management is gone. -/
theorem Device.pairStops_one_last (h1 : d.mgmt.run1 = true) (h0 : d.mgmt.run0 = false) {e : Device}
    (he : e = { d with mgmt := { d.mgmt with run1 := false } }) :
    d.pairStops 1 = ((e.raise MGMT.flag.PAIR1_STOP 0 [] []).mgmtRecord 0 1).mgmtGone 1 := by
  simp [Device.pairStops, hup, h0, h1, he]

end

/-! ### Escalation (R510 to R513) -/

/-- A timer that has run ESC_MS makes the UC fault of its source fatal. -/
theorem Device.escalate_ends {s since flag : Nat} {e : Device} (htimer : KMap.find d.fc.timers s = some (.running since flag))
    (huc : d.sourceHas s .uc = true) (hdue : since + 1000000 * d.reg FC.FC_CTL.ESC_MS ≤ d.power.aon)
    (he : e = (({ d with fc := { d.fc with timers := KMap.put d.fc.timers s .expired, escalated := d.fc.escalated ++ [s] } } : Device).countSat
      FC.ESCALATIONS.COUNT)) : d.escalate s =
    (e.record { seq := 0, time := 0, type := 0x0011, source := s, cls := 3, escalated := true, detail := e.summaryBytes ++ [flag] } []).raiseFatal
      s true := by
  unfold Device.escalate
  rw [htimer, he]
  exact if_pos ⟨huc, hdue⟩

/-- No other timer escalates. -/
theorem Device.escalate_eq_self {s : Nat} (h : d.sourceHas s .uc = false ∨ KMap.find d.fc.timers s = none ∨
      KMap.find d.fc.timers s = some .expired ∨ (∃ since flag, KMap.find d.fc.timers s = some (.running since flag) ∧
        d.power.aon < since + 1000000 * d.reg FC.FC_CTL.ESC_MS)) : d.escalate s = d := by
  unfold Device.escalate
  rcases h with huc | hnone | hexpired | ⟨since, flag, htimer, hearly⟩
  · split
    · exact if_neg (by simp [huc])
    · rfl
  · rw [hnone]
  · rw [hexpired]
  · rw [htimer]
    exact if_neg fun h => absurd h.2 (Nat.not_le.mpr hearly)

/-! ### The fatal reaction (R500, R514, R515, R594) -/

/-- Without a pending fatal fault, or a Hub, nothing reacts. -/
theorem Device.fatalReaction_eq_self (h : d.fc.ftPending = [] ∨ d.hubUp = false) : d.fatalReaction = d :=
  if_pos (h.imp_left fun hnone => by rw [hnone]; rfl)

/-- What follows the records of a fatal reaction: the trip, the wait of R500, or the reset. -/
def Device.reactionEnds (d : Device) (hot held : Bool) : Device :=
  if hot then d.trip 8
  else if held then (if d.twin.held500 then d else d.holdStill).setReg FC.ERRL_CFG.FORCED 1
  else d.deviceReset 1

/-- A pending fatal fault contains the host links, withdraws the device and writes its records first. -/
theorem Device.fatalReaction_reacts {held : Bool} {e : Device} (hup : d.hubUp = true) (hpend : d.fc.ftPending ≠ [])
    (hheld : held = (d.twin.mgmtLost && !d.twin.stewarded)) (he : e = ((d.containAll 4).withdraw 1).fatalRecords held) :
    d.fatalReaction = e.reactionEnds ((d.page .pwr).err.getLsbD PWR.flag.THERM_TRIP.bit) held := by
  rw [he, hheld]
  exact if_neg (by simp [hup, hpend])

/-! ### FC_TEST (R540, R541, R543) -/

/-- On a locked page FC_TEST is refused and counted. -/
theorem Device.fcTest_locked (h : (d.page .fc).lock = true) (cls : Nat) : d.fcTest cls = d.countLocked .fc 0 :=
  d.rwl_locked h rfl _

section
variable {cls : Nat} {e : Device} {c : FaultClass} (hlock : (d.page .fc).lock = false) (he : e = d.store FC.FC_TEST.CLASS cls)
  (hc : c = FaultClass.ofCode (e.reg FC.FC_TEST.CLASS))
include hlock he hc

/-- With the class of the last one TEST is raised again. -/
theorem Device.fcTest_again (h : e.fc.testCls = c) : d.fcTest cls = e.raise FC.flag.TEST 0 [] [] := by
  refine (d.rwl_unlocked hlock true _).trans ?_
  dsimp only
  rw [← he, ← hc, if_pos h, ← h]

/-- With another class TEST is dropped and raised as a new fault. -/
theorem Device.fcTest_new (h : e.fc.testCls ≠ c) {g : Device} (hg : g = e.dropErr FC.flag.TEST) :
    d.fcTest cls = ({ g with fc := { g.fc with testCls := c } } : Device).raise FC.flag.TEST 0 [] [] := by
  refine (d.rwl_unlocked hlock true _).trans ?_
  dsimp only
  rw [← he, ← hc, if_neg h, ← hg]

end

/-! ### The coalescing table (R530) -/

/-- An entry closes COALESCE_MS after it was opened, not earlier. -/
theorem Device.coalesceExpires_eq {n : Nat} {e : Coalesce} (h : d.ldg.coal[n]? = some e) : d.coalesceExpires n =
    if e.opened + 1000000 * d.reg LEDGER.LDG_CTL.COALESCE_MS ≤ d.power.aon then
      ({ d with ldg := { d.ldg with coal := d.ldg.coal.eraseIdx n } } : Device).closeCoalesce e
    else d := by
  unfold Device.coalesceExpires
  rw [h]

/-- An entry that is not there does not close. -/
theorem Device.coalesceExpires_none {n : Nat} (h : d.ldg.coal.length ≤ n) : d.coalesceExpires n = d := by
  unfold Device.coalesceExpires
  rw [List.getElem?_eq_none h]

end

/-! ### The obligation -/

/-- Settles O38: each command runs its operation, and the guards of the operation tell which of its cases it is. -/
theorem faultsEscalationAndTheFatalReaction : Obligations.FaultsEscalationAndTheFatalReaction := by
  unfold Obligations.FaultsEscalationAndTheFatalReaction
  intro d w
  refine ⟨?_, ?_, ?_, ?_, ?_, ?_, ?_, ?_, ?_, ?_, ?_, ?_, ?_, ?_, ?_, ?_, ?_, ?_⟩
  · intro p i f info hf hi
    have hline := Device.errorLine_eq (info := info) hf hi
    exact ⟨fun hplain => leads_of_exec rfl (hline.trans (if_neg fun hsec => by grind)),
      fun hpage hcls => leads_of_exec rfl (hline.trans (if_pos ⟨hpage, hcls⟩))⟩
  · exact fun p i bit info h => leads_of_exec rfl (Device.errorLine_eq_self h)
  · refine fun hup h0 h1 => ⟨fun e he => ?_, fun e he => ?_⟩
    · have hstop := Device.pairStops_zero hup h0 h1 he
      exact ⟨leads_of_exec rfl hstop, leads_of_exec rfl hstop⟩
    · have hstop := Device.pairStops_one hup h0 h1 he
      exact ⟨leads_of_exec rfl hstop, leads_of_exec rfl hstop⟩
  · intro hup h0 h1 e he
    have hstop := Device.pairStops_zero_last hup h0 h1 he
    exact ⟨leads_of_exec rfl hstop, leads_of_exec rfl hstop⟩
  · intro hup h1 h0 e he
    have hstop := Device.pairStops_one_last hup h1 h0 he
    exact ⟨leads_of_exec rfl hstop, leads_of_exec rfl hstop⟩
  · exact fun n h => ⟨leads_of_exec rfl (Device.pairStops_eq_self h), leads_of_exec rfl (Device.pairStops_eq_self h)⟩
  · exact fun s since flag e htimer huc hdue he => leads_of_exec rfl (Device.escalate_ends htimer huc hdue he)
  · exact fun s h => leads_of_exec rfl (Device.escalate_eq_self h)
  · exact fun h => leads_of_exec rfl (Device.fatalReaction_eq_self h)
  · intro hup hpend held e hheld he
    have hreact := Device.fatalReaction_reacts hup hpend hheld he
    refine ⟨fun hhot => leads_of_exec rfl (hreact.trans (if_pos hhot)), fun hcool hserved => ?_, fun hcool hlost hgoes => ?_,
      fun hcool hlost hstill => ?_⟩
    · exact leads_of_exec rfl (hreact.trans (by simp only [Device.reactionEnds, hcool, hserved, Bool.false_eq_true, if_false]))
    · exact leads_of_exec rfl (hreact.trans (by simp only [Device.reactionEnds, hcool, hlost, hgoes, Bool.false_eq_true, if_false, if_true]))
    · exact leads_of_exec rfl (hreact.trans (by simp only [Device.reactionEnds, hcool, hlost, hstill, Bool.false_eq_true, if_false, if_true]))
  · exact leads_of_exec rfl rfl
  · exact leads_of_exec rfl rfl
  · exact fun cls hlock => leads_of_exec rfl (Device.fcTest_locked hlock cls)
  · exact fun cls e c hlock he hc => ⟨fun hsame => leads_of_exec rfl (Device.fcTest_again hlock he hc hsame),
      fun hother g hg => leads_of_exec rfl (Device.fcTest_new hlock he hc hother hg)⟩
  · exact fun t ht hin => leads_of_exec rfl (if_neg (not_or.mpr ⟨Nat.not_le.mpr ht, ne_true_of_eq_false hin⟩))
  · exact fun t h => leads_of_exec rfl (if_pos h)
  · exact fun n e he => ⟨fun hdue => leads_of_exec rfl ((Device.coalesceExpires_eq he).trans (if_pos hdue)),
      fun hearly => leads_of_exec rfl ((Device.coalesceExpires_eq he).trans (if_neg (Nat.not_le.mpr hearly)))⟩
  · exact fun n h => leads_of_exec rfl (Device.coalesceExpires_none h)

end Sys2Proof.Machine
end

section
/-! PROOFS. The ledger's writer (R523 to R535) and the ledger's readers (R529, R537 to R539). -/

namespace Sys2Proof.Machine

section
variable {d : Device}

/-! ### The writer (R523 to R535) -/

/-- Storing a record in the last-words ring and moving the writer on change neither its queue nor what is stored. -/
theorem Ledger.pushLast_advance_keeps (g : Ledger) (r : Record) :
    (g.pushLast r).advance.queue = g.queue ∧ (g.pushLast r).advance.recs = g.recs := by
  unfold Ledger.advance
  split <;> exact ⟨rfl, rfl⟩

/-- With nothing queued, the end of a program changes nothing. -/
theorem Device.programmed_empty (h : d.ldg.queue = []) (ok : Bool) : d.programmed ok = d := by
  unfold Device.programmed
  rw [h]

section
variable {r : Record} {rest : List Record} {sec n : Nat} (hqueue : d.ldg.queue = r :: rest) (hsec : sec = d.ldg.sectorAt d.ldg.pos)
  (hn : n = KMap.get d.ldg.counts 0 sec + 1)
include hqueue hsec hn

/-- A failed verify leaves the record in front of the queue and retires the sector. -/
theorem Device.programmed_failed :
    d.programmed false = ({ d with ldg := { d.ldg with counts := KMap.put d.ldg.counts sec n } } : Device).retireSector d.ldg.pos := by
  subst hn hsec
  unfold Device.programmed
  rw [hqueue]
  rfl

/-- A verified record is stored, seals the ledger where its SEQ is the last one, and retires a sector at the end of its life. -/
theorem Device.programmed_verified {g : Ledger} {e : Device}
    (hg : g = (({ d.ldg with counts := KMap.put d.ldg.counts sec n, queue := rest, recs := KMap.put d.ldg.recs (64 * d.ldg.pos + d.ldg.slot) r } :
      Ledger).pushLast r).advance)
    (he : e = if r.seq = 2 ^ 64 - 1 then ({ d with ldg := g } : Device).seals.ledgerRecord 2 sec else { d with ldg := g }) :
    d.programmed true = if 10 ^ 9 ≤ n then e.retireSector d.ldg.pos else e := by
  subst hn hsec
  rw [he, hg]
  unfold Device.programmed
  rw [hqueue]
  rfl

end

/-! ### What the ring holds (R529, R539) -/

/-- A SEQ that no record has is not present. -/
theorem Ledger.readSeq_absent {g : Ledger} {q : Nat} (h : ∀ r, r ∈ KMap.vals g.recs → r.seq ≠ q) : g.readSeq q = (1, none) := by
  have hfind : (KMap.vals g.recs).find? (fun r => r.seq == q && !r.torn) = none :=
    List.find?_eq_none.mpr fun r hr => by simp [h r hr]
  have hany : (KMap.vals g.recs).any (fun r => r.seq == q) = false := List.any_eq_false.mpr fun r hr => by simp [h r hr]
  simp [Ledger.readSeq, hfind, hany]

/-- A SEQ whose records are all torn reads as torn. -/
theorem Ledger.readSeq_torn {g : Ledger} {q : Nat} (hsome : ∃ r, r ∈ KMap.vals g.recs ∧ r.seq = q)
    (htorn : ∀ r, r ∈ KMap.vals g.recs → r.seq = q → r.torn = true) : g.readSeq q = (2, none) := by
  have hfind : (KMap.vals g.recs).find? (fun r => r.seq == q && !r.torn) = none :=
    List.find?_eq_none.mpr fun r hr hhit => by
      obtain ⟨hseq, hwhole⟩ := Bool.and_eq_true_iff.mp hhit
      simp [htorn r hr (eq_of_beq hseq)] at hwhole
  obtain ⟨r, hr, hseq⟩ := hsome
  have hany : (KMap.vals g.recs).any (fun r => r.seq == q) = true := List.any_eq_true.mpr ⟨r, hr, beq_iff_eq.mpr hseq⟩
  simp [Ledger.readSeq, hfind, hany]

/-! ### The endpoint's readers (R539) -/

/-- Without AUX the endpoint answers nothing. -/
theorem Device.answerEp_auxLost (h : d.power.auxOk = false) (code status : Nat) (data : List Nat) : d.answerEp code status data = d :=
  if_neg (by simp [h])

/-- LDG_READ of no record, or of more than its bus carries, is BAD_ARG. -/
theorem Device.ldgRead_badArg {s : Bool} {n : Nat} (q : Nat) (h : n = 0 ∨ 4 < n ∨ (s = true ∧ n = 4)) : d.ldgRead s q n = d.answerEp 0x21 3 [] := by
  refine if_pos ?_
  rcases h with h | h | ⟨rfl, rfl⟩
  · exact .inl h
  · exact .inr (by split <;> omega)
  · exact .inr (by decide)

/-- LDG_READ answers the records that are present, with the worst status of them all. -/
theorem Device.ldgRead_eq {s : Bool} {q n : Nat} {rs : List (Nat × Option Record)} (h0 : 0 < n) (h : n ≤ 3 ∨ (s = false ∧ n = 4))
    (hrs : rs = (List.range n).map (fun i => d.ldg.readSeq (q + i))) : d.ldgRead s q n =
    d.answerEp 0x21 (if rs.any (fun r => r.1 == 2) then 2 else if rs.any (fun r => r.1 == 1) then 1 else 0)
      (rs.flatMap (fun r => (r.2.map Record.bytes).getD [])) := by
  have hbytes (r : Nat × Option Record) : (match r.2 with | some x => x.bytes | none => []) = (r.2.map Record.bytes).getD [] := by
    cases r.2 <;> rfl
  have hfits : ¬(n = 0 ∨ (if s then 3 else 4) < n) := by
    rcases h with h | ⟨rfl, rfl⟩
    · cases s <;> simp <;> omega
    · decide
  rw [hrs, ← funext hbytes]
  exact if_neg hfits

/-- LDG_READ answers something whatever it is asked, so it answers nothing without AUX. -/
theorem Device.ldgRead_auxLost (haux : d.power.auxOk = false) (s : Bool) (q n : Nat) : d.ldgRead s q n = d := by
  simp only [Device.ldgRead, Device.answerEp_auxLost haux, ite_self]

/-- The last-words ring is read by place. -/
theorem Device.ldgLast_eq (i : Nat) : d.ldgLast i = if 64 ≤ i then d.answerEp 0x22 3 []
    else d.answerEp 0x22 (if d.ldg.lastWords[i]?.isSome then 0 else 1) ((d.ldg.lastWords[i]?.map Record.bytes).getD []) := by
  unfold Device.ldgLast Ledger.readLast
  cases d.ldg.lastWords[i]? <;> rfl

theorem Device.ldgLast_auxLost (haux : d.power.auxOk = false) (i : Nat) : d.ldgLast i = d := by
  simp only [Device.ldgLast_eq, Device.answerEp_auxLost haux, ite_self]

theorem Device.sectorMap_auxLost (haux : d.power.auxOk = false) (f : Nat) : d.sectorMap f = d := by
  simp only [Device.sectorMap, Device.answerEp_auxLost haux, ite_self]

/-- The snapshot tells its age, and is stale while the Strongbox does not see the collector. -/
theorem Device.fcSnapshot_eq : d.fcSnapshot = d.answerEp 0x23 0 (leBytes 16 d.fc.snapshot.toNat ++
    leBytes 4 (min ((d.power.aon - d.fc.snapshotAt) / 1000) (2 ^ 32 - 1)) ++ [if d.strongboxSees then 0 else 1]) := by
  unfold Device.fcSnapshot
  cases d.strongboxSees <;> rfl

/-! ### RD_CMD and NOTE_CMD (R538) -/

section
variable {last : Bool} {i st : Nat} {r : Option Record} {e : Device}
  (he : e = (d.setReg LEDGER.RD_CMD.LAST_WORDS (if last = true then 1 else 0)).setReg LEDGER.RD_CMD.INDEX i)
  (hread : (if last = true then e.ldg.readLast (i % 64) else e.ldg.readSeq (e.regPair LEDGER.RD_SEQ_LO.SEQ LEDGER.RD_SEQ_HI.SEQ)) = (st, r))
include he hread

/-- Where there is no record to copy, RD_CMD sets its RESULT alone. -/
theorem Device.rdStart_absent (hr : r = none) : d.rdStart last i = e.setReg LEDGER.RD_CMD.RESULT st := by
  unfold Device.rdStart
  extract_lets e'
  obtain rfl : e = e' := he
  rw [hread, hr]

/-- A record is copied to RD_DATA. -/
theorem Device.rdStart_copies {x : Record} (hr : r = some x) : d.rdStart last i =
    (rdData.zip (chunk 4 16 x.bytes)).foldl (fun (e : Device) x => e.setReg x.1 (ofLe x.2)) (e.setReg LEDGER.RD_CMD.RESULT st) := by
  unfold Device.rdStart
  extract_lets e'
  obtain rfl : e = e' := he
  rw [hread, hr]

end

/-- A note beyond 100 in its second is dropped and counted; an earlier one is recorded. -/
theorem Device.noteAppend_eq {g : Ledger} {det : List Nat}
    (hg : g = (if d.ldg.noteSecond = d.power.aon / 10 ^ 9 then d.ldg else { d.ldg with noteSecond := d.power.aon / 10 ^ 9, notes := 0 }))
    (hdet : det = noteData.flatMap (fun f => leBytes 4 (d.reg f))) : d.noteAppend =
    if 100 ≤ g.notes then ({ d with ldg := g } : Device).countSat LEDGER.NOTES_DROPPED.COUNT
    else ({ d with ldg := { g with notes := g.notes + 1 } } : Device).record
      { seq := 0, time := 0, type := 0x00F0, source := 0xFF, cls := 0, pageId := 0, detail := det } det := by
  rw [hg, hdet]
  rfl

end

/-! ### The obligation -/

/-- Settles O39: the record at the front of the queue, the ranges of the readers and what the ring holds tell which case a command is. -/
theorem ledgerWriterAndReaders : Obligations.LedgerWriterAndReaders := by
  unfold Obligations.LedgerWriterAndReaders
  intro d w
  refine ⟨?_, ?_, ?_, ?_, ?_, ?_, ?_, ?_⟩
  · exact fun ok hempty => leads_of_exec rfl (Device.programmed_empty hempty ok)
  · intro r rest sec n g hqueue hsec hn hg
    obtain ⟨hrest, hrecs⟩ := Ledger.pushLast_advance_keeps
      { d.ldg with counts := KMap.put d.ldg.counts sec n, queue := rest, recs := KMap.put d.ldg.recs (64 * d.ldg.pos + d.ldg.slot) r } r
    have hprog := Device.programmed_verified hqueue hsec hn hg rfl
    refine ⟨hg ▸ hrest, ?_, fun hseq hlife => ?_, fun hseq hlife => ?_, fun hseq hlife => ?_, fun hseq hlife => ?_,
      leads_of_exec rfl (Device.programmed_failed hqueue hsec hn)⟩
    · rw [hg, hrecs]
      exact KMap.find_put_self ..
    · exact leads_of_exec rfl (hprog.trans (by rw [if_neg (Nat.not_le.mpr hlife), if_neg hseq]))
    · exact leads_of_exec rfl (hprog.trans (by rw [if_pos hlife, if_neg hseq]))
    · exact leads_of_exec rfl (hprog.trans (by rw [if_neg (Nat.not_le.mpr hlife), if_pos hseq]))
    · exact leads_of_exec rfl (hprog.trans (by rw [if_pos hlife, if_pos hseq]))
  · exact fun haux => ⟨leads_of_exec rfl (Device.answerEp_auxLost haux _ _ _), fun s q n => leads_of_exec rfl (Device.ldgRead_auxLost haux s q n),
      fun i => leads_of_exec rfl (Device.ldgLast_auxLost haux i), leads_of_exec rfl (Device.answerEp_auxLost haux _ _ _),
      fun f => leads_of_exec rfl (Device.sectorMap_auxLost haux f)⟩
  · intro haux
    have answer (code st : Nat) (data : List Nat) : d.answerEp code st data = d.send (.endpoint code st data) := d.answerEp_eq_send code st data haux
    refine ⟨?_, fun s q n h => ?_, ?_, fun i hi => ?_, fun i r hi hr => ?_, fun i hi hr => ?_, ?_, fun f hf => ?_, fun f hf => ?_⟩
    · exact leads_of_exec rfl (answer _ _ _)
    · exact leads_of_exec rfl ((Device.ldgRead_badArg q h).trans (answer _ _ _))
    · intro s q n rs b h0 h hrs hb
      have hread := (Device.ldgRead_eq h0 h hrs).trans (answer _ _ _)
      rw [← hb] at hread
      exact ⟨fun htorn => leads_of_exec rfl (hread.trans (by rw [htorn]; rfl)),
        fun hwhole habsent => leads_of_exec rfl (hread.trans (by rw [hwhole, habsent]; rfl)),
        fun hwhole hall => leads_of_exec rfl (hread.trans (by rw [hwhole, hall]; rfl))⟩
    · exact leads_of_exec rfl ((Device.ldgLast_eq i).trans ((if_pos hi).trans (answer _ _ _)))
    · exact leads_of_exec rfl ((Device.ldgLast_eq i).trans ((if_neg (Nat.not_le.mpr hi)).trans (by rw [hr]; exact answer _ _ _)))
    · exact leads_of_exec rfl ((Device.ldgLast_eq i).trans ((if_neg (Nat.not_le.mpr hi)).trans (by rw [hr]; exact answer _ _ _)))
    · exact leads_of_exec rfl (Device.fcSnapshot_eq.trans (answer _ _ _))
    · exact leads_of_exec rfl ((if_pos (by omega)).trans (answer _ _ _))
    · exact leads_of_exec rfl ((if_neg (by omega)).trans (answer _ _ _))
  · exact fun last i e st r he hread => ⟨fun hr => leads_of_exec rfl (Device.rdStart_absent he hread hr),
      fun x hr => leads_of_exec rfl (Device.rdStart_copies he hread hr)⟩
  · exact fun g q => Ledger.readSeq_absent
  · exact fun g q => Ledger.readSeq_torn
  · exact fun g hg => ⟨fun hmany => leads_of_exec rfl ((Device.noteAppend_eq hg rfl).trans (if_pos hmany)),
      fun hfew det hdet => leads_of_exec rfl ((Device.noteAppend_eq hg hdet).trans (if_neg (Nat.not_le.mpr hfew)))⟩

end Sys2Proof.Machine
end

section
/-! PROOFS. EVT_CLR and ERR_CLR clear by sequence (R645). Both are words of the header of a page; a UC flag that ERR_CLR takes is handed to
the ledger as a record (R528; that the clear comes first is log entry 103). -/

namespace Sys2Proof.Machine

section
variable {d : Device} {ag : Agent} {p : Page} {i v : Nat}

/-! ### The two words of a header -/

/-- A write that reaches the header of a page is that of its word. -/
theorem Device.writeReg_header {n off : Nat} (hoff : off < 0x20) (hp : d.pageAt (4096 * n + off) = some (p, i)) (hr : d.reaches ag p i = true)
    (hs : d.pageInReset p i = false) (hv : v < 2 ^ 32) : d.writeReg ag (4096 * n + off) v = d.writeHeader ag p i off v := by
  have hword : (4096 * n + off) % 4096 = off := by omega
  rw [Device.writeReg_reached v hp hr hs, hword, Nat.mod_eq_of_lt hv]
  exact d.writePage_header ag i v (by omega) (.inr (by omega))

/-! ### What the ledger is told of a cleared UC flag (R528) -/

/-- The UC_CLEARED record at a time of a flag of a page that read as `h`: how long the flag was set, and who cleared it. -/
def ucClearedRecord (h : PageHdr) (p : Page) (i : Nat) (ag : Agent) (t b : Nat) : Record :=
  { seq := 0, time := 0, type := 0x0013, source := sourceByte p i b, cls := 2, pageId := p.idWord i,
    detail := b :: (leBytes 4 (min ((t - KMap.get h.setAt t b) / 1000) (2 ^ 32 - 1)) ++ [agentCode ag]) }

/-- No time passes while records are handed to the ledger. -/
theorem foldl_record_time (mk : Nat → Nat → Record) {t : Nat} (l : List Nat) {e : Device} (he : e.time = t) :
    l.foldl (fun (e : Device) b => e.record (mk e.time b) ((mk e.time b).detail.drop 1)) e =
      (l.map (mk t)).foldl (fun (e : Device) r => e.record r (r.detail.drop 1)) e := by
  induction l generalizing e with
  | nil => rfl
  | cons b l ih =>
    have hkeeps : (e.record (mk t b) ((mk t b).detail.drop 1)).time = t := by
      obtain ⟨-, -, -, -, -, -, -, -, -, -, -, -, -, -, -, htime⟩ := (Device.record_reports e (mk t b) ((mk t b).detail.drop 1)).keeps
      rw [htime, he]
    rw [List.foldl_cons, List.map_cons, List.foldl_cons, he]
    exact ih hkeeps

/-- The UC flags that are set on a page. -/
def Device.ucFlags (d : Device) (p : Page) (i : Nat) : List Nat :=
  (onesOf 32 (d.page p i).err.toNat).filter (fun b => flagClass d.fc.testCls p b = .uc)

/-- A clear with the current sequence clears the page and then hands the ledger a record for each UC flag that was set. -/
theorem Device.clearErr_current {seq : Nat} (h : seq = (d.page p i).errSeq.toNat) : d.clearErr p i seq ag =
    ((d.ucFlags p i).map (ucClearedRecord (d.page p i) p i ag d.time)).foldl (fun (e : Device) r => e.record r (r.detail.drop 1))
      (d.setPage p i { d.page p i with err := 0, accErr := false, accRefused := false, setAt := [] }) := by
  rw [← foldl_record_time _ _ (Device.setPage_time ..)]
  unfold Device.clearErr
  rw [if_pos h]
  rfl

end

/-! ### The obligation -/

/-- Settles O53: the write is that of a word of the header, and its upper half decides. -/
theorem clearBySequence : Obligations.ClearBySequence := by
  unfold Obligations.ClearBySequence
  intro d w ag n v p i hv hr hs
  refine ⟨fun hp => ?_, fun hp => ?_⟩
  · have hwrite : d.writeReg ag (4096 * n + 0x10) v = d.clearEvt p i (v / 65536) := Device.writeReg_header (by decide) hp hr hs hv
    exact ⟨fun hseq => leads_of_exec rfl (hwrite.trans (if_pos hseq)), fun hseq => leads_of_exec rfl (hwrite.trans (if_neg hseq))⟩
  · have hwrite : d.writeReg ag (4096 * n + 0x1C) v = d.clearErr p i (v / 65536) ag := Device.writeReg_header (by decide) hp hr hs hv
    refine ⟨fun hseq => ⟨(d.ucFlags p i).map (ucClearedRecord (d.page p i) p i ag d.time), ?_, ?_, leads_of_exec rfl (hwrite.trans (Device.clearErr_current hseq))⟩,
      fun hseq => leads_of_exec rfl (hwrite.trans (if_neg hseq))⟩
    · rw [List.map_map]
      exact List.map_id _
    · intro r hr
      obtain ⟨b, -, rfl⟩ := List.mem_map.mp hr
      exact ⟨rfl, rfl, rfl⟩

end Sys2Proof.Machine
end

section
/-! PROOFS. The Mint (R545), the rekey sweep (R547 to R552) and firmware commands (R562 to R566). -/

namespace Sys2Proof.Machine

section
variable {d : Device}

/-! ### The Mint (R545, R547) -/

/-- The output resumes, and an empty slot 0 in force gets its key. -/
theorem Device.mintResumes_eq : d.mintResumes =
    if d.reg MINT.KEY_STAT.CUR_SLOT = 0 ∧ d.sec.key0 = 0 then
      { d with sec := { d.sec with outOk := true, key0 := d.sec.keysMade + 1, keysMade := d.sec.keysMade + 1 } }
    else { d with sec := { d.sec with outOk := true } } := rfl

/-! ### The rekey sweep (R547 to R552) -/

/-- A rekey starts in service, with none running and the Mint up; else it is refused. -/
theorem Device.rekeyStart_refused (h : d.serving = false ∨ d.reg MINT.REKEY_STAT.PHASE ≠ 0 ∨ d.mintOk = false) :
    d.rekeyStart = d.raise MINT.flag.REKEY_REFUSED 0 [] [] false := by
  refine if_neg ?_
  rcases h with h | h | h <;> simp [h]

theorem Device.rekeyStart_starts {slot n : Nat} (hserves : d.serving = true) (hphase : d.reg MINT.REKEY_STAT.PHASE = 0) (hmint : d.mintOk = true)
    (hslot : slot = 1 - d.reg MINT.KEY_STAT.CUR_SLOT) (hn : n = d.sec.keysMade + 1) : d.rekeyStart =
    (((({ d with sec := { d.sec.withKey slot n with keysMade := n } } : Device).setRekeyPtr 0).setReg MINT.REKEY_STAT.PHASE 1).secEvent
      105 0x20 0 0 0) := by
  subst hslot hn
  exact if_pos (by simp [hserves, hphase, hmint])

/-- A step outside the sweep, or with a channel retraining, changes nothing. -/
theorem Device.rekeyStep_eq_self (h : d.reg MINT.REKEY_STAT.PHASE ≠ 1 ∨ (∃ c, c < 16 ∧ (d.chan c).state = .retraining)) : d.rekeyStep = d :=
  if_pos (h.imp_right fun ⟨c, hc, hstate⟩ => List.any_eq_true.mpr ⟨c, List.mem_range.mpr hc, beq_iff_eq.mpr hstate⟩)

/-- A unit of the sweep has been rewritten: after the last one DRAIN begins and the current slot flips. -/
def Device.sweepGoesOn (d : Device) (unit : Nat) : Device :=
  if d.nloaf + 2 ^ 20 ≤ unit + 1 then
    ((d.setReg MINT.REKEY_STAT.PHASE 2).setReg MINT.KEY_STAT.CUR_SLOT (1 - d.reg MINT.KEY_STAT.CUR_SLOT)).secEvent 105 0x21 0 0 0
  else d

/-- Another step rewrites the bursts of its unit and moves on. -/
theorem Device.rekeyStep_sweeps {e : Device} (hphase : d.reg MINT.REKEY_STAT.PHASE = 1) (hchans : ∀ c, c < 16 → (d.chan c).state ≠ .retraining)
    (he : e = (d.sweepBursts d.rekeyPtr).foldl (fun (e : Device) x => e.rewriteBurst x.1 (d.reg MINT.REKEY_CTL.CLASS) x.2)
      (d.setRekeyPtr (d.rekeyPtr + 1))) : d.rekeyStep = e.sweepGoesOn d.rekeyPtr := by
  have hfree : ¬(d.reg MINT.REKEY_STAT.PHASE ≠ 1 ∨ (List.range 16).any (fun c => (d.chan c).state == .retraining) = true) := by
    simpa [hphase] using hchans
  rw [he]
  exact if_neg hfree

/-- The end of a drain outside DRAIN, or with the old slot still queued, changes nothing. -/
theorem Device.rekeyEnd_eq_self (h : d.reg MINT.REKEY_STAT.PHASE ≠ 2 ∨ d.slotQueued (1 - d.reg MINT.KEY_STAT.CUR_SLOT) = true) : d.rekeyEnd = d :=
  if_pos h

/-- Otherwise the old slot is zeroised, counted and reported. -/
theorem Device.rekeyEnd_ends {old : Nat} {e : Device} (hphase : d.reg MINT.REKEY_STAT.PHASE = 2) (hold : old = 1 - d.reg MINT.KEY_STAT.CUR_SLOT)
    (hqueue : d.slotQueued old = false)
    (he : e = (((({ d with sec := d.sec.withKey old 0 } : Device).setReg MINT.REKEY_STAT.PHASE 0).countSat MINT.KEY_GEN.COUNT).countSat
      MINT.REKEYS.COUNT)) :
    d.rekeyEnd = ((e.evt MINT.flag.REKEY_DONE).evt MINT.flag.KEY_ZEROISED).secEvent 105 0x22 0 0 0 := by
  rw [he, hold]
  exact if_neg (by rw [← hold]; simp [hphase, hqueue])

/-! ### CONFIRM and COMMIT (R562, R565) -/

/-- With no image neither does anything. -/
theorem Device.fw_noImage (h : d.sec.run = none) (ok : Bool) : d.fwConfirm = d ∧ d.fwCommit ok = d := by
  simp only [Device.fwConfirm, Device.fwCommit, h, and_self]

section
variable {r : RunImage} (hrun : d.sec.run = some r)
include hrun

/-- CONFIRM makes the running slot the boot slot, and its trial ends. -/
theorem Device.fwConfirm_eq : d.fwConfirm =
    ({ d with sec := { d.sec with bootSlot := r.slot, trial := false, run := some { r with trial := false } } } : Device).setReg
      FWSEC.FW_CMD.RESULT 0 := by
  unfold Device.fwConfirm
  rw [hrun]
  rfl

/-- COMMIT of a trial is RESULT 1. -/
theorem Device.fwCommit_trial (htrial : r.trial = true) (ok : Bool) : d.fwCommit ok = d.setReg FWSEC.FW_CMD.RESULT 1 := by
  unfold Device.fwCommit
  rw [hrun]
  exact if_pos htrial

section
variable (htrial : r.trial = false) {e : Device}
include htrial

/-- COMMIT of a confirmed image raises the anti-rollback count and revokes the signers of its mask. -/
theorem Device.fwCommit_blows (he : e = { d with sec := { d.sec with
      arbC := d.sec.arbC + (r.secVer - d.sec.arbC), revoked := (d.sec.revoked ++ maskSlots r.revokeMask).eraseDups } }) :
    d.fwCommit true = ((e.setReg FWSEC.FW_CMD.RESULT 0).evt FWSEC.flag.COMMITTED).secEvent 105 0x23 0 0 e.sec.arbC := by
  subst he
  unfold Device.fwCommit
  rw [hrun]
  exact if_neg (by simp [htrial])

/-- Where the blow verify fails it sets RESULT 2 and is a fault; how far it came is a free value (log entry 88). -/
theorem Device.fwCommit_fails {f : Nat} (hf : f = Config.freeNat d.fresh) (he : e = { d.nextFree with sec := { d.sec with
      arbC := d.sec.arbC + f % (r.secVer - d.sec.arbC + 1),
      revoked := (d.sec.revoked ++ (maskSlots r.revokeMask).filter (fun i => bitOf (f / 256) i)).eraseDups } }) :
    d.fwCommit false = (e.setReg FWSEC.FW_CMD.RESULT 2).secFault MINT.flag.OTP_FAULT 0x11 0 0 0 := by
  subst he hf
  unfold Device.fwCommit
  rw [hrun]
  exact if_neg (by simp [htrial])

end

end

/-! ### Firmware commands of the endpoint (R564) -/

/-- With the Hub up an endpoint command does what it is for. -/
theorem Device.epHub_up (h : d.hubUp = true) (code : Nat) (f : Device → Device) : d.epHub code f = f d := if_pos h

/-- Without the Hub it is REFUSED. -/
theorem Device.epHub_down (h : d.hubUp = false) (code : Nat) (f : Device → Device) : d.epHub code f = d.answerEp code 1 [] :=
  if_neg (by simp [h])

section
variable {s o : Nat} {b : List Nat}

/-- Out of range is BAD_ARG. -/
theorem Device.epWrite_badArg (hup : d.hubUp = true) (h : 64 < b.length ∨ 2 ≤ s ∨ 0x2000000 < o + b.length) :
    d.epWrite s o b = d.answerEp 0x30 3 [] := by
  refine (Device.epHub_up hup _ _).trans ?_
  rcases h with h | h
  · exact if_pos h
  · have hbad : d.fwWrite s o b = (d, 3) := if_pos h
    simp only [hbad, ite_self]

/-- In range the write answers what the flash does with it. -/
theorem Device.epWrite_eq (hup : d.hubUp = true) (hlen : b.length ≤ 64) (hs : s < 2) (ho : o + b.length ≤ 0x2000000) : d.epWrite s o b =
    if s = d.runSlot then d.answerEp 0x30 1 []
    else ({ d with sec := { d.sec with flash := Memory.setBytes d.sec.flash (slotBase s + o) b } } : Device).answerEp 0x30 0 [] := by
  refine (Device.epHub_up hup _ _).trans ((if_neg (Nat.not_lt.mpr hlen)).trans ?_)
  have hrange : ¬(2 ≤ s ∨ 0x2000000 < o + b.length) := by omega
  by_cases hrun : s = d.runSlot
  · have hwrite : d.fwWrite s o b = (d, 1) := (if_neg hrange).trans (if_pos hrun)
    simp only [hwrite, if_pos hrun]
  · have hwrite : d.fwWrite s o b = ({ d with sec := { d.sec with flash := Memory.setBytes d.sec.flash (slotBase s + o) b } }, 0) :=
      (if_neg hrange).trans (if_neg hrun)
    simp only [hwrite, if_neg hrun]

end

/-- Activating a valid image makes its slot the next trial, and another raises IMAGE_REJECT. -/
theorem Device.fwActivate_eq {s : Nat} (hs : s < 2) : d.fwActivate s =
    if d.imageValid s = true then ({ d with sec := { d.sec with nextSlot := s, trial := true } }, 0)
    else (d.secFault SECALM.flag.IMAGE_REJECT 4 0 s 0, 1) := if_neg (Nat.not_le.mpr hs)

end

/-! ### The obligation -/

/-- Settles O46: each command runs its operation, and the phase of the rekey, the running image and the ranges tell which of its cases it is. -/
theorem keysAndFirmware : Obligations.KeysAndFirmware := by
  unfold Obligations.KeysAndFirmware
  intro d w
  refine ⟨?_, ?_, ?_, ?_, ?_, ?_, ?_, ?_, ?_, ?_, ?_, ?_, ?_, ?_⟩
  · exact leads_of_exec rfl rfl
  · exact fun hother => leads_of_exec rfl (Device.mintResumes_eq.trans (if_neg (not_and_or.mpr hother)))
  · exact fun hslot hkey => leads_of_exec rfl (Device.mintResumes_eq.trans (if_pos ⟨hslot, hkey⟩))
  · exact fun hbar => leads_of_exec rfl (Device.rekeyStart_refused hbar)
  · exact fun hserves hphase hmint slot n hslot hn => leads_of_exec rfl (Device.rekeyStart_starts hserves hphase hmint hslot hn)
  · exact fun hstays => leads_of_exec rfl (Device.rekeyStep_eq_self hstays)
  · intro e hphase hchans he
    have hstep := Device.rekeyStep_sweeps hphase hchans he
    refine ⟨fun hmore => leads_of_exec rfl (hstep.trans (if_neg (Nat.not_le.mpr hmore))), ?_⟩
    rintro hlast g rfl
    rw [Device.reg_setReg_ne e 2 (by decide)]
    exact leads_of_exec rfl (hstep.trans (if_pos hlast))
  · exact fun hstays => leads_of_exec rfl (Device.rekeyEnd_eq_self hstays)
  · exact fun hphase old e hold hqueue he => leads_of_exec rfl (Device.rekeyEnd_ends hphase hold hqueue he)
  · exact fun hnone => ⟨leads_of_exec rfl (Device.fw_noImage hnone true).1, fun ok => leads_of_exec rfl (Device.fw_noImage hnone ok).2⟩
  · exact fun r hrun => ⟨leads_of_exec rfl (Device.fwConfirm_eq hrun), fun htrial ok => leads_of_exec rfl (Device.fwCommit_trial hrun htrial ok),
      fun htrial e he => leads_of_exec rfl (Device.fwCommit_blows hrun htrial he),
      fun htrial f e hf he => leads_of_exec rfl (Device.fwCommit_fails hrun htrial hf he)⟩
  · exact fun hdown => ⟨fun s o b => leads_of_exec rfl (Device.epHub_down hdown _ _), fun s => leads_of_exec rfl (Device.epHub_down hdown _ _)⟩
  · intro hup
    refine ⟨fun s o b hbad => leads_of_exec rfl (Device.epWrite_badArg hup hbad),
      fun s o b hlen hs ho hrun => leads_of_exec rfl ((Device.epWrite_eq hup hlen hs ho).trans (if_pos hrun)),
      fun s o b hlen hs ho hrun => leads_of_exec rfl ((Device.epWrite_eq hup hlen hs ho).trans (if_neg hrun)), fun s hs => ?_, fun s hs => ?_⟩
    · refine leads_of_exec rfl ((Device.epHub_up hup _ _).trans ?_)
      rw [Device.fwActivate_eq hs]
      by_cases hvalid : d.imageValid s = true <;> simp only [hvalid, if_true, if_false, Bool.false_eq_true]
    · have hbad : d.fwActivate s = (d, 3) := if_pos hs
      refine leads_of_exec rfl ((Device.epHub_up hup _ _).trans ?_)
      simp only [hbad]
  · exact fun e code st data => ⟨e.answerEp_eq_send code st data, fun haux => Device.answerEp_auxLost haux code st data⟩

end Sys2Proof.Machine
end

section
/-! PROOFS. Debug unlock (R570 to R573), and the TAP with its memory-access port (R568, R574, R674). -/

namespace Sys2Proof.Machine

section
variable {d : Device}

/-! ### The nonce (R570) -/

/-- While the Mint's output is stopped no nonce is drawn. -/
theorem Device.challenge_refused (h : d.mintOk = false) : d.challenge = (d, false) := if_neg (by simp [h])

/-- Otherwise the nonce is stored, and the time at which it was drawn. -/
theorem Device.challenge_draws {e : Device} {b : List Nat} (h : d.mintOk = true) (hdraw : d.draw 16 = (e, b)) :
    d.challenge = ({ (e.setNonce b).setReg FWSEC.DBG_STAT.NONCE_VALID 1 with sec := { e.sec with nonceAt := e.power.aon } }, true) := by
  unfold Device.challenge
  rw [if_pos h, hdraw]
  rfl

/-- A challenge that is not refused tells so. -/
theorem Device.challenge_ok (h : d.mintOk = true) : d.challenge.2 = true := by rw [Device.challenge_draws h rfl]

/-! ### Commands that an agent may give (R571, R652) -/

/-- An operation on two conditions happens where both hold. -/
theorem ite_and_eq_left {α : Sort*} {p q : Bool} (hp : p = true) (hq : q = true) (x y : α) : (if p && q then x else y) = x := if_pos (by simp [hp, hq])

/-- Where one of them does not hold, it does not happen. -/
theorem ite_and_eq_right {α : Sort*} {p q : Bool} (h : p = false ∨ q = false) (x y : α) : (if p && q then x else y) = y := by
  refine if_neg ?_
  rcases h with h | h <;> simp [h]

/-! ### Tokens (R571 to R573) -/

section
variable {o : Nat} {b : List Nat}

/-- A chunk out of range is BAD_ARG. -/
theorem Device.tokenChunk_badArg (hup : d.hubUp = true) (h : 64 < b.length ∨ 3421 < o + b.length) : d.tokenChunk o b = d.answerEp 0x33 3 [] :=
  (Device.epHub_up hup _ _).trans (if_pos h)

/-- A chunk in range is stored, and the one with the last byte submits the token; the answer is the last reason. -/
theorem Device.tokenChunk_stores {e : Device} (hup : d.hubUp = true) (hlen : b.length ≤ 64) (hend : o + b.length ≤ 3421)
    (he : e = if o + b.length = 3421 then (d.storeToken o b).submit else d.storeToken o b) :
    d.tokenChunk o b = e.answerEp 0x33 0 [e.reg FWSEC.DBG_STAT.REASON] := by
  rw [he]
  exact (Device.epHub_up hup _ _).trans (if_neg (by omega))

end

/-- In LOCKOUT every token is refused with reason 7. -/
theorem Device.tokenReason_lockout (h : d.reg FWSEC.DBG_STAT.LOCKOUT = 1) (t : List Nat) : d.tokenReason t = 7 := if_pos h

/-- A submit consumes the token and its nonce and stores the reason; a good token opens its scopes, another counts a failure, and the eighth
failure locks out. -/
theorem Device.submit_eq {why s n : Nat} {e f g : Device} (hwhy : why = d.tokenReason d.tokenBytes)
    (he : e = ((({ d with sec := { d.sec with token := [] } } : Device).dropNonce).setReg FWSEC.DBG_STAT.REASON why))
    (hs : s = d.tokenBytes.getD 5 0) (hf : f = e.setReg FWSEC.DBG_STAT.SCOPE (e.reg FWSEC.DBG_STAT.SCOPE ||| s))
    (hn : n = min (e.reg FWSEC.DBG_STAT.FAILS + 1) 8) (hg : g = e.setReg FWSEC.DBG_STAT.FAILS n) : d.submit =
    if why = 0 then (({ f with sec := { f.sec with scopeSeen := f.sec.scopeSeen ||| s } } : Device).evt FWSEC.flag.DEBUG_UNLOCKED).secEvent
      105 0x24 0 s 0
    else if n < 8 then g.secFault SECALM.flag.TOKEN_REJECT 3 0 why 0
    else (g.setReg FWSEC.DBG_STAT.LOCKOUT 1).secFault SECALM.flag.TOKEN_REJECT 3 0 why 0 := by
  have hlast : (if n = 8 then g.setReg FWSEC.DBG_STAT.LOCKOUT 1 else g).secFault SECALM.flag.TOKEN_REJECT 3 0 why 0 =
      if n < 8 then g.secFault SECALM.flag.TOKEN_REJECT 3 0 why 0
      else (g.setReg FWSEC.DBG_STAT.LOCKOUT 1).secFault SECALM.flag.TOKEN_REJECT 3 0 why 0 := by
    by_cases h : n < 8
    · rw [if_pos h, if_neg (Nat.ne_of_lt h)]
    · rw [if_neg h, if_pos (by omega)]
  rw [← hlast, hg, hn, hf, hs, he, hwhy]
  rfl

/-! ### The TAP (R568, R674) -/

/-- With the JTAG scope open the controller loads the instructions that it has. -/
theorem Device.tapShift_open (h : d.jtagOpen = true) (i : Nat) :
    d.tapShift i = if 1 ≤ i ∧ i ≤ 3 then { d with sec := { d.sec with tapInstr := i } } else d := if_pos h

/-- With the scope locked an instruction raises the alarm. -/
theorem Device.tapShift_locked (h : d.jtagOpen = false) (i : Nat) : d.tapShift i = d.tapLocked := if_neg (by simp [h])

/-! ### The memory-access port (R574) -/

/-- DBG_GO needs the Hub. -/
theorem Device.dbgGo_down (h : d.hubUp = false) (adr dat : Nat) (b : Bool) : d.dbgGo adr dat b = d := if_pos (by simp [h])

/-- With the scope locked it raises the alarm. -/
theorem Device.dbgGo_locked (hup : d.hubUp = true) (h : d.jtagOpen = false) (adr dat : Nat) (b : Bool) : d.dbgGo adr dat b = d.tapLocked :=
  (if_neg (by simp [hup])).trans (if_pos (by simp [h]))

section
variable {adr dat a v : Nat} {b : Bool} {e : Device} (hup : d.hubUp = true) (hopen : d.jtagOpen = true) (ha : a = adr % 2 ^ 48)
  (hv : v = dat % 2 ^ 32) (he : e = { d with sec := { d.sec with tapInstr := 3, tapAddr := a, tapData := v } })
include hup hopen ha hv he

/-- The low bits 2 name the RAW space. -/
theorem Device.dbgGo_raw (h : a % 4 = 2) : d.dbgGo adr dat b = e.dbgRaw (a - 2) v b := by
  subst ha hv
  simp only [Device.dbgGo, hup, hopen, Bool.not_true, Bool.false_eq_true, if_false, h, he, Device.setSec]

/-- The low bits 3 name the REG space. -/
theorem Device.dbgGo_reg (h : a % 4 = 3) : d.dbgGo adr dat b = e.dbgReg (a - 3) v b := by
  subst ha hv
  simp only [Device.dbgGo, hup, hopen, Bool.not_true, Bool.false_eq_true, if_false, h, he, Device.setSec]

/-- The others name no space. -/
theorem Device.dbgGo_other (h : a % 4 = 0 ∨ a % 4 = 1) : d.dbgGo adr dat b = e.dbgEnd b 2 := by
  subst ha hv
  rcases h with h | h <;> simp only [Device.dbgGo, hup, hopen, Bool.not_true, Bool.false_eq_true, if_false, h, he, Device.setSec]

end

/-- In the REG space a write stores its word, and a read brings it. -/
theorem Device.dbgReg_eq {a : Nat} (h : a < 0x800000) (v : Nat) (b : Bool) : d.dbgReg a v b =
    if b then (d.writeReg .debug a v).dbgEnd b 0
    else ({ (d.readReg .debug a).1 with sec := { (d.readReg .debug a).1.sec with tapData := (d.readReg .debug a).2 } } : Device).dbgEnd b 0 :=
  if_neg (Nat.not_le.mpr h)

section
variable {ra v : Nat} {b : Bool} (hin : ra < d.rawBytes)
include hin

/-- A blocked range answers 1. -/
theorem Device.dbgRaw_blocked {r : Nat} (h : d.rawBlocked ra = some r) : d.dbgRaw ra v b = (d.blockedAccess 0 r ra).dbgEnd b 1 := by
  unfold Device.dbgRaw
  rw [if_neg (Nat.not_le.mpr hin), h]

section
variable {f : Device} {x : Line} {n : Bool} (hfree : d.rawBlocked ra = none)
include hfree

/-- A burst that cannot be corrected answers 3. -/
theorem Device.dbgRaw_uncorrectable (h : d.readBurst (64 * (ra / 64)) 0 = (f, x, true, n)) : d.dbgRaw ra v b = f.dbgEnd b 3 := by
  unfold Device.dbgRaw
  rw [if_neg (Nat.not_le.mpr hin), hfree]
  dsimp only
  rw [h]
  rfl

/-- Any other burst gives or takes its four bytes. -/
theorem Device.dbgRaw_good {o : Nat} (h : d.readBurst (64 * (ra / 64)) 0 = (f, x, false, n)) (ho : o = ra % 64) : d.dbgRaw ra v b =
    if b then (f.writeBurst (64 * (ra / 64)) (lineOfBytes ((lineBytes x).take o ++ leBytes 4 v ++ (lineBytes x).drop (o + 4))) false).dbgEnd b 0
    else ({ f with sec := { f.sec with tapData := ofLe (((lineBytes x).drop o).take 4) } } : Device).dbgEnd b 0 := by
  unfold Device.dbgRaw
  rw [if_neg (Nat.not_le.mpr hin), hfree, ho]
  dsimp only
  rw [h]
  rfl

end

end

end

/-! ### The obligation -/

/-- Settles O47: each command runs its operation; the agent, the Hub, the Mint and the open scopes tell which of its cases it is. -/
theorem debugUnlockAndTap : Obligations.DebugUnlockAndTap := by
  unfold Obligations.DebugUnlockAndTap
  intro d w
  refine ⟨?_, ?_, Device.challenge_refused, fun e b => Device.challenge_draws, ?_, ?_, ?_, ?_, ?_, Device.tokenReason_lockout, ?_, ?_, ?_, ?_, ?_, ?_, ?_,
    ?_, ?_⟩
  · exact fun ag hag hup => ⟨leads_of_exec rfl (ite_and_eq_left hag hup _ _), leads_of_exec rfl (ite_and_eq_left hag hup _ _)⟩
  · exact fun ag hbar => ⟨leads_of_exec rfl (ite_and_eq_right hbar _ _), leads_of_exec rfl (ite_and_eq_right hbar _ _)⟩
  · exact fun hdown => ⟨leads_of_exec rfl (Device.epHub_down hdown _ _), fun o b => leads_of_exec rfl (Device.epHub_down hdown _ _)⟩
  · intro hup
    refine ⟨fun hmint => ?_, fun hmint => ?_, fun o b hbad => leads_of_exec rfl (Device.tokenChunk_badArg hup hbad), fun o b e hlen hend he => ?_,
      fun o b e hlen hend he => ?_⟩
    · refine leads_of_exec rfl ((Device.epHub_up hup _ _).trans ?_)
      simp only [Device.challenge_refused hmint, Bool.false_eq_true, if_false]
    · exact leads_of_exec rfl ((Device.epHub_up hup _ _).trans (if_pos (Device.challenge_ok hmint)))
    · exact leads_of_exec rfl (Device.tokenChunk_stores hup hlen (Nat.le_of_lt hend) (he.trans (if_neg (Nat.ne_of_lt hend)).symm))
    · exact leads_of_exec rfl (Device.tokenChunk_stores hup hlen (Nat.le_of_eq hend) (he.trans (if_pos hend).symm))
  · exact fun ag hag hup => leads_of_exec rfl (ite_and_eq_left hag hup _ _)
  · exact fun ag hbar => leads_of_exec rfl (ite_and_eq_right hbar _ _)
  · exact fun why e s f n g => Device.submit_eq
  · exact fun hlive => leads_of_exec rfl (if_pos hlive)
  · exact fun hdead => leads_of_exec rfl (if_neg (by simp [hdead]))
  · exact fun i hopen h1 h3 => leads_of_exec rfl ((Device.tapShift_open hopen i).trans (if_pos ⟨h1, h3⟩))
  · exact fun i hopen hnone => leads_of_exec rfl ((Device.tapShift_open hopen i).trans (if_neg (by omega)))
  · exact fun i hlocked => leads_of_exec rfl (Device.tapShift_locked hlocked i)
  · exact leads_of_exec rfl rfl
  · exact fun hdown a v b => leads_of_exec rfl (Device.dbgGo_down hdown a v b)
  · exact fun hup hlocked a v b => leads_of_exec rfl (Device.dbgGo_locked hup hlocked a v b)
  · intro hup hopen adr dat b a v e ha hv he
    have hraw (h : a % 4 = 2) : d.dbgGo adr dat b = e.dbgRaw (a - 2) v b := Device.dbgGo_raw hup hopen ha hv he h
    have hreg (h : a % 4 = 3) : d.dbgGo adr dat b = e.dbgReg (a - 3) v b := Device.dbgGo_reg hup hopen ha hv he h
    refine ⟨fun h => leads_of_exec rfl (Device.dbgGo_other hup hopen ha hv he h), fun h hout => leads_of_exec rfl ((hreg h).trans (if_pos hout)),
      fun h hin => ⟨?_, ?_⟩, fun h hout => leads_of_exec rfl ((hraw h).trans (if_pos hout)),
      fun r h hin hblocked => leads_of_exec rfl ((hraw h).trans (Device.dbgRaw_blocked hin hblocked)), ?_⟩
    · rintro rfl
      exact leads_of_exec rfl ((hreg h).trans (Device.dbgReg_eq hin v true))
    · rintro f rfl hf
      refine leads_of_exec rfl ((hreg h).trans ((Device.dbgReg_eq hin v false).trans ?_))
      rw [hf]
      rfl
    · intro f x bad n o h hin hfree hread ho
      refine ⟨?_, ?_, ?_⟩
      · rintro rfl
        exact leads_of_exec rfl ((hraw h).trans (Device.dbgRaw_uncorrectable hin hfree hread))
      · rintro rfl rfl
        exact leads_of_exec rfl ((hraw h).trans (Device.dbgRaw_good hin hfree hread ho))
      · rintro rfl rfl
        exact leads_of_exec rfl ((hraw h).trans (Device.dbgRaw_good hin hfree hread ho))

end Sys2Proof.Machine
end

section
/-! PROOFS. The switched supply (R608 to R621): what a measurement, a trip and each of its timers does. -/

namespace Sys2Proof.Machine

section
variable {d e : Device} {i v : Nat}

/-! ### The ramp and BLADE_PG (R616, R617) -/

/-- A complete ramp leads to ON. -/
theorem Device.rampEnds_eq (he : e = d.measured2 i v) (hramp : d.power.hsw.state = .ramp) (hv : d.power.hsw.vin ≤ v + 100) :
    d.rampEnds i v = { e with power := { e.power with hsw := { e.power.hsw with state := .on } } } := by
  subst he
  exact if_pos ⟨hramp, hv⟩

/-- Outside a ramp, or before its end, the measurements are only stored. -/
theorem Device.rampEnds_stores (he : e = d.measured2 i v) (h : d.power.hsw.state ≠ .ramp ∨ v + 100 < d.power.hsw.vin) : d.rampEnds i v = e := by
  subst he
  exact if_neg (not_and_or.mpr (h.imp_right Nat.not_le.mpr))

/-- A qualified output in ON, out of limit, raises BLADE_PG. -/
theorem Device.pgRises_eq (he : e = d.measured2 i v) (hon : d.power.hsw.state = .on) (hout : e.outputOk = true) (hlim : e.inLimit = false) :
    d.pgRises i v =
      (({ e with power := { e.power with hsw := { e.power.hsw with state := .pg, pgAt := d.power.aon } } } : Device).evt HSW.flag.PG_ON) := by
  subst he
  exact if_pos ⟨hon, hout, hlim⟩

/-- Where one of its conditions fails, the measurements are only stored. -/
theorem Device.pgRises_stores (he : e = d.measured2 i v) (h : d.power.hsw.state ≠ .on ∨ e.outputOk = false ∨ e.inLimit = true) :
    d.pgRises i v = e := by
  subst he
  refine if_neg ?_
  rintro ⟨hon, hout, hlim⟩
  rcases h with h | h | h
  · exact h hon
  · exact ne_true_of_eq_false h hout
  · exact ne_true_of_eq_false hlim h

/-- With the output in its window, or without BLADE_PG, the measurement is only stored. -/
theorem Device.windowLost_stores (h : d.power.hsw.state ≠ .pg ∨ (d.measured2 d.power.hsw.iout v).outputOk = true) :
    d.windowLost v = d.measured2 d.power.hsw.iout v := by
  refine if_neg ?_
  rintro ⟨hpg, hout⟩
  rcases h with h | h
  · exact h hpg
  · exact ne_true_of_eq_false hout h

/-- A window lost in PG drops main power, and the supply waits in ON for a new qualification. -/
theorem Device.windowLost_eq {f : Device} (hpg : d.power.hsw.state = .pg) (hout : (d.measured2 d.power.hsw.iout v).outputOk = false)
    (hf : f = ((d.measured2 d.power.hsw.iout v).evt HSW.flag.PG_OFF).mainOff) :
    d.windowLost v = { f with power := { f.power with hsw := { f.power.hsw with state := .on, prevOff := 5, startCause := 4 } } } := by
  rw [hf]
  exact if_pos ⟨hpg, hout⟩

/-! ### Trips (R610 to R615, R618) -/

/-- A trip on measurements whose condition holds. -/
theorem Device.tripOn_trips {cond : Device → Bool} (he : e = d.measured2 i v) (c : Nat) (h : cond e = true) : d.tripOn i v c cond = e.trip c := by
  subst he
  exact if_pos h

/-- Where the condition fails, the measurements are only stored. -/
theorem Device.tripOn_stores {cond : Device → Bool} (he : e = d.measured2 i v) (c : Nat) (h : cond e = false) : d.tripOn i v c cond = e := by
  subst he
  exact if_neg (ne_true_of_eq_false h)

/-- With the gate off no trip happens. -/
theorem Device.trip_gateOff {c : Nat} (h : d.power.hsw.gate = false) : d.trip c = d := if_pos (by simp [h])

/-- A trip with the gate on, once the device has withdrawn and the gate is off as `g`: the count `n`, its record in `k`, and then the retry
wait or the lockout, whose state HSW_STAT shows. -/
theorem Device.trip_eq {c n : Nat} {g k m : Device} (hgate : d.power.hsw.gate = true) (hg : g = (d.withdraw 3).gateDown 1)
    (hn : n = min (g.reg HSW.HSW_STAT.TRIP_COUNT + 1) 4)
    (hk : k = ((((g.setReg HSW.HSW_STAT.TRIP_COUNT n).setReg HSW.HSW_STAT.LAST_TRIP c).countSat HSW.TRIPS.COUNT).evt HSW.flag.TRIPPED).powerRecord
      ([0x01, c] ++ leBytes 2 (d.power.hsw.iout / 10) ++ leBytes 2 (d.power.hsw.vout / 10)) [c])
    (hm : m = if n < 4 then k.setHsw { k.power.hsw with retryAt := some (k.power.aon + k.retryDelay) }
      else ((k.setHsw { k.power.hsw with locked := true, retryAt := none }).evt HSW.flag.LOCKOUT).powerRecord [0x03] []) :
    d.trip c = m.setHsw { m.power.hsw with state := m.power.hsw.idle } := by
  rw [hm, hk, hn, hg]
  exact if_neg (by simp [hgate])

/-- With a measured FET temperature in range, 150 °C and above trips the supply. -/
theorem fetMeas_inRange {α : Sort*} {t : Int} (h : -40 ≤ t) (h' : t ≤ 200) (x y : α) : (if t < -40 ∨ 200 < t then x else y) = y :=
  if_neg (by omega)

/-! ### Retries and timers (R618 to R621) -/

/-- A retry that is due and recognised, without a lockout, turns the FET on where R608 lets it. -/
theorem Device.retryDue_eq {t : Nat} (hret : d.power.hsw.retryAt = some t) (ht : t ≤ d.power.aon) (hrec : d.power.hsw.recognised = true)
    (hlock : d.power.hsw.locked = false) :
    d.retryDue = ({ d with power := { d.power with hsw := { d.power.hsw with retryAt := none, startCause := 1 } } } : Device).turnOn :=
  if_pos (by simp [hret, ht, hrec, hlock])

/-- Without a retry that is due, before the blade is recognised and in LOCKOUT nothing happens. -/
theorem Device.retryDue_eq_self (h : d.power.hsw.retryAt = none ∨ (∃ t, d.power.hsw.retryAt = some t ∧ d.power.aon < t) ∨
    d.power.hsw.recognised = false ∨ d.power.hsw.locked = true) : d.retryDue = d := by
  refine if_neg ?_
  rcases h with h | ⟨t, h, ht⟩ | h | h
  · simp [h]
  · simp [h, Nat.not_le.mpr ht]
  · simp [h]
  · simp [h]

end

/-- Settles O44: each operation of the supply by its condition; a trip once over the device that has withdrawn. -/
theorem hotSwapSupply : Obligations.HotSwapSupply := by
  unfold Obligations.HotSwapSupply
  intro d w i v e he
  have hilim : e.reg HSW.HSW_CFG.ILIM = d.reg HSW.HSW_CFG.ILIM := by rw [he]; rfl
  have hov : e.reg HSW.HSW_WIN.OV_V = d.reg HSW.HSW_WIN.OV_V := by rw [he]; rfl
  have huv : e.reg HSW.HSW_WIN.UV_V = d.reg HSW.HSW_WIN.UV_V := by rw [he]; rfl
  have hi : e.power.hsw.iout = i := by rw [he]; rfl
  have hv : e.power.hsw.vout = v := by rw [he]; rfl
  have hst : e.power.hsw.state = d.power.hsw.state := by rw [he]; rfl
  refine ⟨?_, ?_, ?_, ?_, ?_, ?_, ?_, ?_, ?_, ?_, ?_, ?_, ?_, ?_, ?_, ?_, ?_, ?_, ?_, ?_, ?_, ?_, ?_, ?_, ?_, ?_, ?_, ?_⟩
  · exact fun hramp hvin => leads_of_exec rfl (Device.rampEnds_eq he hramp hvin)
  · exact fun h => leads_of_exec rfl (Device.rampEnds_stores he h)
  · exact fun hon hout hlim => leads_of_exec rfl (Device.pgRises_eq he hon hout hlim)
  · exact fun h => leads_of_exec rfl (Device.pgRises_stores he h)
  · exact fun h => leads_of_exec rfl (Device.windowLost_stores h)
  · exact fun hpg hout f hf => leads_of_exec rfl (Device.windowLost_eq hpg hout hf)
  · exact fun h => leads_of_exec rfl (Device.tripOn_trips he 1 h)
  · exact fun h => leads_of_exec rfl (Device.tripOn_stores he 1 h)
  · exact fun h => leads_of_exec rfl (Device.tripOn_trips he 2 (by simp [hilim, hi, h]))
  · exact fun h => leads_of_exec rfl (Device.tripOn_stores he 2 (by simp [hilim, hi, h]))
  · rintro t f rfl
    refine ⟨fun hlow hhigh => ?_, fun hlow hhigh => ?_, fun h => leads_of_exec rfl (if_pos h)⟩
    · exact leads_of_exec rfl ((fetMeas_inRange (by omega) hhigh _ _).trans (if_pos hlow))
    · exact leads_of_exec rfl ((fetMeas_inRange hlow (by omega) _ _).trans (if_neg (by omega)))
  · rintro vin t f rfl rfl
    exact ⟨fun h => leads_of_exec rfl (if_pos h), fun h => leads_of_exec rfl (if_neg (Int.not_le.mpr h))⟩
  · exact fun h => leads_of_exec rfl (Device.tripOn_trips he 5 (by simp [hov, hv, h]))
  · exact fun h => leads_of_exec rfl (Device.tripOn_stores he 5 (by simp [hov, hv, h]))
  · exact fun h hs => leads_of_exec rfl (Device.tripOn_trips he 6 (by simp [huv, hv, hst, h, hs]))
  · refine fun h => leads_of_exec rfl (Device.tripOn_stores he 6 ?_)
    rcases h with h | ⟨hon, hpg⟩
    · simp [huv, hv, h]
    · simp [hst, hon, hpg]
  · exact fun h => leads_of_exec rfl ((if_pos h).trans (by rw [he]))
  · exact fun h => leads_of_exec rfl (if_neg h)
  · exact fun f c => Device.trip_gateOff
  · exact fun f c g n k hgate hg hn hk =>
      ⟨fun m hlt hm => Device.trip_eq hgate hg hn hk (hm.trans (if_pos hlt).symm),
       fun m h4 hm => Device.trip_eq hgate hg hn hk (hm.trans (if_neg (by omega)).symm)⟩
  · exact fun h => leads_of_exec rfl (Device.retryDue_eq_self h)
  · exact fun t hret ht hrec hlock => leads_of_exec rfl (Device.retryDue_eq hret ht hrec hlock)
  · exact fun hpg hdue => leads_of_exec rfl (if_pos ⟨hpg, hdue⟩)
  · exact fun h => leads_of_exec rfl (if_neg (not_and_or.mpr (h.imp_right Nat.not_le.mpr)))
  · exact fun hpg => leads_of_exec rfl (if_pos hpg)
  · exact fun hpg => leads_of_exec rfl (if_neg hpg)
  · exact leads_of_exec rfl rfl
  · exact leads_of_exec rfl rfl

end Sys2Proof.Machine
end

section
/-! PROOFS. Insertion and extraction, AUX, the endpoint's power commands (R608, R619 to R625, R629), and block resets (R631 to R643). -/

namespace Sys2Proof.Machine

section
variable {d : Device}

/-! ### Insertion and extraction (R619, R622 to R624) -/

/-- An insertion is recognised 100 ms after PRSNT_L fell, with AUX: a pending retry starts its whole delay again, and the FET may turn on. -/
theorem Device.inserted_eq {r : Option Nat} (hin : d.power.hsw.prsnt = true) (haux : d.power.auxOk = true) (hnew : d.power.hsw.recognised = false)
    (hdue : d.power.hsw.prsntAt + 100 * 10 ^ 6 ≤ d.power.aon)
    (hr : r = if d.power.hsw.retryAt.isSome = true then some (d.power.aon + d.retryDelay) else none) :
    d.inserted =
      ((({ d with power := { d.power with hsw := { d.power.hsw with recognised := true, retryAt := r, startCause := 0 } } } : Device).evt
        HSW.flag.INSERTED).turnOn) := by
  rw [hr]
  exact if_neg (by simpa [hin, haux, hnew] using hdue)

/-- Otherwise nothing is recognised. -/
theorem Device.inserted_eq_self (h : d.power.hsw.prsnt = false ∨ d.power.auxOk = false ∨ d.power.hsw.recognised = true ∨
    d.power.aon < d.power.hsw.prsntAt + 100 * 10 ^ 6) : d.inserted = d := by
  refine if_pos ?_
  rcases h with h | h | h | h
  · simp [h]
  · simp [h]
  · simp [h]
  · simp only [decide_eq_true h, Bool.or_true]

/-- The rise of PRSNT_L withdraws the device and is reported; with AUX good it is recorded. -/
theorem Device.extracted_eq {e : Device} (hin : d.power.hsw.prsnt = true)
    (he : e = (({ d with power := { d.power with hsw := { d.power.hsw with prsnt := false, recognised := false } } } : Device).bladeGoes).evt
      HSW.flag.EXTRACTED) : d.extracted = if e.power.auxOk = true then e.powerRecord [0x05] [] else e := by
  rw [he]
  exact if_neg (by simp [hin])

/-! ### The endpoint's power commands (R620, R635) -/

/-- With AUX present an endpoint command answers after its effect. -/
theorem Device.epDo_auxOk (haux : d.power.auxOk = true) (code : Nat) (f : Device → Device) : d.epDo code f = (f d).answerEp code 0 [] := if_pos haux

/-- Without AUX it does nothing. -/
theorem Device.epDo_auxLost (haux : d.power.auxOk = false) (code : Nat) (f : Device → Device) : d.epDo code f = d := if_neg (ne_true_of_eq_false haux)

/-- ON without an off hold changes nothing. -/
theorem Device.hswOn_eq_self (h : d.power.hsw.offHold = false) : d.hswOn = d := if_neg (ne_true_of_eq_false h)

/-- ON clears the off hold, and the FET turns on where R608 lets it. -/
theorem Device.hswOn_eq (h : d.power.hsw.offHold = true) :
    d.hswOn = ({ d with power := { d.power with hsw := { d.power.hsw with offHold := false, startCause := 3 } } } : Device).turnOn := if_pos h

/-! ### AUX (R625, R629) -/

/-- Nothing is lost with AUX that was lost already. -/
theorem Device.auxLost_eq_self (haux : d.power.auxOk = false) : d.auxLost = d := if_pos (by simp [haux])

/-- After the loss of AUX it is not good. -/
theorem Device.auxLost_auxOk (d : Device) : d.auxLost.power.auxOk = false := by
  cases haux : d.power.auxOk with
  | false => rw [Device.auxLost_eq_self haux, haux]
  | true =>
    unfold Device.auxLost
    rw [if_neg (by simp [haux])]

/-- AUX that is good already does not start again. -/
theorem Device.auxGood_eq_self (haux : d.power.auxOk = true) : d.auxGood = d := if_pos haux

/-- After AUX_GOOD AUX is good. -/
theorem Device.auxGood_auxOk (d : Device) : d.auxGood.power.auxOk = true := by
  cases haux : d.power.auxOk with
  | true => rw [Device.auxGood_eq_self haux, haux]
  | false =>
    unfold Device.auxGood
    rw [if_neg (ne_true_of_eq_false haux)]

/-! ### Block resets (R631, R632) -/

section
variable {c i r : Nat}

/-- What BLK_STAT.RESULT says of a block reset (R631): 0 OK, 1 REFUSED, 2 ABSENT, 3 BUSY. -/
def Device.blkResult (d : Device) (c i : Nat) : Nat :=
  if (blockPages c i).isEmpty = true then 1 else if (d.hw.gradeH && (c == 1 || c == 6 || c == 7)) = true then 2
    else if d.power.blk.contains (c, if 5 ≤ c then 0 else i) = true then 3 else if c = 4 ∧ d.mayRetrain = false then 1 else 0

/-- With the Hub up a block reset stores its result; one that is not refused is recorded and starts. -/
theorem Device.blockReset_eq {g : Device} (hup : d.hubUp = true) (hg : g = (d.setReg RST.BLK_STAT.RESULT (d.blkResult c i)).noteReset 5 0 [c, i]) :
    d.blockReset c i =
      if d.blkResult c i = 0 then (g.setPower { g.power with blk := g.power.blk ++ [(c, if 5 ≤ c then 0 else i)] }).blockStart c i
      else d.setReg RST.BLK_STAT.RESULT (d.blkResult c i) := by
  rw [hg]
  exact if_neg (by simp [hup])

/-- A block reset that is refused only says so. -/
theorem Device.blockReset_refused (hup : d.hubUp = true) (hr : r = d.blkResult c i) (h : r ≠ 0) :
    d.blockReset c i = d.setReg RST.BLK_STAT.RESULT r := by
  subst hr
  exact (Device.blockReset_eq hup rfl).trans (if_neg h)

/-- A block reset that is not refused is recorded and starts. -/
theorem Device.blockReset_starts {g : Device} (hup : d.hubUp = true) (hr : r = d.blkResult c i) (h : r = 0)
    (hg : g = (d.setReg RST.BLK_STAT.RESULT 0).noteReset 5 0 [c, i]) :
    d.blockReset c i = (g.setPower { g.power with blk := g.power.blk ++ [(c, if 5 ≤ c then 0 else i)] }).blockStart c i := by
  have h0 : d.blkResult c i = 0 := hr.symm.trans h
  exact (Device.blockReset_eq hup (by rw [h0, hg])).trans (if_pos h0)

end

/-- The end of a block reset that does not run, or that still waits for commits, changes nothing. -/
theorem Device.blkDone_eq_self {c i : Nat} (h : d.power.blk.contains (c, i) = false ∨ (d.power.blkWait.contains (c, i) = true ∧ d.commitsRun c i = true)) :
    d.blkDone c i = d := by
  refine if_neg ?_
  rcases h with h | ⟨hwait, hrun⟩
  · rw [h]; simp
  · rw [hwait, hrun]; simp

/-- Otherwise the reset ends: it is reported, and the writes that waited land. -/
theorem Device.blkDone_eq {c i : Nat} {e f : Device} (hrun : d.power.blk.contains (c, i) = true)
    (hfree : d.power.blkWait.contains (c, i) = false ∨ d.commitsRun c i = false) (he : e = d.blockLate c i)
    (hf : f = if c = 7 then e.failResetEnds else e) :
    d.blkDone c i =
      (({ f with power := { f.power with blk := f.power.blk.filter (fun b => b != (c, i)) } } : Device).evt RST.flag.BLK_DONE).lateWrites.proceed := by
  rw [hf, he]
  refine if_pos ?_
  rcases hfree with h | h <;> rw [hrun, h] <;> simp

end

/-- Settles O45: each command of the board by its condition. -/
theorem insertionAuxAndResetCommands : Obligations.InsertionAuxAndResetCommands := by
  unfold Obligations.InsertionAuxAndResetCommands
  intro d w
  refine ⟨?_, ?_, ?_, ?_, ?_, ?_, ?_, ?_, ?_, ?_, ?_, ?_, ?_, ?_, ?_, ?_, ?_, ?_, ?_, ?_, ?_, ?_, d.auxLost_auxOk, ?_, ?_, d.auxGood_auxOk, ?_⟩
  · rintro h rfl
    exact leads_of_exec rfl rfl
  · exact fun r hin haux hnew hdue hr => leads_of_exec rfl (Device.inserted_eq hin haux hnew hdue hr)
  · exact fun h => leads_of_exec rfl (Device.inserted_eq_self h)
  · exact fun hout => leads_of_exec rfl (if_pos (by simp [hout]))
  · exact fun hin e he => ⟨fun haux => leads_of_exec rfl ((Device.extracted_eq hin he).trans (if_pos haux)),
      fun haux => leads_of_exec rfl ((Device.extracted_eq hin he).trans (if_neg (ne_true_of_eq_false haux)))⟩
  · exact fun h => leads_of_exec rfl (if_neg (not_and_or.mpr (h.imp ne_true_of_eq_false Nat.not_le.mpr)))
  · exact fun hoff hdue => leads_of_exec rfl (if_pos ⟨hoff, hdue⟩)
  · intro e he
    have hoff : d.hswOff = e := by rw [he]; rfl
    exact ⟨leads_of_exec rfl hoff, fun haux => leads_of_exec rfl ((Device.epDo_auxOk haux 0x42 Device.hswOff).trans (by rw [hoff]))⟩
  · refine fun hfree => ⟨leads_of_exec rfl (Device.hswOn_eq_self hfree), fun haux => leads_of_exec rfl ?_⟩
    dsimp only
    rw [Device.epDo_auxOk haux, Device.hswOn_eq_self hfree, Device.answerEp_eq_send (h := haux)]
  · intro hheld e he
    have hon : d.hswOn = e := (Device.hswOn_eq hheld).trans he.symm
    exact ⟨leads_of_exec rfl hon, fun haux => leads_of_exec rfl ((Device.epDo_auxOk haux 0x43 Device.hswOn).trans (by rw [hon]))⟩
  · exact fun haux => ⟨leads_of_exec rfl (d.answerEp_eq_send _ _ _ haux), leads_of_exec rfl (Device.epDo_auxOk haux _ _)⟩
  · exact fun e code st data => ⟨e.answerEp_eq_send code st data, fun haux => Device.answerEp_auxLost haux code st data⟩
  · refine fun haux => ⟨leads_of_exec rfl (Device.answerEp_auxLost haux _ _ _), leads_of_exec rfl (Device.epDo_auxLost haux _ _),
      leads_of_exec rfl (Device.epDo_auxLost haux _ _), leads_of_exec rfl (Device.epDo_auxLost haux _ _), leads_of_exec rfl ?_,
      leads_of_exec rfl (Device.auxLost_eq_self haux)⟩
    dsimp only
    rw [Device.epDo_auxLost haux, Device.answerEp_auxLost haux, ite_self]
  · exact fun haux hmain => leads_of_exec rfl ((if_neg (ne_true_of_eq_false hmain)).trans (d.answerEp_eq_send _ _ _ haux))
  · exact fun haux hmain => leads_of_exec rfl ((if_pos hmain).trans (Device.epDo_auxOk haux _ _))
  · exact fun hdown => ⟨leads_of_exec rfl (if_neg (ne_true_of_eq_false hdown)), fun c i => leads_of_exec rfl (if_neg (ne_true_of_eq_false hdown))⟩
  · exact fun hup hlock => leads_of_exec rfl ((if_pos hup).trans (d.rwl_locked hlock rfl _))
  · exact fun hup hlock => leads_of_exec rfl ((if_pos hup).trans (d.rwl_unlocked hlock true _))
  · intro c i c4 i6 e key r hup hc4 hi6 he hkey hr
    have hupe : e.hubUp = true := by rw [he]; exact hup
    have hreset : (if d.hubUp then ((d.setReg RST.BLK_RESET.BLOCK c).setReg RST.BLK_RESET.INSTANCE i).blockReset (c % 16) (i % 64) else d) =
        e.blockReset c4 i6 := by rw [if_pos hup, he, hc4, hi6]
    subst hkey
    exact ⟨fun h => leads_of_exec rfl (hreset.trans (Device.blockReset_refused hupe hr h)),
      fun g h hg => leads_of_exec rfl (hreset.trans (Device.blockReset_starts hupe hr h hg))⟩
  · exact fun c i h => leads_of_exec rfl (Device.blkDone_eq_self h)
  · exact fun c i e f hrun hfree he hf => leads_of_exec rfl (Device.blkDone_eq hrun hfree he hf)
  · exact fun _ => leads_of_exec rfl rfl
  · exact fun haux => leads_of_exec rfl (Device.auxGood_eq_self haux)
  · exact fun _ => leads_of_exec rfl rfl
  · exact leads_of_exec rfl rfl

end Sys2Proof.Machine
end
